-- ==== Sys2Proof/Word.lean ====
section
/-! DEFINITION. The word types of the MK4-512 and the plainest arithmetic on them: cast ticks, stamps and
their signed 40-bit difference (R2, R276), and fixed-point helpers. -/

namespace Sys2Proof

/-- A byte of a memory or a message. -/
abbrev Byte := BitVec 8
/-- A 32-bit CSR word (R2). -/
abbrev W32 := BitVec 32
/-- A 64-bit word. -/
abbrev W64 := BitVec 64
/-- A TB_CAST value: 64 bits, 500 ps a tick (R257). -/
abbrev Tick := BitVec 64
/-- A stamp: the low 40 bits of a TB_CAST value (R47, R204). -/
abbrev Stamp := BitVec 40

/-- The low 40 bits of a tick: what an item or an event carries (R47). -/
def Tick.stamp (t : Tick) : Stamp := t.setWidth 40

/-- The signed 40-bit difference `a - b` (R10, R276). -/
def sdiff (a b : Stamp) : Int := (a - b).toInt

/-- The tick that a 40-bit value names, read next to `now` (R276: the tick lying from `now - 2^39` to
`now + 2^39`). -/
def Tick.ofStamp (now : Tick) (v : Stamp) : Tick := now + (v - now.stamp).signExtend 64

/-- Ticks after `now` that the stamp `v` names, signed (R10). -/
def Tick.lead (now : Tick) (v : Stamp) : Int := sdiff v now.stamp

/-- Clamp an integer to `lo .. hi`. -/
def clampInt (lo hi x : Int) : Int := if x < lo then lo else if hi < x then hi else x

/-- Division rounded to nearest, ties away from zero (R128, R145, R184). -/
def roundDiv (a : Int) (d : Nat) : Int :=
  if 0 ≤ a then (2 * a + d) / (2 * d) else - ((2 * (-a) + d) / (2 * d))

/-- Saturating increment of a counter of `w` bits by `n`. -/
def satAdd (w : Nat) (a : Nat) (n : Nat) : Nat := min (a + n) (2 ^ w - 1)

/-- Ceiling division on naturals. -/
def ceilDiv (a b : Nat) : Nat := (a + b - 1) / b

end Sys2Proof
end

