-- ==== Sys2Proof/Syntax.lean ====
section
/-! DEFINITION. The commands of the module as data: operand types and `Instr`, one constructor for each row of
the table of operations and events. -/

namespace Sys2Proof

/-- The three release queues of an engine (R49). -/
inductive Queue where
  | drive | readout | fluxBias
  deriving DecidableEq, Repr

/-- The inputs of Sprue consumers (R208). -/
inductive TaskInput where
  /-- Event latch of engine `e` for channel `ch`. -/
  | latch (e : Fin 128) (ch : BitVec 8)
  /-- Jump input of the player of a tone. -/
  | player (tone : Fin 1024)
  /-- The capture trigger, on channel 240. -/
  | capTrig
  /-- The software flag of a channel. -/
  | flag (ch : BitVec 8)
  /-- Window-start input of an ADC channel. -/
  | adcTrig (ch : Fin 32)
  /-- Strobe input of a group: 0-7 flux, 8-15 bias. -/
  | grpStrobe (g : Fin 16)
  /-- Input of a relay. -/
  | relay (r : Fin 64)
  /-- Input of a TRIG pin that is an output. -/
  | trigOut (k : Fin 8)
  /-- Runner export of a channel. -/
  | sendOut (ch : BitVec 8)
  deriving DecidableEq, Repr

/-- A run descriptor (R28). -/
structure RunDesc where
  engineSet : BitVec 128
  /-- Cluster and image handle. -/
  clusterImages : List (Fin 8 × W32)
  /-- Logical Crucible and image handle, or none. -/
  crucImages : List (Fin 32 × Option W32)
  shotCount : W32
  paced : Bool
  startTick : Tick
  period : W32
  gap : W32
  maxWords : BitVec 6
  deriving DecidableEq, Repr

/-- The fields of a Crucible M-format instruction below its opcode (R182). -/
structure CruFields where
  cnd : BitVec 2
  acc : Bool
  kinc : Bool
  dsel : Bool
  didx : BitVec 8
  cmode : BitVec 2
  conj : Bool
  n : BitVec 9
  deriving DecidableEq, Repr

/-- A microword without its action code, which the row names (R355). -/
structure MicroWord where
  safe : Bool
  log : Bool
  cond : BitVec 8
  pol : Bool
  timeout : BitVec 21
  next : BitVec 12
  alt : BitVec 12
  seqk : BitVec 4
  addr : W32
  imm : W32
  src : BitVec 5
  dst : BitVec 5
  alu : BitVec 6
  count : BitVec 16
  deriving DecidableEq, Repr

/-- What programming a fuse row meets (R374): the programming rail in mV, the number of pulses made before the window failed
(none where it held), and whether the row compares on read-back. -/
structure FuseObs where
  railMv : Nat
  cut : Option Nat
  same : Bool
  deriving DecidableEq, Repr

/-- What a bring-up stage observed at the receiver (R233-R238). -/
structure StageObs where
  /-- Physical lanes with signal, bit `l` for lane `Ll` (SIGNAL). -/
  signal : BitVec 9
  /-- Eight bits in a row of the raw pattern, for each physical lane (POLARITY). -/
  bits : List (BitVec 8)
  /-- The training sequence on each physical lane: 16 symbols, K28.5 as its byte (LANE_ORDER, DESKEW). -/
  train : List (List Byte)
  /-- Deskew delay of each lane, in columns (DESKEW). -/
  skew : List Nat
  deriving DecidableEq, Repr

/-- What a port's receiver has met since the last arrival: the data symbol on L8 in column 1 of a filler sequence, if one came
(R230), and on physical lanes the counts of invalid codes with unexpected K symbols, and of disparity errors (R229). -/
structure LineObs where
  l8 : Option Byte
  errs : List (Fin 9 × Nat × Nat)
  deriving DecidableEq, Repr

/-- A frame as received (R243): header bytes 0 to 6, the body, and the four bytes of the check. -/
structure FrameIn where
  hdr : List Byte
  body : List Byte
  check : List Byte
  line : LineObs
  deriving DecidableEq, Repr

/-- A frame and the port that received it. -/
structure PortFrame where
  port : Fin 8
  frame : FrameIn
  deriving DecidableEq, Repr

/-- A fast-path block as received (R244): its 23 bytes in lane order. -/
structure BlockIn where
  bytes : List Byte
  line : LineObs
  deriving DecidableEq, Repr

/-- A MEAS frame as received, with the round trip in ps that the time-interval unit measured for an echo (R238). -/
structure MeasIn where
  frame : FrameIn
  trip : Nat
  deriving DecidableEq, Repr

/-- A tick with its sub-tick part in units of 1/128 ps, 0 to 63,999 (R261). As an operand, the ticks since the frame's arrival. -/
structure FineTick where
  tick : Tick
  fine : BitVec 16
  deriving DecidableEq, Repr

/-- A Sync or Follow_Up with its ingress timestamp (R270): master time, local time and correction, in ps. -/
structure PtpSync where
  domain : Byte
  t1 : Int
  t2 : Int
  corr : Int
  deriving DecidableEq, Repr

/-- The data set that an Announce message carries, in the order the best-master algorithm compares it (R270). -/
structure Announce where
  domain : Byte
  priority1 : Byte
  clockClass : Byte
  accuracy : Byte
  variance : BitVec 16
  priority2 : Byte
  identity : W64
  steps : BitVec 16
  logInterval : Int
  deriving DecidableEq, Repr

/-- An Ethernet frame seen by the chain forwarder (R274, R304). -/
structure EthFrame where
  dst : BitVec 48
  /-- A PTP event message, with its residence time in ps when it leaves. -/
  ptpEvent : Option Int
  /-- Carried in UDP over IPv6. -/
  v6 : Bool
  /-- The two octets of Annex E are present. -/
  padded : Bool
  bytes : List Byte
  deriving DecidableEq, Repr

/-- What a probe saw that may fire the capture unit (R288). -/
inductive FireObs where
  | level (previous current : Int) (tick : Tick)
  | marker (ctx : Byte) (openTick : Tick)
  | decision (tone : BitVec 4) (state : BitVec 2) (stamp : Tick)
  deriving DecidableEq, Repr

/-- A value of a probe's source stream (R280): its source index, and its value or its two parts. -/
structure SrcVal where
  idx : Nat
  i : Int
  q : Int
  deriving DecidableEq, Repr

/-- A stored element of a probe (R295): its source index, its value or values, and for a decision its state. -/
inductive CapElem where
  | value (idx : Nat) (i q : Int)
  | minmax (idx : Nat) (iMin iMax qMin qMax : Int)
  | decision (stamp : Tick) (tone : BitVec 4) (state : BitVec 2) (damaged trunc : Bool) (i q : Int) (ctx : Byte)
  deriving DecidableEq, Repr

/-- A HELLO handshake message (R338). -/
structure HelloMsg where
  hs : W64
  role : Byte
  profile : Byte
  keyId : BitVec 256
  hostNonce : BitVec 256
  encapsKey : List Byte
  peerIp : BitVec 128
  peerPort : BitVec 16
  peerMac : BitVec 48
  deriving DecidableEq, Repr

/-- Outcome of the header code check (R308). -/
inductive HeaderCheck where
  | clean | corrected | uncorrectable
  deriving DecidableEq, Repr

/-- A sealed packet with its opened transaction header and body (R305-R309). -/
structure SealedPacket where
  sid : W32
  counter : W64
  bytes : List Byte
  tag : BitVec 128
  hdr : HeaderCheck
  msgType : Byte
  continued : Bool
  seq : W32
  ack : W32
  sack : BitVec 16
  content : List Byte
  check : W64
  peerIp : BitVec 128
  peerPort : BitVec 16
  peerMac : BitVec 48
  deriving DecidableEq, Repr

/-- What one housekeeping round reads (R403). -/
structure RoundObs where
  /-- Reading of each of the 64 sensors in 1/128 °C; `none` for an oscillator that has stopped. -/
  sensors : List (Option Int)
  feedA : Nat
  feedB : Nat
  /-- Domains with a rail out of window. -/
  railsOut : BitVec 30
  inputW : Nat
  riserPct : Nat
  /-- The 1.8 V programming rail, in mV (R374). -/
  progMv : Nat
  /-- Physical engines (0-135) and Crucibles (136 on) whose own monitors failed with their domain's rail (R399). -/
  monitors : List Nat
  /-- New 1 h means of the rail at which a block's monitor meets the floor, in mV: block as above, and mean (R411, R416). -/
  reqs : List (Nat × BitVec 10)
  /-- Physical Crucibles in whose memories a single-bit error was corrected, one entry an error (R200, R411). -/
  cruHits : List Nat
  deriving DecidableEq, Repr

/-- What a group's power-up ended in (R149, R150): the group, and whether it succeeded. -/
structure GroupResult where
  group : Fin 16
  ok : Bool
  deriving DecidableEq, Repr

/-- What a stage of the start found (R419). -/
structure StageResult where
  /-- Active Moulder, its self-test having passed (stage 1). -/
  moulder : BitVec 1
  /-- A stage-2 image slot B in use, one bit a kind. -/
  slotB : BitVec 3
  /-- Blocks that failed their own test in this stage. -/
  blockFaults : Nat
  /-- Logical engines and Crucibles that failed their self-test in stage 7. -/
  badEngines : List (Fin 128)
  badCrus : List (Fin 32)
  /-- Banks and groups whose power-up failed in stage 9 (R150, R420). -/
  badBanks : List (Fin 6)
  badGroups : List (Fin 16)
  /-- Saved configuration records that fail their check (stage 8): class and index. -/
  badRecords : List (Nat × Nat)
  deriving DecidableEq, Repr

/-- The operations and events of the module (spec/opcode_table.json): one constructor a row, with the row's
operands. `sid seq` name the session and sequence number of the request (R307). -/
inductive Instr where
  /-- NOP (R51): Efaux no-operation instruction; PC advances. -/
  | eNop (e : Fin 128)
  /-- END (R53): Ends the shot for the engine; it idles until the next shot's start tick. -/
  | eEnd (e : Fin 128)
  /-- J (R52): Efaux jump: PC takes the target address. -/
  | eJ (e : Fin 128) (target : BitVec 15)
  /-- CALL (R52): Pushes PC + 1 on the return stack and jumps to the target. -/
  | eCall (e : Fin 128) (target : BitVec 15)
  /-- RET (R52): Pops the return stack into PC. -/
  | eRet (e : Fin 128)
  /-- BC (R51): Branches if condition bit ci equals s. -/
  | eBc (e : Fin 128) (ci : BitVec 3) (sel : Bool) (target : BitVec 15)
  /-- DBNZ (R51): Decrements v[ra] and branches if the result is not zero. -/
  | eDbnz (e : Fin 128) (ra : BitVec 5) (target : BitVec 15)
  /-- BEQI (R51): Branches on equality or inequality of v[ra] with imm32. -/
  | eBeqi (e : Fin 128) (ra : BitVec 5) (sel : Bool) (imm : W32) (target : BitVec 15)
  /-- ADD (R51): v[rd] := v[ra] + v[rb] modulo 2^32. -/
  | eAdd (e : Fin 128) (rd ra rb : BitVec 5)
  /-- SUB (R51): v[rd] := v[ra] - v[rb] modulo 2^32. -/
  | eSub (e : Fin 128) (rd ra rb : BitVec 5)
  /-- AND (R51): Bitwise AND of two registers. -/
  | eAnd (e : Fin 128) (rd ra rb : BitVec 5)
  /-- OR (R51): Bitwise OR of two registers. -/
  | eOr (e : Fin 128) (rd ra rb : BitVec 5)
  /-- XOR (R51): Bitwise XOR of two registers. -/
  | eXor (e : Fin 128) (rd ra rb : BitVec 5)
  /-- SHL (R51): Shift left by b[4:0]. -/
  | eShl (e : Fin 128) (rd ra rb : BitVec 5)
  /-- SHR (R51): Logical shift right by b[4:0]. -/
  | eShr (e : Fin 128) (rd ra rb : BitVec 5)
  /-- SRA (R51): Arithmetic shift right by b[4:0]. -/
  | eSra (e : Fin 128) (rd ra rb : BitVec 5)
  /-- MUL (R51): Low 32 bits of the product of two registers. -/
  | eMul (e : Fin 128) (rd ra rb : BitVec 5)
  /-- MIN (R51): Signed minimum of two registers. -/
  | eMin (e : Fin 128) (rd ra rb : BitVec 5)
  /-- MAX (R51): Signed maximum of two registers. -/
  | eMax (e : Fin 128) (rd ra rb : BitVec 5)
  /-- ADDI (R51): v[rd] := v[ra] + imm32 modulo 2^32. -/
  | eAddi (e : Fin 128) (rd ra : BitVec 5) (imm : W32)
  /-- SUBI (R51): v[rd] := v[ra] - imm32 modulo 2^32. -/
  | eSubi (e : Fin 128) (rd ra : BitVec 5) (imm : W32)
  /-- ANDI (R51): Bitwise AND with an immediate. -/
  | eAndi (e : Fin 128) (rd ra : BitVec 5) (imm : W32)
  /-- ORI (R51): Bitwise OR with an immediate. -/
  | eOri (e : Fin 128) (rd ra : BitVec 5) (imm : W32)
  /-- XORI (R51): Bitwise XOR with an immediate. -/
  | eXori (e : Fin 128) (rd ra : BitVec 5) (imm : W32)
  /-- SHLI (R51): Shift left by an immediate 0-31. -/
  | eShli (e : Fin 128) (rd ra : BitVec 5) (imm : W32)
  /-- SHRI (R51): Logical shift right by an immediate. -/
  | eShri (e : Fin 128) (rd ra : BitVec 5) (imm : W32)
  /-- SRAI (R51): Arithmetic shift right by an immediate. -/
  | eSrai (e : Fin 128) (rd ra : BitVec 5) (imm : W32)
  /-- MULI (R51): Low 32 bits of the product with an immediate. -/
  | eMuli (e : Fin 128) (rd ra : BitVec 5) (imm : W32)
  /-- MINI (R51): Signed minimum with an immediate. -/
  | eMini (e : Fin 128) (rd ra : BitVec 5) (imm : W32)
  /-- MAXI (R51): Signed maximum with an immediate. -/
  | eMaxi (e : Fin 128) (rd ra : BitVec 5) (imm : W32)
  /-- CMPEQ (R51): Sets c[ci] if two registers are equal. -/
  | eCmpeq (e : Fin 128) (ci : BitVec 3) (ra rb : BitVec 5)
  /-- CMPLT (R51): Sets c[ci] on signed less-than of two registers. -/
  | eCmplt (e : Fin 128) (ci : BitVec 3) (ra rb : BitVec 5)
  /-- CMPLTU (R51): Sets c[ci] on unsigned less-than of two registers. -/
  | eCmpltu (e : Fin 128) (ci : BitVec 3) (ra rb : BitVec 5)
  /-- CMPEQI (R51): Sets c[ci] if a register equals an immediate. -/
  | eCmpeqi (e : Fin 128) (ci : BitVec 3) (ra : BitVec 5) (imm : W32)
  /-- CMPLTI (R51): Sets c[ci] on signed less-than against an immediate. -/
  | eCmplti (e : Fin 128) (ci : BitVec 3) (ra : BitVec 5) (imm : W32)
  /-- CMPLTUI (R51): Sets c[ci] on unsigned less-than against an immediate. -/
  | eCmpltui (e : Fin 128) (ci : BitVec 3) (ra : BitVec 5) (imm : W32)
  /-- GETS (R62): Loads shot_index, engine number, module_id or run_id into a register. -/
  | eGets (e : Fin 128) (rd : BitVec 5) (imm : W32)
  /-- DELAY (R54): Advances the time cursor by imm40. -/
  | eDelay (e : Fin 128) (imm : BitVec 40)
  /-- DELAYR (R54): Advances the time cursor by v[ra]. -/
  | eDelayr (e : Fin 128) (ra : BitVec 5)
  /-- TSAVE (R54): Saves the time cursor into a tick register. -/
  | eTsave (e : Fin 128) (td : BitVec 3)
  /-- TLOAD (R54): Sets the time cursor to t[ts] + imm40. -/
  | eTload (e : Fin 128) (ts : BitVec 3) (imm : BitVec 40)
  /-- TADD (R54): t[td] := t[ts] + sign-extended imm40. -/
  | eTadd (e : Fin 128) (td ts : BitVec 3) (imm : BitVec 40)
  /-- TNOW (R54): Samples the current TB_CAST value into a tick register. -/
  | eTnow (e : Fin 128) (td : BitVec 3)
  /-- TCMP (R54): Sets a condition bit if the cursor is at or after t[ts]. -/
  | eTcmp (e : Fin 128) (ci ts : BitVec 3)
  /-- SETF (R55): Enqueues a frame item setting the frequency word from an immediate. -/
  | eSetf (e : Fin 128) (f : BitVec 3) (imm : BitVec 48)
  /-- SETFR (R55): Enqueues a frame item setting the frequency word from a register pair. -/
  | eSetfr (e : Fin 128) (f : BitVec 3) (ra : BitVec 5)
  /-- SETP (R55): Enqueues a frame item setting the phase offset. -/
  | eSetp (e : Fin 128) (f : BitVec 3) (imm : W32)
  /-- SHIFTP (R55): Enqueues a frame item adding an immediate to the phase offset. -/
  | eShiftp (e : Fin 128) (f : BitVec 3) (imm : W32)
  /-- SHIFTPR (R55): Enqueues a frame item adding v[ra] to the phase offset. -/
  | eShiftpr (e : Fin 128) (f : BitVec 3) (ra : BitVec 5)
  /-- RSTF (R55): Enqueues a frame item clearing the phase offset. -/
  | eRstf (e : Fin 128) (f : BitVec 3)
  /-- PLAY (R56): Enqueues a play item for an immediate segment and scale. -/
  | ePlay (e : Fin 128) (f : BitVec 3) (sub : BitVec 4) (seg : BitVec 20) (dt : BitVec 12) (amp : BitVec 16)
  /-- PLAYR (R56): Enqueues a play item for a register segment and scale. -/
  | ePlayr (e : Fin 128) (f : BitVec 3) (sub : BitVec 4) (ra rb : BitVec 5) (dt : BitVec 12)
  /-- FLUX (R58): Enqueues a flux holding-register write from an immediate code. -/
  | eFlux (e : Fin 128) (edge : BitVec 6) (ue : Bool) (dt : BitVec 12) (code : BitVec 16)
  /-- FLUXR (R58): Enqueues a flux holding-register write from a register. -/
  | eFluxr (e : Fin 128) (edge : BitVec 6) (ue : Bool) (ra : BitVec 5) (dt : BitVec 12)
  /-- BIAS (R58): Enqueues a bias holding-register write from an immediate code. -/
  | eBias (e : Fin 128) (sel : Bool) (dt : BitVec 12) (code : BitVec 20)
  /-- BIASR (R58): Enqueues a bias holding-register write from a register. -/
  | eBiasr (e : Fin 128) (sel : Bool) (ra : BitVec 5) (dt : BitVec 12)
  /-- STRB (R58): Enqueues a load-strobe request for the flux or bias group. -/
  | eStrb (e : Fin 128) (sel : Bool) (dt : BitVec 12)
  /-- ACQ (R59): Sends a window-start event to the home ADC channel. -/
  | eAcq (e : Fin 128) (mask : BitVec 4) (ctx : BitVec 8) (dt : BitVec 12)
  /-- PUB (R60): Publishes an immediate payload on a Sprue channel. -/
  | ePub (e : Fin 128) (ch : BitVec 8) (dt : BitVec 12) (payload : BitVec 16)
  /-- PUBR (R60): Publishes v[ra][15:0] on a Sprue channel. -/
  | ePubr (e : Fin 128) (ch : BitVec 8) (ra : BitVec 5) (dt : BitVec 12)
  /-- WAITE (R61): Takes an event from a channel latch or waits for one until its deadline. -/
  | eWaite (e : Fin 128) (ci : BitVec 3) (rd : BitVec 5) (ch : BitVec 8) (dt : BitVec 24)
  /-- REC (R62): Appends a 64-bit record word to the engine's result entry. -/
  | eRec (e : Fin 128) (ra rb : BitVec 5)
  /-- ENQUEUE_AFTER_FULL (R14): An enqueue waiting on a full release queue completes when an entry frees and the wall latches it. -/
  | enqueueAfterFull (e : Fin 128)
  /-- ITEM_RELEASE (R10): At its release tick an on-time item leaves its queue and takes effect on its target. -/
  | itemRelease (e : Fin 128) (q : Queue)
  /-- WATCHDOG (R68): The engine's watchdog limit expires; the engine stops and its plays and queued items are discarded. -/
  | watchdog (e : Fin 128)
  /-- HANDSHAKE_FAULT (R64): An engine stage fails to complete a handshake within 5 µs; swap_pending is set. -/
  | handshakeFault (e : Fin 128)
  /-- PROGRAM_MEMORY_REWRITE (R67): The failing instruction is rewritten from the retained image before the next shot. -/
  | programMemoryRewrite (e : Fin 128) (addr : BitVec 15)
  /-- PROGRAM_ROW_REMAP (R413): A program memory row is remapped to a spare row between two fetches. -/
  | programRowRemap (k : Fin 8) (space : Fin 16) (row : Fin 512)
  /-- RUN_SUBMIT (R28): Host submits a run descriptor; the module checks it and its images and assigns a run_id. -/
  | runSubmit (sid seq : W32) (d : RunDesc)
  /-- RUN_QUEUE_HEAD (R31): A run reaches the head of the queue for all its clusters with their banks and groups ON and begins loading. -/
  | runQueueHead (run : W32)
  /-- RUN_LOAD_COMPLETE (R31): Program and subscription loading completes; a PACED run starts shot 0. -/
  | runLoadComplete (run : W32)
  /-- RESOURCE_FAULT (R150): A group or bank of a claimed cluster is still not ON 10 ms after the run's turn; the run ends. -/
  | resourceFault (run : W32)
  /-- SHOT_START (R32): A shot starts at its start tick and engine state is set for the shot. -/
  | shotStart (run : W32)
  /-- SHOT_END (R32): The shot reaches its end tick; running engines stop and plays end. -/
  | shotEnd (run : W32)
  /-- SHOT_RECORD_CLOSE (R463): A shot result record closes once every condition and decision of the shot is judged. -/
  | shotRecordClose (run : W32)
  /-- RESBUF_HIGH_WATER_CLEAR (R40): Host clears high_water; it is set again with a notification if use is still above 192 MiB. -/
  | resbufHighWaterClear (sid seq : W32)
  /-- RUN_CANCEL (R34): Cancels a run at the next shot boundary, or at once if queued. -/
  | runCancel (sid seq : W32) (run : W32)
  /-- RUN_PURGE (R39): Discards the unacknowledged records of an ended run. -/
  | runPurge (sid seq : W32) (run : W32)
  /-- RESULT_CLAIM (R324): An operator session takes over delivery of a run's records. -/
  | resultClaim (sid seq : W32) (run : W32)
  /-- ENGINE_SWAP_BEGIN (R87): A pending engine swap begins in a gap of at least 40,000 ticks. -/
  | engineSwapBegin (e : Fin 128)
  /-- ENGINE_SWAP_COMPLETE (R90): The spare takes over the logical engine, held events are delivered and the old engine retires. -/
  | engineSwapComplete (e : Fin 128)
  /-- PAT_BEGIN (R98): Begins a segment upload with a new descriptor and version. -/
  | patBegin (sid seq : W32) (seg : BitVec 32) (desc : BitVec 256)
  /-- PAT_DATA (R98): Writes upload data at the next offset of a segment. -/
  | patData (sid seq : W32) (seg : BitVec 32) (off : W32) (data : List Byte)
  /-- PAT_END (R98): Ends an upload; the check decides READY or FREE. -/
  | patEnd (sid seq : W32) (seg : BitVec 32) (check : W64)
  /-- PAT_RELEASE (R99): Moves a READY segment to FREE. -/
  | patRelease (sid seq : W32) (seg : BitVec 32)
  /-- PAT_PIN (R99): Pins or unpins a READY segment in the hot caches. -/
  | patPin (sid seq : W32) (seg : BitVec 32) (pin : W32)
  /-- PAT_STATUS (R96): Returns state, version and upload progress of segments. -/
  | patStatus (sid seq : W32) (seg : BitVec 32) (count : W32)
  /-- UPLOAD_IDLE_TIMEOUT (R98): 100 ms without a data message; the segment returns to FREE at its old version. -/
  | uploadIdleTimeout (seg : BitVec 20)
  /-- PLAY_BIND (R102): A play binds its first segment 24 ticks before its release tick. -/
  | playBind (tone : Fin 1024)
  /-- COMMIT_POINT (R102): At a segment's commit point the player chooses and binds the next segment. -/
  | commitPoint (tone : Fin 1024)
  /-- SEGMENT_PASS_END (R101): A pass over a segment ends; a notification is sent if notify is set. -/
  | segmentPassEnd (tone : Fin 1024)
  /-- JUMP_REQUEST_DUE (R107): At tick E a jump request becomes the pending jump, due or deferred. -/
  | jumpRequestDue (tone : Fin 1024)
  /-- REFILL_COMPLETE (R111): A requested block becomes resident in the hot cache. -/
  | refillComplete (k : Fin 8) (block : Nat)
  /-- NCO_CHECK (R124): Every 16 ticks the accumulator is compared with A(n); a mismatch mutes and re-seeds the tone. -/
  | ncoCheck (tone : Fin 1024)
  /-- SAMPLE_QUEUE_FAULT (R130): A channel's sample queue under-runs or over-runs; the channel mutes and ALERT_N is raised. -/
  | sampleQueueFault (ch : Fin 96)
  /-- RF_QUEUE_FAULT_CLEAR (R130): Host clears STAT.queue_fault, removing the chan_fault mute cause. -/
  | rfQueueFaultClear (sid seq : W32) (ch : Fin 96)
  /-- SETTLE_END (R133): 4000 ticks after mute release the channel leaves SETTLING for WAIT_QUIET. -/
  | settleEnd (ch : Fin 96)
  /-- WAIT_QUIET_END (R133): A channel goes LIVE at the first tick with no play running or at the next shot start. -/
  | waitQuietEnd (ch : Fin 96)
  /-- RF_CTRL_WRITE (R136): A CTRL write sets enable, force_mute or fs_step, muting for attenuator switching. -/
  | rfCtrlWrite (sid seq : W32) (ch : Fin 96) (value : W32)
  /-- FS_STEP_SWITCH_DONE (R136): Attenuator switching ends and the force mute is released. -/
  | fsStepSwitchDone (ch : Fin 96)
  /-- BANK_SHUTDOWN_COMPLETE (R134): An RF or ADC bank reaches OFF; a waiting power-up then starts. -/
  | bankShutdownComplete (b : Fin 6)
  /-- STROBE (R141): At the strobe tick a group's holding registers transfer to their in-force codes. -/
  | strobe (g : Fin 16)
  /-- GRP_SW (R141): Software requests a group strobe 24 ticks after the latch. -/
  | grpSw (sid seq : W32) (g : Fin 16) (value : W32)
  /-- EDGE_END (R145): A shaped flux edge completes its length and the output holds the new code. -/
  | edgeEnd (n : Fin 128)
  /-- OUTCLR_N_FALL (R146): OUTCLR_N goes low; every flux and bias output clears and RF channels mute. -/
  | outclrFall
  /-- OUTCLR_N_RISE (R147): OUTCLR_N goes high; the clear release is latched at the next tick edge. -/
  | outclrRise
  /-- RANGE_WRITE (R152): A write changing a flux or bias channel range opens a 6000-tick window. -/
  | rangeWrite (sid seq : W32) (n : Fin 384) (value : W32)
  /-- RANGE_WINDOW_END (R152): The range-change window ends and strobes reach the channel again. -/
  | rangeWindowEnd (n : Fin 384)
  /-- GRP_CTRL_WRITE (R150): Enables or disables power of a flux or bias group. -/
  | grpCtrlWrite (sid seq : W32) (g : Fin 16) (value : W32)
  /-- GROUP_POWER_UP_COMPLETE (R149): A group reaches ON with outputs at their clear codes. -/
  | groupPowerUpComplete (o : GroupResult)
  /-- GROUP_SHUTDOWN_COMPLETE (R149): A group reaches OFF; a waiting enable starts a full power-up. -/
  | groupShutdownComplete (g : Fin 16)
  /-- WINDOW_START_ARRIVAL (R164): A window-start event reaches the ADC channel and is judged on time, late or overlapping. -/
  | windowStartArrival (ch : Fin 32)
  /-- WINDOW_OPEN (R163): At tick O the window opens and its first baseband block carries an open marker. -/
  | windowOpen (ch : Fin 32) (t : Fin 16)
  /-- WINDOW_CLOSE (R163): The window's last block is written with its close marker. -/
  | windowClose (ch : Fin 32) (t : Fin 16)
  /-- REFBUF_ENABLE (R159): A write of refbuf_en = 1 starts the reference buffer or cancels a pending disable. -/
  | refbufEnable (sid seq : W32) (ch : Fin 32) (value : W32)
  /-- REFBUF_DISABLE (R159): A write of refbuf_en = 0 requests a disable at the next quiet tick. -/
  | refbufDisable (sid seq : W32) (ch : Fin 32) (value : W32)
  /-- REFBUF_READY (R159): 80,000 ticks after R_on the buffer becomes READY. -/
  | refbufReady (ch : Fin 32)
  /-- REFBUF_SHUTDOWN_COMPLETE (R159): The buffer reaches OFF; a waiting enable starts it. -/
  | refbufShutdownComplete (ch : Fin 32)
  /-- ADC_RANGE_WRITE (R168): A range write becomes pending, replaces a request or withdraws it. -/
  | adcRangeWrite (sid seq : W32) (ch : Fin 32) (value : W32)
  /-- ADC_TRIG_ENABLE (R218): A write of trig_en subscribes the channel to its window-start channel, subject to the loop check. -/
  | adcTrigEnable (sid seq : W32) (ch : Fin 32) (value : W32)
  /-- QUIET_TICK (R168): At the first quiet tick a pending range change or buffer disable is applied. -/
  | quietTick (ch : Fin 32)
  /-- RANGE_SETTLED (R168): The attenuator settles and range_pending clears. -/
  | rangeSettled (ch : Fin 32)
  /-- BEAT_WRITE (R177): The input stage writes a beat for a block with window samples into the ring. -/
  | beatWrite (ch : Fin 32) (samples : List (BitVec 12))
  /-- CRU_NOP (R183): Crucible no-operation. -/
  | cNop (c : Fin 34)
  /-- MAC (R184): Multiply-accumulates kernel or coefficient by an operand in all lanes. -/
  | cMac (c : Fin 34) (m : CruFields)
  /-- MACB (R179): Takes a beat, then multiply-accumulates as MAC. -/
  | cMacb (c : Fin 34) (m : CruFields)
  /-- TAPM (R185): Accumulates a delay-line tap and moves the line one place. -/
  | cTapm (c : Fin 34) (m : CruFields)
  /-- MSQ (R183): Accumulates the squared magnitude of an operand. -/
  | cMsq (c : Fin 34) (m : CruFields)
  /-- LDX (R183): Loads the X register from an operand. -/
  | cLdx (c : Fin 34) (m : CruFields)
  /-- STX (R183): Stores X into the work area. -/
  | cStx (c : Fin 34) (m : CruFields)
  /-- MULX (R183): X := rounded, saturated product of D and C. -/
  | cMulx (c : Fin 34) (m : CruFields)
  /-- CLRA (R183): Clears an accumulator. -/
  | cClra (c : Fin 34) (m : CruFields)
  /-- ACX (R183): Moves a scaled accumulator into X and clears the accumulator. -/
  | cAcx (c : Fin 34) (m : CruFields)
  /-- WAITB (R179): Takes a beat, optionally storing the newest sample in the work area. -/
  | cWaitb (c : Fin 34) (m : CruFields)
  /-- SETS (R183): Sets a sequencer register to an immediate. -/
  | cSets (c : Fin 34) (sd : BitVec 3) (imm : BitVec 16)
  /-- ADDS (R183): Adds an immediate to a sequencer register. -/
  | cAdds (c : Fin 34) (sd sa : BitVec 3) (imm : BitVec 16)
  /-- CRU_J (R183): Crucible jump. -/
  | cJ (c : Fin 34) (target : BitVec 10)
  /-- CRU_DBNZ (R183): Decrements a sequencer register and branches if not zero. -/
  | cDbnz (c : Fin 34) (sa : BitVec 3) (target : BitVec 10)
  /-- REP (R186): Repeats the next MAC, TAPM or MSQ count + 1 times without interruption. -/
  | cRep (c : Fin 34) (count : BitVec 8)
  /-- DECISION_PUBLISH (R194): The decision unit classifies a window's integral and publishes the state on stamp L. -/
  | decisionPublish (ch : Fin 32) (t : Fin 16)
  /-- CLASSIFIER_COMMIT_GO (R196): A write of CRU_CLS_THI.go copies the shadow classifier set to pending with its commit tick. -/
  | classifierCommitGo (sid seq : W32) (c : Fin 34) (value : W32)
  /-- CRU_DRAG_ACCESS (R202): A CRU_DRAG_DATA access reads or writes a Drag word and advances the address. -/
  | cruDragAccess (sid seq : W32) (c : Fin 34) (value : Option W32)
  /-- CRUCIBLE_FAULT (R200): A Crucible stops on a handshake or memory fault; open windows publish damaged decisions. -/
  | crucibleFault (c : Fin 34) (code : BitVec 4)
  /-- SEQUENCER_FORCED_STOP (R187): No beat-taking instruction within 10 µs of a stop request; the sequencer stops where it is. -/
  | sequencerForcedStop (c : Fin 34)
  /-- CRUCIBLE_SWAP_BEGIN (R201): A pending Crucible swap begins when its conditions hold. -/
  | crucibleSwapBegin (n : Fin 32)
  /-- CRUCIBLE_SWAP_COMPLETE (R201): The crossbar switches the channel to the spare and the map is updated. -/
  | crucibleSwapComplete (n : Fin 32)
  /-- SPRUE_ROUND (R210): A task input's round of events closes and is presented to its consumer in stamp order. -/
  | sprueRound (i : TaskInput) (n : Fin 8)
  /-- WAITE_TIMEOUT (R61): A WAITE deadline passes; v[rd] gets the timeout value and c[ci] 0. -/
  | waiteTimeout (e : Fin 128)
  /-- FLAG_NOTIFY_DEFERRED (R212): A notification held by the 1 ms spacing is sent at the end of the interval. -/
  | flagNotifyDeferred (ch : BitVec 8)
  /-- SOFTWARE_PUBLISH (R213): A write of SPR_SWPUB publishes one event stamped latch + 24. -/
  | softwarePublish (sid seq : W32) (value : W32)
  /-- TIMER_ENABLE (R215): Enabling a timer starts its event series. -/
  | timerEnable (sid seq : W32) (i : Fin 16) (value : W32)
  /-- TIMER_DISABLE (R215): Disabling a timer stops its series. -/
  | timerDisable (sid seq : W32) (i : Fin 16) (value : W32)
  /-- TIMER_PUBLISH (R215): A timer publishes its next event 64 ticks before its stamp. -/
  | timerPublish (i : Fin 16)
  /-- TRIG_INPUT_EDGE (R216): An edge on a TRIG input publishes an event on the pin's channel. -/
  | trigInputEdge (k : Fin 8) (rising : Bool)
  /-- TRIG_OUTPUT_PULSE (R216): A TRIG output drives an 8-tick pulse at stamp + delay. -/
  | trigOutputPulse (k : Fin 8)
  /-- PORT_ENABLE (R240): RUN_PORT_CTRL.enable = 1 starts port bring-up. -/
  | portEnable (sid seq : W32) (p : Fin 8) (value : W32)
  /-- PORT_DISABLE (R240): RUN_PORT_CTRL.enable = 0 puts the port in OFF, treated as FAILED. -/
  | portDisable (sid seq : W32) (p : Fin 8) (value : W32)
  /-- PORT_RETRAIN (R240): A retrain command puts an ENABLED port through RESYNC. -/
  | portRetrain (sid seq : W32) (p : Fin 8) (value : W32)
  /-- LANE_SLIP (R236): A manual bit-slip command shifts a lane's deserialiser boundary. -/
  | laneSlip (sid seq : W32) (p : Fin 8) (l : Fin 9) (aligned : Bool)
  /-- AUTO_SLIP_STEP (R236): After each 512-symbol wait the automatic search checks alignment or slips. -/
  | autoSlipStep (p : Fin 8) (l : Fin 9) (comma : Bool)
  /-- BRINGUP_STAGE_PASS (R233): A bring-up stage passes on enough lanes and the next stage begins. -/
  | bringupStagePass (p : Fin 8) (obs : StageObs)
  /-- BRINGUP_STAGE_TIMEOUT (R233): A bring-up stage times out and the port goes to FAILED. -/
  | bringupStageTimeout (p : Fin 8)
  /-- BRINGUP_RESTART (R240): A FAILED port restarts bring-up after 1 ms, 10 ms or 1 s. -/
  | bringupRestart (p : Fin 8)
  /-- ENABLE_FRAME_RECEIVE (R240): The far end's ENABLE frame arrives; the port may enter ENABLED. -/
  | enableFrameReceive (r : PortFrame)
  /-- BLOCK_TRANSMIT (R248): A waiting fast-path block or LOSS frame is sent once fewer than 8192 items are unacknowledged. -/
  | blockTransmit (p : Fin 8)
  /-- FAST_PATH_BLOCK_RECEIVE (R244): A fast-path block arrives, is checked and is forwarded or delivered. -/
  | fastPathBlockReceive (p : Fin 8) (b : BlockIn)
  /-- RUNNER_ACK_SEND (R249): A port sends an ACK frame on its 0.5 µs interval or on 256 unacknowledged items. -/
  | runnerAckSend (p : Fin 8)
  /-- RUNNER_ACK_RECEIVE (R245): An ACK frame acknowledges items, advances the confirmed tick and may request a lane swap. -/
  | runnerAckReceive (p : Fin 8) (f : FrameIn)
  /-- ACK_OVERDUE (R250): An item is unacknowledged 2 µs after sending; the port stalls, swaps or resyncs and resends. -/
  | ackOverdue (p : Fin 8)
  /-- GAP_TIMEOUT (R252): A sequence gap stays unfilled 10 µs; a loss is declared. -/
  | gapTimeout (p : Fin 8)
  /-- LOSS_FRAME_RECEIVE (R252): A LOSS frame arrives and a loss is declared on the port. -/
  | lossFrameReceive (p : Fin 8) (hdr body check : List Byte)
  /-- ELASTIC_BUFFER_FAULT (R231): An elastic buffer reaches 0 or 32 columns; code errors counted and the port enters RESYNC. -/
  | elasticBufferFault (p : Fin 8)
  /-- MEAS_FRAME_RECEIVE (R238): A MEAS request is echoed or an echo yields a delay sample. -/
  | measFrameReceive (p : Fin 8) (f : MeasIn)
  /-- MEAS_UPDATE (R238): Once a second RUN_PORT_MEAS is updated and compared with the accepted delay. -/
  | measUpdate (p : Fin 8)
  /-- TIME_REQUEST_SEND (R261): A follower sends a TIME request on its upstream port, 1024 times a second. -/
  | timeRequestSend
  /-- TIME_REQUEST_RECEIVE (R261): A TIME request is answered with a reply. -/
  | timeRequestReceive (p : Fin 8) (f : FrameIn) (t2 : BitVec 16) (t3 : FineTick)
  /-- TIME_REPLY_RECEIVE (R262): A TIME reply yields an offset sample for the cast servo and lock state. -/
  | timeReplyReceive (p : Fin 8) (f : FrameIn) (t4 : BitVec 16)
  /-- CAST_STEP (R265): TB_CAST is stepped at a tick with no run running, tones re-seeded and channel 245 published. -/
  | castStep
  /-- CAST_HOLDOVER_ENTRY (R266): No reply for 10 ms or upstream lost; the follower enters HOLDOVER or switches to its backup. -/
  | castHoldoverEntry
  /-- REFIN_LOST (R266): REFIN is lost; PLLs hold frequency and cast time counts as unlocked. -/
  | refinLost
  /-- PLL_UNLOCK (R266): A sample-clock PLL unlocks; cast time counts as unlocked. -/
  | pllUnlock
  /-- REALIGN (R265): The installer's realign command permits one further cast step. -/
  | realign (sid seq : W32)
  /-- ADOPTION_WINDOW_END (R267): A root's 50 ms adoption window ends without a step and it enters LOCKED. -/
  | adoptionWindowEnd
  /-- PTP_SYNC (R271): A Sync or Follow_Up message gives an offset that steps or servos TB_SYS. -/
  | ptpSync (p : Fin 2) (m : PtpSync) (frame : List Byte)
  /-- PTP_DELAY_RESP (R270): A Delay_Resp completes a delay request-response exchange. -/
  | ptpDelayResp (p : Fin 2) (id : BitVec 16) (t4 corr : Int) (frame : List Byte)
  /-- PTP_ANNOUNCE (R270): An Announce message feeds the best master clock algorithm. -/
  | ptpAnnounce (p : Fin 2) (m : Announce) (frame : List Byte)
  /-- ANNOUNCE_RECEIPT_TIMEOUT (R272): The master is lost; TB_SYS enters HOLDOVER. -/
  | announceReceiptTimeout
  /-- DELAY_REQ_SEND (R270): The module sends a Delay_Req at the master's interval and queues its timestamp. -/
  | delayReqSend (p : Fin 2)
  /-- STEP_ARM (R258): The installer arms one further TB_SYS step. -/
  | stepArm (sid seq : W32)
  /-- SYS_OFFSET_IN (R271): In host mode a written offset feeds the TB_SYS servo or makes the first step. -/
  | sysOffsetIn (sid seq : W32) (value : W32)
  /-- TXQ_ID_READ (R273): Reading TIM_TXQ_ID_p removes the head timestamp entry and latches its time. -/
  | txqIdRead (sid seq : W32) (p : Fin 2)
  /-- TAI_SECOND_BOUNDARY (R275): At a TAI second TIM_CORR is latched and channel 246 published. -/
  | taiSecondBoundary
  /-- CHAIN_FORWARD (R304): A frame not addressed to the module is forwarded to the other NET port. -/
  | chainForward (p : Fin 2) (f : EthFrame)
  /-- CAP_ARM (R291): Arms the capture unit and, on a master, sends arm blocks to the group. -/
  | capArm (sid seq : W32)
  /-- CAP_SOFTWARE_FIRE (R288): Fires the armed capture unit at latch + 24. -/
  | capSoftwareFire (sid seq : W32)
  /-- CAP_ABORT (R292): Closes the record with aborted set. -/
  | capAbort (sid seq : W32)
  /-- CAP_RELEASE_WRITE (R281): CAP_CTRL.release returns the unit to IDLE, aborting if armed. -/
  | capReleaseWrite (sid seq : W32)
  /-- CAPTURE_FIRE (R288): A probe's level, marker or decision fire condition is met and a fire is published on channel 240. -/
  | captureFire (k : Fin 4) (obs : FireObs)
  /-- TRIGGER_POINT_FIX (R290): At its trigger point the kept proposal is fixed and the unit becomes TRIGGERED. -/
  | triggerPointFix
  /-- CAPTURE_CLOSE (R292): The record closes, measurements are computed and a notification sent. -/
  | captureClose (stored : List (List SrcVal))
  /-- CAPTURE_FIFO_RECHECK (R285): Every 1 µs a fill above 75 % steps one probe's reduction or stops an MK3 record. -/
  | captureFifoRecheck (percent : Nat) (elem src : Nat)
  /-- CAPTURE_GAP (R286): A value finds the capture FIFO full and is lost with a gap mark. -/
  | captureGap (k : Fin 4) (lost elem first resume : Nat) (tone : BitVec 4)
  /-- CAP_READ (R320): Returns bytes of the capture partition. -/
  | capRead (sid seq : W32) (off : W64) (len : W32)
  /-- CAP_RELEASE (R281): Casting message that releases a capture record. -/
  | capRelease (sid seq : W32) (rec : W32)
  /-- TIU_START (R299): Begins a sequence of N time-interval measurements. -/
  | tiuStart (sid seq : W32) (u : Fin 4)
  /-- TIU_ABORT (R299): Stops a measurement sequence, keeping its statistics. -/
  | tiuAbort (sid seq : W32) (u : Fin 4)
  /-- TIU_EDGE (R297): A prescaled input edge is stamped and advances running measurements. -/
  | tiuEdge (k : Fin 8) (tick : Tick) (charge : Nat)
  /-- TIU_MEASUREMENT_TIMEOUT (R299): A measurement exceeds its timeout and the next begins. -/
  | tiuMeasurementTimeout (u : Fin 4)
  /-- QSFP_INSERT (R302): A QSFP28 plug is inserted and its medium identified. -/
  | qsfpInsert (p : Fin 2) (media : BitVec 3) (powerClass : Nat)
  /-- ARP_REQUEST (R303): An ARP request for the module's IPv4 address is answered. -/
  | arpRequest (p : Fin 2) (ip : W32) (src : BitVec 48)
  /-- NEIGHBOUR_SOLICITATION (R303): ICMPv6 neighbour discovery for the module's addresses is answered. -/
  | neighbourSolicitation (p : Fin 2) (ip : BitVec 128) (src : BitVec 48)
  /-- ECHO_REQUEST (R303): An ICMP or ICMPv6 echo is answered within the rate limit. -/
  | echoRequest (p : Fin 2) (v6 : Bool) (src : BitVec 48) (data : List Byte)
  /-- FRAME_DISCARD (R303): A frame the module does not act on is discarded and counted. -/
  | frameDiscard (p : Fin 2)
  /-- HELLO (R338): Host HELLO starts a handshake; the module encapsulates and queues the identity signature. -/
  | hello (p : Fin 2) (h : HelloMsg)
  /-- CHALLENGE_SIGNED (R341): The Flask completes the identity signature and CHALLENGE is sent. -/
  | challengeSigned (sig : List Byte)
  /-- AUTH (R338): Host AUTH carries the credential signature for verification. -/
  | auth (hs : W64) (sig : List Byte)
  /-- AUTH_VERIFIED (R341): Verification completes; the session opens with FINISHED or is refused. -/
  | authVerified (hs : W64)
  /-- HANDSHAKE_TIMEOUT (R340): AUTH not complete 10 s after HELLO; REFUSE is sent. -/
  | handshakeTimeout (hs : W64)
  /-- SEALED_PACKET_RECEIVE (R306): A sealed packet is authenticated and its transactions checked and delivered in order. -/
  | sealedPacketReceive (p : Fin 2) (k : SealedPacket)
  /-- ACK (R311): Casting bare acknowledgement transaction. -/
  | ack (sid seq : W32)
  /-- NAK (R316): Names a transaction whose body check failed, prompting a resend. -/
  | nak (sid : W32) (lost : W32)
  /-- KEEPALIVE (R320): Keeps a session alive. -/
  | keepalive (sid seq : W32)
  /-- CLOSE (R320): Closes the session after the reply. -/
  | close (sid seq : W32)
  /-- REG_READ (R321): Reads 1 to 256 registers in order. -/
  | regRead (sid seq : W32) (addrs : List W32)
  /-- REG_WRITE (R321): Checks and applies 1 to 256 register writes to registers that have no row of their own. -/
  | regWrite (sid seq : W32) (entries : List (W32 × W32))
  /-- IMG_BEGIN (R320): Begins an image upload and returns a handle. -/
  | imgBegin (sid seq : W32) (crucible : Bool) (len : W32)
  /-- IMG_DATA (R318): Writes image data at the next offset. -/
  | imgData (sid seq : W32) (handle off : W32) (data : List Byte)
  /-- IMG_END (R317): Ends an image upload and checks its data. -/
  | imgEnd (sid seq : W32) (handle : W32) (check : W64)
  /-- LOG_READ (R320): Returns log entries. -/
  | logRead (sid seq : W32) (first count : W32)
  /-- NV_WRITE (R336): Writes a 256-byte NV record of a class the role may write. -/
  | nvWrite (sid seq : W32) (cls idx : BitVec 16) (rec : List Byte)
  /-- IMAGE_INSTALL (R344): Approval action 1 checks the staged image and installs it hitlessly. -/
  | imageInstall (sid seq : W32) (kind : BitVec 8) (len : W32) (sha : BitVec 256)
  /-- IMAGE_COMMIT (R345): Approval action 2 raises the anti-rollback counter. -/
  | imageCommit (sid seq : W32) (kind : BitVec 8)
  /-- IMAGE_ABANDON (R344): Approval action 3 discards a staged image. -/
  | imageAbandon (sid seq : W32) (kind : BitVec 8)
  /-- NV_READ (R320): Returns an NV record. -/
  | nvRead (sid seq : W32) (cls idx : BitVec 16)
  /-- ATTEST (R346): Returns a signed attestation report for a challenge. -/
  | attest (sid seq : W32) (challenge : BitVec 256)
  /-- RAW_TX (R320): Host-mode transmit of a raw Ethernet frame with optional timestamp. -/
  | rawTx (sid seq : W32) (port : Fin 2) (ts : Bool) (id : BitVec 16) (frame : List Byte)
  /-- BARE_ACK_SEND (R311): The module sends a bare ACK within 20 µs of delivery. -/
  | bareAckSend (sid : W32)
  /-- TRANSACTION_RESEND (R312): An unacknowledged transaction is resent with doubling intervals; 20 resends lose the session. -/
  | transactionResend (sid seq : W32)
  /-- SESSION_IDLE_TIMEOUT (R312): No packet for the idle time; the session is lost. -/
  | sessionIdleTimeout (sid : W32)
  /-- LOG_ENTRY_COMMIT (R352): The NV store completes a log entry and the Flask commits the chain head. -/
  | logEntryCommit
  /-- LOG_RATE_SECOND_END (R351): At the end of a second excess module events are merged into one entry. -/
  | logRateSecondEnd
  /-- CMK_REQ (R358): Requests a calibration routine on a target. -/
  | cmkReq (sid seq : W32) (value : W32)
  /-- ROUTINE_PERIODIC_REQUEST (R358): A periodic timer requests TIU_CAL or NV_SCRUB. -/
  | routinePeriodicRequest (r : BitVec 8)
  /-- ROUTINE_START (R359): The Coremaker starts or resumes the highest-priority queued routine. -/
  | routineStart
  /-- CMK_NONE (R356): Microword with no action; sequencing only. -/
  | cmkNone (w : MicroWord)
  /-- CMK_WRITE (R356): Journaled write of a CSR or trim. -/
  | cmkWrite (w : MicroWord)
  /-- CMK_READ (R356): Reads a word into a scratch register. -/
  | cmkRead (w : MicroWord)
  /-- CMK_ALU (R356): Scratch register ALU operation. -/
  | cmkAlu (w : MicroWord)
  /-- CMK_SHADOW (R365): Appends a pair to the calibration set. -/
  | cmkShadow (w : MicroWord)
  /-- CMK_COMMIT (R366): Submits the calibration set for plausibility checks. -/
  | cmkCommit (w : MicroWord)
  /-- CMK_FUSE (R374): Programs a fuse row within the fuse window. -/
  | cmkFuse (w : MicroWord) (o : FuseObs)
  /-- CMK_NVWRITE (R356): Writes the record buffer as an NV record. -/
  | cmkNvwrite (w : MicroWord)
  /-- CMK_PUBLISH (R356): Publishes a system event. -/
  | cmkPublish (w : MicroWord)
  /-- CMK_SLIP (R356): Applies one bit-slip to a lane. -/
  | cmkSlip (w : MicroWord)
  /-- CMK_LOAD (R356): Loads fuse record data into a scratch register. -/
  | cmkLoad (w : MicroWord)
  /-- CMK_WAIT_TIMEOUT (R357): A WAIT reaches its timeout and branches to alt. -/
  | cmkWaitTimeout
  /-- FORCED_ABORT (R361): An interrupt waits 200 µs without a safe point; the routine aborts at once with undo. -/
  | forcedAbort
  /-- CAL_ACCEPT (R367): Accepts the awaiting calibration set. -/
  | calAccept (sid seq : W32)
  /-- CAL_DISCARD (R377): Discards the awaiting calibration set. -/
  | calDiscard (sid seq : W32)
  /-- ACCEPTANCE_TIMEOUT (R367): A set waits 60 s for acceptance and is discarded. -/
  | acceptanceTimeout
  /-- CAL_COMMIT_TICK (R367): At T_c every value of the set takes effect, is saved and channel 248 published. -/
  | calCommitTick
  /-- FUSE_PROG_GO (R374): A write of FUS_PROG_HI.go requests FUSE_PROG. -/
  | fuseProgGo (sid seq : W32) (value : W32)
  /-- CRY_CTRL_WRITE (R388): Starts or stops the thermometry scan. -/
  | cryCtrlWrite (sid seq : W32) (value : W32)
  /-- CRY_CHANNEL_WRITE (R388): A write of CRY_PINS_n or CRY_EXC_n reconfigures a channel, discarding its conversion. -/
  | cryChannelWrite (sid seq : W32) (n : Fin 16) (exc : Bool) (value : W32)
  /-- CRY_ROUT_WRITE (R388): Reconfigures a ratiometric output. -/
  | cryRoutWrite (sid seq : W32) (k : Fin 4) (fs : Bool) (value : W32)
  /-- EXCITATION_REVERSAL (R380): A half-period of excitation ends and the square wave reverses. -/
  | excitationReversal (samples : List Int)
  /-- CONVERSION_COMPLETE (R382): A conversion completes, updating result, status and ROUT outputs. -/
  | conversionComplete (last : List Int) (fullScale : Bool)
  /-- OPEN_WIRE_TRIP (R383): A compliance or rail monitor trips; the channel goes OPEN and outputs to open code. -/
  | openWireTrip
  /-- VREF_LOW (R389): VREF_EXT falls below 0.5 V and vref_low is set. -/
  | vrefLow (mv : Nat)
  /-- HOUSEKEEPING_ROUND (R403): Every 1 ms sensors, feeds and rails are read and the temper level set. -/
  | housekeepingRound (o : RoundObs)
  /-- THERMAL_RESTART (R410): After 60 s with all sensors at or below 85 °C a thermal start begins. -/
  | thermalRestart
  /-- FEED_UNDERVOLTAGE (R392): A feed falls below 33 V; the other carries the load, or the riser bank rides through. -/
  | feedUndervoltage (f : Fin 2) (mv : Int)
  /-- FEED_OVERVOLTAGE (R392): A feed rises above 75 V; counted, or isolated beyond 100 V or 100 ms. -/
  | feedOvervoltage (f : Fin 2) (mv : Int) (us : Nat)
  /-- BROWNOUT_DECIDED (R394): Bus below 33 V for 10 ms; the brown-out stop begins and channel 249 is published. -/
  | brownoutDecided
  /-- BROWNOUT_SHOT_LIMIT (R394): At D + 4,000,000 remaining shots end with POWER_ABORT and the fault path asserts. -/
  | brownoutShotLimit
  /-- BROWNOUT_RESTART (R395): Bus at 36 V or more for 100 ms after a completed stop; a start begins. -/
  | brownoutRestart
  /-- STAGE_ISOLATE (R396): A brick stage leaves regulation and is isolated. -/
  | stageIsolate (i : Fin 10)
  /-- SLACK_SERVO_STEP (R400): On its 1 µs or 10 µs interval the servo adjusts a rail from measured slack. -/
  | slackServoStep (r : Fin 13) (worst : Int) (tenth : Bool) (alone : Option Nat)
  /-- MOULDER_TAKEOVER (R414): Three missed heartbeats; the standby Moulder takes over. -/
  | moulderTakeover
  /-- DRAM_ROW_REMAP (R412): A DRAM row is copied to a spare and the map switched. -/
  | dramRowRemap (pc : Fin 32) (row : Nat)
  /-- DRAM_BANK_REMAP (R412): A DRAM bank copy completes and the map switches to the spare bank. -/
  | dramBankRemap (pc : Fin 32) (bank : Nat)
  /-- HOT_CACHE_LINE_RETIRE (R412): An unlocked hot-cache line with repeated errors is retired. -/
  | hotCacheLineRetire (k : Fin 8) (block : Nat)
  /-- MOULDER_UPDATE_HANDOVER (R415): The updated standby Moulder exchanges roles with the active one. -/
  | moulderUpdateHandover
  /-- CONTROL_STORE_SWITCH (R415): With no routine running or yielded, the new control-store bank is switched in. -/
  | controlStoreSwitch
  /-- CONTROL_STORE_INSTALL_TIMEOUT (R415): No idle moment within 60 s; the install is logged as failed. -/
  | controlStoreInstallTimeout
  /-- FLASK_PATCH_SWITCH (R415): A new Flask patch takes effect between two Flask operations. -/
  | flaskPatchSwitch
  /-- POWER_ON (R419): PD00 rises from nothing; straps are sampled and a start begins. -/
  | powerOn (straps : BitVec 2)
  /-- START_STAGE_PASS (R419): A start stage passes and the next stage begins. -/
  | startStagePass (o : StageResult)
  /-- START_STAGE_TIMEOUT (R420): A stage times out or fails; the attempt fails and the counter rises. -/
  | startStageTimeout (cause : BitVec 8)
  /-- RETRY_START (R423): 1 s after a failed start below the threshold a start begins with cause RETRY. -/
  | retryStart
  /-- SETTLING_COMPLETE (R423): 60 s after COMPLETE the attempt counter returns to 0. -/
  | settlingComplete
  /-- RST_N_FALL (R434): RST_N low is latched and the reset stop begins. -/
  | rstFall
  /-- RST_N_RISE (R434): RST_N rises; straps are sampled and a start begins. -/
  | rstRise (straps : BitVec 2)
  /-- MLD_RESET (R433): A keyed write commands a reset with an orderly stop. -/
  | mldReset (sid seq : W32) (value : W32)
  /-- FATAL_FAULT (R429): A fatal fault latches the fault path and begins a stop. -/
  | fatalFault (source : BitVec 8)
  /-- FATAL_RESTART (R429): 1 s after a fatal stop a start begins with cause FATAL. -/
  | fatalRestart
  /-- SUPERVISOR_WATCHDOG (R430): No Moulder heartbeat for 1 ms; the watchdog asserts the fault path and restarts. -/
  | supervisorWatchdog
  /-- LANE_SIGNAL_LOST (R249): A Runner receive lane loses signal or word alignment; the lane is declared faulty and a swap is requested, or the port restarts its bring-up when the far transmitter goes to electrical idle. -/
  | laneSignalLost (p : Fin 8) (l : Fin 9) (idle : Bool)
  /-- REFIN_RETURN (R358): REFIN comes back after being lost; PLL_LOCK is requested and the locked domains relock. -/
  | refinReturn
  /-- CLASSIFIER_COMMIT_TICK (R196): At the commit tick T_c the pending classifier set becomes the one in force, and CRU_CLS_THI.pending clears. -/
  | classifierCommitTick (c : Fin 34)
  /-- FEED_RETURN (R392): A feed, or the bus, returns within 36-75 V; an isolated feed is reconnected after 1 s and the feed_ok bit reads 1 again. -/
  | feedReturn (f : Fin 2) (mv : Int)
  /-- RISER_BANK_SPENT (R394): The riser bank's energy runs out after both feeds are lost; PD00-PD02 and PD28 lose power and the module is unpowered. -/
  | riserBankSpent
  /-- HOLD_LIMIT_EXCEEDED (R268): The cast-time holdover age passes TIM_CAST_HOLD.limit; cast time counts as unlocked and TIME_UNLOCKED applies to shots. -/
  | holdLimitExceeded
  /-- GRANULE_READ (R112): The resampler reaches a granule's read position; the granule is judged present or missing, with fill and PATTERN_UNDERRUN if missing, and the prefetch window refills as the position leaves a block.
  Whether the granule holds an uncorrectable DRAM error is an operand. -/
  | granuleRead (tone : Fin 1024) (dramError : Bool)
  /-- ATTEST_SIGNED (R346): The Flask completes the identity signature over an attestation report, and the report is sent. -/
  | attestSigned (sig : List Byte)
  /-- CMK_WAIT_SATISFIED (R357): The condition of a Coremaker WAIT word becomes true, such as a PLL lock bit or a calibration done bit, and the routine continues at next. -/
  | cmkWaitSatisfied
  deriving DecidableEq, Repr

end Sys2Proof
end

