-- ==== Sys2Proof/Decode.lean ====
section
/-! DEFINITION. The block has no instruction words: every row of the table of operations has an empty field list, so no word
spells a command. -/

namespace Sys2Proof

/-- The command that a word of `nbits` bits spells by the table's bits: the table gives none for any row. -/
def decodeTableWord (nbits w : Nat) : Option Instr :=
  match nbits, w with
  | _, _ => none

end Sys2Proof
end

