-- ==== Sys2Proof/Machine/Addr.lean ====
section
/-! DEFINITION. The CSR address of every register of the map, by name and indices (R437, R438). -/

namespace Sys2Proof.Machine

/-- Base of the block of RF channel `ch`: drive 0-63, readout output 64-95 (R437). -/
def rfBase (ch : Nat) : Nat := if ch < 64 then 0x440000 + 0x1000 * ch else 0x500000 + 0x1000 * (ch - 64)

/-- Base of the group registers: flux 0-7, bias 8-15 (R154). -/
def grpBase (g : Nat) : Nat := if g < 8 then 0xC0800 + 32 * g else 0xCB000 + 32 * (g - 8)

def aMldIdent : Nat := 0x0
def aMldPeMap (i : Nat) : Nat := 0x400 + 0x4 * i
def aMldCruMap (i : Nat) : Nat := 0x600 + 0x4 * i
def aMldRunqStat : Nat := 0x800
def aMldResbufStat : Nat := 0x804
def aPeStat (i : Nat) : Nat := 0x100000 + 0x1000 * i
def aPeExc (i : Nat) : Nat := 0x100004 + 0x1000 * i
def aPeWdog (i : Nat) : Nat := 0x100008 + 0x1000 * i
def aPeEcc (i : Nat) : Nat := 0x10000C + 0x1000 * i
def aPeQstat (i : Nat) : Nat := 0x100010 + 0x1000 * i
def aPeLead (i : Nat) : Nat := 0x100014 + 0x1000 * i
def aPeLate (i : Nat) : Nat := 0x100018 + 0x1000 * i
def aPlyJcfg (i j : Nat) : Nat := rfBase i + 0x800 + 0x40 * j
def aPlyJtgt (i j k : Nat) : Nat := rfBase i + 0x804 + 0x40 * j + 0x4 * k
def aPlyStat (i j : Nat) : Nat := rfBase i + 0x814 + 0x40 * j
def aPlyCnt (i j : Nat) : Nat := rfBase i + 0x818 + 0x40 * j
def aPlyUndr (i j : Nat) : Nat := rfBase i + 0x81C + 0x40 * j
def aMldPatStat : Nat := 0x900
def aMldPatErr : Nat := 0x904
def aRfCtrl (i : Nat) : Nat := rfBase i + 0x0
def aRfStat (i : Nat) : Nat := rfBase i + 0x4
def aRfClip (i : Nat) : Nat := rfBase i + 0x8
def aRfNcochk (i : Nat) : Nat := rfBase i + 0xC
def aTgain (i j : Nat) : Nat := rfBase i + 0x100 + 0x4 * j
def aTfrqLo (i j : Nat) : Nat := rfBase i + 0x400 + 0x10 * j
def aTfrqHi (i j : Nat) : Nat := rfBase i + 0x404 + 0x10 * j
def aTphs (i j : Nat) : Nat := rfBase i + 0x408 + 0x10 * j
def aFlxCfg (i : Nat) : Nat := 0xC0000 + 0x10 * i
def aFlxClr (i : Nat) : Nat := 0xC0004 + 0x10 * i
def aFlxHold (i : Nat) : Nat := 0xC0008 + 0x10 * i
def aFlxOut (i : Nat) : Nat := 0xC000C + 0x10 * i
def aBiaCfg (i : Nat) : Nat := 0xCA000 + 0x10 * i
def aBiaClr (i : Nat) : Nat := 0xCA004 + 0x10 * i
def aBiaHold (i : Nat) : Nat := 0xCA008 + 0x10 * i
def aBiaOut (i : Nat) : Nat := 0xCA00C + 0x10 * i
def aGrpCtrl (i : Nat) : Nat := grpBase i + 0x0
def aGrpStrb (i : Nat) : Nat := grpBase i + 0x4
def aGrpSw (i : Nat) : Nat := grpBase i + 0x8
def aGrpStat (i : Nat) : Nat := grpBase i + 0xC
def aFlxEdge (i j : Nat) : Nat := 0xC1000 + 0x100 * i + 0x4 * j
def aFlxEpts (i j k : Nat) : Nat := 0xC2000 + 0x1000 * i + 0x40 * j + 0x4 * k
def aAdcCtrl (i : Nat) : Nat := 0x600000 + 0x1000 * i
def aAdcTrig (i : Nat) : Nat := 0x600004 + 0x1000 * i
def aAdcStat (i : Nat) : Nat := 0x600008 + 0x1000 * i
def aAdcPool (i : Nat) : Nat := 0x60000C + 0x1000 * i
def aAdcCntA (i : Nat) : Nat := 0x600014 + 0x1000 * i
def aAdcCntB (i : Nat) : Nat := 0x600018 + 0x1000 * i
def aDemPhs (i j : Nat) : Nat := 0x600100 + 0x1000 * i + 0x4 * j
def aAdcWdly (i j : Nat) : Nat := 0x600800 + 0x1000 * i + 0x8 * j
def aAdcWcnt (i j : Nat) : Nat := 0x600804 + 0x1000 * i + 0x8 * j
def aCruStat (i : Nat) : Nat := 0x200000 + 0x10000 * i
def aCruRing (i : Nat) : Nat := 0x200004 + 0x10000 * i
def aCruCnt (i : Nat) : Nat := 0x200008 + 0x10000 * i
def aCruDec (i : Nat) : Nat := 0x20000C + 0x10000 * i
def aCruDragAddr (i : Nat) : Nat := 0x200010 + 0x10000 * i
def aCruDragData (i : Nat) : Nat := 0x200014 + 0x10000 * i
def aCruClsTlo (i : Nat) : Nat := 0x200018 + 0x10000 * i
def aCruClsThi (i : Nat) : Nat := 0x20001C + 0x10000 * i
def aCruPub (i j : Nat) : Nat := 0x200100 + 0x10000 * i + 0x4 * j
def aCruCtx (i j : Nat) : Nat := 0x200400 + 0x10000 * i + 0x4 * j
def aCruProg (i j : Nat) : Nat := 0x204000 + 0x10000 * i + 0x4 * j
def aSprCh (i : Nat) : Nat := 0x40000 + 0x10 * i
def aSprChLast (i : Nat) : Nat := 0x40004 + 0x10 * i
def aSprChExpLo (i : Nat) : Nat := 0x40008 + 0x10 * i
def aSprChExpHi (i : Nat) : Nat := 0x4000C + 0x10 * i
def aSprFlag (i : Nat) : Nat := 0x41000 + 0x4 * i
def aSprSwpub : Nat := 0x41020
def aSprCntA : Nat := 0x41040
def aSprCntB : Nat := 0x41044
def aSprLoop : Nat := 0x41048
def aSprRemote : Nat := 0x4104C
def aSprUlat (i : Nat) : Nat := 0x41100 + 0x4 * i
def aSprRlyCfg (i : Nat) : Nat := 0x42000 + 0x8 * i
def aSprRlyDly (i : Nat) : Nat := 0x42004 + 0x8 * i
def aSprTmrCfg (i : Nat) : Nat := 0x43000 + 0x20 * i
def aSprTmrStartLo (i : Nat) : Nat := 0x43004 + 0x20 * i
def aSprTmrStartHi (i : Nat) : Nat := 0x43008 + 0x20 * i
def aSprTmrPer (i : Nat) : Nat := 0x4300C + 0x20 * i
def aSprTmrCnt (i : Nat) : Nat := 0x43010 + 0x20 * i
def aSprTrig (i : Nat) : Nat := 0x43800 + 0x4 * i
def aRunPortCtrl (i : Nat) : Nat := 0x50000 + 0x400 * i
def aRunPortStat (i : Nat) : Nat := 0x50004 + 0x400 * i
def aRunPortMeas (i : Nat) : Nat := 0x50008 + 0x400 * i
def aRunPortDacc (i : Nat) : Nat := 0x5000C + 0x400 * i
def aRunPortConfLo (i : Nat) : Nat := 0x50010 + 0x400 * i
def aRunPortConfHi (i : Nat) : Nat := 0x50014 + 0x400 * i
def aRunPortCnt (i : Nat) : Nat := 0x50018 + 0x400 * i
def aRunPortRxcnt (i : Nat) : Nat := 0x5001C + 0x400 * i
def aRunPortEqgen (i : Nat) : Nat := 0x50020 + 0x400 * i
def aRunLaneCtrl (i j : Nat) : Nat := 0x50100 + 0x400 * i + 0x10 * j
def aRunLaneStat (i j : Nat) : Nat := 0x50104 + 0x400 * i + 0x10 * j
def aRunLaneErr (i j : Nat) : Nat := 0x50108 + 0x400 * i + 0x10 * j
def aRunRoute (i : Nat) : Nat := 0x52000 + 0x4 * i
def aRunFwd : Nat := 0x52100
def aTimCastCfg : Nat := 0x30000
def aTimCastCtrl : Nat := 0x30004
def aTimCastStat : Nat := 0x30008
def aTimCastNowLo : Nat := 0x3000C
def aTimCastNowHi : Nat := 0x30010
def aTimCastOfs : Nat := 0x30014
def aTimCastRate : Nat := 0x30018
def aTimCastAge : Nat := 0x3001C
def aTimCastHold : Nat := 0x30020
def aTimAsym (i : Nat) : Nat := 0x30040 + 0x4 * i
def aTimSrvCast : Nat := 0x30060
def aTimSrvSys : Nat := 0x30064
def aTimSysCfg : Nat := 0x30080
def aTimSysCtrl : Nat := 0x30084
def aTimSysStat : Nat := 0x30088
def aTimSysNowLo : Nat := 0x3008C
def aTimSysNowHi : Nat := 0x30090
def aTimSysOfs : Nat := 0x30094
def aTimSysRate : Nat := 0x30098
def aTimSysAge : Nat := 0x3009C
def aTimSysOfsIn : Nat := 0x300A0
def aTimMonoLo : Nat := 0x300B0
def aTimMonoHi : Nat := 0x300B4
def aTimCorrSec : Nat := 0x300C0
def aTimCorrTlo : Nat := 0x300C4
def aTimCorrThi : Nat := 0x300C8
def aTimCorrFine : Nat := 0x300CC
def aTimTxqStat (i : Nat) : Nat := 0x30100 + 0x20 * i
def aTimTxqId (i : Nat) : Nat := 0x30104 + 0x20 * i
def aTimTxqTslo (i : Nat) : Nat := 0x30108 + 0x20 * i
def aTimTxqTshi (i : Nat) : Nat := 0x3010C + 0x20 * i
def aTimTcStat : Nat := 0x30140
def aCapCtrl : Nat := 0xB0000
def aCapCfg : Nat := 0xB0004
def aCapProbe (i : Nat) : Nat := 0xB0010 + 0x4 * i
def aCapFire (i : Nat) : Nat := 0xB0020 + 0x4 * i
def aCapPre : Nat := 0xB0030
def aCapPost : Nat := 0xB0034
def aCapTrig : Nat := 0xB0038
def aCapGrpExpLo : Nat := 0xB0040
def aCapGrpExpHi : Nat := 0xB0044
def aCapStat : Nat := 0xB0050
def aCapRec : Nat := 0xB0054
def aCapCnt : Nat := 0xB0058
def aTiuIn (i : Nat) : Nat := 0xA0000 + 0x4 * i
def aTiuUcfg (i : Nat) : Nat := 0xA0100 + 0x40 * i
def aTiuUn (i : Nat) : Nat := 0xA0104 + 0x40 * i
def aTiuUctrl (i : Nat) : Nat := 0xA010C + 0x40 * i
def aTiuUstat (i : Nat) : Nat := 0xA0110 + 0x40 * i
def aTiuUtmo (i : Nat) : Nat := 0xA0114 + 0x40 * i
def aTiuUres (i j : Nat) : Nat := 0xA0118 + 0x40 * i + 0x4 * j
def aNetPortCfg (i : Nat) : Nat := 0x60000 + 0x100 * i
def aNetPortStat (i : Nat) : Nat := 0x60004 + 0x100 * i
def aNetPortCnt (i : Nat) : Nat := 0x60008 + 0x100 * i
def aNetIpv4 (i : Nat) : Nat := 0x60010 + 0x100 * i
def aNetIpv6 (i j : Nat) : Nat := 0x60020 + 0x100 * i + 0x4 * j
def aNetMacLo (i : Nat) : Nat := 0x60030 + 0x100 * i
def aNetMacHi (i : Nat) : Nat := 0x60034 + 0x100 * i
def aNetUdp : Nat := 0x60800
def aNetSessCfg : Nat := 0x60804
def aNetSessStat : Nat := 0x60808
def aNetCntA : Nat := 0x60810
def aNetCntB : Nat := 0x60814
def aNetChkCfg (i : Nat) : Nat := 0x60900 + 0x20 * i
def aNetChkPolyLo (i : Nat) : Nat := 0x60904 + 0x20 * i
def aNetChkPolyHi (i : Nat) : Nat := 0x60908 + 0x20 * i
def aNetChkInitLo (i : Nat) : Nat := 0x6090C + 0x20 * i
def aNetChkInitHi (i : Nat) : Nat := 0x60910 + 0x20 * i
def aFlkStat : Nat := 0x10000
def aFlkIdpub (i : Nat) : Nat := 0x10010 + 0x4 * i
def aFlkArc (i : Nat) : Nat := 0x10100 + 0x4 * i
def aFlkLogNum : Nat := 0x10200
def aFlkLogHead (i : Nat) : Nat := 0x10204 + 0x4 * i
def aFlkCnt : Nat := 0x10240
def aEqTap (i j : Nat) : Nat := rfBase i + 0x200 + 0x4 * j
def aCmkStat : Nat := 0x70000
def aCmkReq : Nat := 0x70004
def aCmkCnt : Nat := 0x70008
def aCalStat : Nat := 0x80000
def aCalCfg : Nat := 0x80004
def aCalAccept : Nat := 0x80008
def aCalRtt (i : Nat) : Nat := 0x80100 + 0x4 * i
def aFusStat : Nat := 0x81000
def aFusRdSel : Nat := 0x81004
def aFusRdLo : Nat := 0x81008
def aFusRdHi : Nat := 0x8100C
def aFusProgLo : Nat := 0x81010
def aFusProgHi : Nat := 0x81014
def aNvsStat : Nat := 0x82000
def aCryCtrl : Nat := 0x90000
def aCryStat : Nat := 0x90004
def aCryCnt : Nat := 0x90008
def aCryPins (i : Nat) : Nat := 0x90100 + 0x10 * i
def aCryExc (i : Nat) : Nat := 0x90104 + 0x10 * i
def aCryRes (i : Nat) : Nat := 0x90108 + 0x10 * i
def aCryCst (i : Nat) : Nat := 0x9010C + 0x10 * i
def aCryRoutCfg (i : Nat) : Nat := 0x90400 + 0x10 * i
def aCryRoutFs (i : Nat) : Nat := 0x90404 + 0x10 * i
def aCryRoutOut (i : Nat) : Nat := 0x90408 + 0x10 * i
def aPwrFeed : Nat := 0x20000
def aPwrStat : Nat := 0x20004
def aPwrDomOn : Nat := 0x20008
def aPwrDomFlt : Nat := 0x2000C
def aPwrCnt : Nat := 0x20010
def aPwrSlk (i : Nat) : Nat := 0x20100 + 0x4 * i
def aPwrReq (i : Nat) : Nat := 0x20200 + 0x4 * i
def aPwrReqc (i : Nat) : Nat := 0x20440 + 0x4 * i
def aPwrSpare : Nat := 0x20500
def aThmStat : Nat := 0x20800
def aThmRate : Nat := 0x20804
def aThmSns (i : Nat) : Nat := 0x20900 + 0x4 * i
def aThmCnt : Nat := 0x20A00
def aMldBootStat : Nat := 0xA00
def aMldBootLast (i : Nat) : Nat := 0xA10 + 0x4 * i
def aMldStarts : Nat := 0xA20
def aMldAlert : Nat := 0xB00
def aMldFault : Nat := 0xB04
def aMldReset : Nat := 0xB10
def aCruCls (c t r w : Nat) : Nat := 0x201000 + 0x10000 * c + 0x80 * t + 0x20 * r + 4 * w
def aCruClsIn (c t r w : Nat) : Nat := 0x202000 + 0x10000 * c + 0x80 * t + 0x20 * r + 4 * w

end Sys2Proof.Machine
end

