-- ==== Sys2Proof/Config.lean ====
section
/-! DEFINITION. What the manual leaves to the built unit or to a standard it names only: as-built identity,
values it leaves open, and the cryptographic functions, each an uninterpreted constant (no body). -/

namespace Sys2Proof.Config

/-- One below MLD_IDENT.hw_rev, as built: 0x0 is not used (R1). -/
opaque hwRevBelow : Fin 15
/-- MLD_IDENT.hw_rev (R1). -/
def hwRev : BitVec 4 := BitVec.ofNat 4 (hwRevBelow.val + 1)
/-- MLD_IDENT.stepping, as built (R1). -/
opaque stepping : BitVec 4
/-- MLD_IDENT.variant bit, as built: `0` -Q couplings, `1` -T couplings (R1). -/
opaque variant : BitVec 1
/-- The serial number in the certificate and the attestation report (R330, R346). -/
opaque serial : BitVec 64
/-- Word `w` of the identity public key (R353). -/
opaque idPub : Nat → BitVec 32
/-- MAC base [31:0] that NET_MAC reads as before stage 1 has read the fuses (R327, R372). -/
opaque macBase : BitVec 32
/-- A value the manual leaves open, the `n`-th one drawn; the state's `free` field counts them. -/
opaque freeValue : Nat → BitVec 64
/-- SHA-256 (R69, R197, R349): the standard's function, left uninterpreted. -/
opaque sha256 : List (BitVec 8) → BitVec 256
/-- Whether the AES-256-GCM tag of a sealed packet verifies: session id, counter, ciphertext, tag (R306). -/
opaque tagOk : BitVec 32 → BitVec 64 → List (BitVec 8) → BitVec 128 → Bool
/-- Whether an SLH-DSA signature verifies: public key, message hash, signature (R340, R343). -/
opaque sigOk : BitVec 512 → BitVec 256 → List (BitVec 8) → Bool
/-- The percentile of a list of values: the manual names the 5th and the 95th and no method (R293). -/
opaque percentile : Nat → List Int → Int
/-- Whether an inexact quotient is rounded up, where the manual states no rounding (R118, R259, R262, R293, R298, R299). -/
opaque roundUp : Int → Int → Bool
/-- A quotient by 0, where the manual states no result (R293). -/
opaque quotZero : Int → Int
/-- The magnitude of a complex value in 1/16 LSB, whose rounding the manual does not state (R293). -/
opaque magnitude16 : Int → Int → Int
/-- Population standard deviation of a list of integers, whose rounding the manual does not state (R299). -/
opaque stdDev : List Int → Nat
/-- Whether the sine of `a / 2^20` of a turn, up to a quarter turn, is rounded up to 18 bits (R121): the rounding is not stated. -/
opaque sinUp : Nat → Bool

/-- The decimator (R170): a baseband value before saturation from the mixer products of its 64 samples; the coefficients are not
specified beyond their properties. -/
opaque decimator : List (Int × Int) → Int × Int
/-- Next state of the 31-bit LFSR of an ADC channel (R157): the manual does not give its polynomial. -/
opaque lfsrNext : BitVec 31 → BitVec 31

/-- The module's number in the machine (R35, R62): the manual names it and no place it is set. -/
opaque moduleId : BitVec 6
/-- Word `i` of the control store as built (R355). -/
opaque controlWord : Nat → BitVec 160
/-- Control-store address at which a routine of R358 begins. -/
opaque routineEntry : BitVec 8 → BitVec 12
/-- Bank and row of a block within each DRAM pseudo-channel, for a hash key (R109): the manual names a keyed hash and does not give it. -/
opaque addressHash : BitVec 64 → Nat → Nat × Nat
/-- Fuse row `r` as manufactured (R371). -/
opaque fuseRow : Nat → BitVec 64
/-- ML-KEM: ciphertext and shared secret for an encapsulation key, and the session tick that drew the randomness (R339). -/
opaque kemCipher : List (BitVec 8) → Nat → List (BitVec 8)
/-- The Flask's random nonce for the n-th draw (R338). -/
opaque nonce : Nat → BitVec 256

/-- Log entry 0, written at manufacture (R349): its fields, its detail and its hash. -/
opaque firstEntry : Nat → BitVec 64
opaque firstDetail : List (BitVec 8)
opaque firstHash : BitVec 256
/-- Public key of the maker credential enrolled at manufacture (R331, R332). -/
opaque makerKey : BitVec 512
/-- SHA-256 and security version number of the factory image of a kind in slot A or B: kind * 2 + slot (R342, R344). -/
opaque factorySha : Nat → BitVec 256
opaque factorySvn : Nat → BitVec 32
/-- Byte `i` of the device certificate where the manual does not fix it: issue time, issuer and signature (R330). -/
opaque certByte : Nat → BitVec 8

/-- The body of a MEAS frame (R238): whether it is an echo, the turnaround in ps that an echo states, and the internal latency
carried in it; the manual does not lay the 8 bytes out. -/
opaque measBytes : Bool → Int → Int → List (BitVec 8)
opaque measOf : List (BitVec 8) → Bool × Int × Int
/-- The body of a LOSS frame (R252): a confirmed tick and a module; the manual does not lay the 8 bytes out. -/
opaque lossBytes : BitVec 40 → BitVec 6 → List (BitVec 8)
opaque lossOf : List (BitVec 8) → BitVec 40 × BitVec 6
/-- Turnaround and internal latency of a Runner port in ps, as fused (R238): the manual names no record of them. -/
opaque turnaround : Nat → Int
opaque portLatency : Nat → Int
/-- Whether A is the port's own internal latency less the far one, or the other way round (R238): the manual says "the difference". -/
opaque ownLess : Bool
/-- Settings of a Runner lane, 16 bytes, where the fuses hold no default entry for it (R242). -/
opaque laneUnset : Nat → List (BitVec 8)

/-- Whether an internal trim's value is plausible (R366): address and value; the manual gives no map of the trims. -/
opaque trimOk : BitVec 32 → BitVec 32 → Bool
/-- ADC channel and sub-converter that an internal trim belongs to, and whether a value of it exceeds the sub-converter's wear limit
(R158, R411): the manual gives no map of the trims. -/
opaque trimSub : BitVec 32 → Option (Nat × Nat)
opaque trimWorn : BitVec 32 → BitVec 32 → Bool
/-- RF channel whose skew, flux or bias group whose offset, and power domain, that an internal trim belongs to (R361, R366, R367): the
manual gives no map of the trims. -/
opaque trimRf : BitVec 32 → Option Nat
opaque trimGroup : BitVec 32 → Option Nat
opaque trimDomain : BitVec 32 → Nat
/-- Which 1-bits of a fuse row have been blown after a number of pulses (R374): the order of the pulses is not stated. -/
opaque blownFirst : BitVec 64 → Nat → BitVec 64
/-- Whether the cables of an ADC channel were declared changed (R366): the manual names no place where this is declared. -/
opaque cablesChanged : Nat → Bool

end Sys2Proof.Config
end

