-- ==== Sys2Proof/Machine/Tbl.lean ====
section
/-! DEFINITION. Sparse tables: lists of (key, value) in one canonical form, keys strictly rising and no entry
equal to what an unlisted key reads as. Register files, memories and per-instance state are held so. -/

namespace Sys2Proof

/-- A sparse table over natural keys. -/
abbrev Tbl (α : Type) := List (Nat × α)

/-- The value at key `k`; `d` is what an unlisted key reads as. -/
def Tbl.get {α : Type} (l : Tbl α) (k : Nat) (d : α) : α :=
  match l with
  | [] => d
  | (k', v) :: r => if k' = k then v else Tbl.get r k d

/-- Remove the entry at key `k`. -/
def Tbl.drop {α : Type} (l : Tbl α) (k : Nat) : Tbl α :=
  match l with
  | [] => []
  | (k', v) :: r => if k' = k then r else if k < k' then (k', v) :: r else (k', v) :: Tbl.drop r k

/-- Insert or replace the entry at key `k`. -/
def Tbl.insert {α : Type} (l : Tbl α) (k : Nat) (v : α) : Tbl α :=
  match l with
  | [] => [(k, v)]
  | (k', v') :: r =>
    if k' = k then (k, v) :: r
    else if k < k' then (k, v) :: (k', v') :: r
    else (k', v') :: Tbl.insert r k v

/-- Write `v` at key `k`; writing what an unlisted key reads as removes the entry. -/
def Tbl.put {α : Type} [DecidableEq α] (l : Tbl α) (k : Nat) (v d : α) : Tbl α :=
  if v = d then Tbl.drop l k else Tbl.insert l k v

/-- Keys strictly rising from above `lo`, no entry equal to its default. -/
def Tbl.wfFrom {α : Type} [DecidableEq α] (d : Nat → α) (lo : Nat) (l : Tbl α) : Bool :=
  match l with
  | [] => true
  | (k, v) :: r => decide (lo ≤ k) && decide (v ≠ d k) && Tbl.wfFrom d (k + 1) r

/-- The canonical form. -/
def Tbl.wf {α : Type} [DecidableEq α] (d : Nat → α) (l : Tbl α) : Bool := Tbl.wfFrom d 0 l

end Sys2Proof
end

