-- ==== Sys2Proof/Machine/TypesA.lean ====
section
/-! DEFINITION. State of engines, runs, results and the pattern store as plain data (chapters 1-5). -/

namespace Sys2Proof.Machine

/-- A Sprue event (R204). -/
structure Ev where
  ch : Byte
  stamp : Stamp
  payload : BitVec 16
  hop : BitVec 5
  producer : BitVec 10
  remote : Bool
  late : Bool
  useLat : BitVec 16
  deriving DecidableEq, Repr

/-- An event latch that is full (R44, R61). -/
structure Latch where
  stamp : Stamp
  payload : BitVec 16
  remote : Bool
  late : Bool
  coalesced : Bool
  deriving DecidableEq, Repr

/-- What a frame item does (R55). -/
inductive FrameOp where
  | setFreq (w : BitVec 48)
  | setPhase (p : W32)
  | shiftPhase (p : W32)
  | resetPhase
  deriving DecidableEq, Repr

/-- Target and payload of a release-queue item (R49). -/
inductive ItemKind where
  | frame (f : BitVec 3) (op : FrameOp)
  | play (f : BitVec 3) (seg : BitVec 20) (amp : BitVec 16)
  | flux (edge : BitVec 6) (ue : Bool) (code : BitVec 16)
  | bias (sel : Bool) (code : BitVec 20)
  | strobe (sel : Bool)
  deriving DecidableEq, Repr

/-- A release-queue item: release tick, sub-tick sample, kind (R10, R47). -/
structure Item where
  tick : Tick
  sub : BitVec 4
  kind : ItemKind
  deriving DecidableEq, Repr

/-- A release queue: its entries, oldest first, and the stamp of the last item accepted (R13, R75). -/
structure RelQueue where
  items : List Item
  last : Option (Tick × BitVec 4)
  deriving DecidableEq, Repr

/-- What an engine is doing (PE_STAT.state, R68; spare and retired are properties of the physical engine). -/
inductive EngState where
  | idle | running | waiting | queueFull | ended | stopped
  deriving DecidableEq, Repr

/-- A pending WAITE (R61). -/
structure WaitReq where
  ci : BitVec 3
  rd : BitVec 5
  ch : Byte
  deadline : Option Tick
  deriving DecidableEq, Repr

/-- A spare swap in progress (R87-R90): its begin tick, and the events held meanwhile. -/
structure SwapNow where
  begun : Tick
  held : List Ev
  deriving DecidableEq, Repr

/-- Frame initialisation value (R69). -/
structure FrameInit where
  freq : BitVec 48
  phase : W32
  deriving DecidableEq, Repr

/-- State of a logical engine (R44), of its release queues (R49), and of its current shot. -/
structure Engine where
  v : Tbl W32
  t : Tbl Tick
  c : BitVec 8
  tc : Tick
  pc : Nat
  stack : List Nat
  latches : List (Byte × Latch)
  subs : List Byte
  finit : List FrameInit
  entry : Nat
  codeCount : Nat
  st : EngState
  wait : Option WaitReq
  held : Option (Queue × Item)
  qd : RelQueue
  qr : RelQueue
  qf : RelQueue
  /-- Run whose shot the engine is in, and the shot's index and start tick. -/
  shot : Option (W32 × W32 × Tick)
  /-- Tick of END or of the stop in the current shot (R87). -/
  doneTick : Option Tick
  /-- Release tick of the last queued item (R87). -/
  lastRel : Option Tick
  /-- Smallest lead in the current shot, and queue of its first late item (R86). -/
  shotMin : Option Int
  firstLateQ : Option Queue
  /-- An engine faulted by HANDSHAKE_FAULT waits for its swap (R67). -/
  hsFault : Bool
  swap : Option SwapNow
  /-- Address of a double-bit error awaiting its rewrite, and of the last one rewritten (R67). -/
  memErr : Option Nat
  memErrLast : Option Nat
  deriving DecidableEq, Repr

/-- An engine that has run nothing. -/
def Engine.init : Engine where
  v := []
  t := []
  c := 0
  tc := 0
  pc := 0
  stack := []
  latches := []
  subs := []
  finit := []
  entry := 0
  codeCount := 0
  st := .idle
  wait := none
  held := none
  qd := ⟨[], none⟩
  qr := ⟨[], none⟩
  qf := ⟨[], none⟩
  shot := none
  doneTick := none
  lastRel := none
  shotMin := none
  firstLateQ := none
  hsFault := false
  swap := none
  memErr := none
  memErrLast := none

/-- Program memory word: stored bits, and whether a single-bit or a double-bit error stands in it (R46). -/
structure ProgWord where
  code : W64
  single : Bool
  double : Bool
  deriving DecidableEq, Repr

/-- An uploaded image in the image store (R71, R320): kind, session and upload progress, then its bytes. -/
structure Image where
  crucible : Bool
  len : Nat
  owner : W32
  done : Bool
  bytes : List Byte
  deriving DecidableEq, Repr

/-- Engine entry of a shot result record (R35). -/
structure Entry where
  engine : Nat
  mask : BitVec 16
  first : W32
  lateCount : BitVec 16
  decisions : BitVec 8
  words : List W64
  overflow : Bool
  exc : BitVec 8
  phys : Byte
  deriving DecidableEq, Repr

/-- Status codes of R6, by number. -/
inductive Cond where
  | lateRelease | patternUnderrun | decisionLate | outputCleared | rangeChange | acqOverflow | refbufNotReady
  | temperAbort | powerAbort | linkLost | checkFail | roleDenied | engineFault | eventLoop | timeUnlocked
  deriving DecidableEq, Repr

/-- A condition attached to a tick whose shot is not settled yet: the tick is still to come, or its shot has not begun (R78, R463).
`late` counts it in late_count. -/
structure CondDue where
  engine : Nat
  cond : Cond
  late : Bool
  tick : Tick
  /-- The tick that first_condition is taken from. -/
  shown : Tick
  deriving DecidableEq, Repr

/-- A shot executed or in flight (R32, R35). -/
structure Shot where
  index : W32
  start : Tick
  /-- End tick: fixed at the start for PERIODIC, found at the end for PACED. -/
  endTick : Option Tick
  ended : Bool
  entries : List Entry
  deriving DecidableEq, Repr

/-- Progress of an accepted run (R30-R32). -/
inductive RunPhase where
  | queued
  | loading
  | active
  | over
  deriving DecidableEq, Repr

/-- A run (R28-R40). -/
structure Run where
  id : W32
  desc : RunDesc
  /-- Session that submitted it, and the credential behind it (R324, R333). -/
  owner : W32
  cred : BitVec 256
  phase : RunPhase
  /-- Tick at which its turn came while a bank or group was not ON (R150). -/
  turnTick : Option Tick
  loadTick : Tick
  /-- Start tick of the next shot, once known. -/
  nextStart : Option Tick
  executed : W32
  clean : W32
  cancel : Bool
  /-- Cause that stops later shots (R42), and the cause of the end. -/
  stop : Option Byte
  /-- Shots whose records have not closed, oldest first. -/
  shots : List Shot
  /-- Tick of the end of the last executed shot. -/
  endTick : Tick
  /-- Highest index such that every record up to it is acknowledged, plus one (R43). -/
  acked : W32
  /-- Clusters taken from the credential's mask, each with the tick from which its engines are denied (R334). -/
  denied : List (Nat × Tick)
  deriving DecidableEq, Repr

/-- A record in the result buffer (R35, R36): its run, its shot index (none for a run end), whether it has
been acknowledged, and its bytes. -/
structure ResRec where
  run : W32
  shot : Option W32
  bytes : List Byte
  /-- Session and sequence number of the RESULT transaction that carries it (R324). -/
  sent : Option (W32 × W32)
  deriving DecidableEq, Repr

/-- A closure record in the NV store (R43). -/
structure Closure where
  run : W32
  requested : W32
  executed : W32
  prefixLen : W32
  cause : Byte
  deriving DecidableEq, Repr

/-- Upload state of a segment (R96; ACTIVE is READY with a reader). -/
inductive SegState where
  | free | filling | ready
  deriving DecidableEq, Repr

/-- A segment (R94, R96, R98): descriptor, version, state, upload progress. -/
structure Seg where
  desc : BitVec 256
  version : W32
  st : SegState
  /-- Session that uploaded the version that stands, and in an upload the one before it, to which a failed upload returns (R98, R101). -/
  owner : W32
  oldOwner : W32
  /-- Next data offset (R318). -/
  next : Nat
  /-- TB_MONO of the last data message (R98). -/
  lastMsg : W64
  /-- The upload has an end still to come. -/
  uploading : Bool
  pinned : Bool
  /-- The most recent upload ended in a failed check, with none completed since (R319). -/
  bad : Bool
  deriving DecidableEq, Repr

/-- A segment never uploaded. -/
def Seg.init : Seg := ⟨0, 0, .free, 0, 0, 0, 0, false, false, false⟩

/-- A bind made by a player: a segment with data, a segment played as fill, or none (R102, R111). -/
structure Bound where
  seg : BitVec 20
  fill : Bool
  deriving DecidableEq, Repr

/-- An on-time jump request waiting for its tick E (R107). -/
structure JumpReq where
  e : Tick
  target : BitVec 20
  deriving DecidableEq, Repr

/-- A play on a tone (R102-R108, R112), in DAC samples counted from cast tick 0 (12 a tick). -/
structure Play where
  seg : BitVec 20
  amp : BitVec 16
  /-- Release tick and sample of the play. -/
  rel : Tick
  sub : BitVec 4
  /-- DAC samples of the chain before the current segment (K of R106), and whether it is the first of the chain. -/
  k : Nat
  first : Bool
  /-- The current segment is played as fill, in whole (a FILLING segment was bound). -/
  fill : Bool
  /-- The play's first bind found a FREE segment: nothing of it is played. -/
  freeFill : Bool
  /-- The segment chosen to follow is FREE: fill follows the current one until the next play. -/
  tailFill : Bool
  /-- The choice made at the commit point, once made: `some none` ends the chain. -/
  chosen : Option (Option Bound)
  /-- Open loops, top first: segment and passes left (R103). -/
  stack : List (BitVec 20 × BitVec 16)
  /-- Pending jump: target, and whether it is deferred (R107). -/
  pending : Option (BitVec 20 × Bool)
  /-- Next granule of the current segment to be judged. -/
  granule : Nat
  /-- Granule 0 of the chosen segment has been judged at the commit point, and was missing (R112). -/
  pre : Option Bool
  /-- Granules of the current segment that are played as fill (R112). -/
  gone : List Nat
  /-- The segment before in the chain, joined at the same rate: its number, whether it was fill in whole, its fill granules (R118). -/
  prev : Option (BitVec 20 × Bool × List Nat)
  deriving DecidableEq, Repr

/-- A tone: its frame in force (R44, R121), accumulator and re-seed (R122, R123), and its pattern player. -/
structure Tone where
  freq : BitVec 48
  phase : W32
  /-- Frames that gave way, newest first: the tick from which each no longer stood, its frequency word and phase (R169). -/
  frames : List (Tick × BitVec 48 × W32)
  /-- Tick of the last re-seed, at sample 0, and the accumulator value it gave. -/
  seedTick : Tick
  acc : BitVec 48
  play : Option Play
  /-- Plays bound and not yet released, oldest first (R102). -/
  nextPlays : List Play
  jumps : List JumpReq
  /-- Fill plays until the next play (R111). -/
  free : Bool
  /-- Plays that have ended, newest first, while samples of theirs are on their way to the sample queue's output, and the last one to
  end in any case: the DAC samples of the first sample and after the last (R104, R135). -/
  ended : List (Nat × Nat)
  /-- Segments read to their end, each with the tick at which its last sample leaves the resampler (R96). -/
  leaving : List (BitVec 20 × Tick)
  /-- Walks that ended within the current tick, each with the first DAC sample that is no longer its own (R105). -/
  past : List (Play × Nat)
  deriving DecidableEq, Repr

/-- A tone that has played nothing. -/
def Tone.init : Tone := ⟨0, 0, [], 0, 0, none, [], [], false, [], [], []⟩

/-- A hot cache (R109-R112): resident blocks, least recently used first; requested blocks; retired lines. -/
structure Hot where
  lines : List Nat
  req : List Nat
  retired : Nat
  deriving DecidableEq, Repr

/-- An empty hot cache. -/
def Hot.init : Hot := ⟨[], [], 0⟩

end Sys2Proof.Machine
end

