-- ==== Sys2Proof/Machine/TypesB.lean ====
section
/-! DEFINITION. State of RF channels, flux and bias outputs, readout acquisition and Crucibles as plain data
(chapters 6-9). -/

namespace Sys2Proof.Machine

/-- Power state of a bank or a group (R131, R149). -/
inductive Power where
  | off | poweringUp | on | shuttingDown
  deriving DecidableEq, Repr

/-- A bank of RF or ADC channels (R134, R161): power state, tick of its last change, a power-up waiting. -/
structure Bank where
  st : Power
  since : Tick
  enPending : Bool
  deriving DecidableEq, Repr

/-- A bank from power-on (R134). -/
def Bank.init : Bank := ⟨.off, 0, false⟩

/-- Where an RF channel whose bank is ON stands in R133. -/
inductive MuteState where
  | muted | settling | waitQuiet | live
  deriving DecidableEq, Repr

/-- An RF channel (R131-R136). Registers and sticky bits live in the register file. -/
structure RfChan where
  st : MuteState
  /-- Tick of the last change: mute latched, release latched, WAIT_QUIET entered. -/
  since : Tick
  /-- An NCO correction in progress: the tick from which it mutes the channel, and the tones it re-seeds (R124). -/
  ncoFix : Option (Tick × List Nat)
  /-- Attenuator switching holds cause force (R136). -/
  fsSwitch : Bool
  /-- The equaliser's delay line: sums of the last 15 samples in units of 2^-65, oldest first; empty stands for all 0 (R117, R128). -/
  line : List Int
  /-- Codes before saturation on their way from the resampler to the sample queue, 204 of them, 17 ticks, oldest first; empty stands for
  all 0 (R117). -/
  pipe : List Int
  /-- The sample queue: the 24 DAC codes it holds, oldest first; empty stands for all 0 (R130). -/
  queue : List Int
  deriving DecidableEq, Repr

/-- A muted RF channel. -/
def RfChan.init : RfChan := ⟨.muted, 0, none, false, [], [], []⟩

/-- A move of a flux or bias output at its connector (R142, R145, R146, R152): from `start` on, an edge of `len` samples from `old` to
`new`, or a step to `new` where `len` is 0. -/
structure OutMove where
  start : Tick
  old : Int
  new : Int
  entry : BitVec 6
  len : Nat
  deriving DecidableEq, Repr

/-- A flux or bias channel (R140, R152): in-force code, whether it sits at its clear code, the moves of its output, newest first, down to
the one that has come, its open range-change window (latch tick of the first and of the last write), the range its output has, and the
switch to another one to come in the window. -/
structure FbChan where
  code : Int
  atClear : Bool
  moves : List OutMove
  window : Option (Tick × Tick)
  range : BitVec 2
  switchAt : Option (Tick × BitVec 2)
  deriving DecidableEq, Repr

/-- A channel at its clear code, in range 0 (R154). -/
def FbChan.init : FbChan := ⟨0, true, [], none, 0, none⟩

/-- Requests for one group strobe (R141): its tick, the engines whose STRB items asked, event and software sources. -/
structure StrobeReq where
  tick : Tick
  engines : List Nat
  event : Bool
  sw : Bool
  deriving DecidableEq, Repr

/-- A flux or bias group (R149): power state, waiting enable, last strobe made, last strobe judged and whether it was refused (R141,
R143), requests to come. -/
structure Group where
  st : Power
  since : Tick
  enPending : Bool
  lastStrobe : Option Tick
  judged : Option (Tick × Bool)
  reqs : List StrobeReq
  deriving DecidableEq, Repr

/-- A group from power-on. -/
def Group.init : Group := ⟨.off, 0, false, none, none, []⟩

/-- A reference buffer's state (R159). -/
inductive RefBuf where
  | off | starting | ready | shuttingDown
  deriving DecidableEq, Repr

/-- A window-start event on its way to an ADC channel (R162); `src` is the issuing engine and run of an ACQ. -/
structure WinStart where
  stamp : Tick
  ctx : Byte
  mask : BitVec 16
  hop : BitVec 5
  src : Option (Nat × W32)
  deriving DecidableEq, Repr

/-- An acquisition window of a tone (R163-R166, R180, R191-R194). -/
structure Win where
  tone : Nat
  ctx : Byte
  /-- Open tick. -/
  o : Tick
  b0 : Nat
  /-- Number of the last block plus one, after any cut. -/
  bEnd : Nat
  /-- Next block to pass the input stage. -/
  nextB : Nat
  opened : Bool
  /-- Run and end tick of the shot that bounds it. -/
  shot : Option (W32 × Tick)
  trunc : Bool
  range : BitVec 2
  /-- Hop count of the opening event (R219). -/
  hop : BitVec 5
  /-- Last block of the integration span, plus one (R180). -/
  spanEnd : Nat
  classify : Bool
  /-- The tone's four classifier records in force at the open tick (R179, R196), eight words each. -/
  recs : List (List W32)
  damaged : Bool
  decided : Bool
  closed : Bool
  deriving DecidableEq, Repr

/-- An integral handed to the decision unit (R191, R192). -/
structure Integral where
  tone : Nat
  /-- Block of the beat in which the integration ended (R194). -/
  beat : Nat
  b0 : Nat
  bLast : Nat
  i : Int
  q : Int
  trunc : Bool
  classify : Bool
  /-- Hop count of the opening event (R219). -/
  hop : BitVec 5
  /-- The classifier record, eight words. -/
  cls : List W32
  deriving DecidableEq, Repr

/-- An ADC channel (R156-R173). -/
structure AdcChan where
  refbuf : RefBuf
  rOn : Tick
  sdTick : Tick
  enPending : Bool
  disPending : Bool
  range : BitVec 2
  rangePending : Option (BitVec 2)
  /-- Quiet tick at which the attenuator was switched, until it settles (R168). -/
  switched : Option Tick
  starts : List WinStart
  wins : List Win
  integrals : List Integral
  /-- Sub-converter order (R157): the LFSR, the sub-converters that took the last 32 samples, oldest first, and the one that rests. -/
  lfsr : BitVec 31
  order : List Nat
  rest : Option Nat
  deriving DecidableEq, Repr

/-- An ADC channel before start-up. -/
def AdcChan.init : AdcChan := ⟨.off, 0, 0, false, false, 0b11, none, none, [], [], [], 0, List.range 32, some 32⟩

/-- A lane of a Crucible (R175), with what an open marker latched (R179). -/
structure Lane where
  a0i : Int
  a0q : Int
  a1i : Int
  a1q : Int
  xi : Int
  xq : Int
  kp : Nat
  kc : Nat
  opened : Bool
  closing : Bool
  v : Bool
  acc : Bool
  classify : Bool
  b0 : Nat
  /-- Last block plus one and truncated flag of the close marker taken. -/
  close : Option (Nat × Bool)
  cls : List W32
  deriving DecidableEq, Repr

/-- A lane after a load. -/
def Lane.init : Lane := ⟨0, 0, 0, 0, 0, 0, 0, 0, false, false, false, false, false, 0, none, []⟩

/-- Open marker of a beat (R171): tone, ctx, range, b0, open tick. -/
structure OpenMark where
  tone : Nat
  ctx : Byte
  range : BitVec 2
  b0 : Nat
  o : Tick
  deriving DecidableEq, Repr

/-- A beat in the input ring (R177): block, ring position, lanes with a sample, markers. -/
structure Beat where
  block : Nat
  pos : Nat
  v : BitVec 16
  opens : List OpenMark
  /-- Tone, last block plus one, truncated. -/
  closes : List (Nat × Nat × Bool)
  deriving DecidableEq, Repr

/-- Sequencer state of a Crucible (CRU_STAT.state, R202; spare and retired come from the map). -/
inductive CruSt where
  | noProg | executing | waiting | repeating | stopped | fault
  deriving DecidableEq, Repr

/-- What the module's copy of a stopped Crucible took that the Crucible did not (R199): an image, or a word written, by its offset in the
Crucible's block, or 2^16 + 4096 * bank + word for Drag memory. -/
inductive CopyStep where
  | image (b : List Byte)
  | write (off : Nat) (v : W32)
  deriving DecidableEq, Repr

/-- A physical Crucible (R175). Contexts, classifier records and publishing settings live in the register file. -/
structure Cru where
  st : CruSt
  faultCode : BitVec 4
  beatRule : Bool
  prog : Tbl W32
  codeCount : Nat
  /-- Ring words, keyed lane * 512 + position; work words likewise; Drag words, keyed bank * 4096 + word. -/
  ring : Tbl W32
  work : Tbl W32
  drag : Tbl W32
  lanes : Tbl Lane
  s : Tbl (BitVec 16)
  pc : Nat
  rp : Nat
  wp : Nat
  beats : List Beat
  /-- Block of the beat last taken. -/
  block : Nat
  /-- Repetition in progress: index and total (R186). -/
  rep : Option (Nat × Nat)
  /-- A stop request and its tick (R187). -/
  stopReq : Option Tick
  /-- Pending classifier set and its tick (R196). -/
  pending : Option (Tick × List (Nat × W32))
  /-- Swap in progress: begin tick and the spare (R201). -/
  swap : Option (Tick × Nat)
  retired : Bool
  /-- What the module's copy took since an image was named for the Crucible while it was stopped on a fault, oldest first, and the
  commit that is pending in the copy (R199). -/
  ahead : List CopyStep
  aheadPending : Option (Tick × List (Nat × W32))
  deriving DecidableEq, Repr

/-- A Crucible with no program. -/
def Cru.init : Cru where
  st := .noProg
  faultCode := 0
  beatRule := false
  prog := []
  codeCount := 0
  ring := []
  work := []
  drag := []
  lanes := []
  s := []
  pc := 0
  rp := 0
  wp := 0
  beats := []
  block := 0
  rep := none
  stopReq := none
  pending := none
  swap := none
  retired := false
  ahead := []
  aheadPending := none

end Sys2Proof.Machine
end

