-- ==== Sys2Proof/Machine/TypesC.lean ====
section
/-! DEFINITION. State of the Sprue, the Runner links, the time bases, the capture unit and the time-interval unit as
plain data (chapters 10-13). -/

namespace Sys2Proof.Machine

/-- Notification state of a channel's flag (R212): TB_MONO of the last one sent, and the event of a deferred one. -/
structure FlagNote where
  last : Option W64
  deferred : Option Ev
  deriving DecidableEq, Repr

/-- A Sprue timer's series (R215): the stamp of its next event. -/
structure TimerRun where
  next : Option Tick
  deriving DecidableEq, Repr

/-- A TRIG output (R216): ticks of pulses to come, and of the last one driven. -/
structure TrigOut where
  due : List Tick
  last : Option Tick
  deriving DecidableEq, Repr

/-- A TRIG output that has driven nothing. -/
def TrigOut.init : TrigOut := ⟨[], none⟩

/-- Runner port states (R232). -/
inductive PortSt where
  | off | signal | polarity | align | laneOrder | deskew | measure | enabled | stalled | resync | failed
  deriving DecidableEq, Repr

/-- What a sequenced item of a port carries: a fast-path block, with the port that a forwarded one arrived on, or a LOSS frame
(R244, R252). -/
inductive TxBody where
  | block (dest : BitVec 6) (src : BitVec 6) (ev : Ev) (via : Option Nat)
  | loss (c : Stamp) (src : BitVec 6)
  deriving DecidableEq, Repr

/-- An unacknowledged item (R248): sequence number, body, TB_LINK of its last sending, resends made. -/
structure TxItem where
  seq : BitVec 16
  body : TxBody
  sent : W64
  first : W64
  resends : Nat
  deriving DecidableEq, Repr

/-- The body of an ACK frame (R245). -/
structure AckFrame where
  ackSeq : BitVec 16
  txNext : BitVec 16
  conf : Stamp
  swapReq : BitVec 8
  laneErr : W32
  deriving DecidableEq, Repr

/-- The body of a TIME frame (R261). -/
structure TimeFrame where
  reply : Bool
  seq : Byte
  depth : BitVec 6
  unlocked : Bool
  holdover : Bool
  t1 : Stamp
  t1fine : BitVec 16
  t2 : Stamp
  t2fine : BitVec 16
  t3 : Tick
  t3fine : BitVec 16
  deriving DecidableEq, Repr

/-- What has become of a gap (R251, R252): unfilled, declared a loss, or a loss that is over though the gap is not filled. -/
inductive GapSt where
  | unfilled | lost | settled
  deriving DecidableEq, Repr

/-- A gap in the numbers received (R248): from its first number up to, not including, the next one after it; TB_LINK at which it
became known. -/
structure Gap where
  first : BitVec 16
  past : BitVec 16
  known : W64
  st : GapSt
  deriving DecidableEq, Repr

/-- Code errors met at once (R229, R250): TB_LINK, physical and logical lane, and how many. -/
structure LaneErrs where
  t : W64
  phys : Nat
  logical : Nat
  n : Nat
  deriving DecidableEq, Repr

/-- A Runner port (R227-R254). Lane states, port status bits and counters live in the register file. -/
structure Port where
  st : PortSt
  /-- TB_LINK at entry into the state. -/
  since : W64
  fails : Nat
  /-- Stage of a RESYNC under way: 3 ALIGN, 4 LANE_ORDER, 5 DESKEW. -/
  resyncStage : Nat
  /-- Unacknowledged items were overdue again after a resend (R250). -/
  resentAfterResync : Bool
  sentEnable : Bool
  gotEnable : Bool
  txSeq : BitVec 16
  unacked : List TxItem
  queue : List TxBody
  /-- Next number the far end will use, as last known, and the numbers below it that have not come, in order (R248). -/
  rxTop : BitVec 16
  gaps : List Gap
  lastAck : W64
  /-- Confirmed tick (R251). -/
  conf : Stamp
  /-- Logical lane to ask for in the next ACK, and the one asked for and not yet seen on L8 (R249). -/
  swapReq : Option (BitVec 3)
  swapWant : Option Nat
  /-- TB_LINK of the last swap in either direction (R250). -/
  swapAt : Option W64
  /-- Code errors of the port's own receive side, and those that received ACKs report (R249, R250). -/
  errs : List LaneErrs
  farErrs : List LaneErrs
  /-- Code errors of the last hour: TB_MONO, physical lane, how many (R411). -/
  hour : List (W64 × Nat × Nat)
  /-- Physical lanes excluded since SIGNAL (R233), and the slips of each lane's search (R236). -/
  out : BitVec 9
  search : Tbl Nat
  /-- ENABLED has been reached since SIGNAL: a RESYNC keeps what MEASURE found. -/
  wasUp : Bool
  /-- Columns in the elastic buffers (R231); TB_LINK of the last filler sequence sent (R230). -/
  fill : Nat
  lastFiller : W64
  /-- Lane settings in force: nine entries of 16 bytes (R241, R242). -/
  eq : List Byte
  /-- MEAS samples of the current set: count and largest, in ps; TB_LINK of the last update; a request is unanswered (R238). -/
  measN : Nat
  measMax : Int
  measAt : W64
  measBusy : Bool
  /-- A block that arrived here has been forwarded since the port was last brought up (R251). -/
  forwards : Bool
  deriving DecidableEq, Repr

/-- A port that has carried nothing. -/
def Port.init : Port where
  st := .off
  since := 0
  fails := 0
  resyncStage := 0
  resentAfterResync := false
  sentEnable := false
  gotEnable := false
  txSeq := 0
  unacked := []
  queue := []
  rxTop := 0
  gaps := []
  lastAck := 0
  conf := 0
  swapReq := none
  swapWant := none
  swapAt := none
  errs := []
  farErrs := []
  hour := []
  out := 0
  search := []
  wasUp := false
  fill := 16
  lastFiller := 0
  eq := []
  measN := 0
  measMax := 0
  measAt := 0
  measBusy := false
  forwards := false

/-- A loss on an importing port that still reaches later shots (R254): port, C, and the first confirmed tick announced
after it was over. -/
structure Loss where
  port : Nat
  c : Stamp
  done : Bool
  upTo : Option Stamp
  deriving DecidableEq, Repr

/-- The counters of the four time bases (R257), with the parts below their unit. -/
structure Clock where
  cast : Tick
  /-- The sample-clock PLLs have locked since the start, and TB_CAST counts. -/
  castRuns : Bool
  /-- TB_CAST's sub-tick phase moved by steps and servo, in ps (R265). -/
  castPhase : Int
  sys : W64
  /-- The 16-bit fraction of a ns of TB_SYS, and what its rate has moved below it, in units of 2^-41 ns. -/
  sysFrac : BitVec 16
  sysLow : BitVec 25
  link : W64
  /-- Part of the lane reference's column under way, in units of 2 * 10^-8 column. -/
  linkFrac : Nat
  mono : W64
  /-- Part of the watch-oscillator cycle under way, in units of 2.5 * 10^-8 ns (31.25 ns a cycle), and the quarter-ns beyond the
  whole ns of `mono`. -/
  monoPhase : Nat
  monoFrac : Nat
  deriving DecidableEq, Repr

/-- Servo of R259. -/
structure Servo where
  acc : Int
  rate : Int
  clamped : Bool
  deriving DecidableEq, Repr

/-- TB_CAST states (R263). -/
inductive CastSt where
  | free | acquiring | slewing | locked | holdover | adopting
  deriving DecidableEq, Repr

/-- Cast-time synchronisation (R260-R268). -/
structure CastSync where
  st : CastSt
  cause : BitVec 4
  servo : Servo
  /-- Last 64 offsets, newest first, in ps. -/
  samples : List Int
  /-- Samples of an acquisition, and the step it made due. -/
  acq : List Int
  stepDue : Option Int
  realign : Bool
  /-- TB_MONO at entry into HOLDOVER. -/
  holdSince : Option W64
  refinOk : Bool
  pllLock : Bool
  upUnlocked : Bool
  onBackup : Bool
  /-- TB_CAST has been stepped since the PLLs locked, and a realign permits one further step (R258). -/
  moved : Bool
  mayStep : Bool
  /-- Delay of the last exchange, in ps (R262). -/
  delay : Int
  /-- Requests outstanding: port, sequence, t1 and TB_MONO at sending. -/
  reqs : List (Nat × Byte × FineTick × W64)
  reqSeq : Byte
  /-- TB_MONO of the last reply, and of the start of ADOPTING. -/
  lastReply : W64
  adoptSince : W64
  /-- Latest TIME frame seen on each port: unlocked flag and depth. -/
  peers : Tbl (Bool × BitVec 6)
  deriving DecidableEq, Repr

/-- TB_SYS states (R278). -/
inductive SysSt where
  | disabled | listening | uncalibrated | locked | holdover
  deriving DecidableEq, Repr

/-- PTP and the TB_SYS servo (R270-R273). -/
structure SysSync where
  st : SysSt
  cause : BitVec 4
  servo : Servo
  ofs : Int
  /-- Last offsets, newest first, at most 16. -/
  recent : List Int
  holdSince : Option W64
  steps : BitVec 16
  stepArmed : Bool
  /-- The one step of R258 has been made. -/
  stepped : Bool
  slavePort : Option Nat
  /-- Best master known on each port, with TB_MONO of its last Announce. -/
  masters : Tbl (Option (Announce × W64))
  /-- Last Sync: t1, t2, correction; Delay_Req outstanding: identifier and t3; path delay known. -/
  sync : Option (Int × Int × Int)
  dreq : Option (BitVec 16 × Int)
  dreqId : BitVec 16
  pathDelay : Option Int
  deriving DecidableEq, Repr

/-- A transmit timestamp (R273). -/
structure TxTs where
  id : BitVec 16
  msgType : BitVec 4
  ts : W64
  deriving DecidableEq, Repr

/-- Capture unit states (R281). -/
inductive CapSt where
  | idle | armed | triggered | closed
  deriving DecidableEq, Repr

/-- A proposal of a trigger point (R290): F, T, firing module, fire kind. -/
structure Proposal where
  f : Tick
  t : Tick
  module : BitVec 6
  kind : BitVec 2
  deriving DecidableEq, Repr

/-- A mark in a capture record (R295): probe, element index, source index, new k, kind. -/
structure CapMark where
  probe : Nat
  elem : Nat
  src : Nat
  k : Nat
  kind : Nat
  deriving DecidableEq, Repr

/-- The capture unit (R280-R295). -/
structure Cap where
  st : CapSt
  session : Option W32
  armTick : Tick
  fired : Bool
  best : Option Proposal
  endTick : Option Tick
  /-- Flags of the header, R295. -/
  flags : BitVec 12
  /-- Present k of each probe, gap samples of each, and the marks. -/
  k : Tbl Nat
  gaps : Tbl Nat
  marks : List CapMark
  lastCheck : W64
  /-- TB_SYS at the close (R292). -/
  closeTai : W64
  /-- Decisions that each decision probe has recorded, and Crucible and stamp of every decision offered (R192, R280, R283). -/
  decs : Tbl (List CapElem)
  times : List (Nat × Tick)
  deriving DecidableEq, Repr

/-- A measurement unit of the time-interval unit (R298, R299). -/
structure Tiu where
  running : Bool
  done : Bool
  /-- Measurements still to come, and begin tick of the present one. -/
  left : Nat
  begun : Tick
  /-- First edge, in fs, and edges counted since. -/
  t0 : Option Int
  edges : Nat
  vals : List Int
  timeouts : Nat
  deriving DecidableEq, Repr

/-- A unit that has measured nothing. -/
def Tiu.init : Tiu := ⟨false, false, 0, 0, none, 0, [], 0⟩

end Sys2Proof.Machine
end

