-- ==== Sys2Proof/Machine/TypesD.lean ====
section
/-! DEFINITION. State of the host interface, the Flask, the log, the Coremaker and the non-volatile stores as plain
data (chapters 14-16). -/

namespace Sys2Proof.Machine

/-- The credential roles (R3, R331). -/
inductive Role where
  | operator | installer | maker
  deriving DecidableEq, Repr

/-- A transaction received whole (R307-R310). -/
structure RxTr where
  seq : W32
  msgType : Byte
  continued : Bool
  content : List Byte
  deriving DecidableEq, Repr

/-- A reply (R313): its request, message type, status and content. -/
structure Reply where
  ref : W32
  msgType : Byte
  status : Byte
  content : List Byte
  deriving DecidableEq, Repr

/-- A transaction sent and not acknowledged (R312). -/
structure TxTr where
  seq : W32
  msgType : Byte
  /-- Flags reply, notification, continued (R307). -/
  reply : Bool
  notify : Bool
  continued : Bool
  ref : W32
  status : Byte
  content : List Byte
  /-- TB_MONO of the last sending, the interval to the next one in ns, resends made, shown in sack. -/
  sentAt : W64
  interval : Nat
  resends : Nat
  sacked : Bool
  deriving DecidableEq, Repr

/-- A session (R306-R314, R443). -/
structure Session where
  id : W32
  role : Role
  slot : Nat
  keyId : BitVec 256
  profile : Nat
  /-- Highest packet number accepted, and those accepted in the window below it (R306). -/
  rxTop : Nat
  rxSeen : List Nat
  txPkt : Nat
  /-- Highest number up to which every transaction has been delivered (R311), and arrivals held out of order. -/
  ack : W32
  heldTr : List RxTr
  /-- Requests delivered and not yet acted on, oldest first; parts of a continued message (R310). -/
  inbox : List RxTr
  parts : List RxTr
  replies : List Reply
  txSeq : W32
  unacked : List TxTr
  /-- TB_MONO at which an acknowledgement became due (R311). -/
  ackDue : Option W64
  port : Nat
  peerIp : BitVec 128
  peerPort : BitVec 16
  peerMac : BitVec 48
  lastRx : W64
  /-- HI halves latched by this session's LO reads, keyed by address (R443). -/
  latches : Tbl W32
  /-- Refused privileged requests: second of the last entry, and count of the rest (R348). -/
  refusedSec : Option Nat
  refusedN : Nat
  deriving DecidableEq, Repr

/-- Progress of a handshake (R338, R341). -/
inductive HsSt where
  | signing | challenged | verifying | finished
  deriving DecidableEq, Repr

/-- A handshake (R337-R341). -/
structure Handshake where
  hs : W64
  role : Role
  profile : Nat
  keyId : BitVec 256
  st : HsSt
  sid : W32
  begun : W64
  /-- Transcript hash T1 (R339). -/
  t1 : BitVec 256
  moduleNonce : BitVec 256
  cipher : List Byte
  challengeSig : List Byte
  authSig : List Byte
  port : Nat
  peerIp : BitVec 128
  peerPort : BitVec 16
  peerMac : BitVec 48
  deriving DecidableEq, Repr

/-- Something that left the module: the record of its outputs. -/
inductive Sent where
  /-- A sealed transaction (R307). -/
  | trans (sid : W32) (t : TxTr)
  /-- A bare ACK and a NAK (R311, R316). -/
  | ack (sid ack : W32) (sack : BitVec 16)
  | nak (sid lost : W32)
  /-- Handshake messages (R338). -/
  | challenge (hs : W64) (nonce : BitVec 256) (cipher : List Byte) (sid : W32) (sig : List Byte)
  | finished (hs : W64) (sid : W32)
  | refuse (hs : W64) (cause : Byte)
  /-- Answers of R303: address resolution, neighbour discovery, echo; and raw frames (R320). -/
  | arp (port : Nat) (dst mac : BitVec 48) (ip : W32)
  | neighbour (port : Nat) (dst mac : BitVec 48) (ip : BitVec 128)
  | echo (port : Nat) (v6 : Bool) (dst : BitVec 48) (data : List Byte)
  | raw (port : Nat) (frame : List Byte)
  /-- A frame forwarded on a chain, with the correction added to it in ps (R274, R304). -/
  | forward (port : Nat) (bytes : List Byte) (corr : Option Int)
  | delayReq (port : Nat) (id : BitVec 16)
  /-- Runner traffic: a fast-path block and a frame as their bytes, K symbols and zero padding left out (R243, R244), a filler
  sequence as its columns and a training sequence as its lanes, K symbols as bytes (R230, R235), and the raw polarity pattern. -/
  | block (port : Nat) (bytes : List Byte)
  | frame (port : Nat) (bytes : List Byte)
  | filler (port : Nat) (columns : List (List Byte))
  | training (port : Nat) (lanes : List (List Byte))
  | rawPattern (port : Nat) (bits : BitVec 8)
  /-- A TRIG pulse from sample 0 of its tick (R216). -/
  | pulse (pin : Nat) (tick : Tick)
  deriving DecidableEq, Repr

/-- An upload check context (R318). -/
structure CheckCtx where
  profile : Nat
  value : W64
  next : Nat
  deriving DecidableEq, Repr

/-- A kept digest of content that failed its check (R316, R317): for a transaction, its session and number; for an
upload, its segment and version or its image. -/
structure KeptDigest where
  upload : Bool
  a : W32
  b : W32
  digest : BitVec 256
  deriving DecidableEq, Repr

/-- A credential slot (R331). -/
structure Cred where
  active : Bool
  mask : Byte
  key : BitVec 512
  label : BitVec 256
  deriving DecidableEq, Repr

/-- A slot never written. -/
def Cred.init : Cred := ⟨false, 0, 0, 0⟩

/-- A log entry (R349). -/
structure LogEntry where
  number : W32
  cls : BitVec 16
  role : Byte
  flags : Byte
  tai : W64
  mono : W64
  session : W32
  keyId : W64
  detail : List Byte
  prev : BitVec 256
  hash : BitVec 256
  deriving DecidableEq, Repr

/-- An entry handed to the NV store and not yet committed (R352). -/
structure LogPend where
  cls : BitVec 16
  role : Byte
  flags : Byte
  tai : W64
  mono : W64
  session : W32
  keyId : W64
  detail : List Byte
  deriving DecidableEq, Repr

/-- The log (R348-R352). -/
structure Log where
  num : W32
  head : BitVec 256
  entries : List LogEntry
  pend : List LogPend
  /-- Second (of TB_MONO) being counted, entries in it, and merged module events: class and count (R351). -/
  sec : Nat
  inSec : Nat
  merged : List (BitVec 16 × Nat)
  deriving DecidableEq, Repr

/-- A firmware image in an A/B slot (R342-R345). -/
structure FwImage where
  sha : BitVec 256
  svn : W32
  valid : Bool
  bytes : List Byte
  deriving DecidableEq, Repr

/-- Firmware images (R344): for each kind the slot in force, the two images, whether the image in force has completed a
start or a handover; staged records; an install in progress and its TB_MONO. -/
structure Firmware where
  active : Tbl Nat
  images : Tbl FwImage
  proven : Tbl Bool
  staged : Tbl (List Byte)
  install : Option (BitVec 8 × W64)
  deriving DecidableEq, Repr

/-- An attestation report waiting for its signature (R346). -/
structure Report where
  sid : W32
  seq : W32
  bytes : List Byte
  deriving DecidableEq, Repr

/-- A Coremaker request (R359). -/
structure CmkReq where
  routine : Byte
  target : BitVec 24
  deriving DecidableEq, Repr

/-- The context of a routine (R355-R361). -/
structure CmkCtx where
  routine : Byte
  target : BitVec 24
  pc : Nat
  m : Tbl W32
  stack : List Nat
  /-- TB_MONO at the start of the WAIT word under way. -/
  waiting : Option W64
  /-- The calibration set it had under construction when it yielded (R365). -/
  set : List (W32 × W32)
  deriving DecidableEq, Repr

/-- State of a calibration set (CAL_STAT.set_state, R377). -/
inductive SetSt where
  | none | awaitAccept | awaitTick | committed
  deriving DecidableEq, Repr

/-- The Coremaker (R355-R367). -/
structure Cmk where
  running : Option CmkCtx
  yielded : List CmkCtx
  queue : List CmkReq
  /-- Journal of the running routine, newest first. -/
  journal : List (W32 × W32)
  /-- Control-store words that differ from the store as built. -/
  store : Tbl (BitVec 160)
  /-- Internal trims, keyed by address. -/
  trims : Tbl W32
  /-- A fault that demands abort is pending; TB_MONO since an interrupt waits (R361). -/
  abort : Bool
  intSince : Option W64
  /-- The calibration set under construction, and the submitted one: routine, pairs, TB_MONO of submission, T_c. -/
  set : List (W32 × W32)
  setSt : SetSt
  sub : Option (Byte × List (W32 × W32) × W64 × Tick)
  /-- Refusals in a row for one sub-converter, keyed by trim address (R366). -/
  subRefusals : Tbl Nat
  /-- The module's own requests that found the queue full, to be made again (R359). -/
  asks : List CmkReq
  /-- ADC channel whose background calibration comes next (R358). -/
  bgNext : Nat
  /-- Last result. -/
  result : Byte
  lastTiu : W64
  lastScrub : W64
  deriving DecidableEq, Repr

/-- The NV store (R375): records keyed by class * 65536 + index; whether own records are held, having left the window; spare
sectors used. -/
structure Nv where
  recs : Tbl (List Byte)
  holding : Bool
  spares : Nat
  closures : List Closure
  /-- Closure records, and the shut-down record, held in the Moulder outside the window (R375). -/
  heldClosures : List Closure
  heldEnd : Bool
  /-- Capture record number lost at a reset (R294). -/
  capLost : Option W32
  /-- The last orderly stop wrote its shut-down record. -/
  clean : Bool
  deriving DecidableEq, Repr

end Sys2Proof.Machine
end

