-- ==== Sys2Proof/Machine/RegMap.lean ====
section
/-! DEFINITION. The CSR map: every register of the register maps of chapters 1 to 19, its address, its indices, its role
suffix, which bits of it are RW, W1C, WO and RC (all others read only or reserved), and its reset value. -/

namespace Sys2Proof.Machine

/-- The registers, by name. -/
inductive RegId where
  | mldIdent | mldPeMap | mldCruMap | mldRunqStat | mldResbufStat | peStat | peExc | peWdog | peEcc | peQstat
  | peLead | peLate | plyJcfg | plyJtgt | plyStat | plyCnt | plyUndr | mldPatStat | mldPatErr | rfCtrl
  | rfStat | rfClip | rfNcochk | tgain | tfrqLo | tfrqHi | tphs | flxCfg | flxClr | flxHold | flxOut | biaCfg
  | biaClr | biaHold | biaOut | grpCtrl | grpStrb | grpSw | grpStat | flxEdge | flxEpts | adcCtrl | adcTrig
  | adcStat | adcPool | adcCntA | adcCntB | demPhs | adcWdly | adcWcnt | cruStat | cruRing | cruCnt | cruDec
  | cruDragAddr | cruDragData | cruClsTlo | cruClsThi | cruPub | cruCtx | cruProg | sprCh | sprChLast
  | sprChExpLo | sprChExpHi | sprFlag | sprSwpub | sprCntA | sprCntB | sprLoop | sprRemote | sprUlat
  | sprRlyCfg | sprRlyDly | sprTmrCfg | sprTmrStartLo | sprTmrStartHi | sprTmrPer | sprTmrCnt | sprTrig
  | runPortCtrl | runPortStat | runPortMeas | runPortDacc | runPortConfLo | runPortConfHi | runPortCnt
  | runPortRxcnt | runPortEqgen | runLaneCtrl | runLaneStat | runLaneErr | runRoute | runFwd | timCastCfg
  | timCastCtrl | timCastStat | timCastNowLo | timCastNowHi | timCastOfs | timCastRate | timCastAge
  | timCastHold | timAsym | timSrvCast | timSrvSys | timSysCfg | timSysCtrl | timSysStat | timSysNowLo
  | timSysNowHi | timSysOfs | timSysRate | timSysAge | timSysOfsIn | timMonoLo | timMonoHi | timCorrSec
  | timCorrTlo | timCorrThi | timCorrFine | timTxqStat | timTxqId | timTxqTslo | timTxqTshi | timTcStat
  | capCtrl | capCfg | capProbe | capFire | capPre | capPost | capTrig | capGrpExpLo | capGrpExpHi | capStat
  | capRec | capCnt | tiuIn | tiuUcfg | tiuUn | tiuUctrl | tiuUstat | tiuUtmo | tiuUres | netPortCfg
  | netPortStat | netPortCnt | netIpv4 | netIpv6 | netMacLo | netMacHi | netUdp | netSessCfg | netSessStat
  | netCntA | netCntB | netChkCfg | netChkPolyLo | netChkPolyHi | netChkInitLo | netChkInitHi | flkStat
  | flkIdpub | flkArc | flkLogNum | flkLogHead | flkCnt | eqTap | cmkStat | cmkReq | cmkCnt | calStat
  | calCfg | calAccept | calRtt | fusStat | fusRdSel | fusRdLo | fusRdHi | fusProgLo | fusProgHi | nvsStat
  | cryCtrl | cryStat | cryCnt | cryPins | cryExc | cryRes | cryCst | cryRoutCfg | cryRoutFs | cryRoutOut
  | pwrFeed | pwrStat | pwrDomOn | pwrDomFlt | pwrCnt | pwrSlk | pwrReq | pwrReqc | pwrSpare | thmStat
  | thmRate | thmSns | thmCnt | mldBootStat | mldBootLast | mldStarts | mldAlert | mldFault | mldReset
  | cruCls | cruClsIn
  deriving DecidableEq, Repr

/-- One index of a register: first value, count, stride in bytes. -/
structure RegDim where
  first : Nat
  count : Nat
  stride : Nat
  deriving DecidableEq, Repr

/-- A row of the CSR map (R2, R3, R437). -/
structure RegRow where
  id : RegId
  base : Nat
  dims : List RegDim
  /-- The role suffix: `none` accepts any role. -/
  role : Option Role
  rw : W32
  w1c : W32
  wo : W32
  rc : W32
  /-- The constant part of the reset value. -/
  reset : W32
  deriving DecidableEq, Repr

/-- A register found at an address: its row and its indices. -/
structure RegRef where
  row : RegRow
  idx : List Nat
  deriving DecidableEq, Repr

/-- Registers from 0x0 (R437). -/
def rowsMld : List RegRow :=
  [⟨.mldIdent, 0x0, [], none, 0x0, 0x0, 0x0, 0x0, 0x4B040000⟩, -- device_code [31:16], hw_rev [15:12], stepping [11:8], variant [7:4]
   ⟨.mldPeMap, 0x400, [⟨0, 128, 4⟩], none, 0x0, 0x0, 0x0, 0x0, 0x0⟩, -- swap_pending [8], phys [7:0]
   ⟨.mldCruMap, 0x600, [⟨0, 32, 4⟩], none, 0x0, 0x0, 0x0, 0x0, 0x0⟩, -- swap_pending [8], phys [5:0]
   ⟨.mldRunqStat, 0x800, [], none, 0x0, 0x0, 0x0, 0x0, 0x0⟩, -- clusters_claimed [23:16], running [15:8], queued [7:0]
   ⟨.mldResbufStat, 0x804, [], none, 0x0, 0x100000, 0x0, 0x0, 0x0⟩, -- high_water [20], used_kib [18:0]
   ⟨.mldPatStat, 0x900, [], none, 0x0, 0x0, 0x0, 0x0, 0x0⟩, -- capture_gib [31:28], pinned_blocks [21:12], active [11:0]
   ⟨.mldPatErr, 0x904, [], none, 0x0, 0x0, 0x0, 0xFFFFFFFF, 0x0⟩, -- dram_uncorrectable [31:16], upload_refused [15:0]
   ⟨.mldBootStat, 0xA00, [], none, 0x0, 0x0, 0x0, 0x0, 0x10400000⟩, -- stage [31:28], straps [27:26], counter [25:24], ingot [23], settling [22], unclean_end [21], config_default [20], image_fallback [19], last_fail [15:8], start_cause [7:0]
   ⟨.mldBootLast, 0xA10, [⟨0, 4, 4⟩], none, 0x0, 0x0, 0x0, 0x0, 0x0⟩, -- start_cause [31:24], fail_cause [23:16], fail_stage [15:12], counter [11:10], ingot [9], unclean_end [8]
   ⟨.mldStarts, 0xA20, [], none, 0x0, 0x0, 0x0, 0x0, 0x0⟩, -- starts [31:0]
   ⟨.mldAlert, 0xB00, [], none, 0x0, 0x3FF, 0x0, 0x0, 0x0⟩, -- image [9], config [8], link [7], standby [6], wear [5], block [4], starved [3], stage [2], feed [1], thermal [0]
   ⟨.mldFault, 0xB04, [], none, 0x0, 0x0, 0x0, 0x0, 0xC0FF0000⟩, -- fault_path [31], fault_n [30], fatal_domain [23:16], blocks_faulted [15:8]
   ⟨.mldReset, 0xB10, [], (some .installer), 0x0, 0x0, 0xFF000001, 0x0, 0x0⟩] -- key [31:24], reset [0]

/-- Registers from 0x10000 (R437). -/
def rowsFlk : List RegRow :=
  [⟨.flkStat, 0x10000, [], none, 0x0, 0x0, 0x0, 0x0, 0x0⟩, -- state [31:30], operator_keys [29:24], installer_keys [23:20], maker_keys [19:17], pending [16:14], log_fill [13:7]
   ⟨.flkIdpub, 0x10010, [⟨0, 16, 4⟩], none, 0x0, 0x0, 0x0, 0x0, 0x0⟩, -- key [31:0]
   ⟨.flkArc, 0x10100, [⟨0, 16, 4⟩], none, 0x0, 0x0, 0x0, 0x0, 0x0⟩, -- value [31:0]
   ⟨.flkLogNum, 0x10200, [], none, 0x0, 0x0, 0x0, 0x0, 0x0⟩, -- number [31:0]
   ⟨.flkLogHead, 0x10204, [⟨0, 8, 4⟩], none, 0x0, 0x0, 0x0, 0x0, 0x0⟩, -- hash [31:0]
   ⟨.flkCnt, 0x10240, [], none, 0x0, 0x0, 0x0, 0xFFFFFFFF, 0x0⟩] -- refused [31:16], rate [15:8], image_fail [7:0]

/-- Registers from 0x20000 (R437). -/
def rowsPwr : List RegRow :=
  [⟨.pwrFeed, 0x20000, [], none, 0x0, 0x0, 0x0, 0x0, 0x0⟩, -- feed_b [31:16], feed_a [15:0]
   ⟨.pwrStat, 0x20004, [], none, 0x0, 0x100, 0x0, 0x0, 0x0⟩, -- input_w [31:23], riser_pct [22:16], stages_ok [15:12], feed_a_ok [11], feed_b_ok [10], brownout [9], dropout [8]
   ⟨.pwrDomOn, 0x20008, [], none, 0x0, 0x0, 0x0, 0x0, 0x0⟩, -- domains [29:0]
   ⟨.pwrDomFlt, 0x2000C, [], none, 0x0, 0x0, 0x0, 0x3FFFFFFF, 0x0⟩, -- domains [29:0]
   ⟨.pwrCnt, 0x20010, [], none, 0x0, 0x0, 0x0, 0xFFFFFFFF, 0x0⟩, -- brownouts [31:24], dropouts [23:16], stage_fail [15:8], overvolt [7:0]
   ⟨.pwrSlk, 0x20100, [⟨0, 13, 4⟩], none, 0x0, 0x0, 0x0, 0x0, 0x0⟩, -- starved [31], slack [23:16], rail_mv [9:0]
   ⟨.pwrReq, 0x20200, [⟨0, 136, 4⟩], none, 0x0, 0x0, 0x0, 0x0, 0x0⟩, -- req_mv [9:0]
   ⟨.pwrReqc, 0x20440, [⟨0, 34, 4⟩], none, 0x0, 0x0, 0x0, 0x0, 0x0⟩, -- req_mv [9:0]
   ⟨.pwrSpare, 0x20500, [], none, 0x0, 0x0, 0x0, 0x0, 0x2000000⟩, -- engines_left [31:28], crucibles_left [27:26], standby [25], pm_rows_min [15:8], dram_rows_min [7:0]
   ⟨.thmStat, 0x20800, [], none, 0x0, 0x0, 0x0, 0x0, 0x0⟩, -- level [31:29], hold [28], warning [27], hottest [26:21], hottest_t [15:0]
   ⟨.thmRate, 0x20804, [], none, 0x0, 0x0, 0x0, 0x0, 0x0⟩, -- rate [15:0]
   ⟨.thmSns, 0x20900, [⟨0, 64, 4⟩], none, 0x0, 0x0, 0x0, 0x0, 0x0⟩, -- failed [31], stopped [30], no_neighbour [29], value [15:0]
   ⟨.thmCnt, 0x20A00, [], none, 0x0, 0x0, 0x0, 0xFFFFFF00, 0x0⟩] -- raises [31:24], sensor_failures [23:16], holds [15:8], shutdowns_24h [7:0]

/-- Registers from 0x30000 (R437). -/
def rowsTimA : List RegRow :=
  [⟨.timCastCfg, 0x30000, [], (some .installer), 0xF703, 0x0, 0x0, 0x0, 0x0⟩, -- backup_valid [15], backup_port [14:12], upstream_port [10:8], role [1:0]
   ⟨.timCastCtrl, 0x30004, [], (some .installer), 0x0, 0x0, 0x1, 0x0, 0x0⟩, -- realign [0]
   ⟨.timCastStat, 0x30008, [], none, 0x0, 0x200000, 0x0, 0x0, 0xFE000000⟩, -- depth [31:26], unlocked [25], upstream_unlocked [24], refin_ok [23], pll_lock [22], stepped [21], active_port [20:18], on_backup [17], cause [11:8], state [2:0]
   ⟨.timCastNowLo, 0x3000C, [], none, 0x0, 0x0, 0x0, 0x0, 0x0⟩, -- now [31:0]
   ⟨.timCastNowHi, 0x30010, [], none, 0x0, 0x0, 0x0, 0x0, 0x0⟩, -- now [31:0]
   ⟨.timCastOfs, 0x30014, [], none, 0x0, 0x0, 0x0, 0x0, 0x0⟩, -- theta [31:0]
   ⟨.timCastRate, 0x30018, [], none, 0x0, 0x0, 0x0, 0x0, 0x0⟩, -- rate [31:0]
   ⟨.timCastAge, 0x3001C, [], none, 0x0, 0x0, 0x0, 0x0, 0x0⟩, -- age_ms [31:0]
   ⟨.timCastHold, 0x30020, [], (some .installer), 0xFFFF, 0x0, 0x0, 0x0, 0x3E8⟩, -- limit [15:0]
   ⟨.timAsym, 0x30040, [⟨0, 8, 4⟩], (some .installer), 0xFFFF, 0x0, 0x0, 0x0, 0x0⟩, -- asym [15:0]
   ⟨.timSrvCast, 0x30060, [], (some .installer), 0xFFFF, 0x0, 0x0, 0x0, 0x0⟩, -- kp_exp [15:8], ki_exp [7:0]
   ⟨.timSrvSys, 0x30064, [], (some .installer), 0xFFFF, 0x0, 0x0, 0x0, 0x0⟩, -- kp_exp [15:8], ki_exp [7:0]
   ⟨.timSysCfg, 0x30080, [], (some .installer), 0xFF00FC01, 0x0, 0x0, 0x0, 0x0⟩, -- domain [31:24], host_mode [15], chain [14], transport [13:12], ports [11:10], enable [0]
   ⟨.timSysCtrl, 0x30084, [], (some .installer), 0x0, 0x0, 0x1, 0x0, 0x0⟩, -- step_arm [0]
   ⟨.timSysStat, 0x30088, [], none, 0x0, 0x0, 0x0, 0x0, 0x0⟩, -- steps [31:16], cause [11:8], step_armed [5], slave_port [4], state [2:0]
   ⟨.timSysNowLo, 0x3008C, [], none, 0x0, 0x0, 0x0, 0x0, 0x0⟩] -- now [31:0]

/-- Registers from 0x30090 (R437). -/
def rowsTimB : List RegRow :=
  [⟨.timSysNowHi, 0x30090, [], none, 0x0, 0x0, 0x0, 0x0, 0x0⟩, -- now [31:0]
   ⟨.timSysOfs, 0x30094, [], none, 0x0, 0x0, 0x0, 0x0, 0x0⟩, -- value [31:0]
   ⟨.timSysRate, 0x30098, [], none, 0x0, 0x0, 0x0, 0x0, 0x0⟩, -- value [31:0]
   ⟨.timSysAge, 0x3009C, [], none, 0x0, 0x0, 0x0, 0x0, 0x0⟩, -- value [31:0]
   ⟨.timSysOfsIn, 0x300A0, [], (some .installer), 0x0, 0x0, 0xFFFFFFFF, 0x0, 0x0⟩, -- theta [31:0]
   ⟨.timMonoLo, 0x300B0, [], none, 0x0, 0x0, 0x0, 0x0, 0x0⟩, -- now [31:0]
   ⟨.timMonoHi, 0x300B4, [], none, 0x0, 0x0, 0x0, 0x0, 0x0⟩, -- now [31:0]
   ⟨.timCorrSec, 0x300C0, [], none, 0x0, 0x0, 0x0, 0x0, 0x0⟩, -- sec [31:0]
   ⟨.timCorrTlo, 0x300C4, [], none, 0x0, 0x0, 0x0, 0x0, 0x0⟩, -- tick [31:0]
   ⟨.timCorrThi, 0x300C8, [], none, 0x0, 0x0, 0x0, 0x0, 0x0⟩, -- tick [31:0]
   ⟨.timCorrFine, 0x300CC, [], none, 0x0, 0x0, 0x0, 0x0, 0x0⟩, -- valid [31], fine [8:0]
   ⟨.timTxqStat, 0x30100, [⟨0, 2, 32⟩], none, 0x0, 0x8000, 0x0, 0xFFFF0000, 0x0⟩, -- overflows [31:16], overflow [15], count [4:0]
   ⟨.timTxqId, 0x30104, [⟨0, 2, 32⟩], none, 0x0, 0x0, 0x0, 0x8F00FFFF, 0x0⟩, -- valid [31], msg_type [27:24], identifier [15:0]
   ⟨.timTxqTslo, 0x30108, [⟨0, 2, 32⟩], none, 0x0, 0x0, 0x0, 0x0, 0x0⟩, -- ts [31:0]
   ⟨.timTxqTshi, 0x3010C, [⟨0, 2, 32⟩], none, 0x0, 0x0, 0x0, 0x0, 0x0⟩, -- ts [31:0]
   ⟨.timTcStat, 0x30140, [], none, 0x0, 0x0, 0x0, 0xFFFFFFFF, 0x0⟩] -- corrected [31:16], unchanged [15:0]

/-- All registers of the block. -/
def rowsTim : List RegRow := rowsTimA ++ rowsTimB

/-- Registers from 0x40000 (R437). -/
def rowsSprA : List RegRow :=
  [⟨.sprCh, 0x40000, [⟨0, 256, 16⟩], (some .installer), 0xFC000000, 0x0, 0x0, 0x0, 0x10000000⟩, -- import [31], notify [30], owner [29:28], attr [27:26]
   ⟨.sprChLast, 0x40004, [⟨0, 256, 16⟩], none, 0x0, 0x0, 0x0, 0x0, 0x0⟩, -- payload [31:16], hop [15:11], remote [10], producer [9:0]
   ⟨.sprChExpLo, 0x40008, [⟨0, 256, 16⟩], (some .installer), 0xFFFFFFFF, 0x0, 0x0, 0x0, 0x0⟩, -- dest [31:0]
   ⟨.sprChExpHi, 0x4000C, [⟨0, 256, 16⟩], (some .installer), 0xFFFFFFFF, 0x0, 0x0, 0x0, 0x0⟩, -- dest [31:0]
   ⟨.sprFlag, 0x41000, [⟨0, 8, 4⟩], none, 0x0, 0xFFFFFFFF, 0x0, 0x0, 0x0⟩, -- flag [31:0]
   ⟨.sprSwpub, 0x41020, [], none, 0x0, 0x0, 0xFFFF00FF, 0x0, 0x0⟩, -- payload [31:16], channel [7:0]
   ⟨.sprCntA, 0x41040, [], none, 0x0, 0x0, 0x0, 0xFFFFFFFF, 0x0⟩, -- coalesced [31:16], hop_drops [15:0]
   ⟨.sprCntB, 0x41044, [], none, 0x0, 0x0, 0x0, 0xFFFFFF00, 0x0⟩, -- loop_rejects [31:24], trig_late [23:16], held_swap [15:8]
   ⟨.sprLoop, 0x41048, [], none, 0x0, 0x0, 0x0, 0x0, 0x0⟩, -- channel [31:24], stamp [23:0]
   ⟨.sprRemote, 0x4104C, [], none, 0x0, 0x0, 0x0, 0xFFFFFFFF, 0x7FFF0000⟩, -- min_margin [31:16], late_outside [15:8], not_imported [7:0]
   ⟨.sprUlat, 0x41100, [⟨0, 64, 4⟩], (some .installer), 0xFFFF, 0x0, 0x0, 0x0, 0x0⟩, -- ticks [15:0]
   ⟨.sprRlyCfg, 0x42000, [⟨0, 64, 8⟩], (some .installer), 0xC000FFFF, 0x0, 0x0, 0x0, 0x0⟩, -- enable [31], const [30], out_channel [15:8], in_channel [7:0]
   ⟨.sprRlyDly, 0x42004, [⟨0, 64, 8⟩], (some .installer), 0xFFFFFFFF, 0x0, 0x0, 0x0, 0x0⟩, -- const_payload [31:16], delay [15:0]
   ⟨.sprTmrCfg, 0x43000, [⟨0, 16, 32⟩], (some .operator), 0x80FFFFFF, 0x0, 0x0, 0x0, 0x0⟩, -- enable [31], payload [23:8], channel [7:0]
   ⟨.sprTmrStartLo, 0x43004, [⟨0, 16, 32⟩], (some .operator), 0xFFFFFFFF, 0x0, 0x0, 0x0, 0x0⟩, -- start [31:0]
   ⟨.sprTmrStartHi, 0x43008, [⟨0, 16, 32⟩], (some .operator), 0xFF, 0x0, 0x0, 0x0, 0x0⟩] -- start [7:0]

/-- Registers from 0x4300C (R437). -/
def rowsSprB : List RegRow :=
  [⟨.sprTmrPer, 0x4300C, [⟨0, 16, 32⟩], (some .operator), 0xFFFFFFFF, 0x0, 0x0, 0x0, 0x0⟩, -- period [31:0]
   ⟨.sprTmrCnt, 0x43010, [⟨0, 16, 32⟩], none, 0x0, 0x0, 0x0, 0xFFFFFFFF, 0x0⟩, -- count [31:0]
   ⟨.sprTrig, 0x43800, [⟨0, 8, 4⟩], (some .installer), 0xE0FFFFFF, 0x0, 0x0, 0x0, 0x0⟩] -- enable [31], dir [30], falling [29], delay [23:8], channel [7:0]

/-- All registers of the block. -/
def rowsSpr : List RegRow := rowsSprA ++ rowsSprB

/-- Registers from 0x50000 (R437). -/
def rowsRun : List RegRow :=
  [⟨.runPortCtrl, 0x50000, [⟨0, 8, 0x400⟩], (some .installer), 0x7, 0x0, 0x8, 0x0, 0x0⟩, -- retrain [3], manual_align [2], import_en [1], enable [0]
   ⟨.runPortStat, 0x50004, [⟨0, 8, 0x400⟩], none, 0x0, 0x600000, 0x0, 0x0, 0x0⟩, -- peer_module [31:26], peer_port [25:23], delay_changed [22], lane_swapped [21], eq_default [20], reversed [19], rx_spare_for [18:16], rx_spare_used [15], tx_spare_for [14:12], tx_spare_used [11], state [3:0]
   ⟨.runPortMeas, 0x50008, [⟨0, 8, 0x400⟩], none, 0x0, 0x0, 0x0, 0x0, 0x0⟩, -- valid [31], delay [23:0]
   ⟨.runPortDacc, 0x5000C, [⟨0, 8, 0x400⟩], (some .installer), 0xFFFFFF, 0x0, 0x0, 0x0, 0x0⟩, -- delay [23:0]
   ⟨.runPortConfLo, 0x50010, [⟨0, 8, 0x400⟩], none, 0x0, 0x0, 0x0, 0x0, 0x0⟩, -- conf_lo [31:0]
   ⟨.runPortConfHi, 0x50014, [⟨0, 8, 0x400⟩], none, 0x0, 0x0, 0x0, 0x0, 0x0⟩, -- conf_hi [7:0]
   ⟨.runPortCnt, 0x50018, [⟨0, 8, 0x400⟩], none, 0x0, 0x0, 0x0, 0xFFFFFFFF, 0x0⟩, -- stalls [31:24], swaps [23:16], resyncs [15:8], losses [7:0]
   ⟨.runPortRxcnt, 0x5001C, [⟨0, 8, 0x400⟩], none, 0x0, 0x0, 0x0, 0xFFFFFFFF, 0x0⟩, -- crc_fail [31:16], duplicates [15:0]
   ⟨.runPortEqgen, 0x50020, [⟨0, 8, 0x400⟩], none, 0x0, 0x0, 0x0, 0x0, 0x0⟩, -- generation [31:0]
   ⟨.runLaneCtrl, 0x50100, [⟨0, 8, 0x400⟩, ⟨0, 9, 16⟩], (some .installer), 0x0, 0x0, 0x1, 0x0, 0x0⟩, -- slip [0]
   ⟨.runLaneStat, 0x50104, [⟨0, 8, 0x400⟩, ⟨0, 9, 16⟩], none, 0x0, 0x0, 0x0, 0x0, 0xF00⟩, -- skew [21:16], slips [15:12], logical [11:8], faulty [3], aligned [2], inverted [1], signal [0]
   ⟨.runLaneErr, 0x50108, [⟨0, 8, 0x400⟩, ⟨0, 9, 16⟩], none, 0x0, 0x0, 0x0, 0xFFFFFFFF, 0x0⟩, -- code_err [31:16], disp_err [15:0]
   ⟨.runRoute, 0x52000, [⟨0, 64, 4⟩], (some .installer), 0x80000007, 0x0, 0x0, 0x0, 0x0⟩, -- valid [31], port [2:0]
   ⟨.runFwd, 0x52100, [], none, 0x0, 0x0, 0x0, 0xFFFFFFFF, 0x0⟩] -- no_route [31:16], wrong_port [15:0]

/-- Registers from 0x60000 (R437). -/
def rowsNetA : List RegRow :=
  [⟨.netPortCfg, 0x60000, [⟨0, 2, 0x100⟩], (some .installer), 0x7F3F0F, 0x0, 0x0, 0x0, 0x401809⟩, -- v6_prefix [22:16], v4_prefix [13:8], ipv6_en [3], ipv4_en [2], jumbo [1], enable [0]
   ⟨.netPortStat, 0x60004, [⟨0, 2, 0x100⟩], none, 0x0, 0x0, 0x0, 0x0, 0x0⟩, -- media [7:5], fec_lock [4], link [0]
   ⟨.netPortCnt, 0x60008, [⟨0, 2, 0x100⟩], none, 0x0, 0x0, 0x0, 0xFFFFFFFF, 0x0⟩, -- discarded [31:16], fec_uncorrected [15:0]
   ⟨.netIpv4, 0x60010, [⟨0, 2, 0x100⟩], (some .installer), 0xFFFFFFFF, 0x0, 0x0, 0x0, 0x0⟩, -- addr [31:0]
   ⟨.netIpv6, 0x60020, [⟨0, 2, 0x100⟩, ⟨0, 4, 4⟩], (some .installer), 0xFFFFFFFF, 0x0, 0x0, 0x0, 0x0⟩, -- addr [31:0]
   ⟨.netMacLo, 0x60030, [⟨0, 2, 0x100⟩], none, 0x0, 0x0, 0x0, 0x0, 0x0⟩, -- mac [31:0]
   ⟨.netMacHi, 0x60034, [⟨0, 2, 0x100⟩], none, 0x0, 0x0, 0x0, 0x0, 0x0⟩, -- mac [31:0]
   ⟨.netUdp, 0x60800, [], (some .installer), 0xFFFF, 0x0, 0x0, 0x0, 0xB7FC⟩, -- port [15:0]
   ⟨.netSessCfg, 0x60804, [], (some .installer), 0xFFFF, 0x0, 0x0, 0x0, 0xA⟩, -- idle [15:0]
   ⟨.netSessStat, 0x60808, [], none, 0x0, 0x0, 0x0, 0x0, 0x0⟩, -- maker [19:15], installer [14:10], operator [9:5], total [4:0]
   ⟨.netCntA, 0x60810, [], none, 0x0, 0x0, 0x0, 0xFFFFFFFF, 0x0⟩, -- check_fail [31:16], check_only [15:0]
   ⟨.netCntB, 0x60814, [], none, 0x0, 0x0, 0x0, 0xFFFFFFFF, 0x0⟩, -- tag_fail [31:24], replay [23:16], hdr_corrected [15:8], hdr_uncorrectable [7:0]
   ⟨.netChkCfg, 0x60900, [⟨0, 8, 32⟩], (some .installer), 0x77F, 0x0, 0x0, 0x0, 0x720⟩, -- in_use [31], invert [10], refout [9], refin [8], width [6:0]
   ⟨.netChkPolyLo, 0x60904, [⟨0, 8, 32⟩], (some .installer), 0xFFFFFFFF, 0x0, 0x0, 0x0, 0x0⟩, -- value [31:0]
   ⟨.netChkPolyHi, 0x60908, [⟨0, 8, 32⟩], (some .installer), 0xFFFFFFFF, 0x0, 0x0, 0x0, 0x0⟩, -- value [31:0]
   ⟨.netChkInitLo, 0x6090C, [⟨0, 8, 32⟩], (some .installer), 0xFFFFFFFF, 0x0, 0x0, 0x0, 0x0⟩] -- value [31:0]

/-- Registers from 0x60910 (R437). -/
def rowsNetB : List RegRow :=
  [⟨.netChkInitHi, 0x60910, [⟨0, 8, 32⟩], (some .installer), 0xFFFFFFFF, 0x0, 0x0, 0x0, 0x0⟩] -- value [31:0]

/-- All registers of the block. -/
def rowsNet : List RegRow := rowsNetA ++ rowsNetB

/-- Registers from 0x70000 (R437). -/
def rowsCmk : List RegRow :=
  [⟨.cmkStat, 0x70000, [], none, 0x0, 0x0, 0x0, 0x0, 0x0⟩, -- state [31:30], yielded [29:28], queued [27:23], journal [22:12], pc [11:0]
   ⟨.cmkReq, 0x70004, [], (some .installer), 0x0, 0x0, 0xFFFFFFFF, 0x0, 0x0⟩, -- routine [31:24], target [23:0]
   ⟨.cmkCnt, 0x70008, [], none, 0x0, 0x0, 0x0, 0xFFFFFFFF, 0x0⟩] -- aborted [31:24], timeouts [23:16], yields [15:8], merged [7:0]

/-- Registers from 0x80000 (R437). -/
def rowsCal : List RegRow :=
  [⟨.calStat, 0x80000, [], none, 0x0, 0x0, 0x0, 0xFF0000, 0x0⟩, -- last_routine [31:24], refused [23:16], set_state [1:0]
   ⟨.calCfg, 0x80004, [], (some .installer), 0x7, 0x0, 0x0, 0x0, 0x0⟩, -- auto [2:0]
   ⟨.calAccept, 0x80008, [], (some .installer), 0x0, 0x0, 0x3, 0x0, 0x0⟩, -- discard [1], accept [0]
   ⟨.calRtt, 0x80100, [⟨0, 32, 4⟩], none, 0x0, 0x0, 0x0, 0x0, 0x0⟩, -- delay [23:0]
   ⟨.fusStat, 0x81000, [], none, 0x0, 0x0, 0x0, 0x0, 0x0⟩, -- next_row [31:20], abandoned [19:12], bad [11:4], window [3], exhausted [2]
   ⟨.fusRdSel, 0x81004, [], none, 0xFFFFFFFF, 0x0, 0x0, 0x0, 0x0⟩, -- value [31:0]
   ⟨.fusRdLo, 0x81008, [], none, 0x0, 0x0, 0x0, 0x0, 0x0⟩, -- value [31:0]
   ⟨.fusRdHi, 0x8100C, [], none, 0x0, 0x0, 0x0, 0x0, 0x0⟩, -- value [31:0]
   ⟨.fusProgLo, 0x81010, [], (some .maker), 0xFFFFFFFF, 0x0, 0x0, 0x0, 0x0⟩, -- value [31:0]
   ⟨.fusProgHi, 0x81014, [], (some .maker), 0xFFFFF, 0x0, 0x80000000, 0x0, 0x0⟩, -- go [31], class [19:12], key [11:0]
   ⟨.nvsStat, 0x82000, [], none, 0x0, 0x0, 0x0, 0x0, 0x0⟩] -- held [31:19], spares_used [18:12], window [11]

/-- Registers from 0x90000 (R437). -/
def rowsCry : List RegRow :=
  [⟨.cryCtrl, 0x90000, [], (some .installer), 0x1F01, 0x0, 0x0, 0x0, 0xA00⟩, -- blank_ms [12:8], enable [0]
   ⟨.cryStat, 0x90004, [], none, 0x0, 0x0, 0x0, 0x0, 0x0⟩, -- vref_low [8], active [7], channel [3:0]
   ⟨.cryCnt, 0x90008, [], none, 0x0, 0x0, 0x0, 0xFFFFFFFF, 0x0⟩, -- opens [31:16], discarded [15:0]
   ⟨.cryPins, 0x90100, [⟨0, 16, 16⟩], (some .installer), 0x3F3F3F3F, 0x0, 0x0, 0x0, 0x0⟩, -- i_pos [29:24], i_neg [21:16], v_pos [13:8], v_neg [5:0]
   ⟨.cryExc, 0x90104, [⟨0, 16, 16⟩], (some .installer), 0xFFF9FFFF, 0x0, 0x0, 0x0, 0x1880064⟩, -- enable [31], gain [30:29], avg_m1 [28:23], settle [22:19], exc [16:0]
   ⟨.cryRes, 0x90108, [⟨0, 16, 16⟩], none, 0x0, 0x0, 0x0, 0x0, 0x0⟩, -- milliohm [31:0]
   ⟨.cryCst, 0x9010C, [⟨0, 16, 16⟩], none, 0x0, 0x0, 0x0, 0x0, 0x0⟩, -- count [31:16], status [2:0]
   ⟨.cryRoutCfg, 0x90400, [⟨0, 4, 16⟩], (some .installer), 0x800FFFFF, 0x0, 0x0, 0x0, 0x0⟩, -- enable [31], channel [19:16], open_code [15:0]
   ⟨.cryRoutFs, 0x90404, [⟨0, 4, 16⟩], (some .installer), 0xFFFFFFFF, 0x0, 0x0, 0x0, 0x2710⟩, -- fs_ohm [31:0]
   ⟨.cryRoutOut, 0x90408, [⟨0, 4, 16⟩], none, 0x0, 0x0, 0x0, 0x0, 0x10000⟩] -- at_open [16], code [15:0]

/-- Registers from 0xA0000 (R437). -/
def rowsTiu : List RegRow :=
  [⟨.tiuIn, 0xA0000, [⟨0, 8, 4⟩], (some .operator), 0x3F, 0x0, 0x0, 0xFFFF0000, 0x0⟩, -- missed [31:16], falling [5], enable [4], prescale [3:0]
   ⟨.tiuUcfg, 0xA0100, [⟨0, 4, 64⟩], (some .operator), 0xFFFF3770, 0x0, 0x0, 0x0, 0x10000⟩, -- timeout [31:16], mode [13:12], in_b [10:8], in_a [6:4]
   ⟨.tiuUn, 0xA0104, [⟨0, 4, 64⟩], (some .operator), 0xFFFFFFFF, 0x0, 0x0, 0x0, 0x10000⟩, -- m [31:16], n_log2 [15:0]
   ⟨.tiuUctrl, 0xA010C, [⟨0, 4, 64⟩], (some .operator), 0x0, 0x0, 0x3, 0x0, 0x0⟩, -- abort [1], start [0]
   ⟨.tiuUstat, 0xA0110, [⟨0, 4, 64⟩], none, 0x0, 0x0, 0x0, 0x0, 0x0⟩, -- state [31:30], valid [24:0]
   ⟨.tiuUtmo, 0xA0114, [⟨0, 4, 64⟩], none, 0x0, 0x0, 0x0, 0x0, 0x0⟩, -- timeouts [24:0]
   ⟨.tiuUres, 0xA0118, [⟨0, 4, 64⟩, ⟨0, 7, 4⟩], none, 0x0, 0x0, 0x0, 0x0, 0x0⟩] -- value [31:0]

/-- Registers from 0xB0000 (R437). -/
def rowsCap : List RegRow :=
  [⟨.capCtrl, 0xB0000, [], (some .operator), 0x0, 0x0, 0xF, 0x0, 0x0⟩, -- release [3], abort [2], fire [1], arm [0]
   ⟨.capCfg, 0xB0004, [], (some .operator), 0xE0000000, 0x0, 0x0, 0x0, 0x0⟩, -- mk3 [31], role [30:29]
   ⟨.capProbe, 0xB0010, [⟨0, 4, 4⟩], (some .operator), 0xFFFFE000, 0x0, 0x0, 0x0, 0x0⟩, -- enable [31], kind [30:29], ch [28:24], tone [23:20], comp [19:18], interval_log2 [17:13]
   ⟨.capFire, 0xB0020, [⟨0, 4, 4⟩], (some .operator), 0xE0FFFFFF, 0x0, 0x0, 0x0, 0x0⟩, -- kind [31:30], falling [29], arg [23:16], level [15:0]
   ⟨.capPre, 0xB0030, [], (some .operator), 0xFFFFFFFF, 0x0, 0x0, 0x0, 0x0⟩, -- ticks [31:0]
   ⟨.capPost, 0xB0034, [], (some .operator), 0xFFFFFFFF, 0x0, 0x0, 0x0, 0x0⟩, -- ticks [31:0]
   ⟨.capTrig, 0xB0038, [], (some .installer), 0xFFFF, 0x0, 0x0, 0x0, 0x0⟩, -- delay [15:0]
   ⟨.capGrpExpLo, 0xB0040, [], (some .installer), 0xFFFFFFFF, 0x0, 0x0, 0x0, 0x0⟩, -- dest [31:0]
   ⟨.capGrpExpHi, 0xB0044, [], (some .installer), 0xFFFFFFFF, 0x0, 0x0, 0x0, 0x0⟩, -- dest [31:0]
   ⟨.capStat, 0xB0050, [], none, 0x0, 0x0, 0x0, 0x0, 0x0⟩, -- state [31:30]
   ⟨.capRec, 0xB0054, [], none, 0x0, 0x0, 0x0, 0x0, 0x0⟩, -- record_number [31:0]
   ⟨.capCnt, 0xB0058, [], none, 0x0, 0x0, 0x0, 0xFFFFFFFF, 0x0⟩] -- late_fires [31:24], ignored_fires [23:16], arm_missed [15:8], lost_records [7:0]

/-- Registers from 0xC0000 (R437). -/
def rowsFlxA : List RegRow :=
  [⟨.flxCfg, 0xC0000, [⟨0, 128, 16⟩], (some .operator), 0x3, 0x0, 0x0, 0x0, 0x0⟩, -- range [1:0]
   ⟨.flxClr, 0xC0004, [⟨0, 128, 16⟩], (some .installer), 0xFFFF, 0x0, 0x0, 0x0, 0x0⟩, -- clrcode [15:0]
   ⟨.flxHold, 0xC0008, [⟨0, 128, 16⟩], (some .operator), 0x7FFFFF, 0x0, 0x0, 0x0, 0x0⟩, -- ue [22], edge [21:16], code [15:0]
   ⟨.flxOut, 0xC000C, [⟨0, 128, 16⟩], none, 0x0, 0x0, 0x0, 0x0, 0x10000⟩, -- in_edge [18], in_window [17], at_clear [16], code [15:0]
   ⟨.grpCtrl, 0xC0800, [⟨0, 8, 32⟩], (some .installer), 0x1, 0x0, 0x0, 0x0, 0x0⟩, -- enable [0]
   ⟨.grpStrb, 0xC0804, [⟨0, 8, 32⟩], (some .operator), 0xFFFF01FF, 0x0, 0x0, 0x0, 0x0⟩, -- delay [31:16], enable [8], channel [7:0]
   ⟨.grpSw, 0xC0808, [⟨0, 8, 32⟩], (some .operator), 0x0, 0x0, 0x1, 0x0, 0x0⟩, -- strobe [0]
   ⟨.grpStat, 0xC080C, [⟨0, 8, 32⟩], none, 0x0, 0x0, 0x0, 0xFFFF0000, 0x0⟩, -- refused [31:24], late_events [23:16], clear [5], enable_pending [4], state [1:0]
   ⟨.flxEdge, 0xC1000, [⟨0, 8, 0x100⟩, ⟨0, 64, 4⟩], (some .operator), 0xFFF, 0x0, 0x0, 0x0, 0x0⟩, -- len_m1 [11:0]
   ⟨.flxEpts, 0xC2000, [⟨0, 8, 0x1000⟩, ⟨0, 64, 64⟩, ⟨0, 16, 4⟩], (some .operator), 0xFFFFFFFF, 0x0, 0x0, 0x0, 0x40004000⟩, -- p_odd [31:16], p_even [15:0]
   ⟨.biaCfg, 0xCA000, [⟨0, 256, 16⟩], (some .operator), 0x1, 0x0, 0x0, 0x0, 0x0⟩, -- range [0]
   ⟨.biaClr, 0xCA004, [⟨0, 256, 16⟩], (some .installer), 0xFFFFF, 0x0, 0x0, 0x0, 0x0⟩, -- clrcode [19:0]
   ⟨.biaHold, 0xCA008, [⟨0, 256, 16⟩], (some .operator), 0xFFFFF, 0x0, 0x0, 0x0, 0x0⟩, -- code [19:0]
   ⟨.biaOut, 0xCA00C, [⟨0, 256, 16⟩], none, 0x0, 0x0, 0x0, 0x0, 0x200000⟩, -- in_window [22], at_clear [21], code [19:0]
   ⟨.grpCtrl, 0xCB000, [⟨8, 8, 32⟩], (some .installer), 0x1, 0x0, 0x0, 0x0, 0x0⟩, -- enable [0]
   ⟨.grpStrb, 0xCB004, [⟨8, 8, 32⟩], (some .operator), 0xFFFF01FF, 0x0, 0x0, 0x0, 0x0⟩] -- delay [31:16], enable [8], channel [7:0]

/-- Registers from 0xCB008 (R437). -/
def rowsFlxB : List RegRow :=
  [⟨.grpSw, 0xCB008, [⟨8, 8, 32⟩], (some .operator), 0x0, 0x0, 0x1, 0x0, 0x0⟩, -- strobe [0]
   ⟨.grpStat, 0xCB00C, [⟨8, 8, 32⟩], none, 0x0, 0x0, 0x0, 0xFFFF0000, 0x0⟩] -- refused [31:24], late_events [23:16], clear [5], enable_pending [4], state [1:0]

/-- All registers of the block. -/
def rowsFlx : List RegRow := rowsFlxA ++ rowsFlxB

/-- Registers from 0x100000 (R437). -/
def rowsPe : List RegRow :=
  [⟨.peStat, 0x100000, [⟨0, 136, 0x1000⟩], none, 0x0, 0x0, 0x0, 0x0, 0x0⟩, -- state [31:28], pc [22:8], logical [7:0]
   ⟨.peExc, 0x100004, [⟨0, 136, 0x1000⟩], none, 0x0, 0x8000, 0x0, 0x0, 0x0⟩, -- number [31:24], valid [15], pc [14:0]
   ⟨.peWdog, 0x100008, [⟨0, 136, 0x1000⟩], (some .operator), 0xFFFFFF, 0x0, 0x0, 0x0, 0x4000⟩, -- limit [23:0]
   ⟨.peEcc, 0x10000C, [⟨0, 136, 0x1000⟩], none, 0x0, 0x0, 0x0, 0xFFFFFFFF, 0x0⟩, -- uncorrectable [31:16], corrected [15:0]
   ⟨.peQstat, 0x100010, [⟨0, 136, 0x1000⟩], none, 0x0, 0x1000000, 0x0, 0x0, 0x0⟩, -- full_wait [24], flux_bias [22:16], readout [13:8], drive [6:0]
   ⟨.peLead, 0x100014, [⟨0, 136, 0x1000⟩], none, 0x0, 0x0, 0x0, 0x0, 0x7FFF7FFF⟩, -- run_min [31:16], shot_min [15:0]
   ⟨.peLate, 0x100018, [⟨0, 136, 0x1000⟩], none, 0x0, 0x0, 0x0, 0xFFFF, 0x30000⟩] -- first_queue [17:16], run_late [15:0]

/-- Registers from 0x200000 (R437). -/
def rowsCruA : List RegRow :=
  [⟨.cruStat, 0x200000, [⟨0, 34, 0x10000⟩], none, 0x0, 0x0, 0x0, 0x0, 0x0⟩, -- state [31:29], beat_rule [28], fault [27:24], logical [23:16], pc [9:0]
   ⟨.cruRing, 0x200004, [⟨0, 34, 0x10000⟩], none, 0x0, 0x0, 0x0, 0x7F0000, 0x0⟩, -- high_water [22:16], untaken [6:0]
   ⟨.cruCnt, 0x200008, [⟨0, 34, 0x10000⟩], none, 0x0, 0x0, 0x0, 0xFFFFFFFF, 0x0⟩, -- lost_beats [31:16], damaged [15:8], corrected [7:0]
   ⟨.cruDec, 0x20000C, [⟨0, 34, 0x10000⟩], none, 0x0, 0x0, 0x0, 0xFFFFFFFF, 0x0⟩, -- published [31:16], indeterminate [15:0]
   ⟨.cruDragAddr, 0x200010, [⟨0, 34, 0x10000⟩], (some .operator), 0x1FFFF, 0x0, 0x0, 0x0, 0x10000⟩, -- autoinc [16], bank [15:12], word [11:0]
   ⟨.cruDragData, 0x200014, [⟨0, 34, 0x10000⟩], (some .operator), 0xFFFFFFFF, 0x0, 0x0, 0x0, 0x0⟩, -- q [31:16], i [15:0]
   ⟨.cruClsTlo, 0x200018, [⟨0, 34, 0x10000⟩], (some .operator), 0xFFFFFFFF, 0x0, 0x0, 0x0, 0x0⟩, -- tick_lo [31:0]
   ⟨.cruClsThi, 0x20001C, [⟨0, 34, 0x10000⟩], (some .operator), 0xFF, 0x0, 0x80000000, 0x0, 0x0⟩, -- go [31], late [30], pending [29], tick_hi [7:0]
   ⟨.cruPub, 0x200100, [⟨0, 34, 0x10000⟩, ⟨0, 16, 4⟩], (some .operator), 0x3FF, 0x0, 0x0, 0x0, 0x0⟩, -- tag [9], enable [8], channel [7:0]
   ⟨.cruCtx, 0x200400, [⟨0, 34, 0x10000⟩, ⟨0, 256, 4⟩], (some .operator), 0xFFFFFFF, 0x0, 0x0, 0x0, 0x1000⟩, -- classify [27], cls [26:25], acc [24], kernel_len [23:12], kernel_base [11:0]
   ⟨.cruCls, 0x201000, [⟨0, 34, 0x10000⟩, ⟨0, 16, 128⟩, ⟨0, 4, 32⟩], (some .operator), 0x11F03, 0x0, 0x0, 0x0, 0x0⟩, -- classifier word 0
   ⟨.cruCls, 0x201004, [⟨0, 34, 0x10000⟩, ⟨0, 16, 128⟩, ⟨0, 4, 32⟩], (some .operator), 0xFFFFFFFF, 0x0, 0x0, 0x0, 0x7FFF⟩, -- classifier word 1
   ⟨.cruCls, 0x201008, [⟨0, 34, 0x10000⟩, ⟨0, 16, 128⟩, ⟨0, 4, 32⟩], (some .operator), 0xFFFFFFFF, 0x0, 0x0, 0x0, 0x0⟩, -- classifier word 2
   ⟨.cruCls, 0x20100C, [⟨0, 34, 0x10000⟩, ⟨0, 16, 128⟩, ⟨0, 4, 32⟩], (some .operator), 0xFFFFFFFF, 0x0, 0x0, 0x0, 0x7FFF⟩, -- classifier word 3
   ⟨.cruCls, 0x201010, [⟨0, 34, 0x10000⟩, ⟨0, 16, 128⟩, ⟨0, 4, 32⟩], (some .operator), 0xFFFFFFFF, 0x0, 0x0, 0x0, 0x0⟩, -- classifier word 4
   ⟨.cruCls, 0x201014, [⟨0, 34, 0x10000⟩, ⟨0, 16, 128⟩, ⟨0, 4, 32⟩], (some .operator), 0xFFFFFFFF, 0x0, 0x0, 0x0, 0x7FFF⟩] -- classifier word 5

/-- Registers from 0x201018 (R437). -/
def rowsCruB : List RegRow :=
  [⟨.cruCls, 0x201018, [⟨0, 34, 0x10000⟩, ⟨0, 16, 128⟩, ⟨0, 4, 32⟩], (some .operator), 0xFFFFFFFF, 0x0, 0x0, 0x0, 0x0⟩, -- classifier word 6
   ⟨.cruCls, 0x20101C, [⟨0, 34, 0x10000⟩, ⟨0, 16, 128⟩, ⟨0, 4, 32⟩], (some .operator), 0xFFFFFFFF, 0x0, 0x0, 0x0, 0x0⟩, -- classifier word 7
   ⟨.cruClsIn, 0x202000, [⟨0, 34, 0x10000⟩, ⟨0, 16, 128⟩, ⟨0, 4, 32⟩], none, 0x0, 0x0, 0x0, 0x0, 0x0⟩, -- classifier word 0
   ⟨.cruClsIn, 0x202004, [⟨0, 34, 0x10000⟩, ⟨0, 16, 128⟩, ⟨0, 4, 32⟩], none, 0x0, 0x0, 0x0, 0x0, 0x7FFF⟩, -- classifier word 1
   ⟨.cruClsIn, 0x202008, [⟨0, 34, 0x10000⟩, ⟨0, 16, 128⟩, ⟨0, 4, 32⟩], none, 0x0, 0x0, 0x0, 0x0, 0x0⟩, -- classifier word 2
   ⟨.cruClsIn, 0x20200C, [⟨0, 34, 0x10000⟩, ⟨0, 16, 128⟩, ⟨0, 4, 32⟩], none, 0x0, 0x0, 0x0, 0x0, 0x7FFF⟩, -- classifier word 3
   ⟨.cruClsIn, 0x202010, [⟨0, 34, 0x10000⟩, ⟨0, 16, 128⟩, ⟨0, 4, 32⟩], none, 0x0, 0x0, 0x0, 0x0, 0x0⟩, -- classifier word 4
   ⟨.cruClsIn, 0x202014, [⟨0, 34, 0x10000⟩, ⟨0, 16, 128⟩, ⟨0, 4, 32⟩], none, 0x0, 0x0, 0x0, 0x0, 0x7FFF⟩, -- classifier word 5
   ⟨.cruClsIn, 0x202018, [⟨0, 34, 0x10000⟩, ⟨0, 16, 128⟩, ⟨0, 4, 32⟩], none, 0x0, 0x0, 0x0, 0x0, 0x0⟩, -- classifier word 6
   ⟨.cruClsIn, 0x20201C, [⟨0, 34, 0x10000⟩, ⟨0, 16, 128⟩, ⟨0, 4, 32⟩], none, 0x0, 0x0, 0x0, 0x0, 0x0⟩, -- classifier word 7
   ⟨.cruProg, 0x204000, [⟨0, 34, 0x10000⟩, ⟨0, 1024, 4⟩], none, 0x0, 0x0, 0x0, 0x0, 0x0⟩] -- word [31:0]

/-- All registers of the block. -/
def rowsCru : List RegRow := rowsCruA ++ rowsCruB

/-- Registers from 0x440000 (R437). -/
def rowsDrv : List RegRow :=
  [⟨.rfCtrl, 0x440000, [⟨0, 64, 0x1000⟩], (some .installer), 0xF3, 0x0, 0x0, 0x0, 0x0⟩, -- fs_step [7:4], force_mute [1], enable [0]
   ⟨.rfStat, 0x440004, [⟨0, 64, 0x1000⟩], none, 0x0, 0x1C000, 0x0, 0x0, 0x300⟩, -- clip [16], nco_fault [15], queue_fault [14], mute_cause [13:8], enable_pending [4], state [2:0]
   ⟨.rfClip, 0x440008, [⟨0, 64, 0x1000⟩], none, 0x0, 0x0, 0x0, 0xFFFFFFFF, 0x0⟩, -- samples [31:0]
   ⟨.rfNcochk, 0x44000C, [⟨0, 64, 0x1000⟩], none, 0x0, 0x0, 0x0, 0xFFFFFFFF, 0x0⟩, -- queue_faults [31:16], mismatches [15:0]
   ⟨.tgain, 0x440100, [⟨0, 64, 0x1000⟩, ⟨0, 8, 4⟩], (some .installer), 0xFFFF, 0x0, 0x0, 0x0, 0x0⟩, -- gain [15:0]
   ⟨.eqTap, 0x440200, [⟨0, 64, 0x1000⟩, ⟨0, 16, 4⟩], (some .installer), 0x3FFFF, 0x0, 0x0, 0x0, 0x0⟩, -- tap [17:0]
   ⟨.tfrqLo, 0x440400, [⟨0, 64, 0x1000⟩, ⟨0, 8, 16⟩], none, 0x0, 0x0, 0x0, 0x0, 0x0⟩, -- freq_lo [31:0]
   ⟨.tfrqHi, 0x440404, [⟨0, 64, 0x1000⟩, ⟨0, 8, 16⟩], none, 0x0, 0x0, 0x0, 0x0, 0x0⟩, -- freq_hi [15:0]
   ⟨.tphs, 0x440408, [⟨0, 64, 0x1000⟩, ⟨0, 8, 16⟩], none, 0x0, 0x0, 0x0, 0x0, 0x0⟩, -- phase [31:0]
   ⟨.plyJcfg, 0x440800, [⟨0, 64, 0x1000⟩, ⟨0, 8, 64⟩], (some .operator), 0xFFFF01FF, 0x0, 0x0, 0x0, 0x0⟩, -- delay [31:16], enable [8], channel [7:0]
   ⟨.plyJtgt, 0x440804, [⟨0, 64, 0x1000⟩, ⟨0, 8, 64⟩, ⟨0, 4, 4⟩], (some .operator), 0x800FFFFF, 0x0, 0x0, 0x0, 0x0⟩, -- valid [31], segment [19:0]
   ⟨.plyStat, 0x440814, [⟨0, 64, 0x1000⟩, ⟨0, 8, 64⟩], none, 0x0, 0x2000000, 0x0, 0x0, 0x0⟩, -- state [31:30], depth [29:28], pending [27], pending_deferred [26], nest_overflow [25], segment [19:0]
   ⟨.plyCnt, 0x440818, [⟨0, 64, 0x1000⟩, ⟨0, 8, 64⟩], none, 0x0, 0x0, 0x0, 0xFFFFFFFF, 0x0⟩, -- late_requests [31:24], dropped [23:16], superseded [15:8], deferred [7:0]
   ⟨.plyUndr, 0x44081C, [⟨0, 64, 0x1000⟩, ⟨0, 8, 64⟩], none, 0x0, 0x0, 0x0, 0xFFFFFFFF, 0x0⟩] -- samples [31:0]

/-- Registers from 0x500000 (R437). -/
def rowsRot : List RegRow :=
  [⟨.rfCtrl, 0x500000, [⟨64, 32, 0x1000⟩], (some .installer), 0xF3, 0x0, 0x0, 0x0, 0x0⟩, -- fs_step [7:4], force_mute [1], enable [0]
   ⟨.rfStat, 0x500004, [⟨64, 32, 0x1000⟩], none, 0x0, 0x1C000, 0x0, 0x0, 0x300⟩, -- clip [16], nco_fault [15], queue_fault [14], mute_cause [13:8], enable_pending [4], state [2:0]
   ⟨.rfClip, 0x500008, [⟨64, 32, 0x1000⟩], none, 0x0, 0x0, 0x0, 0xFFFFFFFF, 0x0⟩, -- samples [31:0]
   ⟨.rfNcochk, 0x50000C, [⟨64, 32, 0x1000⟩], none, 0x0, 0x0, 0x0, 0xFFFFFFFF, 0x0⟩, -- queue_faults [31:16], mismatches [15:0]
   ⟨.tgain, 0x500100, [⟨64, 32, 0x1000⟩, ⟨0, 16, 4⟩], (some .installer), 0xFFFF, 0x0, 0x0, 0x0, 0x0⟩, -- gain [15:0]
   ⟨.eqTap, 0x500200, [⟨64, 32, 0x1000⟩, ⟨0, 16, 4⟩], (some .installer), 0x3FFFF, 0x0, 0x0, 0x0, 0x0⟩, -- tap [17:0]
   ⟨.tfrqLo, 0x500400, [⟨64, 32, 0x1000⟩, ⟨0, 16, 16⟩], none, 0x0, 0x0, 0x0, 0x0, 0x0⟩, -- freq_lo [31:0]
   ⟨.tfrqHi, 0x500404, [⟨64, 32, 0x1000⟩, ⟨0, 16, 16⟩], none, 0x0, 0x0, 0x0, 0x0, 0x0⟩, -- freq_hi [15:0]
   ⟨.tphs, 0x500408, [⟨64, 32, 0x1000⟩, ⟨0, 16, 16⟩], none, 0x0, 0x0, 0x0, 0x0, 0x0⟩, -- phase [31:0]
   ⟨.plyJcfg, 0x500800, [⟨64, 32, 0x1000⟩, ⟨0, 16, 64⟩], (some .operator), 0xFFFF01FF, 0x0, 0x0, 0x0, 0x0⟩, -- delay [31:16], enable [8], channel [7:0]
   ⟨.plyJtgt, 0x500804, [⟨64, 32, 0x1000⟩, ⟨0, 16, 64⟩, ⟨0, 4, 4⟩], (some .operator), 0x800FFFFF, 0x0, 0x0, 0x0, 0x0⟩, -- valid [31], segment [19:0]
   ⟨.plyStat, 0x500814, [⟨64, 32, 0x1000⟩, ⟨0, 16, 64⟩], none, 0x0, 0x2000000, 0x0, 0x0, 0x0⟩, -- state [31:30], depth [29:28], pending [27], pending_deferred [26], nest_overflow [25], segment [19:0]
   ⟨.plyCnt, 0x500818, [⟨64, 32, 0x1000⟩, ⟨0, 16, 64⟩], none, 0x0, 0x0, 0x0, 0xFFFFFFFF, 0x0⟩, -- late_requests [31:24], dropped [23:16], superseded [15:8], deferred [7:0]
   ⟨.plyUndr, 0x50081C, [⟨64, 32, 0x1000⟩, ⟨0, 16, 64⟩], none, 0x0, 0x0, 0x0, 0xFFFFFFFF, 0x0⟩] -- samples [31:0]

/-- Registers from 0x600000 (R437). -/
def rowsAdc : List RegRow :=
  [⟨.adcCtrl, 0x600000, [⟨0, 32, 0x1000⟩], (some .operator), 0x303, 0x0, 0x0, 0x0, 0x300⟩, -- range [9:8], trig_en [1], refbuf_en [0]
   ⟨.adcTrig, 0x600004, [⟨0, 32, 0x1000⟩], (some .operator), 0xFFFFFFFF, 0x0, 0x0, 0x0, 0x0⟩, -- mask [31:16], ctx [15:8], channel [7:0]
   ⟨.adcStat, 0x600008, [⟨0, 32, 0x1000⟩], none, 0x0, 0x10000, 0x0, 0x0, 0xA10C⟩, -- wear_alarm [17], overrange [16], randomised [15], pool_size [13:8], range_pending [7], disable_pending [6], enable_pending [5], range [3:2], refbuf [1:0]
   ⟨.adcPool, 0x60000C, [⟨0, 32, 0x1000⟩], none, 0x0, 0x0, 0x0, 0x0, 0x3F⟩, -- retired [5:0]
   ⟨.adcCntA, 0x600014, [⟨0, 32, 0x1000⟩], none, 0x0, 0x0, 0x0, 0xFFFFFFFF, 0x0⟩, -- overrange [31:16], bb_sat [15:0]
   ⟨.adcCntB, 0x600018, [⟨0, 32, 0x1000⟩], none, 0x0, 0x0, 0x0, 0xFFFFFFFF, 0x0⟩, -- late_starts [31:24], overlaps [23:16], refbuf_early [15:8], truncated [7:0]
   ⟨.demPhs, 0x600100, [⟨0, 32, 0x1000⟩, ⟨0, 16, 4⟩], (some .installer), 0xFFFFFFFF, 0x0, 0x0, 0x0, 0x0⟩, -- phase [31:0]
   ⟨.adcWdly, 0x600800, [⟨0, 32, 0x1000⟩, ⟨0, 256, 8⟩], (some .operator), 0xFFFFF, 0x0, 0x0, 0x0, 0x0⟩, -- delay [19:0]
   ⟨.adcWcnt, 0x600804, [⟨0, 32, 0x1000⟩, ⟨0, 256, 8⟩], (some .operator), 0xFFFF, 0x0, 0x0, 0x0, 0x1⟩] -- count [15:0]

/-- The rows of the block that holds an address; reserved ranges have none (R437). -/
def blockRows (a : Nat) : List RegRow :=
  if a < 0x10000 then rowsMld
  else if a < 0x20000 then rowsFlk
  else if a < 0x30000 then rowsPwr
  else if a < 0x40000 then rowsTim
  else if a < 0x50000 then rowsSpr
  else if a < 0x60000 then rowsRun
  else if a < 0x70000 then rowsNet
  else if a < 0x80000 then rowsCmk
  else if a < 0x90000 then rowsCal
  else if a < 0xA0000 then rowsCry
  else if a < 0xB0000 then rowsTiu
  else if a < 0xC0000 then rowsCap
  else if a < 0xD0000 then rowsFlx
  else if a < 0x100000 then []
  else if a < 0x188000 then rowsPe
  else if a < 0x200000 then []
  else if a < 0x420000 then rowsCru
  else if a < 0x440000 then []
  else if a < 0x480000 then rowsDrv
  else if a < 0x500000 then []
  else if a < 0x520000 then rowsRot
  else if a < 0x600000 then []
  else if a < 0x620000 then rowsAdc
  else []

/-- Solve `off = i * stride + …` over the dimensions, largest stride first. -/
def dimIndex (dims : List RegDim) (off : Nat) : Option (List Nat) :=
  match dims with
  | [] => if off = 0 then some [] else none
  | d :: r =>
    let i := off / d.stride
    if i < d.count then (dimIndex r (off - i * d.stride)).map (fun l => (d.first + i) :: l) else none

/-- Match an address against one row. -/
def RegRow.at? (r : RegRow) (a : Nat) : Option RegRef :=
  if a < r.base then none else (dimIndex r.dims (a - r.base)).map (fun l => ⟨r, l⟩)

/-- Find the register at an address; none where the address is reserved or not a multiple of 4 (R437, R440). -/
def findReg (a : Nat) : Option RegRef := if a % 4 = 0 then (blockRows a).findSome? (fun r => r.at? a) else none

/-- Reset value of the register at an address: the row's value, and the index-dependent resets of R21 (maps), R370
(equaliser), R390 (pins, outputs), as-built identity (R1) and the fuses' MAC (R327). Values the manual marks Stored or
Measured are held elsewhere in the state. -/
def resetWord (a : Nat) : W32 :=
  match findReg a with
  | none => 0
  | some ⟨r, idx⟩ =>
    let i := idx.headD 0
    match r.id with
    | .mldIdent => r.reset ||| (Config.hwRev.setWidth 32 <<< 12) ||| (Config.stepping.setWidth 32 <<< 8)
        ||| (Config.variant.setWidth 32 <<< 4)
    | .mldPeMap => BitVec.ofNat 32 (17 * (i / 16) + i % 16)
    | .mldCruMap => BitVec.ofNat 32 i
    | .eqTap => if idx.getD 1 0 = 7 then 0x1FFFF else 0
    | .cryPins => BitVec.ofNat 32 (4 * i * 0x1000000 + (4 * i + 1) * 0x10000 + (4 * i + 2) * 0x100 + (4 * i + 3))
    | .cryRoutCfg => BitVec.ofNat 32 (i * 0x10000)
    | .netMacLo => Config.macBase + BitVec.ofNat 32 i
    | .netMacHi => 0x02B7
    | .flkIdpub => Config.idPub i
    | .timSrvCast => 0x03FC
    | .timSrvSys => 0x0906
    | .netChkCfg => if i = 0 then 0x720 else if i = 1 then 0x740 else r.reset
    | .netChkPolyLo => if i = 1 then 0xA9EA3693 else 0x1EDC6F41
    | .netChkPolyHi => if i = 1 then 0x42F0E1EB else 0
    | .netChkInitLo => 0xFFFFFFFF
    | .netChkInitHi => if i = 1 then 0xFFFFFFFF else 0
    | _ => r.reset

end Sys2Proof.Machine
end

