-- ==== Sys2Proof/Machine/TypesE.lean ====
section
/-! DEFINITION. State of the cryostat front end, of supply, temperature and spares, and of start-up and faults as plain
data (chapters 17-19). -/

namespace Sys2Proof.Machine

/-- Where the thermometry scan stands on the channel excited (R381, R384). -/
inductive CryPhase where
  | probe
  | convert
  deriving DecidableEq, Repr

/-- The thermometry scan (R379-R389). Channel status, count and result, and the DAC codes, are CSR words. -/
structure Cryo where
  /-- Channel excited, none while the sources are off. -/
  active : Option Nat
  phase : CryPhase
  /-- Half-periods completed in the conversion. -/
  half : Nat
  /-- Sum over measured periods of positive-half mean minus negative-half mean, as a fraction, in units of 0.1 pV. -/
  sum : Int
  den : Nat
  /-- TB_MONO at the start of the half-period under way. -/
  since : W64
  /-- Result of the last completed conversion as an exact value kept in CRY_RES_n; the channel last converted. -/
  lastCh : Option Nat
  deriving DecidableEq, Repr

/-- One supply feed (R392): its reading in 10 mV, and whether its input is isolated. -/
structure Feed where
  reading : Nat
  ok : Bool
  isolated : Bool
  /-- TB_MONO since which it has been back within 36-75 V. -/
  backSince : Option W64
  deriving DecidableEq, Repr

/-- Supply (R392-R402). -/
structure Supply where
  feedA : Feed
  feedB : Feed
  /-- TB_MONO since which the bus has been below 33 V, and since which it has been at 36 V or more. -/
  lowSince : Option W64
  okSince : Option W64
  /-- Tick D of a brown-out stop under way (R394), and whether its shot limit has been applied. -/
  brownout : Option Tick
  limitDone : Bool
  /-- The module has lost all power (R394, R433). -/
  unpowered : Bool
  stages : List Bool
  domOn : BitVec 30
  /-- Consecutive rounds with a rail out of window, keyed by domain. -/
  domBad : Tbl Nat
  inputW : Nat
  riserPct : Nat
  /-- The 1.8 V programming rail as last read, in mV (R374, R403). -/
  progMv : Nat
  /-- Servoed rails, in units of 0.5 mV; worst slack in percent; TB_MONO since which the rail is starving or, when
  starved, has been at or above the floor. -/
  rail : Tbl Nat
  slack : Tbl Int
  starveSince : Tbl (Option W64)
  healSince : Tbl (Option W64)
  deriving DecidableEq, Repr

/-- Spare stocks used (R411-R413), and the Moulders (R414). -/
structure Spares where
  /-- Spare DRAM rows used, keyed by pseudo-channel; remapped rows keyed pseudo-channel * 2^24 + row; banks remapped. -/
  dramUsed : Tbl Nat
  dramRows : List Nat
  dramBanks : List Nat
  /-- Spare program rows used, keyed by cluster; remapped rows keyed cluster * 8192 + space * 512 + row. -/
  pmUsed : Tbl Nat
  pmRows : List Nat
  /-- TB_MONO of the last corrected errors at a program row, newest first, keyed as `pmRows` (R411). -/
  pmHits : Tbl (List W64)
  /-- TB_MONO of the last corrected errors in a physical Crucible's memories, newest first (R411). -/
  cruHits : Tbl (List W64)
  /-- Spare hot-cache lines used, keyed by cluster. -/
  hotUsed : Tbl Nat
  /-- The active Moulder, and whether a standby remains. -/
  moulder : BitVec 1
  standby : Bool
  /-- Physical engines retired. -/
  retiredPe : List Nat
  deriving DecidableEq, Repr

/-- A temperature sensor (R403-R405): value in use in 1/128 degree, its state, and its values of the last 100 rounds, newest
first, while it was valid. -/
structure Sensor where
  value : Int
  failed : Bool
  stopped : Bool
  alone : Bool
  hist : List Int
  deriving DecidableEq, Repr

/-- A sensor before its first round. -/
def Sensor.init : Sensor := ⟨0, false, false, false, []⟩

/-- Thermal supervision (R403-R410). -/
structure Thermal where
  sensors : Tbl Sensor
  level : Nat
  warning : Bool
  warnFall : Nat
  hold : Bool
  /-- The failed sensor behind the hold, the rounds confirmed so far, and its substitute of the last round. -/
  holdSensor : Nat
  holdRounds : Nat
  holdLast : Int
  fallCount : Nat
  hottest : Nat
  hottestT : Int
  /-- Rate of R405 in 1/128 degree a second. -/
  rate : Int
  /-- Shut down (R410); TB_MONO since which every valid sensor has read 85 degrees or less; times of shut-downs. -/
  shutdown : Bool
  coolSince : Option W64
  shutdowns : List W64
  deriving DecidableEq, Repr

/-- Why the module is stopped, or stopping (R394, R410, R429, R430, R434). -/
inductive StopKind where
  | brownout | thermal | rst | command | fatal | watchdog | failedStart
  deriving DecidableEq, Repr

/-- One attempt in the boot history (R425, MLD_BOOT_LAST_k). -/
structure BootPast where
  cause : Byte
  failCause : Byte
  failStage : BitVec 4
  counter : BitVec 2
  ingot : Bool
  unclean : Bool
  deriving DecidableEq, Repr

/-- Start-up (R418-R427). -/
structure Boot where
  /-- Stage in progress, 1 to 10; 0 while stopped or unpowered. -/
  stage : Nat
  ingot : Bool
  straps : BitVec 2
  cause : Byte
  /-- TB_MONO at the start of stage 1 and of the present stage; ends of the stages, in µs. -/
  begun : W64
  stageAt : W64
  stageEnds : List W32
  counter : BitVec 2
  lastFail : Byte
  /-- Cause 0xF0 or 0xF1 that the end before this start left to be counted at its stage 1; 0x00 if none (R423). -/
  found : Byte
  unclean : Bool
  configDefault : Bool
  imageFallback : Bool
  blocksFaulted : Nat
  slots : BitVec 3
  past : List BootPast
  starts : W32
  /-- TB_MONO at COMPLETE while settling. -/
  completeAt : Option W64
  settling : Bool
  /-- A stop under way or done: its kind, its tick, and whether its shots have ended. -/
  stop : Option (StopKind × Tick × Bool)
  /-- TB_MONO at which an automatic start is due (R423, R429). -/
  restartAt : Option W64
  /-- RST_N is held low; an edge of it waits for a brown-out or thermal stop to complete (R434). -/
  rstLow : Bool
  rstWaits : Bool
  deriving DecidableEq, Repr

/-- The fault path and the clear inputs (R146, R429, R431). -/
structure FaultPath where
  /-- Sources holding the fault path: start, temper level 4, stop. -/
  start : Bool
  temper : Bool
  stop : Bool
  /-- OUTCLR_N is low. -/
  outclrLow : Bool
  /-- Clear tick C of the present assertion. -/
  clearTick : Option Tick
  /-- Tick at which the last clear was released (R148). -/
  releaseTick : Option Tick
  fatalDomain : Byte
  blocks : Byte
  deriving DecidableEq, Repr

/-- Acceptances in the second of TB_MONO being counted: runs and upload begins (R41, R98). -/
structure Rates where
  sec : Nat
  runs : Nat
  begins : Nat
  deriving DecidableEq, Repr

end Sys2Proof.Machine
end

