-- ==== Sys2Proof/Machine/State.lean ====
section
/-! DEFINITION. The state of the module: everything the manual gives it, as plain data, with the queue of commands
that wait and the counter of free values drawn. -/

namespace Sys2Proof.Machine

/-- The state of one MK4-512. Tables are sparse and canonical (Tbl); keys are given at each field. -/
structure State where
  /-- Commands waiting, first in, first out (the model's own). -/
  pending : List Instr
  /-- Free values drawn so far (the model's own; see Config.freeValue). -/
  free : Nat
  /-- Everything that has left the module, newest first (the model's own record of outputs). -/
  sent : List Sent
  /-- The four time bases (R257). -/
  clock : Clock
  /-- CSR words that differ from their reset words, keyed by address (R2, R437). -/
  regs : Tbl W32
  /-- Logical engines 0-127 (R44). -/
  engines : Tbl Engine
  /-- Program memory (R46), keyed cluster * 2^19 + space * 2^15 + address. -/
  prog : Tbl ProgWord
  /-- Image that each cluster and each physical Crucible was last loaded with (R71, R199). -/
  clusterImg : Tbl (List Byte)
  cruImg : Tbl (List Byte)
  /-- Image store, keyed by handle (R71), and the next handle. -/
  images : Tbl Image
  nextHandle : W32
  /-- Runs accepted, oldest first (R28), and the next run_id (R27). -/
  runs : List Run
  nextRun : W32
  /-- Acceptance rates (R41, R98). -/
  rates : Rates
  /-- Conditions attached to ticks whose shots are not settled (R78, R463). -/
  dues : List CondDue
  /-- Result buffer (R40). -/
  results : List ResRec
  /-- Segments, by number (R93, R94). -/
  segs : Tbl Seg
  /-- Pattern store space (R92): bytes, keyed by address. -/
  dram : List Host.Cell
  /-- Key of the address hash, drawn at every start; no command answers it (R109). -/
  hashKey : W64
  /-- Tones: 0-511 drive (8 * channel + tone), 512-1023 readout (512 + 16 * channel + tone). -/
  tones : Tbl Tone
  /-- Hot caches of the clusters (R109). -/
  hots : Tbl Hot
  /-- RF banks A-D 0-3, readout DAC 4, ADC 5 (R134, R161). -/
  banks : Tbl Bank
  /-- RF channels: drive 0-63, readout 64-95 (R131). -/
  rf : Tbl RfChan
  /-- Flux channels 0-127, bias channels 128-383 (R140). -/
  fb : Tbl FbChan
  /-- Flux groups 0-7, bias groups 8-15 (R149). -/
  groups : Tbl Group
  /-- ADC channels (R156). -/
  adc : Tbl AdcChan
  /-- Physical Crucibles (R175). -/
  crus : Tbl Cru
  /-- Copies of events at consumer inputs, in the order of publication (R208). -/
  waiting : List (TaskInput × Ev)
  /-- Notification state of the flags (R212), keyed by channel. -/
  notes : Tbl FlagNote
  /-- Sprue timers (R215). -/
  timers : Tbl TimerRun
  /-- TRIG outputs (R216). -/
  pulses : Tbl TrigOut
  /-- Runner ports (R227) and losses that still reach shots (R254). -/
  ports : Tbl Port
  losses : List Loss
  /-- Cast-time synchronisation (R260), TAI synchronisation (R270), transmit timestamps of NET0 and NET1 (R273). -/
  cast : CastSync
  sys : SysSync
  txq : Tbl (List TxTs)
  /-- Capture unit (R280) and time-interval units (R298). -/
  cap : Cap
  tiu : Tbl Tiu
  /-- Last stamped edge of each TIU input, in fs (R297). -/
  tiuLast : Tbl (Option Int)
  /-- Sessions (R314), handshakes (R340), the next session_id, upload check contexts (R318) keyed by segment, or 2^20 +
  image handle, and kept digests (R316). -/
  sessions : List Session
  handshakes : List Handshake
  nextSid : W32
  checks : List (Nat × CheckCtx)
  kept : List KeptDigest
  /-- The installer session that most recently sent RAW_TX (R320). -/
  rawSid : Option W32
  /-- Arrivals past the receive window, and packets of no open session, counted in no register (R306, R311). -/
  lateArrivals : Nat
  strayPackets : Nat
  /-- TB_MONO of the last echo answers of each NET port, newest first (R303). -/
  echoes : Tbl (List W64)
  /-- Credentials, keyed role * 64 + slot (R331). -/
  creds : Tbl Cred
  /-- Anti-rollback counters (R345). -/
  arc : Tbl W32
  log : Log
  fw : Firmware
  reports : List Report
  /-- Coremaker (R355), NV store (R375), fuse rows programmed since manufacture (R371). -/
  cmk : Cmk
  nv : Nv
  fuses : Tbl W64
  /-- The rows of `fuses` as they stood when the shadow table was last read (R373). -/
  fuseShadow : Tbl W64
  cryo : Cryo
  supply : Supply
  spares : Spares
  thermal : Thermal
  boot : Boot
  fault : FaultPath
  deriving DecidableEq, Repr

/-- Why a step could stop with a fault. -/
inductive Fault where
  /-- An access outside the address spaces of R437 and R92. Raised by no command: the module answers such an access with
  status ADDRESS (R440), which is a next state. Safe. -/
  | absent (addr : Nat)
  deriving DecidableEq, Repr

/-- Why a step could be refused. -/
inductive Refusal where
  /-- The command has no meaning in the model yet; raised by its arm of `exec`. Safe. -/
  | notModelled (mnemonic : String)
  deriving DecidableEq, Repr

/-- Time bases at a power-on: all at 0, TB_CAST not yet running (R257, R433). -/
def Clock.init : Clock := ⟨0, false, 0, 0, 0, 0, 0, 0, 0, 0, 0⟩

/-- A servo that has had no sample (R259). -/
def Servo.init : Servo := ⟨0, 0, false⟩

/-- Cast-time synchronisation before stage 4: FREE, depth 63, unlocked (R278). -/
def CastSync.init : CastSync :=
  ⟨.free, 0, Servo.init, [], [], none, false, none, false, false, false, false, false, false, 0, [], 0, 0, 0, []⟩

/-- TAI synchronisation at a start: DISABLED (R278). -/
def SysSync.init : SysSync :=
  ⟨.disabled, 0, Servo.init, 0, [], none, 0, false, false, none, [], none, none, 0, none⟩

/-- The capture unit at a start: IDLE with no record (R281, R294). -/
def Cap.init : Cap := ⟨.idle, none, 0, false, none, none, 0, [], [], [], 0, 0, [], []⟩

/-- Entry 0, written at manufacture (R349): its content is as built. -/
def entry0 : LogEntry :=
  ⟨0, (Config.firstEntry 0).setWidth 16, (Config.firstEntry 1).setWidth 8, 0, Config.firstEntry 2, Config.firstEntry 3,
    (Config.firstEntry 4).setWidth 32, Config.firstEntry 5, Config.firstDetail, 0, Config.firstHash⟩

/-- The log as manufactured (R349). -/
def Log.init : Log := ⟨0, Config.firstHash, [entry0], [], 0, 0, []⟩

/-- Firmware as manufactured: slot A of each kind in force. -/
def Firmware.init : Firmware := ⟨[], [], [], [], none⟩

/-- The maker credential of slot 0 as manufactured: R332 leaves no module without one. -/
def makerCred : Cred := ⟨true, 0xFF, Config.makerKey, 0⟩

/-- An idle Coremaker (R359). -/
def Cmk.init : Cmk := ⟨none, [], [], [], [], [], false, none, [], .none, none, [], [], 0, 0, 0, 0⟩

/-- An empty NV store whose last stop left its shut-down record. -/
def Nv.init : Nv := ⟨[], false, 0, [], [], false, none, true⟩

/-- A scan that is stopped (R387). -/
def Cryo.init : Cryo := ⟨none, .convert, 0, 0, 1, 0, none⟩

/-- A feed at its typical voltage (R417). -/
def Feed.init : Feed := ⟨4800, true, false, none⟩

/-- Supply at a power-on: PD00 ON, ten stages healthy, riser bank empty (R393, R396, R419). -/
def Supply.init : Supply :=
  ⟨Feed.init, Feed.init, none, none, none, false, false, List.replicate 10 true, 1, [], 0, 0, 0, [], [], [], []⟩

/-- A module with all its spares (R411-R414). -/
def Spares.init : Spares := ⟨[], [], [], [], [], [], [], [], 0, true, []⟩

/-- Level 0, no sensor read yet (R406). -/
def Thermal.init : Thermal := ⟨[], 0, false, 0, false, 0, 0, 0, 0, 0, 0, 0, false, none, []⟩

/-- Stage 1 of the first start, cause POWER_ON (R419, R421). -/
def Boot.init : Boot where
  stage := 1
  ingot := false
  straps := 0
  cause := 0x01
  begun := 0
  stageAt := 0
  stageEnds := []
  counter := 0
  lastFail := 0
  found := 0
  unclean := false
  configDefault := false
  imageFallback := false
  blocksFaulted := 0
  slots := 0
  past := []
  starts := 1
  completeAt := none
  settling := true
  stop := none
  restartAt := none
  rstLow := false
  rstWaits := false

/-- The fault path from power-on to stage COMPLETE (R431, R435). -/
def FaultPath.init : FaultPath := ⟨true, false, false, false, none, none, 0xFF, 0⟩

/-- The module at the start of stage 1 after its first power-on (R419, R461). -/
def State.reset : State where
  pending := []
  free := 0
  sent := []
  clock := Clock.init
  regs := []
  engines := []
  prog := []
  clusterImg := []
  cruImg := []
  images := []
  nextHandle := 1
  runs := []
  nextRun := 1
  rates := ⟨0, 0, 0⟩
  dues := []
  results := []
  segs := []
  dram := []
  hashKey := 0
  tones := []
  hots := []
  banks := []
  rf := []
  fb := []
  groups := []
  adc := []
  crus := []
  waiting := []
  notes := []
  timers := []
  pulses := []
  ports := []
  losses := []
  cast := CastSync.init
  sys := SysSync.init
  txq := []
  cap := Cap.init
  tiu := []
  tiuLast := []
  sessions := []
  handshakes := []
  nextSid := 1
  checks := []
  kept := []
  rawSid := none
  lateArrivals := 0
  strayPackets := 0
  echoes := []
  creds := [(128, makerCred)]
  arc := []
  log := Log.init
  fw := Firmware.init
  reports := []
  cmk := Cmk.init
  nv := Nv.init
  fuses := []
  fuseShadow := []
  cryo := Cryo.init
  supply := Supply.init
  spares := Spares.init
  thermal := Thermal.init
  boot := Boot.init
  fault := FaultPath.init

end Sys2Proof.Machine
end

