-- ==== Sys2Proof/Machine/Ops.lean ====
section
/-! DEFINITION. The named operations over the state: register words and their fields, the tables of blocks, free
values, alerts, the maps from logical to physical numbers, and runs and their shots. -/

namespace Sys2Proof.Machine

/-- What a command answers. -/
abbrev Out := Host.Outcome State Fault Refusal

/-- A quotient as an integer where the manual states no rounding: exact where it divides, else one of its two neighbours. -/
def ratio (a b : Int) : Int :=
  if b = 0 then Config.quotZero a
  else
    let n := if b < 0 then -a else a
    let d := if b < 0 then -b else b
    n / d + (if n % d ≠ 0 ∧ Config.roundUp a b then 1 else 0)

/-- Field [hi:lo] of a word. -/
def fieldOf (w : W32) (hi lo : Nat) : Nat := (w.toNat / 2 ^ lo) % 2 ^ (hi - lo + 1)

/-- The word with field [hi:lo] holding `v`. -/
def withField (w : W32) (hi lo v : Nat) : W32 :=
  BitVec.ofNat 32 (w.toNat - fieldOf w hi lo * 2 ^ lo + (v % 2 ^ (hi - lo + 1)) * 2 ^ lo)

/-- The current tick of TB_CAST. -/
def State.now (s : State) : Tick := s.clock.cast

/-- Ticks passed since `t`: 0 for a tick still to come. -/
def State.ticksSince (s : State) (t : Tick) : Nat := (s.now - t).toInt.toNat

/-- What is done at a tick not before the present one: the operation sees that tick as the present one. -/
def State.atTick (s : State) (t : Tick) (f : State → State) : State :=
  let d := t - s.now
  let r := f { s with clock := { s.clock with cast := t } }
  { r with clock := { r.clock with cast := r.clock.cast - d } }

/-- TB_MONO, in ns. -/
def State.mono (s : State) : W64 := s.clock.mono

/-- ns of TB_MONO since `t`. -/
def State.since (s : State) (t : W64) : Nat := (s.mono - t).toNat

/-- The stored word of the register at address `a`. -/
def State.reg (s : State) (a : Nat) : W32 := Tbl.get s.regs a (resetWord a)

/-- Store the word of the register at address `a`. -/
def State.setReg (s : State) (a : Nat) (v : W32) : State := { s with regs := Tbl.put s.regs a v (resetWord a) }

/-- A field of a register. -/
def State.fld (s : State) (a hi lo : Nat) : Nat := fieldOf (s.reg a) hi lo

/-- A one-bit field of a register. -/
def State.bit (s : State) (a n : Nat) : Bool := s.fld a n n == 1

/-- Write a field of a register. -/
def State.setFld (s : State) (a hi lo v : Nat) : State := s.setReg a (withField (s.reg a) hi lo v)

/-- Write a one-bit field of a register. -/
def State.setBit (s : State) (a n : Nat) (b : Bool) : State := s.setFld a n n (if b then 1 else 0)

/-- Add to a saturating counter field (R2). -/
def State.count (s : State) (a hi lo n : Nat) : State := s.setFld a hi lo (satAdd (hi - lo + 1) (s.fld a hi lo) n)

/-- Draw a free value: a value that the manual leaves open. -/
def State.draw (s : State) : W64 × State := (Config.freeValue s.free, { s with free := s.free + 1 })

/-- Set a bit of MLD_ALERT: ALERT_N goes low (R432). -/
def State.alert (s : State) (n : Nat) : State := s.setBit aMldAlert n true

/-- Record something that leaves the module. -/
def State.emit (s : State) (x : Sent) : State := { s with sent := x :: s.sent }

/-- Logical engine `e` (R44). -/
def State.eng (s : State) (e : Nat) : Engine := Tbl.get s.engines e Engine.init
def State.setEng (s : State) (e : Nat) (x : Engine) : State := { s with engines := Tbl.put s.engines e x Engine.init }
def State.tone (s : State) (t : Nat) : Tone := Tbl.get s.tones t Tone.init
def State.setTone (s : State) (t : Nat) (x : Tone) : State := { s with tones := Tbl.put s.tones t x Tone.init }
def State.hot (s : State) (k : Nat) : Hot := Tbl.get s.hots k Hot.init
def State.setHot (s : State) (k : Nat) (x : Hot) : State := { s with hots := Tbl.put s.hots k x Hot.init }
def State.seg (s : State) (g : Nat) : Seg := Tbl.get s.segs g Seg.init
def State.setSeg (s : State) (g : Nat) (x : Seg) : State := { s with segs := Tbl.put s.segs g x Seg.init }
def State.bank (s : State) (b : Nat) : Bank := Tbl.get s.banks b Bank.init
def State.setBank (s : State) (b : Nat) (x : Bank) : State := { s with banks := Tbl.put s.banks b x Bank.init }
def State.rfch (s : State) (c : Nat) : RfChan := Tbl.get s.rf c RfChan.init
def State.setRfch (s : State) (c : Nat) (x : RfChan) : State := { s with rf := Tbl.put s.rf c x RfChan.init }
def State.fbch (s : State) (c : Nat) : FbChan := Tbl.get s.fb c FbChan.init
def State.setFbch (s : State) (c : Nat) (x : FbChan) : State := { s with fb := Tbl.put s.fb c x FbChan.init }
def State.grp (s : State) (g : Nat) : Group := Tbl.get s.groups g Group.init
def State.setGrp (s : State) (g : Nat) (x : Group) : State := { s with groups := Tbl.put s.groups g x Group.init }
def State.adcch (s : State) (c : Nat) : AdcChan := Tbl.get s.adc c AdcChan.init
def State.setAdcch (s : State) (c : Nat) (x : AdcChan) : State := { s with adc := Tbl.put s.adc c x AdcChan.init }
def State.cru (s : State) (c : Nat) : Cru := Tbl.get s.crus c Cru.init
def State.setCru (s : State) (c : Nat) (x : Cru) : State := { s with crus := Tbl.put s.crus c x Cru.init }
def State.port (s : State) (p : Nat) : Port := Tbl.get s.ports p Port.init
def State.setPort (s : State) (p : Nat) (x : Port) : State := { s with ports := Tbl.put s.ports p x Port.init }
def State.tiuUnit (s : State) (u : Nat) : Tiu := Tbl.get s.tiu u Tiu.init
def State.setTiu (s : State) (u : Nat) (x : Tiu) : State := { s with tiu := Tbl.put s.tiu u x Tiu.init }
def State.sensor (s : State) (k : Nat) : Sensor := Tbl.get s.thermal.sensors k Sensor.init

/-- Program word at `addr` of the space of logical engine `e` (R46). -/
def progKey (e addr : Nat) : Nat := (e / 16) * 2 ^ 19 + (e % 16) * 2 ^ 15 + addr
def progWord0 : ProgWord := ⟨0, false, false⟩
def State.progAt (s : State) (e addr : Nat) : ProgWord := Tbl.get s.prog (progKey e addr) progWord0
def State.setProg (s : State) (e addr : Nat) (w : ProgWord) : State :=
  { s with prog := Tbl.put s.prog (progKey e addr) w progWord0 }

/-- Bytes of the pattern store; an unlisted address reads 0. -/
def State.mem (s : State) (a : Nat) : Byte := Tbl.get s.dram a 0
def State.setMem (s : State) (a : Nat) (b : Byte) : State := { s with dram := Tbl.put s.dram a b 0 }
def State.storeBytes (s : State) (a : Nat) (l : List Byte) : State :=
  match l with
  | [] => s
  | b :: r => (s.setMem a b).storeBytes (a + 1) r
def State.loadBytes (s : State) (a n : Nat) : List Byte := (List.range n).map (fun i => s.mem (a + i))

/-- The canonical form of memory: addresses strictly rising, and no byte listed that an unlisted address reads as. -/
def Memory.wf (m : List Host.Cell) : Bool := Tbl.wf (fun _ => 0) m

/-- Physical engine of a logical engine, and physical Crucible of a logical Crucible (R21). -/
def State.pePhys (s : State) (n : Nat) : Nat := s.fld (aMldPeMap n) 7 0
def State.cruPhys (s : State) (n : Nat) : Nat := s.fld (aMldCruMap n) 5 0
/-- Logical number that a physical engine or Crucible serves (R21). -/
def State.peLogical (s : State) (p : Nat) : Option Nat := (List.range 128).find? (fun n => s.pePhys n == p)
def State.cruLogical (s : State) (c : Nat) : Option Nat := (List.range 32).find? (fun n => s.cruPhys n == c)

/-- Tone of frame `f` of engine `e` (R22). -/
def toneOf (e f : Nat) : Nat := if f < 4 then 4 * e + f else 512 + 4 * e + (f - 4)
/-- RF channel of a tone, and the tone's number in its channel. -/
def toneChan (t : Nat) : Nat := if t < 512 then t / 8 else 64 + (t - 512) / 16
def toneIdx (t : Nat) : Nat := if t < 512 then t % 8 else (t - 512) % 16
/-- Engine that owns a tone (R22). -/
def toneEng (t : Nat) : Nat := if t < 512 then t / 4 else (t - 512) / 4
/-- Tones of an RF channel. -/
def chanTones (ch : Nat) : List Nat :=
  if ch < 64 then (List.range 8).map (fun i => 8 * ch + i) else (List.range 16).map (fun i => 512 + 16 * (ch - 64) + i)
/-- Bank of an RF channel (R134). -/
def chanBank (ch : Nat) : Nat := if ch < 64 then ch / 16 else 4
/-- Cluster of an RF channel (R22). -/
def chanCluster (ch : Nat) : Nat := if ch < 64 then ch / 8 else (ch - 64) / 4
/-- Engines that play on an RF channel (R22). -/
def chanEngs (ch : Nat) : List Nat :=
  if ch < 64 then [2 * ch, 2 * ch + 1] else (List.range 4).map (fun i => 4 * (ch - 64) + i)
/-- Engine of a flux channel 0-127 or bias channel 128-383 (R22); its group. -/
def fbEng (n : Nat) : Nat := if n < 128 then n else (n - 128) / 2
def fbGroup (n : Nat) : Nat := if n < 128 then n / 16 else 8 + (n - 128) / 32
/-- Channels of a group. -/
def groupChans (g : Nat) : List Nat :=
  if g < 8 then (List.range 16).map (fun i => 16 * g + i) else (List.range 32).map (fun i => 128 + 32 * (g - 8) + i)

/-- `f` applied to the states for each element of a list, in order. -/
def State.each {α : Type} (s : State) (l : List α) (f : State → α → State) : State := l.foldl f s

/-- Engine set of a run, as a list (R28). -/
def Run.engs (r : Run) : List Nat := (List.range 128).filter (fun e => r.desc.engineSet.getLsbD e)
/-- Clusters a run claims (R29). -/
def Run.clusters (r : Run) : List Nat := (List.range 8).filter (fun k => r.engs.any (fun e => e / 16 == k))
/-- Whether a run has an engine in the set. -/
def Run.has (r : Run) (e : Nat) : Bool := r.desc.engineSet.getLsbD e

/-- The run with a run_id. -/
def State.run? (s : State) (id : W32) : Option Run := s.runs.find? (fun r => r.id == id)
/-- Change the run with a run_id. -/
def State.modRun (s : State) (id : W32) (f : Run → Run) : State :=
  { s with runs := s.runs.map (fun r => if r.id == id then f r else r) }
/-- Change one shot of a run. -/
def State.modShot (s : State) (id idx : W32) (f : Shot → Shot) : State :=
  s.modRun id (fun r => { r with shots := r.shots.map (fun h => if h.index == idx then f h else h) })
/-- Change an engine's entry of a shot. -/
def State.modEntry (s : State) (id idx : W32) (e : Nat) (f : Entry → Entry) : State :=
  s.modShot id idx (fun h => { h with entries := h.entries.map (fun x => if x.engine == e then f x else x) })

/-- Whether a run holds its clusters: it has reached the head of the queue and has not ended (R29, R30). -/
def Run.holds (r : Run) : Bool := r.phase == .loading || r.phase == .active
/-- Whether a run is running: a shot executed or in flight, and not ended (MLD_RUNQ_STAT.running, R40). -/
def Run.running (r : Run) : Bool := r.phase == .active && r.executed != 0
/-- Runs running. -/
def State.runningRuns (s : State) : Nat := (s.runs.filter Run.running).length
/-- Whether a cluster is claimed by a run that holds it. -/
def State.claimed (s : State) (k : Nat) : Bool := s.runs.any (fun r => r.holds && r.clusters.contains k)
/-- Whether a cluster is claimed by a running run (R29, R154). -/
def State.claimedRunning (s : State) (k : Nat) : Bool := s.runs.any (fun r => r.running && r.clusters.contains k)

/-- Whether a shot contains a tick: from its start tick to the tick before its end tick. -/
def Shot.covers (h : Shot) (t : Tick) : Bool :=
  decide (h.start.toNat ≤ t.toNat) && (match h.endTick with | none => true | some x => decide (t.toNat < x.toNat))

/-- The shot that engine `e` executes at a tick: run, index, start tick, end tick. -/
def State.shotAt (s : State) (e : Nat) (t : Tick) : Option (W32 × W32 × Tick) :=
  s.runs.findSome? (fun r =>
    if r.has e then (r.shots.find? (fun h => h.covers t)).map (fun h => (r.id, h.index, h.start)) else none)

/-- Whether a window [a, b) meets a shot of engine `e`: the shots that overlap it. -/
def State.shotsIn (s : State) (e : Nat) (a b : Tick) : List (W32 × W32 × Tick) :=
  s.runs.flatMap (fun r =>
    if r.has e then
      (r.shots.filter (fun h => decide (h.start.toNat < b.toNat) &&
        (match h.endTick with | none => true | some x => decide (a.toNat < x.toNat)))).map (fun h => (r.id, h.index, h.start))
    else [])

/-- Little-endian bytes of a number. -/
def leBytes (n v : Nat) : List Byte := (List.range n).map (fun i => BitVec.ofNat 8 (v / 2 ^ (8 * i)))
/-- Number of little-endian bytes. -/
def leNat (l : List Byte) : Nat := l.foldr (fun b a => b.toNat + 256 * a) 0
/-- Bytes `o .. o + n - 1`. -/
def slice (l : List Byte) (o n : Nat) : List Byte := (l.drop o).take n

/-- Lists of at most `n` elements each. -/
def chunksOf {α : Type} (fuel n : Nat) (l : List α) : List (List α) :=
  match fuel with
  | 0 => []
  | f + 1 => if l.isEmpty then [] else l.take n :: chunksOf f n (l.drop n)

end Sys2Proof.Machine
end

