-- ==== Sys2Proof/Machine/Flags.lean ====
section
/-! DEFINITION. Shot conditions and their record in result entries (R6, R8, R35, R78), and the flags and counters that
several chapters set. -/

namespace Sys2Proof.Machine

/-- The code of a condition (R6). -/
def Cond.code : Cond → Nat
  | .lateRelease => 1
  | .patternUnderrun => 2
  | .decisionLate => 3
  | .outputCleared => 4
  | .rangeChange => 5
  | .acqOverflow => 6
  | .refbufNotReady => 7
  | .temperAbort => 8
  | .powerAbort => 9
  | .linkLost => 10
  | .checkFail => 11
  | .roleDenied => 12
  | .engineFault => 13
  | .eventLoop => 14
  | .timeUnlocked => 15

/-- The order in which the status field picks among conditions (R8). -/
def statusOrder : List Nat := [9, 8, 13, 12, 15, 4, 10, 11, 14, 3, 1, 2, 5, 7, 6]

/-- Status field from a condition mask (R8). -/
def statusOf (mask : BitVec 16) : Nat := (statusOrder.find? (fun c => mask.getLsbD c)).getD 0

/-- `first_condition` of a tick: ticks from the start tick, saturating at 0xFFFF_FFFE (R35). -/
def firstCond (start tick : Tick) : W32 := BitVec.ofNat 32 (min (tick - start).toNat 0xFFFFFFFE)

/-- An entry to which a condition is added at a tick (R8, R35): first_condition is that of the earliest. -/
def Entry.add (x : Entry) (c : Cond) (start tick : Tick) : Entry :=
  { x with mask := x.mask ||| (1#16 <<< c.code), first := BitVec.ofNat 32 (min x.first.toNat (firstCond start tick).toNat) }

/-- Add a condition to an engine's entry of a shot. -/
def State.condIn (s : State) (h : W32 × W32 × Tick) (e : Nat) (c : Cond) (tick : Tick) : State :=
  s.modEntry h.1 h.2.1 e (fun x => x.add c h.2.2 tick)

/-- The shot that contains a tick of engine `e`, where that is settled: the shot has ended, or the tick has come. -/
def State.shotSure (s : State) (e : Nat) (t : Tick) : Option (W32 × W32 × Tick) :=
  s.runs.findSome? (fun r =>
    if r.has e then
      (r.shots.find? (fun h => h.covers t && (h.ended || decide ((t - s.now).toInt ≤ 0)))).map (fun h => (r.id, h.index, h.start))
    else none)
/-- A shot may still come to contain the tick of a condition: the tick is to come, its shot is in flight or is the next to start. -/
def State.dueLive (s : State) (d : CondDue) : Bool :=
  decide ((d.tick - s.now).toInt > 0) || s.runs.any (fun r => r.has d.engine &&
    (r.shots.any (fun h => !h.ended && decide ((d.tick - h.start).toInt ≥ 0)) ||
      (match r.nextStart with
        | none => false
        | some n => decide ((d.tick - n).toInt ≥ 0))))
/-- Keep a condition until the shot that contains its tick is settled (R463). -/
def State.addDue (s : State) (d : CondDue) : State := { s with dues := (s.dues ++ [d]).filter s.dueLive }

/-- Add a condition to the shot that contains a tick of an engine, if one does (R78, R83): at once, or when that shot ends. -/
def State.condAt (s : State) (e : Nat) (c : Cond) (tick : Tick) : State :=
  match s.shotSure e tick with
  | none => s.addDue ⟨e, c, false, tick, tick⟩
  | some h => s.condIn h e c tick

/-- Add a condition to every shot of an engine that meets the ticks from `a` to before `b`, at the first tick of the
overlap (R148, R153). -/
def State.condOver (s : State) (e : Nat) (c : Cond) (a b : Tick) : State :=
  s.each (s.shotsIn e a b) (fun s h => s.condIn h e c (if h.2.2.toNat < a.toNat then a else h.2.2))

/-- A late item, or what is recorded as one: LATE_RELEASE and late_count (R78). -/
def State.lateIn (s : State) (h : W32 × W32 × Tick) (e : Nat) (tick : Tick) : State :=
  (s.condIn h e .lateRelease tick).modEntry h.1 h.2.1 e
    (fun x => { x with lateCount := BitVec.ofNat 16 (satAdd 16 x.lateCount.toNat 1) })

/-- As `lateIn`, for the shot that contains the effective tick (R78). -/
def State.lateAt (s : State) (e : Nat) (tick : Tick) : State :=
  match s.shotSure e tick with
  | none => s.addDue ⟨e, .lateRelease, true, tick, tick⟩
  | some h => s.lateIn h e tick

/-- The conditions kept for a run's shot that has ended at tick E enter its entries (R463). -/
def State.settleDues (s : State) (r : Run) (h : W32 × W32 × Tick) (E : Tick) : State :=
  let mine := fun (d : CondDue) => r.has d.engine && decide ((d.tick - h.2.2).toInt ≥ 0) && decide ((d.tick - E).toInt < 0)
  let l := s.dues.filter mine
  let s : State := { s with dues := s.dues.filter (fun d => !mine d) }
  s.each l (fun s d => if d.late then s.lateIn h d.engine d.shown else s.condIn h d.engine d.cond d.shown)

/-- An engine entry at the start of a shot (R35). -/
def Entry.start (e phys : Nat) : Entry := ⟨e, 0, 0xFFFFFFFF, 0, 0xFF, [], false, 0, BitVec.ofNat 8 phys⟩

/-- Saturate to a signed field of `w` bits and give its bits. -/
def satBits (w : Nat) (x : Int) : Nat := ((clampInt (-(2 ^ (w - 1))) (2 ^ (w - 1) - 1) x) % (2 ^ w : Int)).toNat

/-- A signed field of a word. -/
def sfieldOf (w : W32) (hi lo : Nat) : Int :=
  let v := fieldOf w hi lo
  if v < 2 ^ (hi - lo) then (v : Int) else (v : Int) - 2 ^ (hi - lo + 1)

/-- Block faults are counted and raise ALERT_N (R428, R432, MLD_FAULT.blocks_faulted). -/
def State.blockFault (s : State) : State :=
  let b := satAdd 8 s.fault.blocks.toNat 1
  let s := { s with fault := { s.fault with blocks := BitVec.ofNat 8 b } }
  s.alert 4

/-- The fault path is asserted (R431). -/
def FaultPath.asserted (f : FaultPath) : Bool := f.start || f.temper || f.stop

/-- FAULT_N is low (R431). -/
def State.faultN (s : State) : Bool :=
  s.fault.asserted || s.boot.stop.isSome || s.boot.ingot || s.supply.unpowered || s.boot.rstLow || s.boot.stage != 10

/-- Set swap_pending of a logical engine or Crucible (R21, R67, R200). -/
def State.swapPendingPe (s : State) (n : Nat) : State := s.setBit (aMldPeMap n) 8 true
def State.swapPendingCru (s : State) (n : Nat) : State := s.setBit (aMldCruMap n) 8 true

/-- Note the lead of a latched item: `T - A - 24` in the shot's minimum and PE_LEAD.run_min (R86). -/
def State.noteLead (s : State) (e : Nat) (lead : Int) : State :=
  let g := s.eng e
  let m := lead - 24
  let p := s.pePhys e
  let old := sfieldOf (s.reg (aPeLead p)) 31 16
  let s := s.setEng e { g with shotMin := some (match g.shotMin with | none => m | some x => min x m) }
  if m < old then s.setFld (aPeLead p) 31 16 (satBits 16 m) else s

/-- Note a late item of a queue: run_late and the shot's first late queue (R86). -/
def State.noteLate (s : State) (e : Nat) (q : Queue) : State :=
  let g := s.eng e
  let s := s.setEng e { g with firstLateQ := some (g.firstLateQ.getD q) }
  s.count (aPeLate (s.pePhys e)) 15 0 1

end Sys2Proof.Machine
end

