-- ==== Sys2Proof/Machine/HostOps.lean ====
section
/-! DEFINITION. Sessions, requests and replies, notifications, the check computation, the NV window and the log: what
every host command and many events share (R305-R325, R348-R352, R375). -/

namespace Sys2Proof.Machine

/-- Reply status codes (R325). -/
inductive Status where
  | ok | roleDenied | range | busy | queueFull | check | notFound | imageFault | loop | state | address | rate | ingot
  deriving DecidableEq, Repr

/-- The code of a status (R325). -/
def Status.code : Status → Byte
  | .ok => 0x00
  | .roleDenied => 0x01
  | .range => 0x02
  | .busy => 0x03
  | .queueFull => 0x04
  | .check => 0x05
  | .notFound => 0x06
  | .imageFault => 0x07
  | .loop => 0x08
  | .state => 0x09
  | .address => 0x0A
  | .rate => 0x0B
  | .ingot => 0x0C

/-- The detail of a refusal: entry index, address or segment, logical engine or Crucible, instruction address (R325). -/
structure Detail where
  index : W32
  addr : W32
  unit : W32
  instr : W32
  deriving DecidableEq, Repr

/-- Unused fields are all ones (R325). -/
def noDetail : Detail := ⟨0xFFFFFFFF, 0xFFFFFFFF, 0xFFFFFFFF, 0xFFFFFFFF⟩
def detailAddr (a : Nat) : Detail := { noDetail with addr := BitVec.ofNat 32 a }
def Detail.bytes (d : Detail) : List Byte :=
  leBytes 4 d.index.toNat ++ leBytes 4 d.addr.toNat ++ leBytes 4 d.unit.toNat ++ leBytes 4 d.instr.toNat

/-- What acting on a request gives: a new state and the reply's content; a refusal that changes nothing (R325); a refusal
that a counter records or that ends an upload (R98, R115, R317). -/
inductive Answer where
  | done (s : State) (content : List Byte)
  | refuse (st : Status) (d : Detail)
  | failed (s : State) (st : Status) (d : Detail)

/-- Signed difference of generation numbers of 32 bits (R277). -/
def gdiff (a b : W32) : Int := (a - b).toInt

/-- The number after a sequence number: after 0xFFFF_FFFF comes 1 (R311). -/
def nextSeq (x : W32) : W32 := if x = 0xFFFFFFFF then 1 else x + 1

def State.sess? (s : State) (sid : W32) : Option Session := s.sessions.find? (fun x => x.id == sid)
def State.modSess (s : State) (sid : W32) (f : Session → Session) : State :=
  { s with sessions := s.sessions.map (fun x => if x.id == sid then f x else x) }

/-- Content limit of a session's port (R309). -/
def State.contentLimit (s : State) (port : Nat) : Nat := if s.bit (aNetPortCfg port) 1 then 8192 else 1280

/-- Cut a content into parts of at most `n` bytes; an empty content is one part (R310). -/
def cutParts (fuel n : Nat) (l : List Byte) : List (List Byte) :=
  match fuel with
  | 0 => [l]
  | f + 1 => if l.length ≤ n then [l] else l.take n :: cutParts f n (l.drop n)

/-- Send one transaction of a session: it takes the next sequence number and stays unacknowledged (R311, R312). -/
def State.sendOne (s : State) (sid : W32) (ty : Byte) (reply note cont : Bool) (ref : W32) (st : Byte)
    (content : List Byte) : State :=
  match s.sess? sid with
  | none => s
  | some x =>
    let t : TxTr := ⟨x.txSeq, ty, reply, note, cont, ref, st, content, s.mono, 100000, 0, false⟩
    let up := fun (x : Session) =>
      { x with txSeq := nextSeq x.txSeq, txPkt := x.txPkt + 1, unacked := x.unacked ++ [t], ackDue := none }
    (s.modSess sid up).emit (.trans sid t)

/-- Send a message in parts where it exceeds the content limit (R310). -/
def State.sendParts (s : State) (sid : W32) (ty : Byte) (reply note : Bool) (ref : W32) (st : Byte)
    (parts : List (List Byte)) : State :=
  match parts with
  | [] => s
  | [p] => s.sendOne sid ty reply note false ref st p
  | p :: r => (s.sendOne sid ty reply note true ref st p).sendParts sid ty reply note ref st r

/-- Send a message on a session. -/
def State.sendMsg (s : State) (sid : W32) (ty : Byte) (reply note : Bool) (ref : W32) (st : Byte)
    (content : List Byte) : State :=
  match s.sess? sid with
  | none => s
  | some x => s.sendParts sid ty reply note ref st (cutParts content.length (s.contentLimit x.port) content)

/-- Answer a request: the reply is stored, to the last 1024, and sent (R313). -/
def State.reply (s : State) (sid seq : W32) (ty : Byte) (st : Status) (content : List Byte) : State :=
  let s := s.modSess sid (fun x => { x with replies := (⟨seq, ty, st.code, content⟩ :: x.replies).take 1024 })
  s.sendMsg sid ty true false seq st.code content

/-- A NOTIFY to one session: kind, length, data (R320). -/
def State.notify (s : State) (sid : W32) (kind : Nat) (data : List Byte) : State :=
  s.sendMsg sid 0x50 false true 0 0 (leBytes 2 kind ++ leBytes 2 data.length ++ data)

/-- A NOTIFY to every open session of a role. -/
def State.notifyRole (s : State) (r : Role) (kind : Nat) (data : List Byte) : State :=
  s.each ((s.sessions.filter (fun x => x.role == r)).map (fun x => x.id)) (fun s id => s.notify id kind data)

/-- Reverse the low `n` bits of a number. -/
def revBits (n v : Nat) : Nat :=
  match n with
  | 0 => 0
  | k + 1 => (v % 2) * 2 ^ k + revBits k (v / 2)

/-- One bit of the check computation (R315). -/
def crcBit (w poly r b : Nat) : Nat :=
  let fb := (r / 2 ^ (w - 1) + b) % 2
  let r := (r * 2) % 2 ^ w
  if fb = 1 then Nat.xor r poly else r

/-- One byte, most significant bit first (R315). -/
def crcByte (w poly : Nat) (refin : Bool) (r : Nat) (b : Byte) : Nat :=
  let v := if refin then revBits 8 b.toNat else b.toNat
  [7, 6, 5, 4, 3, 2, 1, 0].foldl (fun r j => crcBit w poly r ((v / 2 ^ j) % 2)) r

/-- A check profile (R315). -/
structure Profile where
  width : Nat
  poly : Nat
  init : Nat
  refin : Bool
  refout : Bool
  invert : Bool
  deriving DecidableEq, Repr

/-- The running value over some bytes (R318). -/
def Profile.run (p : Profile) (r : Nat) (l : List Byte) : Nat := l.foldl (crcByte p.width p.poly p.refin) r
/-- The check from a running value (R315). -/
def Profile.finish (p : Profile) (r : Nat) : Nat :=
  let r := if p.refout then revBits p.width r else r
  if p.invert then Nat.xor r (2 ^ p.width - 1) else r
/-- The check of a content (R315). -/
def Profile.check (p : Profile) (l : List Byte) : Nat := p.finish (p.run p.init l)

/-- CRC-32C (R246). -/
def crc32cProfile : Profile := ⟨32, 0x1EDC6F41, 0xFFFFFFFF, true, true, true⟩
def crc32c (l : List Byte) : Nat := crc32cProfile.check l

/-- Profile `k` of NET_CHK_k (R315, R327). -/
def State.profile (s : State) (k : Nat) : Profile :=
  let w := s.fld (aNetChkCfg k) 6 0
  let v := fun lo hi => ((s.reg hi).toNat * 2 ^ 32 + (s.reg lo).toNat) % 2 ^ w
  ⟨w, v (aNetChkPolyLo k) (aNetChkPolyHi k), v (aNetChkInitLo k) (aNetChkInitHi k),
    s.bit (aNetChkCfg k) 8, s.bit (aNetChkCfg k) 9, s.bit (aNetChkCfg k) 10⟩

/-- The NV window: sensors 62 and 63 from -20 to 110 degrees (R375). -/
def State.nvWindow (s : State) : Bool :=
  [62, 63].all (fun k => decide (-20 * 128 ≤ (s.sensor k).value) && decide ((s.sensor k).value ≤ 110 * 128))

/-- Bytes 0-191 of a log entry (R349). -/
def logBytes (num : W32) (p : LogPend) : List Byte :=
  leBytes 4 num.toNat ++ leBytes 2 p.cls.toNat ++ [p.role, p.flags] ++ leBytes 8 p.tai.toNat ++ leBytes 8 p.mono.toNat
    ++ leBytes 4 p.session.toNat ++ leBytes 8 p.keyId.toNat ++ (p.detail ++ List.replicate 156 0).take 156

/-- Bytes of a 256-bit hash, as stored. -/
def hashBytes (h : BitVec 256) : List Byte := leBytes 32 h.toNat

/-- Prune the log region when it holds 65,536 entries (R351): the oldest 4096 go, after a class 0x000C entry. -/
def Log.room (l : Log) (tai mono : W64) : Log :=
  if l.entries.length < 65535 then l else
    let kept := l.entries.drop 4096
    let d := match kept with
      | [] => []
      | e :: _ => leBytes 4 e.number.toNat ++ hashBytes e.prev
    let n := l.num + 1
    let p : LogPend := ⟨0x000C, 3, 0, tai, mono, 0, 0, d⟩
    let h := Config.sha256 (hashBytes l.head ++ logBytes n p)
    { l with num := n, head := h, entries := kept ++ [⟨n, p.cls, p.role, p.flags, tai, mono, 0, 0, d, l.head, h⟩] }

/-- Chain and commit one entry (R349, R352). -/
def Log.commit (l : Log) (p : LogPend) : Log :=
  let l := l.room p.tai p.mono
  let n := l.num + 1
  let h := Config.sha256 (hashBytes l.head ++ logBytes n p)
  { l with num := n, head := h,
           entries := l.entries ++ [⟨n, p.cls, p.role, p.flags, p.tai, p.mono, p.session, p.keyId, p.detail, l.head, h⟩] }

/-- The second of TB_MONO, and the entries already taken in it (R351). -/
def State.logSec (s : State) : Nat := s.mono.toNat / 1000000000
def State.logTaken (s : State) : Nat := if s.log.sec = s.logSec then s.log.inSec else 0

/-- Count an entry of the current second. -/
def State.logTake (s : State) : State :=
  { s with log := { s.log with inSec := s.logTaken + 1, sec := s.logSec } }

/-- An entry handed to the NV store, or merged beyond 1000 in a second, under a role, session and key (R349, R351, R352). -/
def State.logAs (s : State) (role : Byte) (sid : W32) (key : W64) (cls : BitVec 16) (detail : List Byte) : State :=
  if s.logTaken < 1000 then
    let p : LogPend := ⟨cls, role, 0, s.clock.sys, s.mono, sid, key, detail⟩
    let s := s.logTake
    { s with log := { s.log with pend := s.log.pend ++ [p] } }
  else
    let m := s.log.merged
    let m' := if m.any (fun x => x.1 == cls) then m.map (fun x => if x.1 == cls then (x.1, x.2 + 1) else x) else m ++ [(cls, 1)]
    { s with log := { s.log with merged := m' } }

/-- An entry that the module makes itself (R349). -/
def State.logOwn (s : State) (cls : BitVec 16) (detail : List Byte) : State := s.logAs 3 0 0 cls detail

/-- A class 0x000B entry: block, code and data (R350). The numbering of blocks and codes is the model's own. -/
def State.logEvent (s : State) (block code : Nat) (data : List Byte) : State :=
  s.logOwn 0x000B (leBytes 2 block ++ leBytes 2 code ++ data)

/-- Key identifier as logged (R349): its first 8 bytes. -/
def keyWord (k : BitVec 256) : W64 := k.setWidth 64

/-- Role code of a log entry (R349). -/
def Role.code : Role → Byte
  | .operator => 0
  | .installer => 1
  | .maker => 2

/-- Entries handed over earlier are chained first, unless the NV store holds them back (R352, R375). -/
def State.logFlush (s : State) : State :=
  if s.nv.holding then s else { s with log := s.log.pend.foldl Log.commit { s.log with pend := [] } }

/-- Commit an entry of a session at once (R348, R352). -/
def State.logNow (s : State) (x : Session) (cls : BitVec 16) (flags : Byte) (detail : List Byte) : State :=
  let s := s.logFlush.logTake
  { s with log := s.log.commit ⟨cls, x.role.code, flags, s.clock.sys, s.mono, x.id, keyWord x.keyId, detail⟩ }

/-- The entries of a privileged request, committed before its change; refused with STATE outside the NV window and with
RATE beyond 1000 entries in the second (R348, R351, R375). -/
def State.logPriv (s : State) (x : Session) (cls : BitVec 16) (details : List (List Byte)) : Except Status State :=
  if !s.nvWindow then .error .state
  else if s.logTaken + details.length > 1000 then .error .rate
  else .ok (s.each details (fun s d => s.logNow x cls 0 d))

/-- A privileged change: logged first; a refusal for the log rate is counted (R348, R351, R353). -/
def State.privileged (s : State) (x : Session) (cls : BitVec 16) (details : List (List Byte)) (k : State → Answer) : Answer :=
  match s.logPriv x cls details with
  | .ok s => k s
  | .error .rate => .failed (s.count aFlkCnt 15 8 1) .rate noDetail
  | .error st => .refuse st noDetail

/-- A refused request of a privileged kind: logged at most once a second for a session, with a count of the rest (R348). -/
def State.logRefused (s : State) (x : Session) (cls : BitVec 16) (detail : List Byte) : State :=
  if x.refusedSec = some s.logSec then s.modSess x.id (fun x => { x with refusedN := x.refusedN + 1 })
  else if s.nvWindow && decide (s.logTaken < 1000) then
    let s := s.logNow x cls 1 (leBytes 4 x.refusedN ++ detail)
    s.modSess x.id (fun x => { x with refusedSec := some s.logSec, refusedN := 0 })
  else s

/-- Requests served in ingot mode (R326): KEEPALIVE, CLOSE, REG_READ, LOG_READ, NV_READ, ATTEST. -/
def ingotServes (ty : Byte) : Bool := [(0x03 : Byte), 0x04, 0x10, 0x60, 0x62, 0x63].contains ty

/-- Act on the request `seq` of session `sid`, of type `ty` and open to `role` (any, where none), when it is the next
one delivered (R310, R311); a refusal answers with its detail and changes nothing else (R320, R325). -/
def State.request (s : State) (sid seq : W32) (ty : Byte) (role : Option Role) (k : Session → State → Answer) : State :=
  match s.sess? sid with
  | none => s
  | some x =>
    match x.inbox with
    | [] => s
    | q :: rest =>
      if q.seq = seq ∧ q.msgType = ty then
        let s := s.modSess sid (fun x => { x with inbox := rest })
        if s.boot.ingot && !ingotServes ty then s.reply sid seq ty .ingot noDetail.bytes
        else if (match role with | none => false | some r => r != x.role) then
          s.reply sid seq ty .roleDenied noDetail.bytes
        else if q.continued then s.reply sid seq ty .range noDetail.bytes
        else match k x s with
          | .done s' c => s'.reply sid seq ty .ok c
          | .refuse st d => s.reply sid seq ty st d.bytes
          | .failed s' st d => s'.reply sid seq ty st d.bytes
      else s

/-- A row of a fuse table: the rows programmed since manufacture, and the row as built (R371). -/
def fuseRowOf (t : Tbl W64) (r : Nat) : W64 := Tbl.get t r (Config.fuseRow r)
/-- CRC-8 of bits [59:8] (R371). -/
def fuseCrc (w : W64) : Nat :=
  (List.range 52).foldl (fun c i => crcBit 8 0x07 c (if w.getLsbD (59 - i) then 1 else 0)) 0
/-- The row has its valid marker, and its crc holds (R373). -/
def fuseValid (w : W64) : Bool := w.getLsbD 63
def fuseGood (w : W64) : Bool := fuseValid w && fuseCrc w == w.toNat % 256
def fuseClass (w : W64) : Nat := w.toNat / 2 ^ 52 % 256
def fuseKey (w : W64) : Nat := w.toNat / 2 ^ 40 % 4096
def fuseData (w : W64) : W32 := (w >>> 8).setWidth 32
/-- The record of a class and key in the highest of the rows below `n`. -/
def fuseBelow (t : Tbl W64) (cls key n : Nat) : Option W32 :=
  match n with
  | 0 => none
  | k + 1 =>
    let w := fuseRowOf t k
    if fuseGood w && fuseClass w == cls && fuseKey w == key then some (fuseData w) else fuseBelow t cls key k
/-- The record in force for a class and key: of the valid rows, that with the highest number (R373). -/
def fuseRec (t : Tbl W64) (cls key : Nat) : Option W32 := fuseBelow t cls key 4096

/-- The serial number: its two fuse records, else as built (R372). -/
def State.serial (s : State) : W64 :=
  match fuseRec s.fuseShadow 0x01 1, fuseRec s.fuseShadow 0x01 0 with
  | some a, some b => a ++ b
  | _, _ => Config.serial

end Sys2Proof.Machine
end

