-- ==== Sys2Proof/Machine/CmkCore.lean ====
section
/-! DEFINITION. The Coremaker's requests, interrupts and journal (R355-R363), and the storing of a word by its register's field types
(R2, R4, R5). -/

namespace Sys2Proof.Machine

/-- The bits of a register that a write stores: a system channel's record and the fixed check profiles have none (R206, R327). -/
def RegRef.rwMask (f : RegRef) : W32 :=
  let i := f.idx.headD 0
  match f.row.id with
  | .sprCh => if i < 240 then f.row.rw else 0
  | .netChkCfg | .netChkPolyLo | .netChkPolyHi | .netChkInitLo | .netChkInitHi => if i < 2 then 0 else f.row.rw
  | _ => f.row.rw
/-- The word that a write of `v` leaves over `old`: RW fields stored, W1C flags written 1 cleared (R2, R5). -/
def RegRef.stored (f : RegRef) (old v : W32) : W32 :=
  let w := (old &&& ~~~f.rwMask) ||| (v &&& f.rwMask)
  let w := w &&& ~~~(v &&& f.row.w1c)
  match f.row.id with
  | .peWdog => if fieldOf w 23 0 = 0 then withField w 23 0 1 else w
  | _ => w

/-- A microword with its action code, as its 160 bits (R355). -/
def MicroCode (w : MicroWord) (action : Nat) : BitVec 160 :=
  BitVec.ofNat 160 ((if w.safe then 2 ^ 159 else 0) + (if w.log then 2 ^ 158 else 0) + w.cond.toNat * 2 ^ 150
    + (if w.pol then 2 ^ 149 else 0) + w.timeout.toNat * 2 ^ 128 + w.next.toNat * 2 ^ 116 + w.alt.toNat * 2 ^ 104
    + w.seqk.toNat * 2 ^ 100 + action * 2 ^ 96 + w.addr.toNat * 2 ^ 64 + w.imm.toNat * 2 ^ 32 + w.src.toNat * 2 ^ 27
    + w.dst.toNat * 2 ^ 22 + w.alu.toNat * 2 ^ 16 + w.count.toNat)
/-- The fields of a stored word, and its action code (R355). -/
def microOf (b : BitVec 160) : MicroWord :=
  ⟨b.getLsbD 159, b.getLsbD 158, b.extractLsb' 150 8, b.getLsbD 149, b.extractLsb' 128 21, b.extractLsb' 116 12, b.extractLsb' 104 12,
    b.extractLsb' 100 4, b.extractLsb' 64 32, b.extractLsb' 32 32, b.extractLsb' 27 5, b.extractLsb' 22 5, b.extractLsb' 16 6,
    b.extractLsb' 0 16⟩
def microAction (b : BitVec 160) : Nat := b.toNat / 2 ^ 96 % 16
/-- Word at an address of the control store in force. -/
def State.microAt (s : State) (pc : Nat) : BitVec 160 := Tbl.get s.cmk.store pc (Config.controlWord pc)

/-- Priority of a routine, 0 the highest (R358). -/
def routinePriority (r : Byte) : Nat :=
  match r.toNat with
  | 0x01 | 0x02 | 0x07 => 0
  | 0x03 | 0x04 | 0x05 | 0x06 => 1
  | 0x09 | 0x20 => 2
  | _ => 3

/-- Cluster that a calibration routine's target lies in (R358, R364): an RF channel, an ADC channel, or a group. -/
def calCluster (r : Byte) (target : Nat) : Option Nat :=
  match r.toNat with
  | 0x10 => if target < 96 then some (chanCluster target) else none
  | 0x11 => if target < 32 then some (target / 4) else none
  | 0x12 => if target < 16 then some (target % 8) else none
  | _ => none

/-- A queued request may start (R364, R409, R415): calibration not at temper level 2 or on a claimed cluster; ADC_BG and TIU_CAL
not while a control store waits to be switched in. -/
def State.cmkEligible (s : State) (q : CmkReq) : Bool :=
  let r := q.routine.toNat
  let hot := decide (2 ≤ s.thermal.level) && (r == 0x10 || r == 0x11 || r == 0x12 || r == 0x21)
  let busy := match calCluster q.routine q.target.toNat with
    | none => false
    | some k => s.claimed k
  let install := (r == 0x08 || r == 0x0A) && (match s.fw.install with | none => false | some x => x.1 == 2)
  !hot && !busy && !install

/-- A request of higher priority than the running routine waits (R361). -/
def State.cmkOutranked (s : State) : Bool :=
  match s.cmk.running with
  | none => false
  | some c => s.cmk.queue.any (fun q => s.cmkEligible q && decide (routinePriority q.routine < routinePriority c.routine))
/-- An interrupt is pending (R357, R361). -/
def State.cmkInt (s : State) : Bool := s.cmk.running.isSome && (s.cmk.abort || s.cmkOutranked)

/-- An internal trim, by its address. -/
def State.setTrim (s : State) (a : Nat) (v : W32) : State := { s with cmk := { s.cmk with trims := Tbl.put s.cmk.trims (a - 2 ^ 31) v 0 } }
/-- The word at an address as a WRITE leaves it (R2, R4, R356): an internal trim in whole; of a CSR the stored fields take the value,
flags written 1 clear, and RO and reserved bits stay. DEDUCED: a word's write sets the word alone; what acts has an action of its own
(SLIP, FUSE, COMMIT, PUBLISH). -/
def State.cmkPoke (s : State) (a : Nat) (v : W32) : State :=
  if 2 ^ 31 ≤ a then s.setTrim a v
  else match findReg a with
    | none => s
    | some f => s.setReg a (f.stored (s.reg a) v)

/-- Undo: the journal's old values go back in reverse order (R362). -/
def State.cmkUndo (s : State) : State :=
  let s := s.each s.cmk.journal (fun s e => s.cmkPoke e.1.toNat e.2)
  { s with cmk := { s.cmk with journal := [] } }

/-- A power-up that its routine did not bring to its end (R358, R362, R363): the bank or group stays OFF. -/
def State.routineUndone (s : State) (r : Byte) (target : BitVec 24) : State :=
  let n := target.toNat
  if (r = 0x03 ∨ r = 0x04) ∧ (s.bank n).st = .poweringUp then s.setBank n ⟨.off, s.now, false⟩
  else if r = 0x05 ∧ (s.grp n).st = .poweringUp then s.setGrp n { s.grp n with st := .off, since := s.now, enPending := false }
  else s

/-- A routine ends with a result (R356, R360, R365): a set not committed is discarded; END_FAIL and abort undo and are counted. -/
def State.cmkEnd (s : State) (ok : Bool) (result : Byte) : State :=
  match s.cmk.running with
  | none => s
  | some c =>
    let s := if ok then s else (s.cmkUndo.count aCmkCnt 31 24 1).logEvent 0x0007 1 [c.routine, result]
    let s := { s with cmk := { s.cmk with running := none, journal := [], abort := false, intSince := none, set := [], result := result } }
    if ok then s else s.routineUndone c.routine c.target

/-- The routine yields (R361): the journal is committed and its context saved in one of three slots. -/
def State.cmkYield (s : State) : State :=
  match s.cmk.running with
  | none => s
  | some c =>
    let s := s.count aCmkCnt 15 8 1
    { s with cmk := { s.cmk with
        running := none
        yielded := s.cmk.yielded ++ [{ c with waiting := none, set := s.cmk.set }]
        journal := []
        set := []
        intSince := none } }

/-- An interrupt is taken at a safe point (R361): a fault that demands abort ends the routine with 0xFD; any other yields while a
context slot is free. -/
def State.cmkTakeInt (s : State) : State :=
  if s.cmk.abort then s.cmkEnd false 0xFD
  else if s.cmk.yielded.length < 3 then s.cmkYield
  else { s with cmk := { s.cmk with intSince := some s.mono } }

/-- A routine that waits in a safe word takes its interrupt at once (R357, R361); the wait of any other begins to count. -/
def State.cmkNotice (s : State) : State :=
  match s.cmk.running with
  | none => s
  | some c =>
    if !s.cmkInt then s
    else if c.waiting.isSome ∧ (microOf (s.microAt c.pc)).safe then s.cmkTakeInt
    else { s with cmk := { s.cmk with intSince := some (s.cmk.intSince.getD s.mono) } }

/-- A request for a routine (R359): merged with one queued, running or yielded, refused where 16 wait, else queued. -/
def State.cmkRequest (s : State) (r : Byte) (target : BitVec 24) : Option State :=
  let same := fun (c : CmkCtx) => c.routine == r && c.target == target
  if s.cmk.queue.any (fun q => q.routine == r && q.target == target) || s.cmk.yielded.any same
      || (match s.cmk.running with | none => false | some c => same c) then some (s.count aCmkCnt 7 0 1)
  else if 16 ≤ s.cmk.queue.length then none
  else some (State.cmkNotice { s with cmk := { s.cmk with queue := s.cmk.queue ++ [⟨r, target⟩] } })

/-- A request that the module makes itself (R358, R359): where the queue is full it waits, to be made again. -/
def State.routineAsk (s : State) (r : Byte) (target : Nat) : State :=
  let q : CmkReq := ⟨r, BitVec.ofNat 24 target⟩
  match s.cmkRequest r q.target with
  | some t => t
  | none => { s with cmk := { s.cmk with asks := if s.cmk.asks.contains q then s.cmk.asks else s.cmk.asks ++ [q] } }
/-- The requests that wait are made again, once the queue has room. -/
def State.asksAgain (s : State) : State :=
  s.each s.cmk.asks (fun s q => State.routineAsk { s with cmk := { s.cmk with asks := s.cmk.asks.erase q } } q.routine q.target.toNat)
/-- A request leaves the queue. -/
def State.unask (s : State) (q : CmkReq) : State :=
  { s with cmk := { s.cmk with queue := s.cmk.queue.filter (fun x => x != q), asks := s.cmk.asks.filter (fun x => x != q) } }
/-- A routine's own success as its event reports it (R358): the routine has ended. -/
def State.routineDone (s : State) (r : Byte) (target : Nat) : State :=
  let q : CmkReq := ⟨r, BitVec.ofNat 24 target⟩
  let same := fun (c : CmkCtx) => c.routine == r && c.target == q.target
  let s := s.unask q
  let s := { s with cmk := { s.cmk with yielded := s.cmk.yielded.filter (fun c => !same c) } }
  match s.cmk.running with
  | none => s
  | some c => if same c then s.cmkEnd true 0 else s
/-- The Moulder withdraws a request (R361): queued, it goes; running, it is aborted. -/
def State.routineGone (s : State) (r : Byte) (target : Nat) : State :=
  let q : CmkReq := ⟨r, BitVec.ofNat 24 target⟩
  let same := fun (c : CmkCtx) => c.routine == r && c.target == q.target
  let s := s.unask q
  let s := { s with cmk := { s.cmk with yielded := s.cmk.yielded.filter (fun c => !same c) } }
  match s.cmk.running with
  | none => s
  | some c => if same c then State.cmkNotice { s with cmk := { s.cmk with abort := true } } else s

/-- Domain of a microword's address (R355, R397, R437): a CSR of an RF bank, the ADC bank or the flux and bias channels lies with it. -/
def addrDomain (a : W32) : Nat :=
  let n := a.toNat
  if 2 ^ 31 ≤ n then Config.trimDomain a
  else if 0x440000 ≤ n ∧ n < 0x480000 then 3 + (n - 0x440000) / 0x10000
  else if 0x500000 ≤ n ∧ n < 0x520000 then 7
  else if 0x600000 ≤ n ∧ n < 0x620000 then 8
  else if 0xC0000 ≤ n ∧ n < 0xD0000 then 9 else 0
/-- A domain loses power: a routine whose journal touches it is to be aborted (R361). -/
def State.domainDown (s : State) (d : Nat) : State :=
  if s.cmk.running.isSome ∧ s.cmk.journal.any (fun e => addrDomain e.1 == d) then State.cmkNotice { s with cmk := { s.cmk with abort := true } }
  else s

/-- A fault that demands abort (R361): the running routine is aborted at its next safe point, and yielded ones end. -/
def State.cmkFault (s : State) : State :=
  let s := s.each s.cmk.yielded (fun s c => ((s.count aCmkCnt 31 24 1).logEvent 0x0007 1 [c.routine, 0xFD]).routineUndone c.routine c.target)
  let s := { s with cmk := { s.cmk with yielded := [], abort := s.cmk.running.isSome } }
  s.cmkNotice
/-- Every routine is aborted at once with undo, its queue with it: a stop (R394, R429). -/
def State.cmkStop (s : State) : State :=
  let s := s.cmkFault.cmkEnd false 0xFD
  { s with cmk := { s.cmk with queue := [], asks := [], setSt := if s.cmk.setSt = .committed then .committed else .none, sub := none } }

/-- Sensors beside the fuses and the NV store lie in a range of degrees (R374, R375). -/
def State.sensors6263 (s : State) (lo hi : Int) : Bool :=
  [62, 63].all (fun k => decide (lo * 128 ≤ (s.sensor k).value) && decide ((s.sensor k).value ≤ hi * 128))
/-- The fuse window (R374): both sensors, and the programming rail as the last round read it. -/
def State.fuseWindow (s : State) : Bool :=
  s.sensors6263 10 85 && decide (1710 ≤ s.supply.progMv) && decide (s.supply.progMv ≤ 1890)

end Sys2Proof.Machine
end

