-- ==== Sys2Proof/Machine/SprueOps.lean ====
section
/-! DEFINITION. Publishing an event: who subscribes to a channel, hop counts, dropped events (R204-R208, R219, R220). -/

namespace Sys2Proof.Machine

/-- The word at an address whose register resets to 0: as `reg`, without looking the reset value up. -/
def State.reg0 (s : State) (a : Nat) : W32 := Tbl.get s.regs a 0

/-- Engines that subscribe to a channel (R69, R208). -/
def State.subEngines (s : State) (ch : Byte) : List Nat :=
  (s.engines.filter (fun x => x.2.subs.contains ch)).map (fun x => x.1)

/-- Registers listed in the file that enable a subscription record: addresses `base + stride * i`, bit `en`, channel in
[7:0] (R208). -/
def State.subRegs (s : State) (base stride n en : Nat) (ch : Byte) : List Nat :=
  (s.regs.filter (fun x =>
    decide (base ≤ x.1) && (x.1 - base) % stride == 0 && decide ((x.1 - base) / stride < n)
      && x.2.getLsbD en && x.2.setWidth 8 == ch)).map (fun x => (x.1 - base) / stride)

/-- Tones whose player subscribes to a channel (R106). -/
def State.subTones (s : State) (ch : Byte) : List Nat :=
  ((List.range 8).flatMap (fun t => (s.subRegs (0x440800 + 0x40 * t) 0x1000 64 8 ch).map (fun c => 8 * c + t)))
    ++ ((List.range 16).flatMap (fun t => (s.subRegs (0x500800 + 0x40 * t) 0x1000 32 8 ch).map (fun c => 512 + 16 * c + t)))

/-- ADC channels with trig_en = 1 on a channel (R162). -/
def State.subAdc (s : State) (ch : Byte) : List Nat :=
  (List.range 32).filter (fun c => (Tbl.get s.regs (aAdcCtrl c) 0x300).getLsbD 1 && (s.reg0 (aAdcTrig c)).setWidth 8 == ch)

/-- Destination modules of a channel (R222). -/
def State.exports (s : State) (ch : Byte) : List Nat :=
  let lo := s.reg0 (aSprChExpLo ch.toNat)
  let hi := s.reg0 (aSprChExpHi ch.toNat)
  (List.range 64).filter (fun m => if m < 32 then lo.getLsbD m else hi.getLsbD (m - 32))

/-- The task inputs that hold a channel (R208); an imported event is not exported again (R222). -/
def State.inputsOf (s : State) (ch : Byte) (remote : Bool) : List TaskInput :=
  let fins := fun (n : Nat) [NeZero n] (l : List Nat) => l.map (fun i => Fin.ofNat n i)
  (fins 128 (s.subEngines ch)).map (fun e => TaskInput.latch e ch)
    ++ (fins 1024 (s.subTones ch)).map TaskInput.player
    ++ (if ch = 240 then [TaskInput.capTrig] else [])
    ++ [TaskInput.flag ch]
    ++ (fins 32 (s.subAdc ch)).map TaskInput.adcTrig
    ++ (fins 16 (s.subRegs 0xC0804 32 8 8 ch ++ (s.subRegs 0xCB004 32 8 8 ch).map (fun g => 8 + g))).map TaskInput.grpStrobe
    ++ (fins 64 (s.subRegs 0x42000 8 64 31 ch)).map TaskInput.relay
    ++ (fins 8 ((s.subRegs 0x43800 4 8 31 ch).filter (fun k => (s.reg0 (aSprTrig k)).getLsbD 30))).map TaskInput.trigOut
    ++ (if remote || (s.exports ch).isEmpty then [] else [TaskInput.sendOut ch])

/-- An event that would have hop 17 or more: dropped, counted, latched, and EVENT_LOOP for the subscribers that execute a
shot in which its stamp falls (R219, R220). -/
def State.dropHop (s : State) (v : Ev) : State :=
  let s := s.count aSprCntA 15 0 1
  let s := s.setReg aSprLoop (BitVec.ofNat 32 (v.ch.toNat * 2 ^ 24 + v.stamp.toNat % 2 ^ 24))
  s.each (s.subEngines v.ch) (fun s e => s.condAt e .eventLoop (Tick.ofStamp s.now v.stamp))

/-- Publish an event: each task input of the channel gets its copy, and SPR_CH_LAST_n shows it (R208, R225). -/
def State.publish (s : State) (v : Ev) : State :=
  if v.hop.toNat = 0 ∨ 16 < v.hop.toNat then s.dropHop v else
    let w := v.payload.toNat * 2 ^ 16 + v.hop.toNat * 2 ^ 11 + (if v.remote then 2 ^ 10 else 0) + v.producer.toNat
    let s := s.setReg (aSprChLast v.ch.toNat) (BitVec.ofNat 32 w)
    { s with waiting := s.waiting ++ (s.inputsOf v.ch v.remote).map (fun i => (i, v)) }

/-- A local event: channel, stamp, payload, hop, producer. -/
def localEv (ch : Byte) (stamp : Stamp) (payload : BitVec 16) (hop : BitVec 5) (producer : BitVec 10) : Ev :=
  ⟨ch, stamp, payload, hop, producer, false, false, 0⟩

/-- Publish on a system channel (R207). -/
def State.publishSys (s : State) (ch : Byte) (t : Tick) (payload : BitVec 16) : State :=
  s.publish (localEv ch t.stamp payload 1 0x0F9)

/-- Events waiting at an input, and the rest. -/
def State.atInput (s : State) (i : TaskInput) : List Ev := (s.waiting.filter (fun x => x.1 == i)).map (fun x => x.2)

/-- Take the first `n` events waiting at an input out of the list of waiting copies. -/
def takeInput (i : TaskInput) (n : Nat) (l : List (TaskInput × Ev)) : List (TaskInput × Ev) :=
  match l with
  | [] => []
  | x :: r =>
    match n with
    | 0 => x :: r
    | k + 1 => if x.1 = i then takeInput i k r else x :: takeInput i (k + 1) r

/-- The order of a round: ascending stamp, ties by ascending producer (R210). -/
def evBefore (a b : Ev) : Bool :=
  decide (sdiff a.stamp b.stamp < 0) || (a.stamp == b.stamp && decide (a.producer.toNat ≤ b.producer.toNat))

/-- Insert an event into a round in order. -/
def insertEv (v : Ev) (l : List Ev) : List Ev :=
  match l with
  | [] => [v]
  | x :: r => if evBefore v x then v :: x :: r else x :: insertEv v r

/-- A round's events in the order in which they are presented (R210). -/
def sortEvs (l : List Ev) : List Ev := l.foldr insertEv []

end Sys2Proof.Machine
end

