-- ==== Sys2Proof/Machine/PatOps.lean ====
section
/-! DEFINITION. Segment descriptors, refill blocks and the requests that fill the hot caches (R94, R95, R109-R111). -/

namespace Sys2Proof.Machine

/-- Descriptor fields (R94). -/
def descField (d : BitVec 256) (byte hi lo : Nat) : Nat := (d.toNat / 2 ^ (8 * byte + lo)) % 2 ^ (hi - lo + 1)
def Seg.baseAddr (g : Seg) : Nat := descField g.desc 0 28 0 * 128
def Seg.granules (g : Seg) : Nat := descField g.desc 4 19 0
def Seg.len (g : Seg) : Nat := 32 * g.granules
def Seg.bytesLen (g : Seg) : Nat := 4 * g.len
def Seg.hasNext (g : Seg) : Bool := descField g.desc 4 25 25 == 1
def Seg.hasLoop (g : Seg) : Bool := descField g.desc 4 26 26 == 1
def Seg.notifies (g : Seg) : Bool := descField g.desc 4 27 27 == 1
def Seg.rateNum (g : Seg) : Nat := descField g.desc 8 15 0
def Seg.rateShift (g : Seg) : Nat := descField g.desc 8 18 16
def Seg.next' (g : Seg) : BitVec 20 := BitVec.ofNat 20 (descField g.desc 12 19 0)
def Seg.loopTo (g : Seg) : BitVec 20 := BitVec.ofNat 20 (descField g.desc 16 19 0)
def Seg.loopCount (g : Seg) : BitVec 16 := BitVec.ofNat 16 (descField g.desc 20 15 0)

/-- DAC samples from the start of a segment to pattern sample `i` (R95, R118). -/
def Seg.dacAt (g : Seg) (i : Nat) : Nat := (i * g.rateNum + 2 ^ g.rateShift - 1) / 2 ^ g.rateShift
/-- DAC samples of a whole segment: L × D (R95). -/
def Seg.dacLen (g : Seg) : Nat := g.dacAt g.len
/-- DAC samples from the start of the segment to its commit point, pattern sample L - 16 (R102). -/
def Seg.commitAt (g : Seg) : Nat := g.dacAt (g.len - 16)
/-- Pattern sample due at DAC sample `m` of the segment (R106, R118). -/
def Seg.sampleAt (g : Seg) (m : Nat) : Nat := m * 2 ^ g.rateShift / g.rateNum

/-- DRAM place of a pattern-store address (R109): its pseudo-channel, to each of which a block gives 128 bytes, then bank and row. -/
def State.dramPlace (s : State) (a : Nat) : Nat × Nat × Nat := (a / 128 % 32, Config.addressHash s.hashKey (a / 4096))

/-- Same rate: the join is filtered through, so the successor's first granule is read at the commit point (R112, R118). -/
def Seg.sameRate (a b : Seg) : Bool := a.rateNum == b.rateNum && a.rateShift == b.rateShift

/-- Blocks of 4 KiB that hold granules `a .. b` of a segment. -/
def Seg.block (g : Seg) (gran : Nat) : Nat := (g.baseAddr + 128 * gran) / 4096
def Seg.blocks (g : Seg) : List Nat :=
  (List.range (g.block (g.granules - 1) + 1 - g.block 0)).map (fun i => g.block 0 + i)
def Seg.firstTwo (g : Seg) : List Nat := (g.blocks).take 2
/-- Blocks that a segment touches lie in [first, last]. -/
def Seg.lastBlock (g : Seg) : Nat := g.block (g.granules - 1)
/-- Blocks pinned in every cache: those of READY pinned segments, each counted once (R111). -/
def State.pinnedBlocks (s : State) : List Nat :=
  ((s.segs.filter (fun x => x.2.pinned && x.2.st == .ready)).flatMap (fun x => x.2.blocks)).dedup
/-- Lines of a cluster's cache open to segments that are not pinned (R109, R111, R412). -/
def State.hotCap (s : State) (k : Nat) : Nat :=
  let h := s.hot k
  2048 - (h.retired - min h.retired 32) - s.pinnedBlocks.length
/-- A block is in a cluster's hot cache: resident, or pinned in every cache (R111). -/
def State.hotHas (s : State) (k b : Nat) : Bool :=
  (s.hot k).lines.contains b ||
    s.segs.any (fun x => x.2.pinned && x.2.st == .ready && decide (x.2.block 0 ≤ b) && decide (b ≤ x.2.lastBlock))
/-- Request the blocks of a list that are neither resident nor requested (R111). -/
def State.hotRequest (s : State) (k : Nat) (l : List Nat) : State :=
  let h := s.hot k
  let new := l.filter (fun b => !s.hotHas k b && !h.req.contains b)
  s.setHot k { h with req := h.req ++ new }
/-- Cluster of a tone (R22). -/
def toneCluster (t : Nat) : Nat := toneEng t / 16

end Sys2Proof.Machine
end

