-- ==== Sys2Proof/Machine/EfauxOps.lean ====
section
/-! DEFINITION. What the Efaux instructions share: registers, exceptions, fetch, the encodings of R50 and R51, the range
of the cursor, and the timing wall (R10, R13, R14, R44, R48, R52, R64-R66, R75, R78). -/

namespace Sys2Proof.Machine

/-- Register `v[r]`; v0 reads 0 (R44). -/
def Engine.reg (g : Engine) (r : Nat) : W32 := if r = 0 then 0 else Tbl.get g.v r 0
/-- Write `v[r]`; a write to v0 is discarded (R44). -/
def Engine.setReg (g : Engine) (r : Nat) (x : W32) : Engine := if r = 0 then g else { g with v := Tbl.put g.v r x 0 }
/-- Tick register `t[r]` (R44). -/
def Engine.treg (g : Engine) (r : Nat) : Tick := Tbl.get g.t r 0
def Engine.setTreg (g : Engine) (r : Nat) (x : Tick) : Engine := { g with t := Tbl.put g.t r x 0 }
/-- Condition bit `c[i]` (R44). -/
def Engine.cbit (g : Engine) (i : Nat) : Bool := g.c.getLsbD i
def Engine.setCbit (g : Engine) (i : Nat) (b : Bool) : Engine :=
  { g with c := if b then g.c ||| (1#8 <<< i) else g.c &&& ~~~(1#8 <<< i) }
/-- Release queue of a kind (R49), and its depth (R74). -/
def Engine.queue (g : Engine) (q : Queue) : RelQueue := match q with | .drive => g.qd | .readout => g.qr | .fluxBias => g.qf
def Engine.setQueue (g : Engine) (q : Queue) (x : RelQueue) : Engine :=
  match q with | .drive => { g with qd := x } | .readout => { g with qr := x } | .fluxBias => { g with qf := x }
def queueDepth (q : Queue) : Nat := match q with | .drive => 64 | .readout => 32 | .fluxBias => 64

/-- The next instruction follows (R52). -/
def Engine.advance (g : Engine) : Engine := { g with pc := g.pc + 1 }

/-- Whether the engine can execute its next instruction: running in a shot, no enqueue waiting. -/
def Engine.ready (g : Engine) : Bool := g.st == .running && g.shot.isSome

/-- Raise exception `n` in the engine's shot at a tick (R64-R66): only the first of a shot is recorded; the engine stops for
the rest of the shot, a pending WAITE or enqueue is abandoned. DESIGN CHOICE: PE_EXC.pc has 15 bits and shows a PC of 32768, at
which only PC_RANGE is raised, as 0. -/
def State.raiseExc (s : State) (e n : Nat) (tick : Tick) : State :=
  let g := s.eng e
  let p := s.pePhys e
  let s := s.setReg (aPeExc p) (BitVec.ofNat 32 (n * 2 ^ 24 + 2 ^ 15 + g.pc % 2 ^ 15))
  let s := s.setEng e { g with st := .stopped, wait := none, held := none, doneTick := some (g.doneTick.getD tick) }
  match g.shot with
  | none => s
  | some h =>
    (s.condIn h e .engineFault tick).modEntry h.1 h.2.1 e
      (fun x => { x with exc := if x.exc = 0 then BitVec.ofNat 8 n else x.exc })

/-- Start tick of the shot that the engine is in. -/
def Engine.start (g : Engine) : Tick := match g.shot with | none => 0 | some h => h.2.2

/-- End tick of the engine's shot in a PERIODIC run: an item stamped at or after it overruns (R33). -/
def State.periodicEnd (s : State) (g : Engine) : Option Tick :=
  match g.shot with
  | none => none
  | some h => match s.run? h.1 with
    | none => none
    | some r => if r.desc.paced then none else some (h.2.2 + r.desc.period.setWidth 64)

/-- Watchdog tick of the engine's shot (R68): limit in units of 1024 ticks from the start tick. -/
def State.watchTick (s : State) (e : Nat) : Tick :=
  (s.eng e).start + BitVec.ofNat 64 (1024 * s.fld (aPeWdog (s.pePhys e)) 23 0)
/-- Neither the shot's end tick nor its watchdog tick has come: from either on, SHOT_OVERRUN or WATCHDOG comes before anything else
that the engine would do (R65, R66). -/
def State.inTime (s : State) (e : Nat) : Bool :=
  decide ((s.now - s.watchTick e).toInt < 0)
    && (match s.periodicEnd (s.eng e) with | none => true | some x => decide ((s.now - x).toInt < 0))

/-- Program row of an engine's address, keyed as the spare rows are (R413). -/
def pmRowKey (e addr : Nat) : Nat := (e / 16) * 8192 + (e % 16) * 512 + addr / 64
/-- A corrected error at a program row is noted with its TB_MONO; the last eight are kept (R411). -/
def State.noteCorrected (s : State) (e addr : Nat) : State :=
  let k := pmRowKey e addr
  { s with spares := { s.spares with pmHits := Tbl.put s.spares.pmHits k ((s.mono :: Tbl.get s.spares.pmHits k []).take 8) [] } }

/-- Fetch (R46, R52): the engine executes `k` if the word at its PC is `code`; PC_RANGE at or beyond code_count,
MEM_UNCORRECTABLE on a double-bit error, a single-bit error corrected and counted. An engine that cannot execute, or whose
next instruction is another, is left as it is. -/
def State.fetch (s : State) (e : Nat) (code : W64) (k : State → State) : State :=
  let g := s.eng e
  if g.ready && s.inTime e then
    if g.pc > 32767 ∨ g.pc ≥ g.codeCount then s.raiseExc e 1 s.now
    else
      let w := s.progAt e g.pc
      if w.double then
        let s := s.count (aPeEcc (s.pePhys e)) 31 16 1
        (s.setEng e { g with memErr := some g.pc }).raiseExc e 8 s.now
      else if w.code = code then k (if w.single then (s.count (aPeEcc (s.pePhys e)) 15 0 1).noteCorrected e g.pc else s)
      else s
  else s

/-- Execute an instruction that only changes the engine's registers, then advance. -/
def State.alu (s : State) (e : Nat) (code : W64) (f : Engine → Engine) : State :=
  s.fetch e code (fun s => s.setEng e (f (s.eng e)).advance)

/-- Format R (R50). -/
def encR (op : Nat) (rd ra rb : BitVec 5) : W64 :=
  BitVec.ofNat 64 (op * 2 ^ 56 + rd.toNat * 2 ^ 51 + ra.toNat * 2 ^ 46 + rb.toNat * 2 ^ 41)
/-- Format I (R50). -/
def encI (op : Nat) (rd ra : BitVec 5) (imm : W32) : W64 :=
  BitVec.ofNat 64 (op * 2 ^ 56 + rd.toNat * 2 ^ 51 + ra.toNat * 2 ^ 46 + imm.toNat)
/-- Format C (R50). -/
def encC (op : Nat) (ci : BitVec 3) (ra rb : BitVec 5) (imm : W32) : W64 :=
  BitVec.ofNat 64 (op * 2 ^ 56 + ci.toNat * 2 ^ 53 + ra.toNat * 2 ^ 46 + rb.toNat * 2 ^ 41 + imm.toNat)
/-- Format B (R50): the target lies in [46:32]. -/
def encB (op : Nat) (ci : BitVec 3) (sel : Bool) (ra : BitVec 5) (target : BitVec 15) (imm : W32) : W64 :=
  BitVec.ofNat 64 (op * 2 ^ 56 + ci.toNat * 2 ^ 53 + sel.toNat * 2 ^ 52 + ra.toNat * 2 ^ 47 + target.toNat * 2 ^ 32
    + imm.toNat)
/-- Format T (R50). -/
def encT (op : Nat) (td ts : BitVec 3) (ra : BitVec 5) (imm : BitVec 40) : W64 :=
  BitVec.ofNat 64 (op * 2 ^ 56 + td.toNat * 2 ^ 53 + ts.toNat * 2 ^ 50 + ra.toNat * 2 ^ 45 + imm.toNat)
/-- Format F (R50). -/
def encF (op : Nat) (f : BitVec 3) (ra : BitVec 5) (imm : BitVec 48) : W64 :=
  BitVec.ofNat 64 (op * 2 ^ 56 + f.toNat * 2 ^ 53 + ra.toNat * 2 ^ 48 + imm.toNat)
/-- Formats P and PR (R50). -/
def encP (f : BitVec 3) (sub : BitVec 4) (seg : BitVec 20) (dt : BitVec 12) (amp : BitVec 16) : W64 :=
  BitVec.ofNat 64 (0x60 * 2 ^ 56 + f.toNat * 2 ^ 53 + sub.toNat * 2 ^ 49 + seg.toNat * 2 ^ 28 + dt.toNat * 2 ^ 16
    + amp.toNat)
def encPR (f : BitVec 3) (sub : BitVec 4) (ra rb : BitVec 5) (dt : BitVec 12) : W64 :=
  BitVec.ofNat 64 (0x61 * 2 ^ 56 + f.toNat * 2 ^ 53 + sub.toNat * 2 ^ 49 + ra.toNat * 2 ^ 43 + rb.toNat * 2 ^ 38
    + dt.toNat * 2 ^ 16)
/-- Format L (R50). -/
def encL (op : Nat) (sel : Bool) (edge : BitVec 6) (ue : Bool) (ra : BitVec 5) (dt : BitVec 12) (code : BitVec 20) : W64 :=
  BitVec.ofNat 64 (op * 2 ^ 56 + sel.toNat * 2 ^ 55 + edge.toNat * 2 ^ 49 + ue.toNat * 2 ^ 48 + ra.toNat * 2 ^ 43
    + dt.toNat * 2 ^ 28 + code.toNat)
/-- Format E (R50). -/
def encE (op : Nat) (ch : BitVec 8) (ra : BitVec 5) (dt : BitVec 12) (payload : BitVec 16) : W64 :=
  BitVec.ofNat 64 (op * 2 ^ 56 + ch.toNat * 2 ^ 48 + ra.toNat * 2 ^ 43 + dt.toNat * 2 ^ 28 + payload.toNat)
/-- Format A (R50). -/
def encA (mask : BitVec 4) (ctx : BitVec 8) (dt : BitVec 12) : W64 :=
  BitVec.ofNat 64 (0x70 * 2 ^ 56 + mask.toNat * 2 ^ 52 + ctx.toNat * 2 ^ 44 + dt.toNat * 2 ^ 28)
/-- Format W (R50). -/
def encW (ci : BitVec 3) (rd : BitVec 5) (ch : BitVec 8) (dt : BitVec 24) : W64 :=
  BitVec.ofNat 64 (0x7C * 2 ^ 56 + ci.toNat * 2 ^ 53 + rd.toNat * 2 ^ 48 + ch.toNat * 2 ^ 40 + dt.toNat)

/-- A tick lies within the shot's cursor range, S to S + 2^32 - 1 (R48). -/
def inCursor (start t : Tick) : Bool := decide ((t - start).toNat < 2 ^ 32)

/-- Move the cursor; CURSOR_RANGE outside the shot's range (R48, R54). -/
def State.moveCursor (s : State) (e : Nat) (t : Tick) : State :=
  let g := s.eng e
  if inCursor g.start t then s.setEng e { g with tc := t }.advance else s.raiseExc e 5 s.now

/-- An item's release tick and sample come before those of another (R13). -/
def itemBefore (t : Tick) (sub : BitVec 4) (u : Tick × BitVec 4) : Bool :=
  decide (sdiff t.stamp u.1.stamp < 0) || (t.stamp == u.1.stamp && decide (sub.toNat < u.2.toNat))

/-- The wall latches an item at the current tick A and judges it (R10, R13, R75): on time it takes an entry; late it is
discarded and recorded (R78). DESIGN CHOICE: the last item accepted is kept over shots, runs and cast steps, and compared by 40-bit
signed difference however long ago it was. An on-time play requests the first two blocks of its segment (R111). The queue has an
entry free. -/
def State.latchItem (s : State) (e : Nat) (q : Queue) (i : Item) : State :=
  let lead := sdiff i.tick.stamp s.now.stamp
  let g := s.eng e
  let rq := g.queue q
  let behind : Bool := match rq.last with | none => false | some u => itemBefore i.tick i.sub u
  let s := s.noteLead e lead
  if lead < 24 ∨ behind then
    let s := s.noteLate e q
    match g.shot with
    | none => s
    | some h => s.lateIn h e s.now
  else
    let g := s.eng e
    let later : Bool := match g.lastRel with | none => true | some t => decide (sdiff i.tick.stamp t.stamp ≥ 0)
    let g := { g with lastRel := if later then some i.tick else g.lastRel }
    let s := s.setEng e (g.setQueue q ⟨rq.items ++ [i], some (i.tick, i.sub)⟩)
    match i.kind with
    | .play _ seg _ => s.hotRequest (e / 16) (s.seg seg.toNat).firstTwo
    | _ => s

/-- Issue an item (R14, R33, R47, R48): CURSOR_RANGE and SHOT_OVERRUN at issue; a full queue makes the enqueue wait;
otherwise the wall latches the item and the next instruction follows. -/
def State.enqueue (s : State) (e : Nat) (q : Queue) (dt : Nat) (sub : BitVec 4) (k : ItemKind) : State :=
  let g := s.eng e
  let t := g.tc + BitVec.ofNat 64 dt
  if !inCursor g.start t then s.raiseExc e 5 s.now
  else if (match s.periodicEnd g with | none => false | some x => decide ((t - x).toInt ≥ 0)) then s.raiseExc e 6 s.now
  else if (g.queue q).items.length ≥ queueDepth q then
    let s := s.setBit (aPeQstat (s.pePhys e)) 24 true
    s.setEng e { g with st := .queueFull, held := some (q, ⟨t, sub, k⟩) }
  else
    let s := s.latchItem e q ⟨t, sub, k⟩
    s.setEng e (s.eng e).advance

/-- Queue of a frame's items (R49). -/
def frameQueue (f : BitVec 3) : Queue := if f.toNat < 4 then .drive else .readout

/-- Value that WAITE gives for an event (R61). -/
def waitValue (l : Latch) : W32 :=
  l.payload.setWidth 32 + (if l.coalesced then 0x10000 else 0) + (if l.remote then 0x40000 else 0)
    + (if l.late then 0x80000 else 0)

/-- WAITE takes an event from the latch (R61). -/
def Engine.takeEvent (g : Engine) (ci rd : Nat) (ch : Byte) (l : Latch) : Engine :=
  let g := { g with latches := g.latches.filter (fun x => x.1 != ch), wait := none, st := .running }
  ((g.setReg rd (waitValue l)).setCbit ci true).advance

/-- WAITE times out (R61). -/
def Engine.timeOut (g : Engine) (ci rd : Nat) : Engine :=
  let g := { g with wait := none, st := .running }
  ((g.setReg rd 0x00020003).setCbit ci false).advance

/-- An event reaches a latch (R61): discarded if stamped before the shot's start tick; a full latch keeps the later stamped
of the two, with its coalesced flag set. -/
def Engine.deliver (g : Engine) (v : Ev) (joined : Bool) : Engine :=
  let early : Bool := match g.shot with | none => false | some h => decide (sdiff v.stamp h.2.2.stamp < 0)
  if early then g else
    let new : Latch := ⟨v.stamp, v.payload, v.remote, v.late, joined⟩
    match g.latches.find? (fun x => x.1 == v.ch) with
    | none => { g with latches := g.latches ++ [(v.ch, new)] }
    | some old =>
      let kept : Latch := if sdiff v.stamp old.2.stamp ≥ 0 then new else old.2
      { g with latches := g.latches.map (fun x => if x.1 == v.ch then (x.1, { kept with coalesced := true }) else x) }

/-- A waiting engine takes the event of its channel; one whose deadline has passed times out, and the event stays in the
latch (R61). -/
def Engine.wake (g : Engine) (now : Tick) : Engine :=
  match g.wait with
  | none => g
  | some w =>
    if (match w.deadline with | none => false | some d => decide (sdiff now.stamp d.stamp ≥ 0)) then
      g.timeOut w.ci.toNat w.rd.toNat
    else match g.latches.find? (fun x => x.1 == w.ch) with
    | none => g
    | some l => g.takeEvent w.ci.toNat w.rd.toNat w.ch l.2

/-- A single-shot consumer counts a round of more than one event (R210). -/
def State.countJoined (s : State) (multi : Bool) : State := if multi then s.count aSprCntA 31 16 1 else s

/-- The latches of an engine take one round, in order (R61, R210). -/
def State.latchEvents (s : State) (e : Nat) (l : List Ev) : State :=
  let s := s.countJoined (decide (1 < l.length))
  s.setEng e (l.foldl (fun g v => g.deliver v (decide (1 < l.length))) (s.eng e))

/-- The events held in a swap, latch by latch in rounds of at most 7 in the order of arrival (R89, R209, R211): the channels are
those of the events. -/
def heldRounds (l : List Ev) : List (List Ev) :=
  (l.map (fun v => v.ch)).dedup.flatMap (fun ch => (chunksOf (l.length + 1) 7 (l.filter (fun v => v.ch == ch))).map sortEvs)

end Sys2Proof.Machine
end

