-- ==== Sys2Proof/Machine/ToneOps.lean ====
section
/-! DEFINITION. Tones and their pattern players, the hot caches, and the mute of RF channels: what plays, commit points,
jumps, reads, re-seeds and mutes share (chapters 5 and 6). -/

namespace Sys2Proof.Machine

/-- First DAC sample of a play, and of its current segment (12 samples a tick). -/
def Play.begin (p : Play) : Nat := 12 * p.rel.toNat + p.sub.toNat
def Play.segStart (p : Play) : Nat := p.begin + p.k
/-- The tick that holds a DAC sample. -/
def sampleTick (n : Nat) : Tick := BitVec.ofNat 64 (n / 12)
/-- A DAC sample has come by tick `now`. -/
def reached (now : Tick) (n : Nat) : Bool := decide (n / 12 ≤ now.toNat)

/-- Accumulator value A(n) of R121 at sample 0 of a tick. -/
def accAt (freq : BitVec 48) (t : Tick) : BitVec 48 := freq * BitVec.ofNat 48 (12 * t.toNat)
/-- The running accumulator at sample 0 of a tick (R122). -/
def Tone.accNow (x : Tone) (t : Tick) : BitVec 48 := x.acc + x.freq * BitVec.ofNat 48 (12 * (t - x.seedTick).toNat)
/-- Re-seed at sample 0 of a tick (R122, R123). -/
def Tone.reseed (x : Tone) (t : Tick) : Tone := { x with seedTick := t, acc := accAt x.freq t }
/-- The frame of a tone gives way at a tick. It stays known for 65,536 ticks: to the demodulation of samples on their way (R169). -/
def Tone.noteFrame (x : Tone) (t : Tick) : Tone :=
  { x with frames := (t, x.freq, x.phase) :: x.frames.filter (fun f => decide ((t - f.1).toInt < 65536)) }
/-- The frame in force at a tick (R121, R169). -/
def Tone.frameAt (x : Tone) (t : Tick) : BitVec 48 × W32 :=
  match (x.frames.takeWhile (fun f => decide ((t - f.1).toInt < 0))).getLast? with
  | none => (x.freq, x.phase)
  | some f => f.2
/-- A frame operation at a tick: applied, and the tone re-seeded (R55, R123, R127). -/
def Tone.apply (x : Tone) (op : FrameOp) (t : Tick) : Tone :=
  let x := x.noteFrame t
  (match op with
    | .setFreq w => { x with freq := w }
    | .setPhase p => { x with phase := p }
    | .shiftPhase p => { x with phase := x.phase + p }
    | .resetPhase => { x with phase := 0 }).reseed t

/-- Cast tick that holds the last sample of the last play of a tone to have ended. -/
def Tone.lastOut (x : Tone) : Option Tick := (x.ended.head?).map (fun q => sampleTick (q.2 - 1))
/-- A play of a tone ends before DAC sample `n` (R104, R135): kept while its samples can meet a mute, and longer if it is the last. -/
def Tone.noteEnd (x : Tone) (p : Play) (n : Nat) : List (Nat × Nat) :=
  let old := x.ended.filter (fun q => decide (n ≤ q.2 + 12 * 20))
  if p.begin < n then (p.begin, n) :: old else x.ended

/-- Segments that a player reads: bound with data, current or chosen (R96). -/
def Play.reads (p : Play) (g : BitVec 20) : Bool :=
  (!p.fill && !p.freeFill && p.seg == g) ||
    (match p.chosen with | some (some b) => !b.fill && b.seg == g | _ => false)
/-- A segment is ACTIVE: at least one player reads it, its last sample not yet through the resampler (R96). -/
def State.segActive (s : State) (g : BitVec 20) : Bool :=
  s.tones.any (fun x => (match x.2.play with | none => false | some p => p.reads g) || x.2.nextPlays.any (fun p => p.reads g)
    || x.2.leaving.any (fun q => q.1 == g && decide ((q.2 - s.now).toInt > 0)))
/-- A segment read with data to its end stays read until its last sample leaves the resampler, 8 ticks after the tick that holds it (R96,
R112). -/
def Tone.noteLeave (x : Tone) (now : Tick) (p : Play) (n : Nat) : List (BitVec 20 × Tick) :=
  let old := x.leaving.filter (fun q => decide ((q.2 - now).toInt > 0))
  if p.fill then old else (p.seg, sampleTick (n - 1) + 8) :: old

/-- A read makes a line the most recently used. -/
def State.hotTouch (s : State) (k b : Nat) : State :=
  let h := s.hot k
  if h.lines.contains b then s.setHot k { h with lines := h.lines.filter (fun x => x != b) ++ [b] } else s
/-- The window of four blocks ahead of a read position (R111). -/
def Play.window (p : Play) (g : Seg) : List Nat :=
  let b := g.block (min p.granule (g.granules - 1))
  (g.blocks).filter (fun x => decide (b ≤ x) && decide (x < b + 4))
/-- The first two blocks of a segment's next and loop_to (R111). -/
def State.linkBlocks (s : State) (g : Seg) : List Nat :=
  (if g.hasNext then (s.seg g.next'.toNat).firstTwo else []) ++ (if g.hasLoop then (s.seg g.loopTo.toNat).firstTwo else [])
/-- Blocks that a play holds for each segment bound for it: the window and the links of the current one, and those of the one chosen to
follow, whose window lies at its start (R111). -/
def State.playLocks (s : State) (p : Play) : List Nat :=
  let g := s.seg p.seg.toNat
  (if p.fill || p.freeFill then [] else p.window g) ++ s.linkBlocks g ++
    (match p.chosen with
      | some (some b) => (if b.fill then [] else (s.seg b.seg.toNat).blocks.take 4) ++ s.linkBlocks (s.seg b.seg.toNat)
      | _ => [])
/-- Lines that a tone locks: those of its running play, then of the plays bound and not yet released, up to 8 (R111). -/
def State.toneLocks (s : State) (x : Tone) : List Nat :=
  ((x.play.toList ++ x.nextPlays).flatMap (fun p => s.playLocks p)).dedup.take 8
/-- A block is locked in a cluster's cache (R111). -/
def State.hotLocked (s : State) (k b : Nat) : Bool :=
  s.tones.any (fun x => toneCluster x.1 == k && (s.toneLocks x.2).contains b)

/-- Valid jump targets of a tone (R106). -/
def State.jumpTargets (s : State) (t : Nat) : List (BitVec 20) :=
  ((List.range 4).map (fun k => s.reg (aPlyJtgt (toneChan t) (toneIdx t) k))).filterMap
    (fun w => if w.getLsbD 31 then some (w.setWidth 20) else none)

/-- What a bind finds (R111): FREE ends the chain, FILLING plays as fill, READY or ACTIVE plays data. A bind requests the
first blocks of next, loop_to and the jump targets, and its window; and CHECK_FAIL is recorded for a segment whose last
upload failed its check (R319). -/
def State.bindSeg (s : State) (t : Nat) (g : BitVec 20) (tick : Tick) : State × Option Bound :=
  let x := s.seg g.toNat
  let s := if x.bad then s.condAt (toneEng t) .checkFail tick else s
  let follow := s.linkBlocks x ++ (s.jumpTargets t).flatMap (fun y => (s.seg y.toNat).firstTwo)
  match x.st with
  | .free => (s, none)
  | .filling => (s.hotRequest (toneCluster t) follow, some ⟨g, true⟩)
  | .ready => (s.hotRequest (toneCluster t) (x.blocks.take 4 ++ follow), some ⟨g, false⟩)

/-- Bind the first segment of a play (R102, R111). -/
def State.bindPlay (s : State) (t : Nat) (g : BitVec 20) (amp : BitVec 16) (rel : Tick) (sub : BitVec 4) : State × Play :=
  let (s, b) := s.bindSeg t g (rel - 24)
  let fill := match b with | some b => b.fill | none => false
  (s, ⟨g, amp, rel, sub, 0, true, fill, b.isNone, false, none, [], none, 0, none, [], none⟩)

/-- Pattern samples of a pass that were played as fill, in a pass that ends before DAC sample `n` (R101, R112): those of its missing
granules that had begun. -/
def Play.fillPlayed (p : Play) (g : Seg) (n : Nat) : Nat :=
  let played := min g.len (ceilDiv ((n - p.segStart) * 2 ^ g.rateShift) g.rateNum)
  if p.fill then played else (p.gone.map (fun i => min 32 (played - 32 * i))).sum
/-- The end of a pass, or its cut, before DAC sample `n`: its fill is counted, and a notification goes to the session that uploaded the
segment's version (R101, R112, R114). -/
def State.passEnd (s : State) (t : Nat) (p : Play) (n : Nat) : State :=
  let g := s.seg p.seg.toNat
  let k := p.fillPlayed g n
  let s := s.count (aPlyUndr (toneChan t) (toneIdx t)) 31 0 k
  if g.notifies && !p.freeFill then
    s.notify g.owner 0x02 (leBytes 4 p.seg.toNat ++ leBytes 4 g.version.toNat ++ leBytes 4 (if k = 0 then 0 else 1)
      ++ leBytes 8 (sampleTick n).toNat)
  else s

/-- Stop a tone's play before DAC sample `n`: a cut, or the end of its shot (R104, R105). -/
def State.stopPlay (s : State) (t n : Nat) : State :=
  match (s.tone t).play with
  | none => s
  | some p =>
    let s := s.passEnd t p n
    s.setTone t { s.tone t with play := none, ended := (s.tone t).noteEnd p n }

/-- Record fill of a tone whose first fill sample's DAC position lies in a tick: it leaves the resampler 8 ticks after it
(R112, R117). DESIGN CHOICE: the shot in which the fill falls is the one that contains the tick at which that sample leaves. -/
def State.recordFill (s : State) (t : Nat) (tick : Tick) : State := s.condAt (toneEng t) .patternUnderrun (tick + 8)

/-- An NCO correction holds cause chan_fault (R124). -/
def RfChan.correcting (x : RfChan) (now : Tick) : Bool :=
  match x.ncoFix with | none => false | some f => decide ((now - f.1).toInt ≥ 0)
/-- Mute causes of an RF channel, as STAT.mute_cause orders them (R132): disabled, bank_off, force, outclr, fault,
chan_fault. -/
def State.muteCauses (s : State) (ch : Nat) : List Bool :=
  [!s.bit (aRfCtrl ch) 0, (s.bank (chanBank ch)).st != .on, s.bit (aRfCtrl ch) 1 || (s.rfch ch).fsSwitch,
    s.fault.outclrLow, s.fault.asserted, s.bit (aRfStat ch) 14 || (s.rfch ch).correcting s.now]
def State.muted (s : State) (ch : Nat) : Bool := (s.muteCauses ch).any (fun b => b)

/-- Tick at which DAC sample `n` falls at the output of the sample queue, 19 ticks after the one that holds it (R73, R135). -/
def queueOut (n : Nat) : Tick := sampleTick n + 19
/-- OUTPUT_CLEARED in the shot in which a play that begins at DAC sample `n` was released: a mute met its samples at a tick (R135). -/
def State.playCleared (s : State) (t n : Nat) (tick : Tick) : State :=
  match s.shotAt (toneEng t) (sampleTick n) with
  | none => s
  | some h => s.condIn h (toneEng t) .outputCleared tick
/-- OUTPUT_CLEARED for the engines of plays that a mute from a tick meets at the sample-queue output (R135): the running play, and those
that have ended with samples still on their way there. -/
def State.muteHits (s : State) (ch : Nat) (tick : Tick) : State :=
  let meets := fun (n : Nat) => if (queueOut n).toNat < tick.toNat then tick else queueOut n
  s.each (chanTones ch) (fun s t =>
    let x := s.tone t
    let s := match x.play with
      | none => s
      | some p => s.playCleared t p.begin (meets p.begin)
    s.each (x.ended.filter (fun q => decide (tick.toNat ≤ (queueOut (q.2 - 1)).toNat))) (fun s q => s.playCleared t q.1 (meets q.1)))

/-- Judge a channel's mute after a change latched at a tick (R132, R133): a cause mutes at once; with the last cause gone the
release is latched, every tone re-seeded, and SETTLING begins. -/
def State.judgeMute (s : State) (ch : Nat) (tick : Tick) : State :=
  let x := s.rfch ch
  if s.muted ch then
    if x.st = .muted then s else (s.setRfch ch { x with st := .muted, since := tick }).muteHits ch tick
  else if x.st = .muted then
    (s.each (chanTones ch) (fun s t => s.setTone t ((s.tone t).reseed tick))).setRfch ch
      { x with st := .settling, since := tick }
  else s

/-- An NCO correction as its ticks come (R124): the channel mutes and its tones are re-seeded at the first, and with the next the cause
ends. -/
def State.ncoStep (s : State) (ch : Nat) : State :=
  match (s.rfch ch).ncoFix with
  | none => s
  | some (f, ts) =>
    if s.now = f then (s.each ts (fun s t => s.setTone t ((s.tone t).reseed f))).judgeMute ch f
    else if (s.now - f).toInt > 0 then (s.setRfch ch { s.rfch ch with ncoFix := none }).judgeMute ch s.now
    else s

/-- Judge the mute of every RF channel (R133). -/
def State.judgeMutes (s : State) (tick : Tick) : State := s.each (List.range 96) (fun s ch => s.judgeMute ch tick)

/-- Release a play on a tone (R56, R57, R105): an earlier play is cut at its first sample; a FREE first segment leaves fill
until the next play; a play on a channel that is not LIVE is recorded under R135. -/
def State.startPlay (s : State) (t : Nat) (p : Play) : State :=
  let past := (s.tone t).past ++ ((s.tone t).play.map (fun q => (q, p.begin))).toList
  let s := s.stopPlay t p.begin
  if p.freeFill then (s.setTone t { s.tone t with play := none, free := true, past := past }).recordFill t p.rel
  else
    let s := s.setTone t { s.tone t with play := some p, free := false, past := past }
    if (s.rfch (toneChan t)).st = .live ∧ (s.bank (chanBank (toneChan t))).st = .on then s
    else s.playCleared t p.begin (queueOut p.begin)

/-- The pattern sample that the filter reads at `j` is one of fill (R112, R118). -/
def State.fillSample (s : State) (p : Play) (j : Int) : Bool :=
  let g := s.seg p.seg.toNat
  if j < 0 then
    match p.prev with
    | none => false
    | some (sg, fill, gone) => fill || gone.contains ((j + (s.seg sg.toNat).len).toNat / 32)
  else if j < g.len then p.fill || p.gone.contains (j.toNat / 32)
  else
    match p.chosen with
    | some (some c) => g.sameRate (s.seg c.seg.toNat) && (c.fill || p.pre == some true)
    | _ => false
/-- DAC sample `m` of the current segment is a fill sample: computed with at least one pattern sample of fill (R112). -/
def State.playsFill (s : State) (p : Play) (m : Nat) : Bool :=
  let i := (s.seg p.seg.toNat).sampleAt m
  (List.range 32).any (fun n => s.fillSample p ((i : Int) + n - 15))

end Sys2Proof.Machine
end

