-- ==== Sys2Proof/Machine/FluxOps.lean ====
section
/-! DEFINITION. Flux and bias outputs: codes, holding registers, strobes, edges, clears and range windows (R139-R153). -/

namespace Sys2Proof.Machine

/-- Two's complement reading of a code of `w` bits (R139). -/
def signedCode (w v : Nat) : Int := if v < 2 ^ (w - 1) then (v : Int) else (v : Int) - 2 ^ w
/-- CLRCODE of a flux channel 0-127 or a bias channel 128-383 (R140). -/
def State.clrCode (s : State) (n : Nat) : Int :=
  if n < 128 then signedCode 16 (fieldOf (s.reg0 (aFlxClr n)) 15 0)
  else signedCode 20 (fieldOf (s.reg0 (aBiaClr (n - 128))) 19 0)
/-- Code held in the holding register (R140). -/
def State.holdCode (s : State) (n : Nat) : Int :=
  if n < 128 then signedCode 16 (fieldOf (s.reg0 (aFlxHold n)) 15 0)
  else signedCode 20 (fieldOf (s.reg0 (aBiaHold (n - 128))) 19 0)
/-- The in-force code: CLRCODE while the output is held at its clear code (R140). -/
def State.inForce (s : State) (n : Nat) : Int := if (s.fbch n).atClear then s.clrCode n else (s.fbch n).code
/-- A clear is held (R146): OUTCLR_N low or the fault path asserted. -/
def State.clearHeld (s : State) : Bool := s.fault.outclrLow || s.fault.asserted

/-- Profile point `i` of an edge entry, Q2.14; p[31] reads 0x4000 (R145). -/
def State.edgePoint (s : State) (g k i : Nat) : Int :=
  if i = 31 then 0x4000 else
    let w := s.reg (aFlxEpts g k (i / 2))
    signedCode 16 (if i % 2 = 1 then fieldOf w 31 16 else fieldOf w 15 0)
/-- Tick at which a code transferred or cleared at tick T reaches the connector (R142, R146, R152): 20 ticks later for flux, and for bias
the first edge of the 50 MHz bias clock at or after T + 40. -/
def connTick (n : Nat) (T : Tick) : Tick := if n < 128 then T + 20 else BitVec.ofNat 64 (40 * ceilDiv (T.toNat + 40) 40)
/-- Flux sample `j` of an edge (R145): `u = p[i] + fr * (p[i+1] - p[i])` with `x = 31 (j + 1) / len`, kept exact over `len`. -/
def State.edgeSample (s : State) (g : Nat) (x : OutMove) (j : Nat) : Int :=
  let n := 31 * (j + 1)
  let i := n / x.len
  let fr := n % x.len
  let p := s.edgePoint g x.entry.toNat i
  let q := if fr = 0 then p else s.edgePoint g x.entry.toNat (i + 1)
  let uLen := p * x.len + fr * (q - p)
  clampInt (-32768) 32767 (roundDiv (x.old * (16384 * x.len) + (x.new - x.old) * uLen) (16384 * x.len))
/-- A move has begun by a tick; its edge runs at a tick. -/
def OutMove.begun (m : OutMove) (t : Tick) : Bool := decide ((t - m.start).toInt ≥ 0)
def OutMove.runs (m : OutMove) (t : Tick) : Bool := m.begun t && decide ((t - m.start).toNat < m.len)
/-- The move that shapes a channel's output at a tick: the newest one begun. -/
def FbChan.moveAt (x : FbChan) (t : Tick) : Option OutMove := x.moves.find? (fun m => m.begun t)
/-- A new move, over those still to come and the one that has come. -/
def FbChan.push (x : FbChan) (now : Tick) (m : OutMove) : FbChan :=
  { x with moves := m :: (x.moves.takeWhile (fun k => !k.begun now) ++ (x.moves.find? (fun k => k.begun now)).toList) }
/-- Code at the connector of a channel at a tick: a running edge's sample, or the code moved to (R142, R145). -/
def State.outCode (s : State) (n : Nat) (t : Tick) : Int :=
  match (s.fbch n).moveAt t with
  | none => s.clrCode n
  | some m => if m.runs t then s.edgeSample (n / 16) m (t - m.start).toNat else m.new
/-- The range that a channel's output has at a tick (R152). -/
def FbChan.rangeAt (x : FbChan) (t : Tick) : BitVec 2 :=
  match x.switchAt with
  | none => x.range
  | some w => if (t - w.1).toInt ≥ 0 then w.2 else x.range
/-- Full scale of a range (R139): mV for flux, mA for bias. -/
def fullScale (n : Nat) (r : BitVec 2) : Int :=
  if n < 128 then (match r with | 0 => 250 | 1 => 500 | _ => 1000) else if r = 0 then 1 else 5
/-- Output value at the connector at a tick (R139, R149): code × range / 2^(w-1), in units of 2^-15 mV for flux and of 2^-19 mA for bias;
0 with the switch open. DESIGN CHOICE: while a group shuts down, its switches count as closed until the shut-down completes. -/
def State.outLevel (s : State) (n : Nat) (t : Tick) : Int :=
  match (s.grp (fbGroup n)).st with
  | .off | .poweringUp => 0
  | .on | .shuttingDown => s.outCode n t * fullScale n ((s.fbch n).rangeAt t)
/-- A channel's output steps, for a cause at tick T, from the value that it then has (R142, R146, R149, R152). -/
def State.stepOut (s : State) (n : Nat) (T : Tick) (new : Int) : State :=
  let t := connTick n T
  s.setFbch n ((s.fbch n).push s.now ⟨t, s.outCode n t, new, 0, 0⟩)
/-- A channel goes to its clear code for a cause at tick T: the in-force code at once, the output as R142 times it (R140, R146, R152). -/
def State.clearChan (s : State) (T : Tick) (n : Nat) : State :=
  let s := s.stepOut n T (s.clrCode n)
  s.setFbch n { s.fbch n with code := s.clrCode n, atClear := true }
/-- A clear code has been written: an output held at its clear code follows it, as its in-force code does (R140). DEDUCED: it moves as
for a clear at the latch tick. -/
def State.clrWritten (s : State) (n : Nat) : State :=
  if (s.fbch n).atClear then s.stepOut n s.now (s.clrCode n) else s

/-- A range-change window is open on the channel at a tick (R152). -/
def FbChan.inWindow (x : FbChan) (t : Tick) : Bool :=
  match x.window with | none => false | some w => decide (t.toNat < w.2.toNat + 6000)

/-- Edge entry and length with which a channel's holding code is transferred: a step for bias and for ue = 0 (R58, R140, R145). -/
def State.holdEdge (s : State) (n : Nat) : Nat × Nat :=
  let h := s.reg0 (aFlxHold n)
  let k := fieldOf h 21 16
  if n < 128 ∧ h.getLsbD 22 then (k, s.fld (aFlxEdge (n / 16) k) 11 0 + 1) else (0, 0)
/-- Transfer of a channel by a strobe at tick T (R140, R142, R145, R147, R152): not while a clear is held nor inside a window; a
code already in force changes nothing and restarts no edge. The move starts from the output at its own first tick. -/
def State.transfer (s : State) (T : Tick) (n : Nat) : State :=
  let x := s.fbch n
  if s.clearHeld || x.inWindow T then s else
    let new := s.holdCode n
    if new = s.inForce n then s.setFbch n { x with code := new, atClear := false }
    else
      let e := s.holdEdge n
      let t := connTick n T
      s.setFbch n { x.push s.now ⟨t, s.outCode n t, new, BitVec.ofNat 6 e.1, e.2⟩ with code := new, atClear := false }

/-- Add a strobe request for a tick; requests for one tick make one strobe (R141). -/
def Group.request (x : Group) (T : Tick) (e : Option Nat) (event sw : Bool) : Group :=
  if x.reqs.any (fun r => r.tick == T) then
    { x with reqs := x.reqs.map (fun r => if r.tick == T then
        { r with engines := r.engines ++ e.toList, event := r.event || event, sw := r.sw || sw } else r) }
  else { x with reqs := x.reqs ++ [⟨T, e.toList, event, sw⟩] }

/-- The request with the earliest tick. -/
def earliestReq (l : List StrobeReq) : Option StrobeReq :=
  l.foldl (fun a r => match a with | none => some r | some b => if r.tick.toNat < b.tick.toNat then some r else some b) none

/-- Engines of a group's cluster (R22). -/
def groupEngs (g : Nat) : List Nat := (List.range 16).map (fun i => 16 * (g % 8) + i)

/-- An item of the group's cluster that concerns the group (a holding write or a strobe request) and is stamped at or before a tick still
waits in a release queue (R58, R140, R141). -/
def ItemKind.ofGroup (k : ItemKind) (g : Nat) : Bool :=
  match k with
  | .flux _ _ _ => decide (g < 8)
  | .bias _ _ => decide (8 ≤ g)
  | .strobe sel => sel == decide (8 ≤ g)
  | _ => false
def State.itemsBefore (s : State) (g : Nat) (T : Tick) : Bool :=
  (groupEngs g).any (fun e =>
    let x := s.eng e
    (x.qd.items ++ x.qr.items ++ x.qf.items).any (fun i => i.kind.ofGroup g && decide ((i.tick - T).toInt ≤ 0)))

/-- A strobe of a group at tick T (R141, R143, R144): none while the group is not ON; a bias strobe within 2,000,000 ticks
of the last one made is refused and recorded. A further request for the tick judged last belongs to that one strobe. -/
def State.makeStrobe (s : State) (g : Nat) (r : StrobeReq) : State :=
  let x := s.grp g
  let s := s.setGrp g { x with reqs := x.reqs.filter (fun q => q.tick != r.tick) }
  let x := s.grp g
  let lateOnes := fun (s : State) => s.each r.engines (fun s e => s.lateAt e r.tick)
  if x.st ≠ .on then s
  else if x.judged = some (r.tick, true) then lateOnes s
  else if x.judged = some (r.tick, false) then s
  else if decide (8 ≤ g) && (match x.lastStrobe with | none => false | some t => decide ((r.tick - t).toInt < 2000000)) then
    let s := lateOnes ((s.setGrp g { x with judged := some (r.tick, true) }).count (aGrpStat g) 31 24 1)
    if r.event then s.each (groupEngs g) (fun s e => s.lateAt e r.tick) else s
  else (s.setGrp g { x with lastStrobe := some r.tick, judged := some (r.tick, false) }).each (groupChans g) (fun s n => s.transfer r.tick n)

/-- A clear at tick C: every in-force code becomes CLRCODE, and the outputs step to it, edges cut (R146). -/
def State.clearOutputs (s : State) (C : Tick) : State := s.each (List.range 384) (fun s n => s.clearChan C n)

/-- Engines that execute a shot at a tick carry OUTPUT_CLEARED (R148). -/
def State.clearedShots (s : State) (t : Tick) : State := s.each (List.range 128) (fun s e => s.condAt e .outputCleared t)

/-- A clear source is latched at tick C (R146, R148, R207): outputs clear, RF channels mute, channel 244 publishes. -/
def State.latchClear (s : State) (C : Tick) (payload : BitVec 16) : State :=
  let s := { s with fault := { s.fault with clearTick := some (s.fault.clearTick.getD C) } }
  (((s.clearOutputs C).clearedShots C).judgeMutes C).publishSys 244 C payload

/-- A clear source is released; with none left the release is latched and RF channels un-mute under R133 (R147). -/
def State.releaseClear (s : State) (t : Tick) (payload : BitVec 16) : State :=
  let s := if s.clearHeld then s else { s with fault := { s.fault with clearTick := none, releaseTick := some t } }
  (s.judgeMutes t).publishSys 244 t payload

end Sys2Proof.Machine
end

