-- ==== Sys2Proof/Machine/EfauxEvents.lean ====
section
/-! DEFINITION. Events of the engines and of their release queues: completion of a waiting enqueue, release of items,
watchdog, hardware faults, program memory repair, swaps, and the deadline of a WAITE (R10, R14, R61, R64, R67, R87-R91, R104,
R413). -/

namespace Sys2Proof.Machine

/-- ENQUEUE_AFTER_FULL (R14, R75): an entry is free, the wall latches the waiting item with the current tick as its arrival
tick, and the engine's next instruction begins. -/
def execEnqueueAfterFull (e : Fin 128) (s : State) : Out :=
  .next (
    let g := s.eng e
    match g.held with
    | none => s
    | some (q, i) =>
      if g.st = .queueFull ∧ s.inTime e ∧ (g.queue q).items.length < queueDepth q then
        let s := (s.setEng e { g with held := none, st := .running }).latchItem e q i
        s.setEng e (s.eng e).advance
      else s)

/-- A released item takes effect on its target at its release tick (R55, R56, R58). -/
def State.applyItem (s : State) (e : Nat) (i : Item) : State :=
  match i.kind with
  | .frame f op => s.setTone (toneOf e f.toNat) ((s.tone (toneOf e f.toNat)).apply op i.tick)
  | .play f seg amp =>
    let t := toneOf e f.toNat
    let x := s.tone t
    match x.nextPlays.find? (fun p => p.rel == i.tick && p.sub == i.sub) with
    | some p => (s.setTone t { x with nextPlays := x.nextPlays.filter (fun q => !(q.rel == i.tick && q.sub == i.sub)) }).startPlay t p
    | none =>
      let b := s.bindPlay t seg amp i.tick i.sub
      b.1.startPlay t b.2
  | .flux edge ue code =>
    s.setReg (aFlxHold e) (BitVec.ofNat 32 ((if ue then 2 ^ 22 else 0) + edge.toNat * 2 ^ 16 + code.toNat))
  | .bias sel code => s.setReg (aBiaHold (2 * e + sel.toNat)) (code.setWidth 32)
  | .strobe sel =>
    let g := e / 16 + (if sel then 8 else 0)
    s.setGrp g ((s.grp g).request i.tick (some e) false false)

/-- ITEM_RELEASE (R10, R75): at its release tick the oldest item leaves its queue and takes effect. -/
def execItemRelease (e : Fin 128) (q : Queue) (s : State) : Out :=
  .next (
    let g := s.eng e
    let rq := g.queue q
    match rq.items with
    | [] => s
    | i :: r =>
      if sdiff i.tick.stamp s.now.stamp ≤ 0 then (s.setEng e (g.setQueue q { rq with items := r })).applyItem e i else s)

/-- Tones of an engine (R22). -/
def engTones (e : Nat) : List Nat := (List.range 8).map (fun f => toneOf e f)
/-- An item or a play of the engine has not been released by a tick: the last sample of a chain leaves the resampler 8 ticks after the
tick that holds it (R104, R112). -/
def State.outstanding (s : State) (e : Nat) (tick : Tick) : Bool :=
  let g := s.eng e
  !g.qd.items.isEmpty || !g.qr.items.isEmpty || !g.qf.items.isEmpty || g.held.isSome
    || (engTones e).any (fun t => (s.tone t).play.isSome || (match (s.tone t).lastOut with
        | none => false
        | some z => decide ((z + 8 - tick).toInt > 0)))
/-- The engine's run is PACED. -/
def State.pacedRun (s : State) (g : Engine) : Bool :=
  match g.shot with
  | none => false
  | some h => match s.run? h.1 with | none => false | some r => r.desc.paced
/-- Stop every play of the engine at a tick and discard its queued items (R104). -/
def State.dropItems (s : State) (e : Nat) (tick : Tick) : State :=
  let g := s.eng e
  let s := s.setEng e { g with qd := { g.qd with items := [] }, qr := { g.qr with items := [] },
                               qf := { g.qf with items := [] }, held := none }
  s.each (engTones e) (fun s t => (s.setTone t { s.tone t with nextPlays := [] }).stopPlay t (12 * tick.toNat))
/-- The watchdog still counts for the engine (R64, R65, R68, R104): it has not executed END, or in a PACED run it has, or has stopped,
with an item or a play outstanding. DESIGN CHOICE: an engine that an exception has stopped counts as having executed END here too, so
it raises no second exception in a PERIODIC shot. -/
def State.watched (s : State) (e : Nat) : Bool :=
  let g := s.eng e
  match g.st with
  | .idle => false
  | .ended => s.pacedRun g && s.outstanding e (s.watchTick e)
  | .stopped => s.pacedRun g && s.outstanding e (s.watchTick e)
  | _ => true
/-- WATCHDOG (R64, R66, R68, R104): at the watchdog tick, where that comes before the end tick of a PERIODIC shot; at the same tick
SHOT_OVERRUN is raised in its place. -/
def execWatchdog (e : Fin 128) (s : State) : Out :=
  .next (
    let w := s.watchTick e
    let first : Bool := match s.periodicEnd (s.eng e) with | none => true | some x => decide ((w - x).toInt < 0)
    if (s.eng e).shot.isSome ∧ (s.now - w).toInt ≥ 0 ∧ first ∧ s.watched e then (s.raiseExc e 7 w).dropItems e w else s)

/-- HANDSHAKE_FAULT (R64, R67): not while waiting in WAITE or on a full queue; swap_pending is set, the fault is logged, and
an engine that executes a shot raises the exception. -/
def execHandshakeFault (e : Fin 128) (s : State) : Out :=
  .next (
    let g := s.eng e
    if g.st = .waiting ∨ g.st = .queueFull then s
    else
      let s := if g.st = .running ∧ s.inTime e then s.raiseExc e 9 s.now else s
      let s := s.setEng e { s.eng e with hsFault := true }
      (((s.swapPendingPe e).logEvent 0x0010 0x0001 (leBytes 1 e ++ leBytes 1 (s.pePhys e))).blockFault))

/-- Instruction at an address of an engine's program in a cluster image (R69). -/
def imgWord (img : List Byte) (j addr : Nat) : W64 :=
  BitVec.ofNat 64 (leNat (slice img (leNat (slice img (64 + 32 * j) 4) + 8 * addr) 8))

/-- The instruction that failed is rewritten from the retained image (R67). -/
def State.rewriteProg (s : State) (e : Nat) : State :=
  let g := s.eng e
  match g.memErr with
  | none => s
  | some a =>
    (s.setProg e a ⟨imgWord (Tbl.get s.clusterImg (e / 16) []) (e % 16) a, false, false⟩).setEng e
      { g with memErr := none, memErrLast := some a }
/-- PROGRAM_MEMORY_REWRITE (R67): the failing instruction is rewritten from the retained image. -/
def execProgramMemoryRewrite (e : Fin 128) (addr : BitVec 15) (s : State) : Out :=
  .next (if (s.eng e).memErr = some addr.toNat then s.rewriteProg e else s)

/-- A program row is due for its spare (R67, R411): an uncorrectable error has recurred at an address of it, or it has shown 8
corrected errors within 24 h. -/
def State.rowDue (s : State) (e row : Nat) : Bool :=
  let g := s.eng e
  (match g.memErr with
    | none => false
    | some a => a / 64 == row && g.memErrLast == some a)
  || decide (8 ≤ ((Tbl.get s.spares.pmHits (pmRowKey e (64 * row)) []).filter (fun t => decide (s.since t ≤ 86400000000000))).length)
/-- PROGRAM_ROW_REMAP (R67, R411, R413): a row that is due is written from the retained image into a spare row; with no spare row
left ALERT_N is raised. -/
def execProgramRowRemap (k : Fin 8) (space : Fin 16) (row : Fin 512) (s : State) : Out :=
  .next (
    let e := 16 * k.val + space.val
    let key := pmRowKey e (64 * row.val)
    let used := Tbl.get s.spares.pmUsed k.val 0
    if !s.rowDue e row.val then s
    else if used ≥ 32 then (s.alert 5).logEvent 0x0012 0x0002 (leBytes 4 key)
    else
      let img := Tbl.get s.clusterImg k.val []
      let s := if img.isEmpty then s else
        s.each (List.range 64) (fun s i =>
          let a := 64 * row.val + i
          let w := if a < leNat (slice img (64 + 32 * space.val + 4) 4) then imgWord img space.val a else (s.progAt e a).code
          s.setProg e a ⟨w, false, false⟩)
      let g := s.eng e
      let s := if img.isEmpty then s else
        s.setEng e { g with memErr := if (g.memErr.map (fun a => a / 64)) = some row.val then none else g.memErr }
      let s := { s with spares := { s.spares with pmUsed := Tbl.put s.spares.pmUsed k.val (used + 1) 0,
                                                  pmRows := key :: s.spares.pmRows, pmHits := Tbl.put s.spares.pmHits key [] [] } }
      s.logEvent 0x0012 0x0001 (leBytes 4 key))

/-- The cluster's spare engine has not been brought in, and no swap is bringing it in (R20, R91). -/
def State.spareFree (s : State) (k : Nat) : Bool :=
  (s.peLogical (17 * k + 16)).isNone && !s.spares.retiredPe.contains (17 * k + 16)
    && (List.range 16).all (fun i => (s.eng (16 * k + i)).swap.isNone)

/-- The tick at which the gap before a run's next shot ends (R87, R201): a load's latest end, the next start where it is known, and in
a PERIODIC shot its end tick, at which the next starts; none where the run starts no further shot. A PACED shot in flight leaves no gap. -/
def State.gapEnd (s : State) (r : Run) : Option Tick :=
  if r.phase = .loading then some (r.loadTick + 200000)
  else match r.shots.find? (fun h => !h.ended) with
    | some h =>
      if r.desc.paced then some s.now
      else if r.cancel || r.stop.isSome || r.executed == r.desc.shotCount then none else h.endTick
    | none => r.nextStart
/-- At least 40,000 ticks are left of it. -/
def State.gapLong (s : State) (r : Run) : Bool :=
  match s.gapEnd r with
  | none => true
  | some n => decide ((n - s.now).toInt ≥ 40000)
/-- A gap of at least 40,000 ticks lies before the engine's next shot, and it has begun: the engine has executed END or stopped, and its
last item has been released (R87). -/
def State.swapGap (s : State) (e : Nat) : Bool :=
  let g := s.eng e
  match s.runs.find? (fun r => (r.phase == .loading || r.phase == .active) && r.has e) with
  | none => true
  | some r =>
    s.gapLong r && (r.phase == .loading || (g.st != .running && g.st != .waiting && g.st != .queueFull
        && (match g.lastRel with | none => true | some t => decide ((s.now - t).toInt ≥ 0))))

/-- ENGINE_SWAP_BEGIN (R87, R89, R91): swap_pending, a spare not yet brought in, and a long enough gap. -/
def execEngineSwapBegin (e : Fin 128) (s : State) : Out :=
  .next (
    let g := s.eng e
    if s.bit (aMldPeMap e) 8 ∧ g.swap.isNone ∧ s.spareFree (e.val / 16) ∧ s.swapGap e then
      s.setEng e { g with swap := some ⟨s.now, []⟩ }
    else s)

/-- ENGINE_SWAP_COMPLETE (R88-R90): PE_WDOG moves, the map names the spare, swap_pending clears, the old engine retires, and
the held events reach the latches. Registers, frame initialisation, latches and subscriptions are the logical engine's own. -/
def execEngineSwapComplete (e : Fin 128) (s : State) : Out :=
  .next (
    let g := s.eng e
    match g.swap with
    | none => s
    | some w =>
      let old := s.pePhys e
      let new := 17 * (e.val / 16) + 16
      let s := s.setReg (aPeWdog new) (s.reg (aPeWdog old))
      let s := s.setReg (aMldPeMap e) (BitVec.ofNat 32 new)
      let s := { s with spares := { s.spares with retiredPe := old :: s.spares.retiredPe } }
      let g := { g with swap := none, hsFault := false }
      let s := (s.setEng e g).each (heldRounds w.held) (fun s l => s.latchEvents e l)
      s.logEvent 0x0010 0x0002 (leBytes 1 e ++ leBytes 1 old ++ leBytes 1 new))

/-- WAITE_TIMEOUT (R61): the deadline tick edge has come with no event taken. -/
def execWaiteTimeout (e : Fin 128) (s : State) : Out :=
  .next (
    let g := s.eng e
    match g.wait with
    | none => s
    | some w =>
      match w.deadline with
      | none => s
      | some d => if sdiff s.now.stamp d.stamp ≥ 0 ∧ s.inTime e then s.setEng e (g.timeOut w.ci.toNat w.rd.toNat) else s)

end Sys2Proof.Machine
end

