-- ==== Sys2Proof/Machine/Players.lean ====
section
/-! DEFINITION. The pattern players and the hot caches (R102-R112), and the accumulators' check (R124). -/

namespace Sys2Proof.Machine

/-- Play items of a tone in its engine's queue, oldest first. -/
def State.queuedPlays (s : State) (t : Nat) : List (Tick × BitVec 4 × BitVec 20 × BitVec 16) :=
  let g := s.eng (toneEng t)
  (if t < 512 then g.qd else g.qr).items.filterMap (fun i => match i.kind with
    | .play f seg amp => if toneOf (toneEng t) f.toNat = t then some (i.tick, i.sub, seg, amp) else none
    | _ => none)

/-- PLAY_BIND (R102): the first play not yet bound binds its first segment at its release tick minus 24. -/
def execPlayBind (tone : Fin 1024) (s : State) : Out :=
  .next (
    let x := s.tone tone
    match (s.queuedPlays tone).drop x.nextPlays.length with
    | [] => s
    | (rel, sub, seg, amp) :: _ =>
      if sdiff (rel - 24).stamp s.now.stamp ≤ 0 then
        let b := s.bindPlay tone seg amp rel sub
        b.1.setTone tone { b.1.tone tone with nextPlays := x.nextPlays ++ [b.2] }
      else s)

/-- The choice at a commit point (R102, R103): the jump due, else the segment's own loop, else next, else the end. Answers
the play with its stack and pending jump, the segment chosen, whether a loop was ignored, whether a jump was dropped. -/
def Play.choose (p : Play) (g : Seg) : Play × Option (BitVec 20) × Bool × Bool :=
  match p.pending with
  | some (tgt, false) => ({ p with pending := none, stack := [] }, some tgt, false, false)
  | pend =>
    let p := { p with pending := pend.map (fun (x : BitVec 20 × Bool) => (x.1, false)) }
    let looping := g.hasLoop && g.loopCount != 0
    let inStack := p.stack.any (fun x => x.1 == p.seg)
    let nest := looping && !inStack && decide (p.stack.length ≥ 2)
    let stack : List (BitVec 20 × BitVec 16) :=
      if !looping then p.stack
      else if inStack then p.stack.dropWhile (fun x => x.1 != p.seg)
      else if p.stack.length < 2 then (p.seg, g.loopCount) :: p.stack
      else p.stack
    let (stack, nxt) : List (BitVec 20 × BitVec 16) × Option (BitVec 20) :=
      if looping then
        match stack with
        | [] => (stack, none)
        | (sg, left) :: r =>
          if sg = p.seg then
            if left ≠ 0 then ((sg, if left = 0xFFFF then left else left - 1) :: r, some g.loopTo) else (r, none)
          else (stack, none)
      else (stack, none)
    let nxt := if nxt.isNone && g.hasNext then some g.next' else nxt
    let drop := nxt.isNone && p.pending.isSome
    ({ p with stack := stack, pending := if drop then none else p.pending }, nxt, nest, drop)

/-- COMMIT_POINT (R102): at the start of pattern sample L - 16 the player chooses and binds the segment that follows. A jump request whose
tick E comes before it is taken first (R106). -/
def execCommitPoint (tone : Fin 1024) (s : State) : Out :=
  .next (
    let x := s.tone tone
    match x.play with
    | none => s
    | some p =>
      let g := s.seg p.seg.toNat
      let at' := p.segStart + g.commitAt
      let jumpFirst := x.jumps.any (fun j => decide (12 * j.e.toNat < at'))
      if p.chosen.isNone && reached s.now at' && !jumpFirst then
        let (p, nxt, nest, drop) := p.choose g
        let s := if nest then s.setBit (aPlyStat (toneChan tone) (toneIdx tone)) 25 true else s
        let s := if drop then s.count (aPlyCnt (toneChan tone) (toneIdx tone)) 23 16 1 else s
        match nxt with
        | none => s.setTone tone { s.tone tone with play := some { p with chosen := some none } }
        | some n =>
          let b := s.bindSeg tone n (sampleTick at')
          b.1.setTone tone { b.1.tone tone with play := some { p with chosen := some b.2, tailFill := b.2.isNone } }
      else s)

/-- SEGMENT_PASS_END (R96, R101, R106, R107, R111): the pass ends after L × D samples; the chosen segment begins, and a deferred jump is
due at its commit point; or the chain ends, and a jump still pending is dropped. A FREE segment ends the chain in fill until the
next play. -/
def execSegmentPassEnd (tone : Fin 1024) (s : State) : Out :=
  .next (
    let x := s.tone tone
    match x.play with
    | none => s
    | some p =>
      let g := s.seg p.seg.toNat
      let endAt := p.segStart + g.dacLen
      match p.chosen with
      | none => s
      | some c =>
        if reached s.now endAt then
          let tick := sampleTick endAt
          let s := s.passEnd tone p endAt
          let past := x.past ++ [(p, endAt)]
          let leaving := x.noteLeave s.now p endAt
          match c with
          | none =>
            let s := if p.pending.isSome then s.count (aPlyCnt (toneChan tone) (toneIdx tone)) 23 16 1 else s
            let s := s.setTone tone { s.tone tone with
              play := none, free := p.tailFill, ended := x.noteEnd p endAt, leaving := leaving, past := past }
            if p.tailFill then s.recordFill tone tick else s
          | some b =>
            let q := { p with seg := b.seg, k := p.k + g.dacLen, first := false, fill := b.fill, chosen := none,
                              pending := p.pending.map (fun j => (j.1, false)),
                              granule := if p.pre.isSome then 1 else 0, pre := none,
                              gone := if p.pre = some true then [0] else [],
                              prev := if g.sameRate (s.seg b.seg.toNat) then some (p.seg, p.fill, p.gone) else none }
            s.setTone tone { s.tone tone with play := some q, leaving := leaving, past := past }
        else s)

/-- The jump request with the earliest E, first come first (R107), and the others. -/
def takeJump (l : List JumpReq) : Option (JumpReq × List JumpReq) :=
  match l with
  | [] => none
  | j :: r =>
    match takeJump r with
    | none => some (j, [])
    | some (k, r') => if k.e.toNat < j.e.toNat then some (k, j :: r') else some (j, r)

/-- JUMP_REQUEST_DUE (R106, R107): at the start of tick E the request becomes the pending jump, due or deferred; it replaces
one already pending; it is dropped where the player walks no segment. A segment that ends at or before E gives way to the next first. -/
def execJumpRequestDue (tone : Fin 1024) (s : State) : Out :=
  .next (
    let s' := s
    let x := s.tone tone
    let cnt := aPlyCnt (toneChan tone) (toneIdx tone)
    match takeJump x.jumps with
    | none => s
    | some (j, rest) =>
      if sdiff j.e.stamp s.now.stamp ≤ 0 then
        let s := s.setTone tone { x with jumps := rest }
        match x.play with
        | none => s.count cnt 23 16 1
        | some p =>
          let g := s.seg p.seg.toNat
          let n := 12 * j.e.toNat
          if p.segStart + g.dacLen ≤ n ∧ p.chosen ≠ some none then s'
          else if n < p.segStart ∨ p.segStart + g.dacLen ≤ n then s.count cnt 23 16 1
          else
            let late := decide (g.len - 16 ≤ g.sampleAt (n - p.segStart))
            let s := if p.pending.isSome then s.count cnt 15 8 1 else s
            let s := if late then s.count cnt 7 0 1 else s
            s.setTone tone { s.tone tone with play := some { p with pending := some (j.target, late) } }
      else s)

/-- REFILL_COMPLETE (R111): a requested block becomes resident; a full cache evicts the least recently used line that is not
locked. -/
def execRefillComplete (k : Fin 8) (block : Nat) (s : State) : Out :=
  .next (
    let h := s.hot k
    if h.req.contains block then
      let cap := s.hotCap k
      let lines :=
        if h.lines.length < cap then h.lines
        else match h.lines.find? (fun b => !s.hotLocked k b) with
          | none => h.lines
          | some v => h.lines.filter (fun b => b != v)
      let req := h.req.filter (fun b => b != block)
      s.setHot k { h with req := req, lines := if lines.length < cap then lines ++ [block] else lines }
    else s)

/-- GRANULE_READ (R111, R112): the granule is judged present or missing when the resampler first needs it; a missing one
plays fill and is recorded; the prefetch window moves with the read position. An uncorrectable DRAM error in the granule
makes it missing and is counted in MLD_PAT_ERR. -/
def execGranuleRead (tone : Fin 1024) (dramError : Bool) (s : State) : Out :=
  .next (
    let x := s.tone tone
    let k := toneCluster tone
    match x.play with
    | none => s
    | some p =>
      let g := s.seg p.seg.toNat
      if p.granule < g.granules then
        let lead := 16 * g.rateNum / 2 ^ g.rateShift
        let at' := p.segStart + (g.dacAt (32 * p.granule) - lead)
        if reached s.now at' then
          let b := g.block p.granule
          let damaged := dramError && !p.fill && s.hotHas k b
          let missing := p.fill || !s.hotHas k b || damaged
          let s := if damaged then s.count aMldPatErr 31 16 1 else s
          let s := if missing then s.recordFill tone (sampleTick at') else s.hotTouch k b
          let p := { p with granule := p.granule + 1,
                            gone := if missing then p.granule :: p.gone else p.gone }
          let s := s.setTone tone { s.tone tone with play := some p }
          if p.fill then s else s.hotRequest k (p.window g)
        else s
      else
        match p.chosen, p.pre with
        | some (some c), none =>
          let g' := s.seg c.seg.toNat
          if g.sameRate g' && reached s.now (p.segStart + g.commitAt) then
            let damaged := dramError && !c.fill && s.hotHas k (g'.block 0)
            let missing := c.fill || !s.hotHas k (g'.block 0) || damaged
            let s := if damaged then s.count aMldPatErr 31 16 1 else s
            let s := if missing then s.recordFill tone (sampleTick (p.segStart + g.commitAt)) else s.hotTouch k (g'.block 0)
            s.setTone tone { s.tone tone with play := some { p with pre := some missing } }
          else s
        | _, _ => s)

/-- NCO_CHECK (R124): every 16 ticks the accumulator is compared with A(n); on a mismatch the channel mutes from the next
tick, the tone is re-seeded there, and the mute is released under R133. DESIGN CHOICE: the ticks of the check are those divisible by 16,
for every tone. -/
def execNcoCheck (tone : Fin 1024) (s : State) : Out :=
  .next (
    let x := s.tone tone
    let ch := toneChan tone
    if (s.bank (chanBank ch)).st = .on ∧ s.now.toNat % 16 = 0 ∧ x.accNow s.now ≠ accAt x.freq s.now then
      let s := (s.setBit (aRfStat ch) 15 true).count (aRfNcochk ch) 15 0 1
      let with' := match (s.rfch ch).ncoFix with | none => [] | some f => f.2
      s.setRfch ch { s.rfch ch with ncoFix := some (s.now + 1, with' ++ [tone.val]) }
    else s)

end Sys2Proof.Machine
end

