-- ==== Sys2Proof/Machine/Patterns.lean ====
section
/-! DEFINITION. Pattern messages: uploads, release, pin and status of segments (R92-R101, R317-R319). -/

namespace Sys2Proof.Machine

/-- First byte of envelope data, and the capture base (R92). -/
def envBase : Nat := 0x60000000
def State.capBase (s : State) : Nat := 0x800000000 - s.fld aMldPatStat 31 28 * 2 ^ 30
/-- Acceptances in the present second of TB_MONO (R41, R98). -/
def State.ratesNow (s : State) : Rates := if s.rates.sec = s.logSec then s.rates else ⟨s.logSec, 0, 0⟩

/-- Reserved fields of a descriptor hold 0, and its rate and length lie in their ranges (R94, R95). -/
def Seg.descOk (g : Seg) : Bool :=
  descField g.desc 0 31 29 == 0 && descField g.desc 4 23 20 == 0 && descField g.desc 4 31 28 == 0
    && descField g.desc 8 31 19 == 0 && descField g.desc 12 31 20 == 0 && descField g.desc 16 31 20 == 0
    && descField g.desc 20 31 16 == 0 && descField g.desc 28 31 0 == 0
    && decide (2 ≤ g.granules) && decide (g.granules ≤ 2 ^ 19) && decide (g.rateShift ≤ 4)
    && decide (8 * 2 ^ g.rateShift ≤ g.rateNum) && decide (g.rateNum ≤ 512 * 2 ^ g.rateShift)
/-- The data ranges of two segments overlap. -/
def Seg.overlaps (a b : Seg) : Bool :=
  decide (a.baseAddr < b.baseAddr + b.bytesLen) && decide (b.baseAddr < a.baseAddr + a.bytesLen)
def Seg.pinBit (g : Seg) : Bool := descField g.desc 4 24 24 == 1
def Seg.descVersion (g : Seg) : W32 := BitVec.ofNat 32 (descField g.desc 24 31 0)
/-- Pinning a segment's blocks beside those pinned, or to be pinned at the end of their upload, takes more than 512 (R111). -/
def State.pinExceeds (s : State) (n : Nat) (g : Seg) : Bool :=
  let others := s.segs.filter (fun x => x.1 != n && ((x.2.pinned && x.2.st == .ready) || (x.2.pinBit && x.2.st == .filling)))
  decide (512 < ((others.flatMap (fun x => x.2.blocks)) ++ g.blocks).dedup.length)
/-- Uploads in progress: of segments and of images (R97). -/
def State.uploads (s : State) : Nat :=
  (s.segs.filter (fun x => x.2.uploading)).length + (s.images.filter (fun x => !x.2.done)).length

/-- The first refusal of an upload begin, in the order of R97's table. -/
def State.beginRefusal (s : State) (n : Nat) (g : Seg) : Option Status :=
  if s.segActive (BitVec.ofNat 20 n) then some .busy
  else if (s.seg n).uploading then some .busy
  else if !g.descOk then some .range
  else if g.descVersion ≠ (s.seg n).version + 1 then some .range
  else if g.baseAddr < envBase ∨ s.capBase < g.baseAddr + g.bytesLen then some .address
  else if s.segs.any (fun x => s.segActive (BitVec.ofNat 20 x.1) && x.2.overlaps g) then some .busy
  else if g.pinBit && s.pinExceeds n g then some .range
  else if s.uploads ≥ 256 then some .queueFull
  else if s.ratesNow.begins ≥ 1000000 then some .rate
  else none

/-- Blocks of a newly pinned segment leave the replaceable lines of every cache, which keep to what is left (R111). -/
def State.pinTrim (s : State) : State :=
  s.each (List.range 8) (fun s k =>
    let h := s.hot k
    let l := h.lines.filter (fun b => !s.pinnedBlocks.contains b)
    let excess := l.length - s.hotCap k
    let out := (l.filter (fun b => !s.hotLocked k b)).take excess
    s.setHot k { h with lines := l.filter (fun b => !out.contains b), req := h.req.filter (fun b => !s.pinnedBlocks.contains b) })

/-- Count a refused begin or a failed upload (R115). -/
def State.countRefused (s : State) : State := s.count aMldPatErr 15 0 1

/-- An upload fails: the segment is FREE at its old version (R98). -/
def State.failUpload (s : State) (n : Nat) (checkFailed : Bool) : State :=
  let g := s.seg n
  let s := s.setSeg n { g with st := .free, version := g.version - 1, owner := g.oldOwner, uploading := false, pinned := false, bad := checkFailed }
  { s.countRefused with checks := s.checks.filter (fun x => x.1 != n) }

/-- Detail of a refusal that names a segment, and one that also gives the next offset (R318). -/
def detailSeg (seg : W32) : Detail := { noDetail with addr := seg }
def detailNext (seg : W32) (next : Nat) : Detail := { noDetail with addr := seg, instr := BitVec.ofNat 32 next }

/-- PAT_BEGIN (R97, R98, R320). -/
def execPatBegin (sid seq : W32) (seg : W32) (desc : BitVec 256) (s : State) : Out :=
  .next (s.request sid seq 0x20 (some .operator) (fun x s =>
    let n := seg.toNat
    if n ≥ 2 ^ 20 then .failed s.countRefused .address (detailSeg seg) else
      let old := s.seg n
      let g : Seg := { Seg.init with desc := desc, version := old.version + 1, st := .filling, owner := x.id, oldOwner := old.owner,
                                     lastMsg := s.mono, uploading := true, bad := old.bad }
      match s.beginRefusal n g with
      | some st => .failed s.countRefused st (detailSeg seg)
      | none =>
        let r := s.ratesNow
        let p := s.profile x.profile
        let s := { s.setSeg n g with rates := { r with begins := r.begins + 1 },
                                     checks := (n, ⟨x.profile, BitVec.ofNat 64 p.init, 0⟩) :: s.checks.filter (fun c => c.1 != n) }
        .done s []))

/-- The check context of an upload (R318). -/
def State.checkCtx (s : State) (key : Nat) : CheckCtx :=
  match s.checks.find? (fun c => c.1 == key) with
  | some c => c.2
  | none => ⟨0, 0, 0⟩
/-- Run a context over a data message (R318). -/
def State.runCheck (s : State) (key : Nat) (data : List Byte) : State :=
  { s with checks := s.checks.map (fun c => if c.1 == key then
      (c.1, { c.2 with value := BitVec.ofNat 64 ((s.profile c.2.profile).run c.2.value.toNat data),
                       next := c.2.next + data.length }) else c) }

/-- PAT_DATA (R98, R318): bytes at the next offset go to the store, and so to every cached copy of their block. DESIGN CHOICE: an offset
out of order is judged before bytes beyond the segment. -/
def execPatData (sid seq : W32) (seg : W32) (off : W32) (data : List Byte) (s : State) : Out :=
  .next (s.request sid seq 0x21 (some .operator) (fun x s =>
    let n := seg.toNat
    let g := s.seg n
    if n ≥ 2 ^ 20 then .refuse .address (detailSeg seg)
    else if !g.uploading || g.owner != x.id then .refuse .state (detailSeg seg)
    else if off.toNat ≠ g.next then .refuse .range (detailNext seg g.next)
    else if g.next + data.length > g.bytesLen then .refuse .address (detailSeg seg)
    else
      let s := (s.storeBytes (g.baseAddr + g.next) data).runCheck n data
      .done (s.setSeg n { g with next := g.next + data.length, lastMsg := s.mono }) []))

/-- Keep a failed check's digest, at most 256, oldest first out (R316, R317). -/
def State.keepDigest (s : State) (k : KeptDigest) : State := { s with kept := (k :: s.kept).take 256 }
/-- A good check whose digest was kept as failed: check_only counts, and the digest goes (R316, R317). -/
def State.dropDigest (s : State) (k : KeptDigest) : State :=
  if s.kept.contains k then { (s.count aNetCntA 15 0 1) with kept := s.kept.erase k } else s

/-- PAT_END (R98, R317): all data given, the check decides. -/
def execPatEnd (sid seq : W32) (seg : W32) (check : W64) (s : State) : Out :=
  .next (s.request sid seq 0x22 (some .operator) (fun x s =>
    let n := seg.toNat
    let g := s.seg n
    if n ≥ 2 ^ 20 then .refuse .address (detailSeg seg)
    else if !g.uploading || g.owner != x.id then .refuse .state (detailSeg seg)
    else if g.next < g.bytesLen then .refuse .range (detailNext seg g.next)
    else
      let c := s.checkCtx n
      let k : KeptDigest := ⟨true, seg, g.version, Config.sha256 (s.loadBytes g.baseAddr g.bytesLen)⟩
      if (s.profile c.profile).finish c.value.toNat = check.toNat then
        let s := s.setSeg n { g with st := .ready, uploading := false, pinned := g.pinBit, bad := false }
        let s := { s.dropDigest k with checks := s.checks.filter (fun c => c.1 != n) }
        .done (if g.pinBit then s.pinTrim else s) []
      else .failed (((s.count aNetCntA 31 16 1).keepDigest k).failUpload n true) .check (detailSeg seg)))

/-- PAT_RELEASE (R97, R99). -/
def execPatRelease (sid seq : W32) (seg : W32) (s : State) : Out :=
  .next (s.request sid seq 0x23 (some .operator) (fun _ s =>
    let n := seg.toNat
    let g := s.seg n
    if n ≥ 2 ^ 20 then .refuse .address (detailSeg seg)
    else if s.segActive (BitVec.ofNat 20 n) then .refuse .busy (detailSeg seg)
    else match g.st with
      | .free => .done s []
      | .filling => .refuse .state (detailSeg seg)
      | .ready => .done (s.setSeg n { g with st := .free, pinned := false }) []))

/-- PAT_PIN (R99, R111, R320): READY segments only; the pin field is 0 or 1. An unpinned segment's blocks stay resident as
ordinary lines. -/
def execPatPin (sid seq : W32) (seg : W32) (pin : W32) (s : State) : Out :=
  .next (s.request sid seq 0x24 (some .operator) (fun _ s =>
    let n := seg.toNat
    let g := s.seg n
    if n ≥ 2 ^ 20 then .refuse .address (detailSeg seg)
    else if g.st ≠ .ready ∨ s.segActive (BitVec.ofNat 20 n) then .refuse .state (detailSeg seg)
    else if pin.toNat > 1 then .refuse .range (detailSeg seg)
    else if pin = 1 then
      if s.pinExceeds n g then .refuse .range (detailSeg seg)
      else .done ((s.setSeg n { g with pinned := true, desc := g.desc ||| (1#256 <<< 56) }).pinTrim) []
    else
      let s := s.setSeg n { g with pinned := false, desc := g.desc &&& ~~~(1#256 <<< 56) }
      let s := if g.pinned then
          s.each (List.range 8) (fun s k =>
            let h := s.hot k
            let new := g.blocks.filter (fun b => !s.hotHas k b)
            s.setHot k { h with lines := (h.lines ++ new).take (s.hotCap k) })
        else s
      .done s []))

/-- State code of a segment in a PAT_STATUS reply: FREE 0, FILLING 1, READY 2, ACTIVE 3. -/
def State.segCode (s : State) (n : Nat) : Nat :=
  match (s.seg n).st with
  | .free => 0
  | .filling => 1
  | .ready => if s.segActive (BitVec.ofNat 20 n) then 3 else 2
/-- The 24 bytes of a segment in a PAT_STATUS reply: state, version, next offset, running check, descriptor flags (R318,
R320). -/
def State.segStatus (s : State) (n : Nat) : List Byte :=
  let g := s.seg n
  leBytes 4 (s.segCode n) ++ leBytes 4 g.version.toNat ++ leBytes 4 (if g.uploading then g.next else 0)
    ++ leBytes 8 (if g.uploading then (s.checkCtx n).value.toNat else 0) ++ leBytes 4 (descField g.desc 4 27 24)

/-- PAT_STATUS (R96, R318, R320). -/
def execPatStatus (sid seq : W32) (seg : W32) (count : W32) (s : State) : Out :=
  .next (s.request sid seq 0x25 none (fun _ s =>
    if count.toNat < 1 ∨ 256 < count.toNat then .refuse .range (detailSeg seg)
    else if seg.toNat + count.toNat > 2 ^ 20 then .refuse .address (detailSeg seg)
    else .done s ((List.range count.toNat).flatMap (fun i => s.segStatus (seg.toNat + i)))))

/-- UPLOAD_IDLE_TIMEOUT (R98): 100 ms with no data message. -/
def execUploadIdleTimeout (seg : BitVec 20) (s : State) : Out :=
  .next (
    let g := s.seg seg.toNat
    if g.uploading ∧ s.since g.lastMsg ≥ 100000000 then s.failUpload seg.toNat false else s)

end Sys2Proof.Machine
end

