-- ==== Sys2Proof/Machine/BankOps.lean ====
section
/-! DEFINITION. Power of RF and ADC banks, of reference buffers and of flux and bias groups, and what writes of their control
registers do (R130-R136, R149-R152, R159-R161, R168). -/

namespace Sys2Proof.Machine

/-- RF channels of banks A-D (0-3) and of the readout bank (4) (R134). -/
def bankChans (b : Nat) : List Nat :=
  if b < 4 then (List.range 16).map (fun i => 16 * b + i)
  else if b = 4 then (List.range 32).map (fun i => 64 + i) else []

/-- A reference buffer that is OFF starts, with R_on at tick `t` (R159). -/
def AdcChan.refStart (a : AdcChan) (t : Tick) : AdcChan := { a with refbuf := .starting, rOn := t, enPending := false }

/-- An ADC channel's LFSR is seeded afresh and its sub-converters begin in order (R157). The seed is open, but not 0. -/
def State.seedAdc (s : State) (c : Nat) : State :=
  let x := s.draw.1.setWidth 31
  s.draw.2.setAdcch c { s.draw.2.adcch c with lfsr := if x = 0 then 1 else x, order := List.range 32, rest := some 32 }
/-- The routine that powers a bank up (R358). The targets of bank and group routines are the model's own: a bank's number, and for a
group its number, from 16 on in BANK_DOWN. -/
def upRoutine (b : Nat) : Byte := if b = 5 then 0x04 else 0x03
/-- A bank reaches ON: its tones are re-seeded (R123), channels with no cause left un-mute under R133; buffers with refbuf_en = 1 start (R161). -/
def State.bankOn (s : State) (b : Nat) (t : Tick) : State :=
  let s := (s.routineDone (upRoutine b) b).setBank b ⟨.on, t, false⟩
  if b = 5 then
    s.each (List.range 32) (fun s c =>
      let s := s.seedAdc c
      if s.bit (aAdcCtrl c) 0 then s.setAdcch c ((s.adcch c).refStart t) else s)
  else s.each (bankChans b) (fun s ch =>
    (s.each (chanTones ch) (fun s n => s.setTone n ((s.tone n).reseed t))).judgeMute ch t)

/-- A power-up is asked of a bank: at once when OFF; it waits while SHUTTING_DOWN (R134, R161). -/
def State.bankUp (s : State) (b : Nat) : State :=
  let x := s.bank b
  match x.st with
  | .off => (s.setBank b ⟨.poweringUp, s.now, false⟩).routineAsk (upRoutine b) b
  | .shuttingDown => s.setBank b { x with enPending := true }
  | _ => s

/-- A bank powers down: its channels mute, and its reference buffers go to OFF (R134, R161). A shut-down under way keeps the power-up that
waits for it. -/
def State.bankDown (s : State) (b : Nat) : State :=
  let x := s.bank b
  if x.st = .on ∨ x.st = .poweringUp then
    let s := (((s.setBank b ⟨.shuttingDown, s.now, false⟩).routineGone (upRoutine b) b).domainDown (3 + b)).routineAsk 0x06 b
    if b = 5 then
      s.each (List.range 32) (fun s c =>
        s.setAdcch c { s.adcch c with refbuf := .off, enPending := false, disPending := false })
    else s.each (bankChans b) (fun s ch => s.judgeMute ch s.now)
  else s

/-- Longest power-up of a bank, in ticks: 200 µs for RF, 250 µs for the ADC bank (R138, R174). -/
def bankUpTicks (b : Nat) : Nat := if b = 5 then 500000 else 400000
/-- Banks whose power-up has taken its longest time reach ON. -/
def State.bankSettle (s : State) (l : List Nat) : State :=
  s.each l (fun s b =>
    let x := s.bank b
    if x.st = .poweringUp ∧ s.ticksSince x.since ≥ bankUpTicks b then s.bankOn b s.now else s)
/-- Banks that a cluster needs (R134, R161). -/
def clusterBanks (k : Nat) : List Nat := [k / 2, 4, 5]

/-- A CTRL write of an RF channel (R132, R136): a changed fs_step holds cause force while the attenuator switches. -/
def State.rfCtrlEffect (s : State) (ch : Nat) (old : W32) : State :=
  let s := if fieldOf old 7 4 = s.fld (aRfCtrl ch) 7 4 then s else s.setRfch ch { s.rfch ch with fsSwitch := true }
  s.judgeMute ch s.now

/-- A group powers up, or its power-up waits for a shut-down (R149). -/
def State.groupUp (s : State) (g : Nat) : State :=
  let x := s.grp g
  match x.st with
  | .off => (s.setGrp g { x with st := .poweringUp, since := s.now, enPending := false }).routineAsk 0x05 g
  | .shuttingDown => s.setGrp g { x with enPending := true }
  | _ => s
/-- Every channel of a group steps to its clear code, edges cut (R149). -/
def State.groupClear (s : State) (g : Nat) : State := s.each (groupChans g) (fun s n => s.clearChan s.now n)
/-- A group shuts down: outputs step to CLRCODE, then the switches open (R149). -/
def State.groupDown (s : State) (g : Nat) : State :=
  let x := s.grp g
  match x.st with
  | .off => s
  | .shuttingDown => s.setGrp g { x with enPending := false }
  | _ =>
    let s := (s.groupClear g).setGrp g { x with st := .shuttingDown, since := s.now, enPending := false }
    (s.routineGone 0x05 g).routineAsk 0x06 (16 + g)
/-- A write of GRP_CTRL (R149). -/
def State.grpCtrlEffect (s : State) (g : Nat) : State := if s.bit (aGrpCtrl g) 0 then s.groupUp g else s.groupDown g
/-- A holding register takes its channel's clear code (R149, R461). -/
def State.holdClear (s : State) (n : Nat) : State :=
  if n < 128 then s.setReg (aFlxHold n) (BitVec.ofNat 32 (s.fld (aFlxClr n) 15 0))
  else s.setReg (aBiaHold (n - 128)) (BitVec.ofNat 32 (s.fld (aBiaClr (n - 128)) 19 0))
/-- A group is powered (R149): holding registers, in-force codes and outputs at CLRCODE from the moment the switches close. -/
def State.groupOn (s : State) (g : Nat) : State :=
  let s := s.each (groupChans g) (fun s n =>
    (s.setFbch n { s.fbch n with code := s.clrCode n, atClear := true, moves := [] }).holdClear n)
  (s.routineDone 0x05 g).setGrp g { s.grp g with st := .on, since := s.now, enPending := false }
/-- A group's or a bank's power-up has failed: a block fault (R150, R420, R428). DESIGN CHOICE: it is OFF from then on. -/
def State.groupFail (s : State) (g : Nat) : State :=
  ((s.routineDone 0x05 g).setGrp g { s.grp g with st := .off, since := s.now, enPending := false }).blockFault
def State.bankFail (s : State) (b : Nat) : State := ((s.routineDone (upRoutine b) b).setBank b ⟨.off, s.now, false⟩).blockFault
/-- A software strobe: the first tick at or after the latch plus 24 (R141). -/
def State.grpSwEffect (s : State) (g : Nat) : State := s.setGrp g ((s.grp g).request (s.now + 24) none false true)

/-- The range in a channel's register (R139). -/
def State.fbRange (s : State) (n : Nat) : BitVec 2 :=
  BitVec.ofNat 2 (if n < 128 then s.fld (aFlxCfg n) 1 0 else s.fld (aBiaCfg (n - 128)) 0 0)
/-- A write that changed a channel's range opens its window at the latch tick W, or moves its end; the range switches at a tick of the
window that the manual leaves open (R152, R153). -/
def State.openWindow (s : State) (n : Nat) : State :=
  let W := s.now
  let x := s.fbch n
  let first : Tick := match x.window with
    | none => W
    | some w => if W.toNat < w.2.toNat + 6000 then w.1 else W
  let d := s.draw
  let s := d.2.setFbch n { x with window := some (first, W), range := x.rangeAt W,
                                  switchAt := some (W + BitVec.ofNat 64 (d.1.toNat % 6000), s.fbRange n) }
  (s.clearChan W n).condOver (fbEng n) .rangeChange W (W + 6000)

/-- A write of refbuf_en = 1 (R159). -/
def State.refbufOn (s : State) (c : Nat) : State :=
  let a := s.adcch c
  match a.refbuf with
  | .off => if (s.bank 5).st = .on then s.setAdcch c (a.refStart s.now) else s
  | .shuttingDown => s.setAdcch c { a with enPending := true }
  | _ => s.setAdcch c { a with disPending := false }
/-- A write of refbuf_en = 0: a disable waits for a quiet tick; a waiting enable is withdrawn (R159). -/
def State.refbufOff (s : State) (c : Nat) : State :=
  let a := s.adcch c
  match a.refbuf with
  | .off => s
  | .shuttingDown => s.setAdcch c { a with enPending := false }
  | _ => s.setAdcch c { a with disPending := true }
/-- A range write, judged against the last requested range (R168). -/
def State.rangeReq (s : State) (c : Nat) (r : BitVec 2) : State :=
  let a := s.adcch c
  if r = a.rangePending.getD a.range then s
  else if r = a.range then s.setAdcch c { a with rangePending := none }
  else s.setAdcch c { a with rangePending := some r }
/-- A write of ADC_CTRL (R159, R168); trig_en acts through the register itself (R208). -/
def State.adcCtrlEffect (s : State) (c : Nat) : State :=
  let v := s.reg (aAdcCtrl c)
  (if v.getLsbD 0 then s.refbufOn c else s.refbufOff c).rangeReq c (BitVec.ofNat 2 (fieldOf v 9 8))

end Sys2Proof.Machine
end

