-- ==== Sys2Proof/Machine/RfFlux.lean ====
section
/-! DEFINITION. Events of the RF outputs and of the flux and bias outputs (R130-R136, R141-R153). -/

namespace Sys2Proof.Machine

/-- SAMPLE_QUEUE_FAULT (R130): the channel mutes with cause chan_fault; a block fault (R428). -/
def execSampleQueueFault (ch : Fin 96) (s : State) : Out :=
  .next (
    let s := (s.setBit (aRfStat ch) 14 true).count (aRfNcochk ch) 31 16 1
    (s.blockFault.judgeMute ch s.now).logEvent 0x0011 0x0001 (leBytes 1 ch))

/-- SETTLE_END (R133): 4000 ticks after the release the channel enters WAIT_QUIET. -/
def execSettleEnd (ch : Fin 96) (s : State) : Out :=
  .next (
    let x := s.rfch ch
    if x.st = .settling ∧ s.ticksSince x.since ≥ 4000 then s.setRfch ch { x with st := .waitQuiet, since := s.now } else s)

/-- A shot has started on the channel's engines since a tick. -/
def State.shotSince (s : State) (ch : Nat) (t : Tick) : Bool :=
  s.runs.any (fun r => (chanEngs ch).any r.has &&
    r.shots.any (fun h => decide (t.toNat ≤ h.start.toNat) && decide (h.start.toNat ≤ s.now.toNat)))

/-- WAIT_QUIET_END (R133): LIVE at the first tick at which no play runs on the channel's tones, or at a shot start. -/
def execWaitQuietEnd (ch : Fin 96) (s : State) : Out :=
  .next (
    let x := s.rfch ch
    if x.st = .waitQuiet ∧ ((chanTones ch).all (fun t => (s.tone t).play.isNone) ∨ s.shotSince ch x.since) then
      s.setRfch ch { x with st := .live, since := s.now }
    else s)

/-- FS_STEP_SWITCH_DONE (R136): the force mute of an attenuator switching is released. -/
def execFsStepSwitchDone (ch : Fin 96) (s : State) : Out :=
  .next (
    let x := s.rfch ch
    if x.fsSwitch then (s.setRfch ch { x with fsSwitch := false }).judgeMute ch s.now else s)

/-- BANK_SHUTDOWN_COMPLETE (R134, R161): the bank is OFF; a waiting power-up then runs in full. -/
def execBankShutdownComplete (b : Fin 6) (s : State) : Out :=
  .next (
    let x := s.bank b
    if x.st = .shuttingDown then
      let s := (s.routineDone 0x06 b).setBank b ⟨.off, s.now, false⟩
      if x.enPending then s.bankUp b else s
    else s)

/-- STROBE (R140, R141, R143, R147): the earliest request whose tick has come, once the group's items stamped up to it are released. -/
def execStrobe (g : Fin 16) (s : State) : Out :=
  .next (
    match earliestReq (s.grp g).reqs with
    | none => s
    | some r => if (r.tick - s.now).toInt ≤ 0 ∧ !s.itemsBefore g r.tick then s.makeStrobe g r else s)

/-- A move whose edge has run its length is a finished step (R145). -/
def OutMove.finish (m : OutMove) (now : Tick) : OutMove :=
  if m.begun now && !m.runs now then { m with old := m.new, entry := 0, len := 0 } else m
/-- EDGE_END (R145): the edge has completed its length; the output holds the new code. -/
def execEdgeEnd (n : Fin 128) (s : State) : Out :=
  .next (s.setFbch n { s.fbch n with moves := (s.fbch n).moves.map (fun m => m.finish s.now) })

/-- OUTCLR_N_FALL (R146): latched at tick C. -/
def execOutclrFall (s : State) : Out :=
  .next (
    if s.fault.outclrLow then s
    else ({ s with fault := { s.fault with outclrLow := true } }).latchClear s.now 0x0002)

/-- OUTCLR_N_RISE (R147): the release is latched. -/
def execOutclrRise (s : State) : Out :=
  .next (
    if s.fault.outclrLow then ({ s with fault := { s.fault with outclrLow := false } }).releaseClear s.now 0x8002 else s)

/-- RANGE_WINDOW_END (R152): 6000 ticks after the last range write latched in the window, the output having its new range. -/
def execRangeWindowEnd (n : Fin 384) (s : State) : Out :=
  .next (
    let x := s.fbch n
    match x.window with
    | none => s
    | some w => if w.2.toNat + 6000 ≤ s.now.toNat then s.setFbch n { x with window := none, range := x.rangeAt s.now, switchAt := none } else s)

/-- GROUP_POWER_UP_COMPLETE (R149, R150): the group is ON; a power-up that failed is a block fault. -/
def execGroupPowerUpComplete (o : GroupResult) (s : State) : Out :=
  .next (if (s.grp o.group).st = .poweringUp then (if o.ok then s.groupOn o.group else s.groupFail o.group) else s)

/-- GROUP_SHUTDOWN_COMPLETE (R149): OFF; a waiting enable runs the full power-up. -/
def execGroupShutdownComplete (g : Fin 16) (s : State) : Out :=
  .next (
    let x := s.grp g
    if x.st = .shuttingDown then
      let s := (s.routineDone 0x06 (16 + g.val)).setGrp g { x with st := .off, since := s.now, enPending := false }
      if x.enPending then s.groupUp g else s
    else s)

end Sys2Proof.Machine
end

