-- ==== Sys2Proof/Machine/Trig.lean ====
section
/-! DEFINITION. The carrier's cosine and sine (R121, R169), and the bound on an equaliser's gain (R129, R366), over integers. -/

namespace Sys2Proof.Machine

/-- π in units of 2^-96. -/
def piFix : Nat := 0x3243f6a8885a308d313198a2e
/-- Terms left of the sine series from one of them, in units of 2^-96: the next is this one times x² over (2k)(2k + 1), subtracted. -/
def sinTerms (x2 : Nat) : Nat → Nat → Int → Int
  | 0, _, _ => 0
  | n + 1, k, t => t - sinTerms x2 n (k + 1) (t * x2 / 2 ^ 96 / ((2 * k : Nat) * (2 * k + 1 : Nat) : Int))
/-- Sine of `a / 2^20` of a turn, `a` up to a quarter turn, as an integer below it in units of 2^-17. The series is exact far beyond
the distance of any of these sines from a multiple of 2^-17. -/
def sinFloor (a : Nat) : Int :=
  let x := piFix * a / 2 ^ 19
  sinTerms (x * x / 2 ^ 96) 16 1 x / 2 ^ 79
/-- That sine as the 18-bit value of the carrier (R121). The manual states no rounding: DESIGN CHOICE, the LSB weighs 2^-17, the value is
one of the two neighbours, and 1, beyond the 18 bits, is the largest of them. -/
def quarterSin (a : Nat) : Int := if a = 0 then 0 else min 131071 (sinFloor a + if Config.sinUp a then 1 else 0)
/-- Sine of a phase of 20 bits (R121): the quarter wave, mirrored and negated. -/
def sinOf (p : Nat) : Int :=
  let r := p % 2 ^ 18
  match p / 2 ^ 18 % 4 with
  | 0 => quarterSin r
  | 1 => quarterSin (2 ^ 18 - r)
  | 2 => -quarterSin r
  | _ => -quarterSin (2 ^ 18 - r)
/-- Cosine and sine of a phase, in units of 2^-17 (R121). -/
def cosSin (p : BitVec 20) : Int × Int := (sinOf (p.toNat + 2 ^ 18), sinOf p.toNat)

/-- Sum, multiple and product by the unknown of polynomials, lowest coefficient first. -/
def polyAdd : List Int → List Int → List Int
  | [], l => l
  | a :: l, [] => a :: l
  | a :: l, b :: m => (a + b) :: polyAdd l m
def polyScale (c : Int) (l : List Int) : List Int := l.map (fun a => c * a)
/-- `Σ c_m T_m(x)` over Chebyshev polynomials, as a polynomial: Clenshaw's sums, from the highest term down. -/
def chebSum (c : List Int) : List Int :=
  match c with
  | [] => []
  | c0 :: r =>
    let b := r.foldr (fun a (b : List Int × List Int) => (polyAdd [a] (polyAdd (0 :: polyScale 2 b.1) (polyScale (-1) b.2)), b.1)) ([], [])
    polyAdd [c0] (polyAdd (0 :: b.1) (polyScale (-1) b.2))
/-- Bernstein coefficients, scaled, of a polynomial of degree `n` on `x = (lo + (hi - lo) t) / 2^40`, t from 0 to 1. -/
def bernstein (n : Nat) (lo hi : Int) (p : List Int) : List Int :=
  let q := ((List.range (n + 1)).map (fun j => p.getD j 0 * (2 : Int) ^ (40 * (n - j)))).foldr
    (fun a acc => polyAdd [a] (polyAdd (polyScale lo acc) (0 :: polyScale (hi - lo) acc))) []
  (List.range (n + 1)).map (fun i =>
    ((List.range (i + 1)).map (fun j => q.getD j 0 * ((i.choose j * j.factorial * (n - j).factorial : Nat) : Int))).sum)
/-- Rows of de Casteljau's triangle at t = 1/2, each without its division by 2. -/
def casteljau : Nat → List Int → List (List Int)
  | 0, _ => []
  | n + 1, l => l :: casteljau n (List.zipWith (· + ·) l l.tail)
/-- A polynomial is nowhere negative on its interval, by its Bernstein coefficients on halves of it, down to 2^-24 of the whole. -/
def nonneg : Nat → List Int → Bool
  | fuel, l =>
    if l.all (fun a => decide (0 ≤ a)) then true
    else if decide (l.headD 0 < 0) || decide (l.getLastD 0 < 0) then false
    else match fuel with
      | 0 => true
      | f + 1 =>
        let n := l.length
        let rows := (casteljau n l).zipIdx
        nonneg f (rows.map (fun r => r.1.headD 0 * (2 : Int) ^ (n - 1 - r.2))) &&
          nonneg f (rows.map (fun r => r.1.getLastD 0 * (2 : Int) ^ (n - 1 - r.2))).reverse
/-- Squared gain of a filter whose taps have units of 2^-17, in units of 2^-34, as a polynomial in the cosine of the angle per sample. -/
def gainSq (taps : List Int) : List Int :=
  let r := (List.range taps.length).map (fun m => (List.zipWith (· * ·) taps (taps.drop m)).sum)
  chebSum (r.zipIdx.map (fun x => if x.2 = 0 then x.1 else 2 * x.1))
/-- The gain of 16 taps at 24 GS/s is at most 1 from 0.2 to 11.5 GHz (R129, R366), that is for cosines from that of 172.5 degrees to that
of 3 degrees, both taken outwards to a multiple of 2^-40. -/
def eqGainOk (taps : List Int) : Bool :=
  nonneg 24 (bernstein 15 (-1090105153380) 1098004785304 (polyAdd [2 ^ 34] (polyScale (-1) (gainSq taps))))

end Sys2Proof.Machine
end

