-- ==== Sys2Proof/Machine/AdcOps.lean ====
section
/-! DEFINITION. Acquisition windows, lost beats and decisions: what ADC events and Crucibles share (R162-R168, R177-R181,
R191-R196). -/

namespace Sys2Proof.Machine

/-- Engine that owns tone `t` of ADC channel `ch` (R22). -/
def adcEng (ch t : Nat) : Nat := 4 * ch + t / 4
/-- First block of a window that opens at tick O: ceil(12 O / 64) (R163). -/
def firstBlock (o : Tick) : Nat := (12 * o.toNat + 63) / 64
/-- Tick that holds the last ADC sample of block `b`: floor((64 b + 63) / 12) (R163, R192). -/
def blockTick (b : Nat) : Tick := BitVec.ofNat 64 ((64 * b + 63) / 12)
/-- Close tick of a window (R163). -/
def Win.closeTick (w : Win) : Tick := blockTick (w.bEnd - 1)
/-- The ticks of two windows meet (R165). -/
def Win.meets (a b : Win) : Bool :=
  decide (a.o.toNat ≤ b.closeTick.toNat) && decide (b.o.toNat ≤ a.closeTick.toNat)

/-- Change the windows of a tone that satisfy a test. -/
def State.modWin (s : State) (ch : Nat) (p : Win → Bool) (f : Win → Win) : State :=
  let a := s.adcch ch
  s.setAdcch ch { a with wins := a.wins.map (fun w => if p w then f w else w) }

/-- A tick is quiet (R168): no window open, and none latched to open before it plus 24. -/
def AdcChan.quiet (a : AdcChan) (t : Tick) : Bool :=
  a.wins.all (fun w =>
    let isOpen := decide (w.o.toNat ≤ t.toNat) && decide (t.toNat ≤ w.closeTick.toNat) && decide (w.nextB < w.bEnd)
    let soon := decide (t.toNat < w.o.toNat) && decide (w.o.toNat < t.toNat + 24)
    !isOpen && !soon)

/-- Kernel length of a context on a channel's Crucible, and its other fields (R202). -/
def State.ctxWord (s : State) (ch : Nat) (ctx : Byte) : W32 := s.reg (aCruCtx (s.cruPhys ch) ctx.toNat)
def kernelLen (w : W32) : Nat := fieldOf w 23 12
def kernelBase (w : W32) : Nat := fieldOf w 11 0

/-- Classifier record `r` of tone `t` that rules a window opening at tick O: the pending set from its commit tick on, else
the set in force (R196). -/
def State.recordAt (s : State) (c t r : Nat) (o : Tick) : List W32 :=
  let inForce := (List.range 8).map (fun w => s.reg (aCruClsIn c t r w))
  match (s.cru c).pending with
  | none => inForce
  | some (tc, l) =>
    if (o - tc).toInt < 0 then inForce
    else (List.range 8).map (fun w => match l.find? (fun x => x.1 == 32 * t + 8 * r + w) with | some x => x.2 | none => 0)

/-- The four records of a tone that rule a window opening at tick O (R179, R196). -/
def State.recordsAt (s : State) (c t : Nat) (o : Tick) : List (List W32) := (List.range 4).map (fun r => s.recordAt c t r o)

/-- The next sample of an ADC channel is taken (R157, R158): of the sub-converter whose last sample is 32 samples old and the one that
rests, the LFSR chooses; one that has left the pool rests for good. DESIGN CHOICE: the LFSR chooses by its lowest bit. -/
def AdcChan.nextSub (a : AdcChan) (retired : Nat) : AdcChan :=
  match a.order, a.rest with
  | old :: r, some x =>
    let pick := if x = retired then false else if old = retired then true else a.lfsr.getLsbD 0
    if pick then { a with lfsr := Config.lfsrNext a.lfsr, order := r ++ [x], rest := some old }
    else { a with lfsr := Config.lfsrNext a.lfsr, order := r ++ [old] }
  | old :: r, none => { a with order := r ++ [old] }
  | [], _ => a
/-- The 12 samples of a tick on every channel, while the ADC bank is ON (R156, R157, R161). -/
def State.adcTick (s : State) : State :=
  if (s.bank 5).st = .on then
    s.each (List.range 32) (fun s c =>
      s.setAdcch c ((List.range 12).foldl (fun (a : AdcChan) _ => a.nextSub (s.fld (aAdcPool c) 5 0)) (s.adcch c)))
  else s

/-- Demodulation phase of tone `t` of a channel at cast sample `n` (R169), as the 20 bits that the carrier is computed from (R121): with
the frame in force on the readout output at that sample. -/
def State.demodPhase (s : State) (ch t n : Nat) : BitVec 20 :=
  let f := (s.tone (512 + 16 * ch + t)).frameAt (BitVec.ofNat 64 (n / 12))
  let a := f.1 * BitVec.ofNat 48 n
  let phi : W32 := (a >>> 16).setWidth 32 + f.2 + s.reg (aDemPhs ch t)
  (phi >>> 12).setWidth 20
/-- The mixer (R169): an ADC sample times 2 exp(-j phi_d). -/
def State.mixed (s : State) (ch t n : Nat) (x : Int) : Int × Int :=
  let cs := cosSin (s.demodPhase ch t n)
  (2 * x * cs.1, -(2 * x * cs.2))
/-- The decimator's output for block `b`, before saturation (R170). -/
def State.decimated (s : State) (ch t b : Nat) (raw : List (BitVec 12)) : Int × Int :=
  Config.decimator ((List.range 64).map (fun j => s.mixed ch t (64 * b + j) (raw.getD j 0).toInt))
/-- A baseband part beyond ±32,767, and the part saturated (R170). -/
def bbOver (x : Int) : Bool := decide (x < -32767) || decide (32767 < x)
def bbSat (x : Int) : Int := clampInt (-32767) 32767 x

/-- PERIODIC shot of a run in which a tick falls: its end tick (R166). -/
def Run.periodicShot (r : Run) (t : Tick) : Option Tick :=
  if r.desc.paced ∨ t.toNat < r.desc.startTick.toNat ∨ r.desc.period = 0 then none else
    let k := (t.toNat - r.desc.startTick.toNat) / r.desc.period.toNat
    if k < r.desc.shotCount.toNat then
      some (BitVec.ofNat 64 (r.desc.startTick.toNat + (k + 1) * r.desc.period.toNat))
    else none

/-- The decision's channel event (R194): one hop on the tone's channel when enabled. -/
def State.publishDecision (s : State) (ch t : Nat) (L : Tick) (hop : BitVec 5) (st : Nat) (damaged trunc : Bool) : State :=
  let c := s.cruPhys ch
  let w := s.reg (aCruPub c t)
  if w.getLsbD 8 then
    let p := st + (if w.getLsbD 9 then 4 * t else 0) + (if damaged then 64 else 0) + (if trunc then 128 else 0)
    let s := s.count (aCruDec c) 31 16 1
    let s := if st = 3 then s.count (aCruDec c) 15 0 1 else s
    s.publish (localEv (w.setWidth 8) L.stamp (BitVec.ofNat 16 p) (hop + 1) (BitVec.ofNat 10 (0x80 + ch)))
  else s

/-- Record a decision in the entry of the tone's engine, if it executes a shot in which L falls (R195). -/
def State.recordDecision (s : State) (ch t : Nat) (L : Tick) (st : Nat) : State :=
  let e := adcEng ch t
  match s.shotAt e L with
  | none => s
  | some h => s.modEntry h.1 h.2.1 e (fun x =>
      let q := 2 * (t % 4)
      { x with decisions := (x.decisions &&& ~~~(3#8 <<< q)) ||| (BitVec.ofNat 8 st <<< q) })

/-- A decision and its integral are offered to the capture unit (R192): each decision probe on the Crucible records it (R280, R281). -/
def State.offerDecision (s : State) (ch : Nat) (L : Tick) (e : CapElem) : State :=
  let on := s.cap.st == .armed || s.cap.st == .triggered
  let s := { s with cap := { s.cap with times := s.cap.times ++ [(ch, L)] } }
  s.each (List.range 4) (fun s k =>
    let w := s.reg (aCapProbe k)
    if on && w.getLsbD 31 && fieldOf w 30 29 == 3 && fieldOf w 28 24 == ch then
      { s with cap := { s.cap with decs := Tbl.put s.cap.decs k (Tbl.get s.cap.decs k [] ++ [e]) [] } }
    else s)

/-- A window decides: recorded, published on stamp L, and offered to the capture unit (R192, R194, R195). -/
def State.decideWin (s : State) (ch bLast : Nat) (w : Win) (st : Nat) (damaged trunc : Bool) (a : Int × Int) : State :=
  let L := blockTick bLast
  let s := (s.recordDecision ch w.tone L st).publishDecision ch w.tone L w.hop st damaged trunc
  s.offerDecision ch L (.decision L (BitVec.ofNat 4 w.tone) (BitVec.ofNat 2 st) damaged trunc a.1 a.2 w.ctx)

/-- A value of 24 bits that the manual leaves open. -/
def State.free24 (s : State) : Int × State := ((s.draw.1.setWidth 24).toInt, s.draw.2)
/-- A damaged window whose span has passed the input stage publishes 0b11 (R180); its integral is left open. -/
def State.damagedDecisions (s : State) (ch : Nat) : State :=
  let due := (s.adcch ch).wins.filter (fun w => w.damaged && !w.decided && w.opened && decide (w.spanEnd ≤ w.nextB))
  s.each due (fun s w =>
    let s := s.modWin ch (fun x => x.tone == w.tone && x.b0 == w.b0) (fun x => { x with decided := true })
    if w.classify then
      let i := s.free24
      let q := i.2.free24
      q.2.decideWin ch (w.spanEnd - 1) w 3 true w.trunc (i.1, q.1)
    else s)

/-- Mark a window damaged; counted once (R180, R181), also where its decision has gone out before its span ended. -/
def State.damage (s : State) (ch : Nat) (w : Win) : State :=
  if w.damaged then s else
    (s.modWin ch (fun x => x.tone == w.tone && x.b0 == w.b0) (fun x => { x with damaged := true })).count
      (aCruCnt (s.cruPhys ch)) 15 8 1

/-- A beat of block `b` with samples of some tones is lost (R180, R181). -/
def State.loseBeat (s : State) (ch b : Nat) (tones : List Nat) : State :=
  let s := s.count (aCruCnt (s.cruPhys ch)) 31 16 1
  let tick : Tick := BitVec.ofNat 64 (64 * b / 12)
  let s := s.each tones (fun s t =>
    let s := s.condAt (adcEng ch t) .acqOverflow tick
    match (s.adcch ch).wins.find? (fun w => w.tone == t && decide (w.b0 ≤ b) && decide (b < w.spanEnd)) with
    | none => s
    | some w => s.damage ch w)
  s.damagedDecisions ch

/-- A window is over: closed, with nothing to decide and no beat of it untaken (R163, R181). -/
def State.winOver (s : State) (ch : Nat) (w : Win) : Bool :=
  w.closed && (w.decided || !w.classify) &&
    !(s.cru (s.cruPhys ch)).beats.any (fun b => b.v.getLsbD w.tone && decide (w.b0 ≤ b.block) && decide (b.block < w.bEnd))
def State.dropOver (s : State) (ch : Nat) : State :=
  let a := s.adcch ch
  s.setAdcch ch { a with wins := a.wins.filter (fun w => !s.winOver ch w) }
/-- Lanes set in a 16-bit mask. -/
def lanesOf (v : BitVec 16) : List Nat := (List.range 16).filter (fun t => v.getLsbD t)
/-- Untaken beats of a Crucible are lost (R187, R200). -/
def State.loseUntaken (s : State) (c ch : Nat) : State :=
  let u := s.cru c
  let s := s.setCru c { u with beats := [] }
  (s.each u.beats (fun s b => s.loseBeat ch b.block (lanesOf b.v))).dropOver ch

/-- Round to nearest, ties away from zero, of `x / 2^n`. -/
def roundShift (x : Int) (n : Nat) : Int := roundDiv x (2 ^ n)
/-- A 48-bit accumulator as resolved (R184). -/
def resolve48 (x : Int) : Int := clampInt (-(2 ^ 47 - 1)) (2 ^ 47 - 1) x
/-- sat24 (R192), sat16 (R184). -/
def sat24 (x : Int) : Int := clampInt (-(2 ^ 23)) (2 ^ 23 - 1) x
def sat16 (x : Int) : Int := clampInt (-(2 ^ 15)) (2 ^ 15 - 1) x

/-- Word `w` of a classifier record as latched. -/
def clsWord (r : List W32) (w : Nat) : W32 := r.getD w 0
/-- `d_i` of R193. -/
def discriminant (r : List W32) (i : Nat) (ai aq : Int) : Int :=
  let w := clsWord r (2 * i + 1)
  sfieldOf w 15 0 * ai - sfieldOf w 31 16 * aq - (clsWord r (2 * i + 2)).toInt * 256
/-- The state that a classifier record gives to an integral (R193). -/
def classifyState (r : List W32) (ai aq : Int) : Nat :=
  let m := clsWord r 0
  let d := fun i => discriminant r i ai aq
  if fieldOf m 1 0 = 1 then
    if d 0 < 0 ∧ d 1 < 0 then 0 else if 0 ≤ d 0 ∧ d 2 < 0 then 1 else if 0 ≤ d 1 ∧ 0 ≤ d 2 then 2 else 3
  else
    let st := if 0 ≤ d 0 then 1 else 0
    if m.getLsbD 16 ∧ (d 0).natAbs < (clsWord r 7).toNat * 256 then 3 else st
/-- The integral `a` of R192, from a resolved accumulator. -/
def integralOf (r : List W32) (i q : Int) : Int × Int :=
  let n := fieldOf (clsWord r 0) 12 8
  (sat24 (roundShift (resolve48 i) n), sat24 (roundShift (resolve48 q) n))

/-- Cut the windows that satisfy a test and would close after tick E: their last block is the last that ends by it (R166). -/
def State.cutWins (s : State) (ch : Nat) (E : Tick) (p : Win → Bool) : State :=
  let a := s.adcch ch
  let cut := 12 * (E.toNat + 1) / 64
  let hit := fun (w : Win) => p w && decide (E.toNat < w.closeTick.toNat) && decide (w.nextB < w.bEnd)
  let n := (a.wins.filter hit).length
  let wins := a.wins.filterMap (fun w =>
    if hit w then
      let e := max cut w.nextB
      if e ≤ w.b0 then none
      else some { w with bEnd := min w.bEnd e, trunc := true, spanEnd := min w.spanEnd (min w.bEnd e) }
    else some w)
  (s.setAdcch ch { a with wins := wins }).count (aAdcCntB ch) 7 0 n

end Sys2Proof.Machine
end

