-- ==== Sys2Proof/Machine/Adc.lean ====
section
/-! DEFINITION. Events of the ADC channels: window starts, opening and closing, quiet ticks and reference buffers
(R159-R168). -/

namespace Sys2Proof.Machine

/-- A window that a start event asks for on a tone (R163, R180). -/
def State.newWin (s : State) (ch t : Nat) (w : WinStart) (o : Tick) (shot : Option (W32 × Tick)) : Win :=
  let k := s.fld (aAdcWcnt ch w.ctx.toNat) 15 0
  let b0 := firstBlock o
  { tone := t, ctx := w.ctx, o := o, b0 := b0, bEnd := b0 + k, nextB := b0, opened := false, shot := shot, trunc := false,
    range := 0, hop := w.hop, spanEnd := b0 + min k (kernelLen (s.ctxWord ch w.ctx)),
    classify := (s.ctxWord ch w.ctx).getLsbD 27, recs := [], damaged := false, decided := false, closed := false }

/-- A window start on one tone, on time: a repeated start gives one window, an overlap opens none (R165). -/
def State.startWin (s : State) (ch t : Nat) (n : Win) : State :=
  let a := s.adcch ch
  if a.wins.any (fun w => w.tone == t && w.o == n.o && w.ctx == n.ctx) then s
  else if a.wins.any (fun w => w.tone == t && !w.closed && w.meets n) then
    (s.count (aAdcCntB ch) 23 16 1).condAt (adcEng ch t) .acqOverflow n.o
  else s.setAdcch ch { a with wins := a.wins ++ [n] }

/-- WINDOW_START_ARRIVAL (R163-R166): the oldest event to reach the channel is judged; one later than O - 24 opens no window
and is recorded as a late item. -/
def execWindowStartArrival (ch : Fin 32) (s : State) : Out :=
  .next (
    let a := s.adcch ch
    match a.starts with
    | [] => s
    | w :: r =>
      let s := s.setAdcch ch { a with starts := r }
      let o := w.stamp + BitVec.ofNat 64 (s.fld (aAdcWdly ch w.ctx.toNat) 19 0)
      if (o - s.now).toInt < 24 then
        (s.count (aAdcCntB ch) 31 24 1).each (lanesOf w.mask) (fun s t => s.lateAt (adcEng ch t) o)
      else
        let shot := match w.src with
          | none => none
          | some (_, run) => match s.run? run with
            | none => none
            | some r =>
            if r.desc.paced then some (run, 0xFFFFFFFFFFFFFFFF) else (r.periodicShot o).map (fun x => (run, x))
        s.each (lanesOf w.mask) (fun s t => s.startWin ch t (s.newWin ch t w o shot)))

/-- WINDOW_OPEN (R160, R163, R167): at tick O; a buffer that is not READY is counted and recorded. -/
def execWindowOpen (ch : Fin 32) (t : Fin 16) (s : State) : Out :=
  .next (
    let a := s.adcch ch
    match a.wins.find? (fun w => w.tone == t.val && !w.opened && decide (w.o.toNat ≤ s.now.toNat)) with
    | none => s
    | some w =>
      let c := s.ctxWord ch w.ctx
      let w' := { w with opened := true, range := a.range, classify := c.getLsbD 27,
                         recs := s.recordsAt (s.cruPhys ch) t w.o,
                         spanEnd := min w.bEnd (w.b0 + kernelLen c) }
      let s := s.setAdcch ch { a with wins := a.wins.map (fun x => if x == w then w' else x) }
      if a.refbuf = .ready then s
      else (s.count (aAdcCntB ch) 15 8 1).condAt (adcEng ch t) .refbufNotReady w.o)

/-- WINDOW_CLOSE (R163, R171): the last block has been written with its close marker; a window with nothing left to decide
is over. -/
def execWindowClose (ch : Fin 32) (t : Fin 16) (s : State) : Out :=
  .next (
    (s.modWin ch (fun w => w.tone == t.val && w.opened && decide (w.bEnd ≤ w.nextB)) (fun w => { w with closed := true })).dropOver ch)

/-- REFBUF_READY (R159): 80,000 ticks after R_on. -/
def execRefbufReady (ch : Fin 32) (s : State) : Out :=
  .next (
    let a := s.adcch ch
    if a.refbuf = .starting ∧ s.ticksSince a.rOn ≥ 80000 then s.setAdcch ch { a with refbuf := .ready } else s)

/-- REFBUF_SHUTDOWN_COMPLETE (R159): OFF; a waiting enable starts the buffer at this tick. -/
def execRefbufShutdownComplete (ch : Fin 32) (s : State) : Out :=
  .next (
    let a := s.adcch ch
    if a.refbuf = .shuttingDown then
      s.setAdcch ch (if a.enPending then a.refStart s.now else { a with refbuf := .off })
    else s)

/-- QUIET_TICK (R159, R168): a pending range is applied and a pending disable takes effect. -/
def execQuietTick (ch : Fin 32) (s : State) : Out :=
  .next (
    let a := s.adcch ch
    if a.quiet s.now then
      let a := match a.rangePending with
        | none => a
        | some r => if r = a.range then a else { a with range := r, switched := some s.now }
      let a := if a.disPending then { a with disPending := false, refbuf := .shuttingDown, sdTick := s.now } else a
      s.setAdcch ch a
    else s)

/-- RANGE_SETTLED (R168): the attenuator has settled, within 20 ticks; range_pending clears. -/
def execRangeSettled (ch : Fin 32) (s : State) : Out :=
  .next (
    let a := s.adcch ch
    if a.switched.isSome then
      s.setAdcch ch { a with switched := none, rangePending := if a.rangePending = some a.range then none else a.rangePending }
    else s)

end Sys2Proof.Machine
end

