-- ==== Sys2Proof/Machine/CruOps.lean ====
section
/-! DEFINITION. What the Crucible instructions and loads share: the encodings of R182, operands and lanes (R184), taking a
beat (R179), ending an integration (R191), stops and loads (R187, R189, R199). -/

namespace Sys2Proof.Machine

/-- A complex word: I in [15:0], Q in [31:16] (R175). -/
def cplx (w : W32) : Int × Int := (sfieldOf w 15 0, sfieldOf w 31 16)
def packCplx (i q : Int) : W32 := BitVec.ofNat 32 (satBits 16 i + 2 ^ 16 * satBits 16 q)
/-- The exact product of R184. -/
def cmul (d c : Int × Int) : Int × Int := (d.1 * c.1 - d.2 * c.2, d.1 * c.2 + d.2 * c.1)

/-- Format M (R182). -/
def encM (op : Nat) (m : CruFields) : W32 :=
  BitVec.ofNat 32 (op * 2 ^ 26 + m.cnd.toNat * 2 ^ 24 + m.acc.toNat * 2 ^ 23 + m.kinc.toNat * 2 ^ 22 + m.dsel.toNat * 2 ^ 21
    + m.didx.toNat * 2 ^ 13 + m.cmode.toNat * 2 ^ 11 + m.conj.toNat * 2 ^ 10 + m.n.toNat)
/-- Format S (R182). -/
def encS (op : Nat) (sd sa : BitVec 3) (imm : BitVec 16) : W32 :=
  BitVec.ofNat 32 (op * 2 ^ 26 + sd.toNat * 2 ^ 23 + sa.toNat * 2 ^ 20 + imm.toNat)
/-- Format B (R182). -/
def encCruB (op : Nat) (sa : BitVec 3) (count : BitVec 8) (target : BitVec 10) : W32 :=
  BitVec.ofNat 32 (op * 2 ^ 26 + sa.toNat * 2 ^ 23 + count.toNat * 2 ^ 10 + target.toNat)
/-- The M-format fields of a stored word. -/
def decM (w : W32) : CruFields :=
  ⟨BitVec.ofNat 2 (fieldOf w 25 24), w.getLsbD 23, w.getLsbD 22, w.getLsbD 21, BitVec.ofNat 8 (fieldOf w 20 13),
    BitVec.ofNat 2 (fieldOf w 12 11), w.getLsbD 10, BitVec.ofNat 9 (fieldOf w 8 0)⟩

def Cru.word (u : Cru) (pc : Nat) : W32 := Tbl.get u.prog pc 0
def Cru.sreg (u : Cru) (i : Nat) : BitVec 16 := Tbl.get u.s i 0
def Cru.setSreg (u : Cru) (i : Nat) (x : BitVec 16) : Cru := { u with s := Tbl.put u.s i x 0 }
def Cru.lane (u : Cru) (t : Nat) : Lane := Tbl.get u.lanes t Lane.init
def Cru.setLane (u : Cru) (t : Nat) (l : Lane) : Cru := { u with lanes := Tbl.put u.lanes t l Lane.init }
def Cru.ringAt (u : Cru) (t pos : Nat) : W32 := Tbl.get u.ring (t * 512 + pos % 512) 0
def Cru.workAt (u : Cru) (t a : Nat) : W32 := Tbl.get u.work (t * 512 + a % 512) 0
def Cru.setWork (u : Cru) (t a : Nat) (w : W32) : Cru := { u with work := Tbl.put u.work (t * 512 + a % 512) w 0 }
def Cru.dragAt (u : Cru) (bank w : Nat) : W32 := Tbl.get u.drag (bank * 4096 + w % 4096) 0
def Cru.setDrag (u : Cru) (bank w : Nat) (x : W32) : Cru := { u with drag := Tbl.put u.drag (bank * 4096 + w % 4096) x 0 }
/-- The next instruction follows. -/
def Cru.advance (u : Cru) : Cru := { u with pc := (u.pc + 1) % 1024 }

/-- end_integration (R191): an open lane hands its accumulator to the decision unit; a window already damaged decides no
more (R180). -/
def State.endIntegration (s : State) (c ch t bLast : Nat) (trunc : Bool) : State :=
  let u := s.cru c
  let l := u.lane t
  if l.opened then
    let s := s.setCru c (u.setLane t { l with opened := false, kc := 0 })
    let a := s.adcch ch
    match a.wins.find? (fun w => w.tone == t && w.b0 == l.b0) with
    | some w =>
      if w.damaged ∨ w.decided then s
      else
        let i : Integral := ⟨t, u.block, l.b0, bLast, if l.acc then l.a1i else l.a0i, if l.acc then l.a1q else l.a0q, trunc, l.classify,
          w.hop, l.cls⟩
        s.setAdcch ch { a with integrals := a.integrals ++ [i] }
    | none => s
  else s

/-- A close marker taken earlier ends its lane's integration (R179, R191). -/
def State.endClosings (s : State) (c ch : Nat) : State :=
  s.each (List.range 16) (fun s t =>
    let l := (s.cru c).lane t
    if l.closing then
      let k := l.close.getD (l.b0 + 1, false)
      let s := s.endIntegration c ch t (k.1 - 1) k.2
      s.setCru c ((s.cru c).setLane t { (s.cru c).lane t with closing := false, close := none })
    else s)

/-- The lane takes its part of a beat (R179): v, an open marker, a close marker. -/
def State.laneBeat (s : State) (c ch t : Nat) (b : Beat) : State :=
  let u := s.cru c
  let l := { u.lane t with v := b.v.getLsbD t }
  let l := match b.opens.find? (fun o => o.tone == t) with
    | none => l
    | some o =>
      let w := s.reg (aCruCtx c o.ctx.toNat)
      let r := fieldOf w 26 25
      let rec' := match (s.adcch ch).wins.find? (fun w => w.tone == t && w.b0 == o.b0) with
        | some x => x.recs.getD r []
        | none => s.recordAt c t r o.o
      { l with a0i := 0, a0q := 0, a1i := 0, a1q := 0, opened := true, kp := kernelBase w, kc := kernelLen w,
               acc := w.getLsbD 24, classify := w.getLsbD 27, b0 := o.b0, cls := rec' }
  let l := match b.closes.find? (fun k => k.1 == t) with
    | none => l
    | some k => if l.opened then { l with closing := true, close := some k.2 } else l
  s.setCru c (u.setLane t l)

/-- The oldest untaken beat is taken (R179). -/
def State.takeBeat (s : State) (c ch : Nat) : State :=
  let u := s.cru c
  match u.beats with
  | [] => s
  | b :: r =>
    let s := s.setCru c { u with beats := r, rp := b.pos, block := b.block, st := .executing }
    (s.each (List.range 16) (fun s t => s.laneBeat c ch t b)).dropOver ch

/-- A lane takes part in an instruction (R184). -/
def laneOn (cnd : BitVec 2) (l : Lane) : Bool :=
  match cnd.toNat with
  | 0 => true
  | 1 => l.v
  | 2 => l.v && l.kc != 0
  | _ => l.kc != 0
/-- Work address and operands C and D of a lane in repetition `i` (R184, R186). -/
def Cru.workAddr (u : Cru) (m : CruFields) (i : Nat) : Nat :=
  let n := (m.n.toNat + 512 - i % 512) % 512
  if m.cmode = 2 then ((u.sreg 7).toNat + n) % 512 else n
def Cru.opC (u : Cru) (m : CruFields) (i t : Nat) : Int × Int :=
  let n := (m.n.toNat + 512 - i % 512) % 512
  match m.cmode.toNat with
  | 0 => cplx (u.ringAt t (u.rp + 512 - n))
  | 3 => ((u.lane t).xi, (u.lane t).xq)
  | _ => cplx (u.workAt t (u.workAddr m i))
def Cru.opD (u : Cru) (m : CruFields) (i t : Nat) : Int × Int :=
  let w := if m.dsel then u.dragAt t (3840 + (m.didx.toNat + i) % 256) else u.dragAt t (u.lane t).kp
  let d := cplx w
  if m.conj then (d.1, -d.2) else d
/-- Add to an accumulator of a lane. -/
def Lane.addA (l : Lane) (acc : Bool) (p : Int × Int) : Lane :=
  if acc then { l with a1i := l.a1i + p.1, a1q := l.a1q + p.2 } else { l with a0i := l.a0i + p.1, a0q := l.a0q + p.2 }

/-- Run an operation over the lanes that take part, with its kinc (R184): `f` gives the Crucible after the operation in one
lane. -/
def State.lanes (s : State) (c ch : Nat) (m : CruFields) (f : Cru → Nat → Cru) : State :=
  s.each (List.range 16) (fun s t =>
    let u := s.cru c
    if laneOn m.cnd (u.lane t) then
      let u := f u t
      let l := u.lane t
      if m.kinc ∧ l.kc ≠ 0 then
        let s := s.setCru c (u.setLane t { l with kp := l.kp + 1, kc := l.kc - 1 })
        if l.kc = 1 then s.endIntegration c ch t u.block false else s
      else s.setCru c u
    else s)

/-- The ADC channel that a Crucible serves; a spare or retired one serves none (R21). -/
def State.cruChan (s : State) (c : Nat) : Nat := (s.cruLogical c).getD 32

/-- The Crucible executes a word at its PC. -/
def State.cruFetch (s : State) (c : Nat) (code : W32) (k : State → State) : State :=
  let u := s.cru c
  if u.st = .executing ∧ u.word u.pc = code ∧ u.pc < u.codeCount then k s else s
/-- A class D instruction, once or as the repetition under way (R184, R186). -/
def State.cruData (s : State) (c op : Nat) (m : CruFields) (f : Nat → Cru → Nat → Cru) : State :=
  let u := s.cru c
  if (u.st = .executing ∨ u.st = .repeating) ∧ u.word u.pc = encM op m ∧ u.pc < u.codeCount then
    let i := match u.rep with | none => 0 | some r => r.1
    let s := s.lanes c (s.cruChan c) m (f i)
    let u := s.cru c
    match u.rep with
    | some (i, n) =>
      if i + 1 < n then s.setCru c { u with rep := some (i + 1, n) }
      else s.setCru c { u.advance with rep := none, st := .executing }
    | none => s.setCru c u.advance
  else s

/-- Words of a Crucible image (R197): code, flags, and the sections that follow. -/
def imgU (img : List Byte) (o n : Nat) : Nat := leNat (slice img o n)
def pad8 (n : Nat) : Nat := (n + 7) / 8 * 8
def cruCode (img : List Byte) (i : Nat) : W32 := BitVec.ofNat 32 (imgU img (64 + 4 * i) 4)
def cruCodeCount (img : List Byte) : Nat := imgU img 12 2
def cruHasCtx (img : List Byte) : Bool := imgU img 6 2 % 2 == 1
def cruHasCls (img : List Byte) : Bool := imgU img 6 2 / 2 % 2 == 1
def cruCtxOff (img : List Byte) : Nat := 64 + pad8 (4 * cruCodeCount img)
def cruClsOff (img : List Byte) : Nat := cruCtxOff img + (if cruHasCtx img then 1024 else 0)
def cruChunkOff (img : List Byte) : Nat := cruClsOff img + (if cruHasCls img then 2048 else 0)
/-- Drag chunks of an image from offset `o`: byte offset, bank, first word, count. -/
def cruChunks (img : List Byte) (n o : Nat) : List (Nat × Nat × Nat × Nat) :=
  match n with
  | 0 => []
  | k + 1 =>
    let cnt := imgU img (o + 4) 2
    (o, imgU img o 1, imgU img (o + 2) 2, cnt) :: cruChunks img k (o + pad8 (8 + 4 * cnt))
def cruImgChunks (img : List Byte) : List (Nat × Nat × Nat × Nat) := cruChunks img (imgU img 14 2) (cruChunkOff img)

/-- Opcode of a Crucible word; beat-taking ones (R183). -/
def cruOp (w : W32) : Nat := fieldOf w 31 26
def beatTaking (w : W32) : Bool := cruOp w == 0x02 || cruOp w == 0x0A
/-- Addresses that may follow an instruction, and the cycles it takes with what it repeats (R183, R186, R189). -/
def cruNext (img : List Byte) (pc : Nat) : List Nat × Nat :=
  let w := cruCode img pc
  match cruOp w with
  | 0x30 => ([fieldOf w 9 0], 1)
  | 0x31 => ([fieldOf w 9 0, pc + 1], 1)
  | 0x34 => ([pc + 2], fieldOf w 17 10 + 2)
  | _ => ([pc + 1], 1)
/-- Every path from `pc` reaches a beat-taking instruction within `left` cycles, with at most `fuel` instructions. -/
def beatWithin (img : List Byte) (fuel left pc : Nat) : Bool :=
  match fuel with
  | 0 => false
  | f + 1 =>
    if beatTaking (cruCode img pc) then true
    else
      let n := cruNext img pc
      decide (n.2 ≤ left) && n.1.all (fun q => beatWithin img f (left - n.2) q)
/-- Addresses from which no loop can be taken without passing a beat-taking instruction, grown `fuel` times. -/
def beatSafe (img : List Byte) (fuel : Nat) (l : List Nat) : List Nat :=
  match fuel with
  | 0 => l
  | f + 1 =>
    let n := cruCodeCount img
    beatSafe img f ((List.range n).filter (fun pc =>
      beatTaking (cruCode img pc) || ((cruNext img pc).1.all (fun q => l.contains q))))
/-- The beat rule (R189): at most 8 cycles from a beat-taking instruction to the next, and no loop without one. -/
def beatRule (img : List Byte) : Bool :=
  let n := cruCodeCount img
  (beatSafe img n []).contains 0 &&
    (List.range n).all (fun pc => !beatTaking (cruCode img pc) || beatWithin img 9 7 (pc + 1))

/-- Bits of a context word and of a classifier word that are not reserved (R4, R202). -/
def ctxMask : W32 := 0x0FFFFFFF
def clsMask (w : Nat) : W32 := if w = 0 then 0x11F03 else 0xFFFFFFFF
/-- Words of the image's tables go to the registers of the Crucible, chunks to its Drag memory (R199); reserved bits read 0 (R4). -/
def State.cruTables (s : State) (c : Nat) (img : List Byte) : State :=
  let s := if cruHasCtx img then
      s.each (List.range 256) (fun s k => s.setReg (aCruCtx c k) (BitVec.ofNat 32 (imgU img (cruCtxOff img + 4 * k) 4) &&& ctxMask))
    else s
  let s := if cruHasCls img then
      let s := s.each (List.range 512) (fun s k =>
        s.setReg (aCruClsIn c (k / 32) (k / 8 % 4) (k % 8)) (BitVec.ofNat 32 (imgU img (cruClsOff img + 4 * k) 4) &&& clsMask (k % 8)))
      s.setCru c { s.cru c with pending := none }
    else s
  s.each (cruImgChunks img) (fun s k =>
    s.each (List.range k.2.2.2) (fun s i =>
      s.setCru c ((s.cru c).setDrag k.2.1 (k.2.2.1 + i) (BitVec.ofNat 32 (imgU img (k.1 + 8 + 4 * i) 4)))))

/-- Windows open in a lane, and not decided: a load or a fault ends their integration (R194, R200). -/
def State.openWins (s : State) (c ch : Nat) : List Win :=
  let u := s.cru c
  (s.adcch ch).wins.filter (fun w => !w.decided && (u.lane w.tone).opened && (u.lane w.tone).b0 == w.b0)
/-- Load an image into a stopped Crucible and start it at address 0 (R199). A window still open in a lane is damaged, so that it
publishes its one decision (DEDUCED from R194). -/
def State.cruLoad (s : State) (c : Nat) (img : List Byte) : State :=
  let ch := s.cruChan c
  let s := (s.each (s.openWins c ch) (fun s w => s.damage ch w)).damagedDecisions ch
  let s := s.cruTables c img
  let u := s.cru c
  let prog := (List.range (cruCodeCount img)).foldl (fun p i => Tbl.put p i (cruCode img i) 0) ([] : Tbl W32)
  let u : Cru := { Cru.init with st := .executing, beatRule := beatRule img, prog := prog, codeCount := cruCodeCount img,
                                 drag := u.drag, pending := u.pending, retired := u.retired }
  { s.setCru c u with cruImg := Tbl.put s.cruImg c img [] }

/-- A loading run names an image for a logical Crucible (R31, R199). -/
def State.loadNames (s : State) (n : Nat) : Bool :=
  s.runs.any (fun r => r.phase == .loading && r.desc.crucImages.any (fun x => x.1.val == n && x.2.isSome))

/-- The sequencer stops (R187): its untaken beats are lost. It stays stopped until its load or swap, and beats written meanwhile are
lost (R180). -/
def State.cruStopped (s : State) (c : Nat) : State :=
  let s := s.setCru c { s.cru c with st := .stopped, rep := none, stopReq := none }
  s.loseUntaken c (s.cruChan c)
/-- A stop is asked of a sequencer that runs; one that waits for a beat stops at once (R187). -/
def State.cruStop (s : State) (c : Nat) : State :=
  let u := s.cru c
  match u.st with
  | .executing | .repeating => s.setCru c { u with stopReq := some (u.stopReq.getD s.now) }
  | .waiting => s.cruStopped c
  | _ => s
/-- The load for which a sequencer was to stop does not come. DESIGN CHOICE: the program goes on from where it is (R176). -/
def State.cruResume (s : State) (c : Nat) : State :=
  let u := s.cru c
  s.setCru c { u with stopReq := none, st := if u.st = .stopped ∧ u.swap.isNone then .executing else u.st }
/-- An image reaches a Crucible that was stopped for it; one stopped on a fault is left as it is: the module's copy takes the image,
which is logged (R199). -/
def State.cruImage (s : State) (c n : Nat) (img : List Byte) : State :=
  let u := s.cru c
  if u.st = .fault then
    let p := if u.ahead.isEmpty then u.pending else u.aheadPending
    (s.setCru c { u with ahead := u.ahead ++ [.image img], aheadPending := if cruHasCls img then none else p }).logEvent 0x0009 1 (leBytes 1 n)
  else s.cruLoad c img
/-- A step of the copy reaches the spare that takes it over (R199, R201). -/
def State.copyStep (s : State) (c : Nat) : CopyStep → State
  | .image b => s.cruLoad c b
  | .write o v =>
    if o < 65536 then s.setReg (0x200000 + 0x10000 * c + o) v
    else s.setCru c ((s.cru c).setDrag ((o - 65536) / 4096) ((o - 65536) % 4096) v)
/-- A word written to a Crucible whose copy is ahead of it goes to the copy too (R199). -/
def State.copyWrite (s : State) (c off : Nat) (v : W32) : State :=
  let u := s.cru c
  if u.ahead.isEmpty then s else s.setCru c { u with ahead := u.ahead ++ [.write off v] }

/-- A beat-taking instruction reaches its wait (R179, R187): closes end, a stop request takes effect, a beat is taken and `f`
follows, or the sequencer waits. -/
def State.beatOp (s : State) (c : Nat) (f : State → State) : State :=
  let ch := s.cruChan c
  let s := s.endClosings c ch
  if (s.cru c).stopReq.isSome then s.cruStopped c
  else if (s.cru c).beats.isEmpty then s.setCru c { s.cru c with st := .waiting }
  else f (s.takeBeat c ch)

/-- A[acc] += D × C in one lane (R183). -/
def macLane (m : CruFields) (i : Nat) (u : Cru) (t : Nat) : Cru :=
  u.setLane t ((u.lane t).addA m.acc (cmul (u.opD m i t) (u.opC m i t)))
/-- What MACB and WAITB do after their beat is taken (R183). -/
def State.afterBeat (s : State) (c : Nat) (w : W32) : State :=
  let m := decM w
  let s := if cruOp w = 0x02 then s.lanes c (s.cruChan c) m (macLane m 0)
    else if m.cmode = 1 ∨ m.cmode = 2 then
      s.each (List.range 16) (fun s t =>
        let u := s.cru c
        s.setCru c (u.setWork t (u.workAddr m 0) (u.ringAt t u.rp)))
    else s
  s.setCru c (s.cru c).advance

end Sys2Proof.Machine
end

