-- ==== Sys2Proof/Machine/Crucible.lean ====
section
/-! DEFINITION. The Crucible instruction set, the input stage, the decision unit, and the Crucibles' faults and swaps
(R175-R202). -/

namespace Sys2Proof.Machine

/-- CRU_NOP (R183). -/
def execCNop (c : Fin 34) (s : State) : Out :=
  .next (s.cruFetch c (encCruB 0x00 0 0 0) (fun s => s.setCru c (s.cru c).advance))

/-- MAC (R183, R184): A[acc] += D × C. -/
def execCMac (c : Fin 34) (m : CruFields) (s : State) : Out := .next (s.cruData c 0x01 m (macLane m))

/-- MACB (R179, R183): a beat is taken, then as MAC. -/
def execCMacb (c : Fin 34) (m : CruFields) (s : State) : Out :=
  .next (s.cruFetch c (encM 0x02 m) (fun s => s.beatOp c (fun s => s.afterBeat c (encM 0x02 m))))

/-- TAPM (R185): the tap accumulates, and the line moves one place. -/
def execCTapm (c : Fin 34) (m : CruFields) (s : State) : Out :=
  .next (s.cruData c 0x03 m (fun i u t =>
    let a := u.workAddr m i
    let w := u.workAt t a
    (u.setLane t ((u.lane t).addA m.acc (cmul (u.opD m i t) (cplx w)))).setWork t (a + 1) w))

/-- MSQ (R183): the squared magnitude goes to the I part; Q is unchanged. -/
def execCMsq (c : Fin 34) (m : CruFields) (s : State) : Out :=
  .next (s.cruData c 0x04 m (fun i u t =>
    let x := u.opC m i t
    u.setLane t ((u.lane t).addA m.acc (x.1 * x.1 + x.2 * x.2, 0))))

/-- LDX (R183): X := C. -/
def execCLdx (c : Fin 34) (m : CruFields) (s : State) : Out :=
  .next (s.cruData c 0x05 m (fun i u t =>
    let x := u.opC m i t
    u.setLane t { u.lane t with xi := x.1, xq := x.2 }))

/-- STX (R183): W[a] := X. -/
def execCStx (c : Fin 34) (m : CruFields) (s : State) : Out :=
  .next (s.cruData c 0x06 m (fun i u t => u.setWork t (u.workAddr m i) (packCplx (u.lane t).xi (u.lane t).xq)))

/-- MULX (R183): X := sat16(round(D × C / 2^15)). -/
def execCMulx (c : Fin 34) (m : CruFields) (s : State) : Out :=
  .next (s.cruData c 0x07 m (fun i u t =>
    let p := cmul (u.opD m i t) (u.opC m i t)
    u.setLane t { u.lane t with xi := sat16 (roundShift p.1 15), xq := sat16 (roundShift p.2 15) }))

/-- CLRA (R183): A[acc] := 0. -/
def execCClra (c : Fin 34) (m : CruFields) (s : State) : Out :=
  .next (s.cruData c 0x08 m (fun _ u t =>
    let l := u.lane t
    u.setLane t (if m.acc then { l with a1i := 0, a1q := 0 } else { l with a0i := 0, a0q := 0 })))

/-- ACX (R183): X := sat16(round(A[acc] / 2^n)); A[acc] := 0. -/
def execCAcx (c : Fin 34) (m : CruFields) (s : State) : Out :=
  .next (s.cruData c 0x09 m (fun _ u t =>
    let l := u.lane t
    let n := m.n.toNat % 32
    let f := fun (x : Int) => sat16 (roundShift (resolve48 x) n)
    u.setLane t (if m.acc then { l with xi := f l.a1i, xq := f l.a1q, a1i := 0, a1q := 0 }
      else { l with xi := f l.a0i, xq := f l.a0q, a0i := 0, a0q := 0 })))

/-- WAITB (R179, R183): a beat is taken; a work cmode stores the newest sample. -/
def execCWaitb (c : Fin 34) (m : CruFields) (s : State) : Out :=
  .next (s.cruFetch c (encM 0x0A m) (fun s => s.beatOp c (fun s => s.afterBeat c (encM 0x0A m))))

/-- SETS (R183): s[sd] := imm16. -/
def execCSets (c : Fin 34) (sd : BitVec 3) (imm : BitVec 16) (s : State) : Out :=
  .next (s.cruFetch c (encS 0x20 sd 0 imm) (fun s => s.setCru c ((s.cru c).setSreg sd.toNat imm).advance))

/-- ADDS (R183): s[sd] := s[sa] + imm16. -/
def execCAdds (c : Fin 34) (sd sa : BitVec 3) (imm : BitVec 16) (s : State) : Out :=
  .next (s.cruFetch c (encS 0x21 sd sa imm) (fun s =>
    let u := s.cru c
    s.setCru c (u.setSreg sd.toNat (u.sreg sa.toNat + imm)).advance))

/-- CRU_J (R183). -/
def execCJ (c : Fin 34) (target : BitVec 10) (s : State) : Out :=
  .next (s.cruFetch c (encCruB 0x30 0 0 target) (fun s => s.setCru c { s.cru c with pc := target.toNat }))

/-- CRU_DBNZ (R183): s[sa] := s[sa] - 1; a jump if it is not 0. -/
def execCDbnz (c : Fin 34) (sa : BitVec 3) (target : BitVec 10) (s : State) : Out :=
  .next (s.cruFetch c (encCruB 0x31 sa 0 target) (fun s =>
    let u := s.cru c
    let x := u.sreg sa.toNat - 1
    let u := u.setSreg sa.toNat x
    s.setCru c (if x = 0 then u.advance else { u with pc := target.toNat })))

/-- REP (R186): the next instruction runs count + 1 times. -/
def execCRep (c : Fin 34) (count : BitVec 8) (s : State) : Out :=
  .next (s.cruFetch c (encCruB 0x34 0 count 0) (fun s =>
    s.setCru c { (s.cru c).advance with rep := some (0, count.toNat + 1), st := .repeating }))

/-- Windows of a channel that have a sample in block `b`. -/
def AdcChan.inBlock (a : AdcChan) (b : Nat) : List Win :=
  a.wins.filter (fun w => w.opened && decide (w.nextB = b) && decide (b < w.bEnd))
/-- The next block to pass the input stage: the least among the open windows. -/
def AdcChan.nextBlock (a : AdcChan) : Option Nat :=
  (a.wins.filter (fun w => w.opened && decide (w.nextB < w.bEnd))).foldl (fun m w =>
    match m with | none => some w.nextB | some b => some (min b w.nextB)) none

/-- The ring takes a beat (R177): lane samples, 0 where a tone has none, and the beat's markers. -/
def Cru.writeBeat (u : Cru) (b : Nat) (l : List Win) (samples : Nat → W32) : Cru :=
  let v := l.foldl (fun m w => m ||| (1#16 <<< w.tone)) (0 : BitVec 16)
  let ring := (List.range 16).foldl (fun r t => Tbl.put r (t * 512 + u.wp) (if v.getLsbD t then samples t else 0) 0) u.ring
  let opens := (l.filter (fun w => w.b0 == b)).map (fun w => (⟨w.tone, w.ctx, w.range, w.b0, w.o⟩ : OpenMark))
  let closes := (l.filter (fun w => w.bEnd == b + 1)).map (fun w => (w.tone, w.bEnd, w.trunc))
  { u with ring := ring, beats := u.beats ++ [⟨b, u.wp, v, opens, closes⟩], wp := (u.wp + 1) % 512 }

/-- The ADC samples of a block at full scale, counted with their flag (R172), and the baseband samples of tones that saturate (R170). -/
def State.countBlock (s : State) (ch b : Nat) (raw : List (BitVec 12)) (l : List Win) : State :=
  let full := (raw.filter (fun x => x.toInt == 2047 || x.toInt == -2048)).length
  let sat := (l.filter (fun w => let y := s.decimated ch w.tone b raw; bbOver y.1 || bbOver y.2)).length
  let s := (s.count (aAdcCntA ch) 31 16 full).count (aAdcCntA ch) 15 0 sat
  if full = 0 then s else s.setBit (aAdcStat ch) 16 true
/-- The baseband word of a tone for a block (R169, R170). -/
def State.bbWord (s : State) (ch b : Nat) (raw : List (BitVec 12)) (t : Nat) : W32 :=
  let y := s.decimated ch t b raw
  packCplx (bbSat y.1) (bbSat y.2)
/-- BEAT_WRITE (R169-R172, R177-R181), with the 64 ADC samples of the block: a block in which a tone has a window sample gives one beat; it is lost with 64 untaken or with the
sequencer stopped; a waiting beat-taking instruction takes it. Its samples enter 560 samples after the block's last (R170). -/
def execBeatWrite (ch : Fin 32) (samples : List (BitVec 12)) (s : State) : Out :=
  .next (
    match (s.adcch ch).nextBlock with
    | none => s
    | some b =>
      if 64 * b + 63 + 560 ≤ 12 * s.now.toNat then
        let c := s.cruPhys ch
        let u := s.cru c
        let l := (s.adcch ch).inBlock b
        let word := s.bbWord ch b samples
        let s := s.countBlock ch b samples l
        let s := s.modWin ch (fun w => w.opened && decide (w.nextB = b) && decide (b < w.bEnd)) (fun w => { w with nextB := b + 1 })
        if u.beats.length ≥ 64 ∨ u.st = .stopped ∨ u.st = .fault ∨ u.st = .noProg then
          s.loseBeat ch b (l.map (fun w => w.tone))
        else
          let u := u.writeBeat b l word
          let a := aCruRing c
          let hw := max (s.fld a 22 16) u.beats.length
          let s := ((s.setCru c u).setFld a 22 16 hw).damagedDecisions ch
          if u.st = .waiting then (s.takeBeat c ch).afterBeat c (u.word u.pc) else s
      else s)

/-- One integral is scaled, classified, recorded and published, unless its window is damaged or has decided (R180, R192-R195). -/
def State.decideOne (s : State) (ch : Nat) (i : Integral) : State :=
  let mine := fun (w : Win) => w.tone == i.tone && w.b0 == i.b0
  let a := s.adcch ch
  let s := (s.setAdcch ch { a with integrals := a.integrals.erase i }).modWin ch mine (fun w => { w with decided := true })
  match a.wins.find? mine with
  | none => s
  | some w =>
    if w.damaged ∨ w.decided ∨ !i.classify then s
    else
      let x := integralOf i.cls i.i i.q
      s.decideWin ch i.bLast w (if i.trunc then 3 else classifyState i.cls x.1 x.2) false i.trunc x
/-- DECISION_PUBLISH (R192-R195): the oldest integral of the tone decides, and with it every one that ended in the same beat: they go
out together (R194). -/
def execDecisionPublish (ch : Fin 32) (t : Fin 16) (s : State) : Out :=
  .next (
    let a := s.adcch ch
    match a.integrals.find? (fun i => i.tone == t.val) with
    | none => s
    | some i => (s.each (a.integrals.filter (fun j => j.beat == i.beat)) (fun s j => s.decideOne ch j)).dropOver ch)

/-- CRUCIBLE_FAULT (R200): a handshake (code 1) fails only in a running program, a memory at any time. The Crucible stops; windows open in a lane, or ended and not published, are damaged. -/
def execCrucibleFault (c : Fin 34) (code : BitVec 4) (s : State) : Out :=
  .next (
    let u := s.cru c
    match s.cruLogical c with
    | none => s
    | some ch =>
      let running := u.st == .executing || u.st == .repeating
      if u.st = .fault ∨ code.toNat = 0 ∨ 4 < code.toNat ∨ (code.toNat = 1 ∧ !running) then s
      else
        let a := s.adcch ch
        let ended := fun (w : Win) => a.integrals.any (fun i => i.tone == w.tone && i.b0 == w.b0)
        let hit := s.openWins c ch ++ a.wins.filter (fun w => !w.decided && ended w)
        let s := s.setCru c { u with st := .fault, faultCode := code, rep := none, stopReq := none }
        let s := s.setAdcch ch { a with integrals := [] }
        let s := s.each hit (fun s w => s.damage ch w)
        let s := (s.loseUntaken c ch).damagedDecisions ch
        ((s.swapPendingCru ch).blockFault).logEvent 0x0013 code.toNat (leBytes 1 ch ++ leBytes 1 c))

/-- SEQUENCER_FORCED_STOP (R186, R187): 10 µs after a stop request the sequencer stops where it is, but not within a REP. -/
def execSequencerForcedStop (c : Fin 34) (s : State) : Out :=
  .next (
    match (s.cru c).stopReq with
    | none => s
    | some t => if s.ticksSince t ≥ 20000 ∧ (s.cru c).st ≠ .repeating then s.cruStopped c else s)

/-- A commit set becomes the one in force (R196). -/
def State.commitCls (s : State) (c : Nat) (l : List (Nat × W32)) : State :=
  let s := s.each l (fun s x => s.setReg (aCruClsIn c (x.1 / 32) (x.1 / 8 % 4) (x.1 % 8)) x.2)
  s.setCru c { s.cru c with pending := none }

/-- The commit that is pending in the module's copy alone comes into force there (R199). -/
def State.commitCopy (s : State) (c : Nat) (l : List (Nat × W32)) : State :=
  let u := s.cru c
  s.setCru c { u with ahead := u.ahead ++ l.map (fun x => .write (0x2000 + 4 * x.1) x.2), aheadPending := none }
/-- CLASSIFIER_COMMIT_TICK (R196): at T_c the pending set comes into force. -/
def execClassifierCommitTick (c : Fin 34) (s : State) : Out :=
  .next (
    let due := fun (p : Option (Tick × List (Nat × W32))) => p.filter (fun x => decide ((x.1 - s.now).toInt ≤ 0))
    let u := s.cru c
    let s := match due u.aheadPending with | none => s | some x => s.commitCopy c x.2
    match due u.pending with
    | none => s
    | some x => s.commitCls c x.2)

/-- A spare Crucible not yet in service (R20, R201). -/
def State.spareCru (s : State) : Option Nat :=
  [32, 33].find? (fun c => (s.cruLogical c).isNone && !(s.cru c).retired &&
    !s.crus.any (fun x => match x.2.swap with | some w => w.2 == c | none => false))

/-- CRUCIBLE_SWAP_BEGIN (R87, R187, R201): with every condition of R201 met the sequencer stops for the swap. -/
def execCrucibleSwapBegin (n : Fin 32) (s : State) : Out :=
  .next (
    let c := s.cruPhys n
    let u := s.cru c
    let k := n.val / 4
    let seqOk : Bool := u.st == .waiting || u.st == .fault
    let trigOk : Bool := !s.bit (aAdcCtrl n) 1 || !s.claimed k
    let gapOk : Bool := match s.runs.find? (fun r => r.holds && r.clusters.contains k) with
      | none => true
      | some r => s.gapLong r
    match s.spareCru with
    | none => s
    | some sp =>
      if s.bit (aMldCruMap n) 8 && u.swap.isNone && (s.adcch n).quiet s.now && u.beats.isEmpty && seqOk && trigOk && gapOk then
        s.setCru c { u with swap := some (s.now, sp), st := if u.st = .waiting then .stopped else u.st }
      else s)

/-- Copy the words of registers from one Crucible's block to another's. -/
def State.copyRegs (s : State) (a b : Nat) (l : List Nat) : State := s.each l (fun s o => s.setReg (b + o) (s.reg (a + o)))

/-- CRUCIBLE_SWAP_COMPLETE (R199, R201): the spare takes the copy's contents and the sequencer state, and goes on at its beat-taking
instruction (or waits, stopped, for a load under way); after a fault it starts at address 0. The map names it and the old Crucible is
retired. -/
def execCrucibleSwapComplete (n : Fin 32) (s : State) : Out :=
  .next (
    let c := s.cruPhys n
    let u := s.cru c
    match u.swap with
    | none => s
    | some (_, sp) =>
      if (s.adcch n).quiet s.now then
        let offs := (List.range 16).map (fun t => 0x100 + 4 * t) ++ (List.range 256).map (fun k => 0x400 + 4 * k)
          ++ (List.range 512).map (fun k => 0x1000 + 4 * k) ++ (List.range 512).map (fun k => 0x2000 + 4 * k)
          ++ [0x18, 0x1C]
        let goesOn : CruSt := if s.loadNames n then .stopped else .executing
        let s := s.copyRegs (0x200000 + 0x10000 * c) (0x200000 + 0x10000 * sp) offs
        let new : Cru :=
          if u.st = .fault then
            { Cru.init with st := .executing, beatRule := u.beatRule, prog := u.prog, codeCount := u.codeCount, drag := u.drag,
                            pending := u.pending }
          else { u with swap := none, retired := false, stopReq := none, st := goesOn }
        let img := Tbl.get s.cruImg c []
        let s := { s.setCru sp new with cruImg := Tbl.put s.cruImg sp img [] }
        let s := s.each u.ahead (fun s k => s.copyStep sp k)
        let s := if u.ahead.isEmpty then s else s.setCru sp { s.cru sp with pending := u.aheadPending }
        let s := s.setCru c { s.cru c with swap := none, retired := true, ahead := [], aheadPending := none }
        (s.setReg (aMldCruMap n) (BitVec.ofNat 32 sp)).logEvent 0x0013 0x0005 (leBytes 1 n ++ leBytes 1 c ++ leBytes 1 sp)
      else s)

end Sys2Proof.Machine
end

