-- ==== Sys2Proof/Machine/RunnerOps.lean ====
section
/-! DEFINITION. Runner ports: line symbols, frames, states, routes, losses, sequencing and lane swaps (R228-R254). Link times are
in columns of TB_LINK, 3200 to the microsecond. -/

namespace Sys2Proof.Machine

/-- Code of a port state (R232). -/
def PortSt.code : PortSt → Nat
  | .off => 0
  | .signal => 1
  | .polarity => 2
  | .align => 3
  | .laneOrder => 4
  | .deskew => 5
  | .measure => 6
  | .enabled => 7
  | .stalled => 8
  | .resync => 9
  | .failed => 10

def State.link (s : State) : W64 := s.clock.link
/-- Columns since `t`. -/
def State.cols (s : State) (t : W64) : Nat := (s.link - t).toNat
/-- The port carries frames and blocks, sending at once or after its stall (R251). -/
def Port.carries (x : Port) : Bool := x.st == .enabled || x.st == .stalled || x.st == .resync
/-- Signed difference of sequence numbers (R248). -/
def seqDiff (a b : BitVec 16) : Int := (a - b).toInt
/-- Lesser of two confirmed ticks. -/
def stampMin (a b : Stamp) : Stamp := if sdiff a b ≤ 0 then a else b

/-- Next sequence number to come: the first that has not (R248). -/
def Port.rxNext (x : Port) : BitVec 16 := match x.gaps with | [] => x.rxTop | g :: _ => g.first
/-- A gap holds the confirmed tick (R251): unfilled, or a loss that is not over. -/
def Port.gapHolds (x : Port) : Bool := x.gaps.any (fun g => g.st != .settled)

/-- Columns of body of each frame type (R243). -/
def bodyColumns (ty : Nat) : Option Nat :=
  match ty with
  | 1 => some 2
  | 2 => some 1
  | 3 => some 4
  | 4 => some 1
  | 5 => some 0
  | _ => none
/-- A frame as sent (R243, R246): header bytes 0 to 6, the body, and CRC-32C over both. -/
def frameBytes (ty : Nat) (seq : BitVec 16) (body : List Byte) : List Byte :=
  let h := leBytes 1 ty ++ [0] ++ leBytes 2 seq.toNat ++ leBytes 1 (body.length / 8) ++ [0, 0]
  h ++ body ++ leBytes 4 (crc32c (h ++ body))
/-- Type of a received frame: none where its check fails, its length is not its type's, or it has no known type (R243). -/
def frameKind (f : FrameIn) : Option Nat :=
  let ty := leNat (slice f.hdr 0 1)
  let n := leNat (slice f.hdr 4 1)
  if f.hdr.length = 7 ∧ f.body.length = 8 * n ∧ bodyColumns ty = some n ∧ crc32c (f.hdr ++ f.body) = leNat f.check then some ty else none
/-- Sequence number of a frame's header. -/
def frameSeq (f : FrameIn) : BitVec 16 := BitVec.ofNat 16 (leNat (slice f.hdr 2 2))

/-- The ACK body (R245), written and read. -/
def AckFrame.body (f : AckFrame) : List Byte :=
  leBytes 2 f.ackSeq.toNat ++ leBytes 2 f.txNext.toNat ++ leBytes 5 f.conf.toNat ++ [f.swapReq] ++ leBytes 4 f.laneErr.toNat ++ [0, 0]
def ackOf (b : List Byte) : AckFrame :=
  let n := fun o k => leNat (slice b o k)
  ⟨BitVec.ofNat 16 (n 0 2), BitVec.ofNat 16 (n 2 2), BitVec.ofNat 40 (n 4 5), BitVec.ofNat 8 (n 9 1), BitVec.ofNat 32 (n 10 4)⟩
/-- The TIME body (R261), written and read; bytes 11 to 27 of a request hold 0. -/
def TimeFrame.body (f : TimeFrame) : List Byte :=
  let head := leBytes 1 (if f.reply then 2 else 1) ++ [f.seq, f.depth.setWidth 8]
    ++ leBytes 1 ((if f.unlocked then 1 else 0) + (if f.holdover then 2 else 0)) ++ leBytes 5 f.t1.toNat ++ leBytes 2 f.t1fine.toNat
  let mid := leBytes 5 f.t2.toNat ++ leBytes 2 f.t2fine.toNat ++ leBytes 8 f.t3.toNat ++ leBytes 2 f.t3fine.toNat
  head ++ (if f.reply then mid else List.replicate 17 0) ++ [0, 0, 0, 0]
def timeOf (b : List Byte) : TimeFrame :=
  let n := fun o k => leNat (slice b o k)
  { reply := n 0 1 == 2, seq := BitVec.ofNat 8 (n 1 1), depth := BitVec.ofNat 6 (n 2 1), unlocked := n 3 1 % 2 == 1,
    holdover := n 3 1 / 2 % 2 == 1, t1 := BitVec.ofNat 40 (n 4 5), t1fine := BitVec.ofNat 16 (n 9 2), t2 := BitVec.ofNat 40 (n 11 5),
    t2fine := BitVec.ofNat 16 (n 16 2), t3 := BitVec.ofNat 64 (n 18 8), t3fine := BitVec.ofNat 16 (n 26 2) }

/-- Use tick of an event (R222). -/
def Ev.use (v : Ev) : Stamp := v.stamp + v.useLat.setWidth 40
/-- Port towards a module (R247). -/
def State.route (s : State) (m : Nat) : Option Nat :=
  let w := s.reg0 (aRunRoute m)
  if w.getLsbD 31 then some (fieldOf w 2 0) else none
/-- The port delivers imports (R247). -/
def State.importEn (s : State) (p : Nat) : Bool := s.bit (aRunPortCtrl p) 1
/-- A channel delivers remote events (R222, R289). -/
def State.imports (s : State) (ch : Nat) : Bool := if ch < 240 then s.bit (aSprCh ch) 31 else ch == 240
/-- An engine subscribes to an imported channel (R253). -/
def State.importer (s : State) (e : Nat) : Bool := (s.eng e).subs.any (fun ch => s.imports ch.toNat)

/-- A fast-path block as sent (R244, R246): 19 bytes and CRC-32C over them. -/
def blockBytes (dest src : BitVec 6) (seq : BitVec 16) (v : Ev) : List Byte :=
  let b := [dest.setWidth 8, src.setWidth 8] ++ leBytes 2 seq.toNat ++ [v.ch] ++ leBytes 5 v.stamp.toNat ++ leBytes 2 v.payload.toNat
    ++ leBytes 2 v.useLat.toNat ++ [v.hop.setWidth 8, 0, 0, 0, 0]
  b ++ leBytes 4 (crc32c b)
/-- A sequenced item leaves on a port (R244, R248, R252). -/
def State.sendItem (s : State) (p : Nat) (seq : BitVec 16) (b : TxBody) : State :=
  match b with
  | .block dest src v _ => s.emit (.block p (blockBytes dest src seq v))
  | .loss c src => s.emit (.frame p (frameBytes 4 seq (Config.lossBytes c src)))

/-- The cast role: 0 standalone, 1 root, 2 follower (R260). -/
def State.castRole (s : State) : Nat := s.fld aTimCastCfg 1 0
/-- Port in use as upstream (R266). -/
def State.castPort (s : State) : Nat := if s.cast.onBackup then s.fld aTimCastCfg 14 12 else s.fld aTimCastCfg 10 8
/-- Cast time counts as unlocked (R268). -/
def State.castUnlocked (s : State) : Bool :=
  let c := s.cast
  let follower := s.fld aTimCastCfg 1 0 == 2
  let over' : Bool := match c.holdSince with
    | none => false
    | some t => decide (s.fld aTimCastHold 15 0 * 1000000 < s.since t)
  c.st == .free || c.st == .acquiring || c.st == .slewing || c.st == .adopting
    || (c.st == .holdover && (over' || c.cause == 2)) || !c.refinOk || !c.pllLock || (follower && c.upUnlocked)

/-- Every engine entry of every shot in flight takes a condition at the present tick. -/
def State.condInFlight (s : State) (c : Cond) : State := s.each (List.range 128) (fun s e => s.condAt e c s.now)

/-- A new synchronisation state; where cast time then counts as unlocked, shots in flight take TIME_UNLOCKED (R268). -/
def State.withCast (s : State) (c : CastSync) : State :=
  let s := { s with cast := c }
  if s.castUnlocked then s.condInFlight .timeUnlocked else s

/-- Why cast time counts as unlocked apart from its source (R266): REFIN lost, or a PLL unlocked. -/
def CastSync.baseCause (c : CastSync) : BitVec 4 := if !c.refinOk then 3 else if !c.pllLock then 4 else 0
/-- Enter ACQUIRING (R265); after an accepted realign one further step is permitted (R258). -/
def State.castAcquire (s : State) : State :=
  let c := s.cast
  s.withCast { c with st := .acquiring, acq := [], stepDue := none, mayStep := c.mayStep || c.realign, realign := false,
                      cause := c.baseCause, holdSince := none }
/-- A follower whose upstream port becomes ENABLED acquires, if it is FREE or has been told to realign (R265). -/
def State.castJoin (s : State) (p : Nat) : State :=
  if s.castRole = 2 ∧ s.castPort = p ∧ (s.cast.st = .free ∨ s.cast.realign) then s.castAcquire else s

/-- Declare a loss with its C (R252): counted on its port and logged; a LOSS frame goes to every other ENABLED port; a loss on
an importing port reaches shots (R254) and the capture record (R291). -/
def State.declareLoss (s : State) (on : Option Nat) (C : Stamp) (over' : Bool) : State :=
  let s := match on with | none => s | some p => s.count (aRunPortCnt p) 7 0 1
  let s := s.logEvent 0x0020 0x0001 (leBytes 1 (match on with | none => 255 | some p => p) ++ leBytes 5 C.toNat)
  let s := s.each (List.range 8) (fun s q =>
    let x := s.port q
    if x.st = .enabled ∧ on ≠ some q then s.setPort q { x with queue := x.queue ++ [.loss C Config.moduleId] } else s)
  match on with
  | none => s
  | some p =>
    if s.importEn p then
      let s := { s with losses := s.losses ++ [⟨p, C, over', none⟩] }
      if s.cap.st = .armed ∨ s.cap.st = .triggered then { s with cap := { s.cap with flags := s.cap.flags ||| 0x80 } } else s
    else s

/-- A block that is not sent is a loss with C one tick before its use tick (R252). -/
def State.lossOf (s : State) (on : Option Nat) (v : Ev) : State := s.declareLoss on (v.use - 1) true

/-- Offer a block to a transmitting port (R251): it waits there, unless the port carries nothing or the block is more than
2000 ticks past its use tick. `via` is the port that a forwarded block arrived on, and then the port of its loss (R252). -/
def State.offerBlock (s : State) (p : Nat) (via : Option Nat) (dest src : BitVec 6) (v : Ev) : State :=
  let x := s.port p
  if x.carries ∧ sdiff s.now.stamp v.use ≤ 2000 then s.setPort p { x with queue := x.queue ++ [.block dest src v via] }
  else s.lossOf (some (via.getD p)) v

/-- Send an own event to a module (R222, R247). -/
def State.exportTo (s : State) (m : Nat) (v : Ev) : State :=
  let v := { v with useLat := BitVec.ofNat 16 (s.fld (aSprUlat m) 15 0) }
  match s.route m with
  | none => (s.count aRunFwd 31 16 1).lossOf none v
  | some p => s.offerBlock p none (BitVec.ofNat 6 m) Config.moduleId v

/-- States in which LANE_TRAIN has the port's lanes: stages 3 to 5, and RESYNC (R233, R250, R358). -/
def trains (st : PortSt) : Bool := st == .align || st == .laneOrder || st == .deskew || st == .resync
/-- Enter a port state (R232): every change publishes on channel 247. -/
def State.portState (s : State) (p : Nat) (st : PortSt) : State :=
  let x := s.port p
  let s := s.setPort p { x with st := st, since := s.link }
  let s := if trains st = trains x.st then s
    else if trains st then s.routineAsk 0x07 p
    else if st = .measure ∨ st = .enabled ∨ st = .stalled then s.routineDone 0x07 p else s.routineGone 0x07 p
  if x.st = st then s else s.publishSys 247 s.now (BitVec.ofNat 16 (p + 16 * st.code))

/-- A waiting item is not sent: a block is a loss on the port it arrived on, or the transmitting port (R252). -/
def State.notSent (s : State) (p : Nat) (b : TxBody) : State :=
  match b with
  | .block _ _ v via => s.lossOf (some (via.getD p)) v
  | .loss _ _ => s
/-- A port that goes to OFF or FAILED loses what it held, with a loss at its confirmed tick (R252); blocks still waiting are
losses of their own. -/
def State.portDown (s : State) (p : Nat) (st : PortSt) : State :=
  let x := s.port p
  let s := s.setPort p { x with queue := [], unacked := [], gaps := [], swapReq := none, swapWant := none,
                                fails := if st = .failed then x.fails + 1 else 0 }
  ((s.portState p st).declareLoss (some p) x.conf false).each x.queue (fun s b => s.notSent p b)

/-- The maker's default settings of a lane, as 16 bytes, from the fuses (R242, R372). -/
def State.laneDefault (s : State) (p l : Nat) : List Byte :=
  match fuseRec s.fuseShadow 0x12 (9 * p + l) with
  | none => (Config.laneUnset (9 * p + l)).take 16
  | some d =>
    let h1 : BitVec 6 := BitVec.ofNat 6 (fieldOf d 21 16)
    leBytes 1 (fieldOf d 3 0) ++ leBytes 1 (fieldOf d 8 4) ++ leBytes 1 (fieldOf d 12 9) ++ leBytes 1 (fieldOf d 15 13)
      ++ [h1.signExtend 8] ++ List.replicate 11 0
/-- The NV record of a port's equalisation holds (R241, R242). -/
def eqHolds (r : List Byte) : Bool := decide (r.length = 256) && crc32c (r.take 252) == leNat (slice r 252 4)
/-- Load the lanes' settings on entry to SIGNAL or RESYNC (R242): the NV record of class 0x0304, or the default where it is missing or
fails its check. -/
def State.loadEq (s : State) (p : Nat) : State :=
  let r := Tbl.get s.nv.recs (0x0304 * 65536 + p) []
  let ok := eqHolds r
  let eq := if ok then slice r 16 144 else (List.range 9).flatMap (fun l => s.laneDefault p l)
  let s := s.setPort p { s.port p with eq := eq }
  (s.setBit (aRunPortStat p) 20 !ok).setReg (aRunPortEqgen p) (if ok then BitVec.ofNat 32 (leNat (slice r 12 4)) else 0)

/-- The raw polarity pattern (R234). -/
def rawPattern : BitVec 8 := 0xE8
/-- Whether a lane that shows these eight bits is inverted: none where they fit neither the pattern nor its inverse (R234). -/
def laneInverted (b : BitVec 8) : Option Bool :=
  let turns := fun (w : BitVec 8) => (List.range 8).any (fun n => w.rotateLeft n == b)
  if turns rawPattern then some false else if turns (~~~rawPattern) then some true else none
/-- The logical lane that the port's receiver wants on L8 (R235); 0xFF for none. -/
def State.laneWish (s : State) (p : Nat) : Byte :=
  if s.bit (aRunPortStat p) 15 then BitVec.ofNat 8 (s.fld (aRunPortStat p) 18 16) else 0xFF
/-- The training sequence of a physical lane (R235): K28.5, the lane, the module, port and stage, the request, D21.5. -/
def State.trainingSeq (s : State) (p stage l : Nat) : List Byte :=
  [0xBC, BitVec.ofNat 8 (0xA0 + l), Config.moduleId.setWidth 8, BitVec.ofNat 8 (p + 16 * stage), s.laneWish p] ++ List.replicate 11 0xB5
/-- Training sequences leave on all lanes (R233). -/
def State.sendTraining (s : State) (p stage : Nat) : State := s.emit (.training p ((List.range 9).map (s.trainingSeq p stage)))
/-- A filler sequence (R230): K28.5, the lane carried, and four columns of K28.0, on L0 to L8. -/
def State.fillerSeq (s : State) (p : Nat) : List (List Byte) :=
  let a := aRunPortStat p
  let spare := if s.bit a 11 then s.fld a 14 12 else 8
  [List.replicate 9 0xBC, (List.range 8 ++ [spare]).map (fun k => BitVec.ofNat 8 (0xA0 + k))] ++ List.replicate 4 (List.replicate 9 0x1C)
/-- A filler sequence starts (R230). -/
def State.sendFiller (s : State) (p : Nat) : State :=
  (s.setPort p { s.port p with lastFiller := s.link }).emit (.filler p (s.fillerSeq p))

/-- Begin a bring-up at SIGNAL (R233): lanes and sequence numbers start afresh, and the raw pattern follows the idle. -/
def State.bringUp (s : State) (p : Nat) : State :=
  let x := s.port p
  let s := s.setPort p { Port.init with fails := x.fails, conf := x.conf, since := s.link, st := x.st, hour := x.hour }
  let s := s.each (List.range 9) (fun s l => s.setReg (aRunLaneStat p l) 0xF00)
  let s := s.setFld (aRunPortStat p) 18 11 0
  ((s.loadEq p).portState p .signal).emit (.rawPattern p rawPattern)

/-- Losses on a port that are over once it is ENABLED again (R251, R254). -/
def State.lossesOver (s : State) (p : Nat) : State :=
  { s with losses := s.losses.map (fun l => if l.port = p then { l with done := true } else l) }
/-- Enter ENABLED (R240, R251): losses on the port are over, and a follower may acquire (R265). -/
def State.enterEnabled (s : State) (p : Nat) : State :=
  let x := s.port p
  let y := { x with fails := 0, resentAfterResync := false, wasUp := true, measAt := if x.wasUp then x.measAt else s.link,
                    gaps := x.gaps.map (fun g => if g.st = .lost then { g with st := .settled } else g) }
  (((s.setPort p y).portState p .enabled).lossesOver p).castJoin p

/-- Enter RESYNC at stage 3 (R236, R242, R250): the search begins afresh on every lane that is not excluded. -/
def State.enterResync (s : State) (p : Nat) : State :=
  let s := s.setPort p { s.port p with resyncStage := 3, search := [], swapWant := none, swapReq := none, fill := 16 }
  let s := s.each (List.range 9) (fun s l => s.setBit (aRunLaneStat p l) 2 false)
  (((s.count (aRunPortCnt p) 15 8 1).loadEq p).portState p .resync).sendTraining p 3
/-- Enter STALLED (R250). -/
def State.enterStalled (s : State) (p : Nat) : State := (s.count (aRunPortCnt p) 31 24 1).portState p .stalled

/-- Send every unacknowledged item again, in sequence order (R250). -/
def State.resendAll (s : State) (p : Nat) : State :=
  let x := s.port p
  let s := s.each x.unacked (fun s i => s.sendItem p i.seq i.body)
  s.setPort p { x with unacked := x.unacked.map (fun i => { i with sent := s.link, resends := i.resends + 1 }) }

/-- Logical lane of physical lane `l` (RUN_LANE_STAT.logical). -/
def State.laneLogical (s : State) (p l : Nat) : Nat := s.fld (aRunLaneStat p l) 11 8
/-- L8 can take a lane of the receive direction: in step and unused, not faulty, and not asked for already (R228, R249). -/
def State.rxSpareFree (s : State) (p : Nat) : Bool :=
  !s.bit (aRunPortStat p) 15 && !s.bit (aRunLaneStat p 8) 3 && s.laneLogical p 8 == 8 && (s.port p).swapWant.isNone
/-- A swap is made: counted, shown and logged (R249). -/
def State.noteSwap (s : State) (p : Nat) (tx : Bool) (k : Nat) : State :=
  let s := (s.setBit (aRunPortStat p) 21 true).count (aRunPortCnt p) 23 16 1
  let s := s.setPort p { s.port p with swapAt := some s.link }
  let s := if tx then (s.setBit (aRunPortStat p) 11 true).setFld (aRunPortStat p) 14 12 k
    else (s.setBit (aRunPortStat p) 15 true).setFld (aRunPortStat p) 18 16 k
  s.logEvent 0x0020 0x0002 (leBytes 1 p ++ leBytes 1 (if tx then 1 else 0) ++ leBytes 1 k)
/-- Physical lanes that carry a logical lane. -/
def State.carriersOf (s : State) (p k : Nat) : List Nat := (List.range 9).filter (fun l => s.laneLogical p l == k)
/-- A received logical lane is declared faulty (R249): its swap is asked for in the next ACK, or the port fails. -/
def State.rxLaneFault (s : State) (p k : Nat) : State :=
  let s := s.each (s.carriersOf p k) (fun s l => s.setBit (aRunLaneStat p l) 3 true)
  if k > 7 ∨ (s.port p).swapWant = some k then s
  else if s.rxSpareFree p then s.setPort p { s.port p with swapReq := some (BitVec.ofNat 3 k), swapWant := some k }
  else s.portDown p .failed
/-- L8 shows a lane's ID in column 1 of a filler sequence (R249): the receiver takes the lane from L8, which ends its swap. -/
def State.seeL8 (s : State) (p : Nat) (id : Byte) : State :=
  let k := id.toNat - 0xA0
  if 0xA0 ≤ id.toNat ∧ k < 8 ∧ s.laneLogical p 8 = 8 then
    let s := s.each (s.carriersOf p k) (fun s l => s.setFld (aRunLaneStat p l) 11 8 0xF)
    let s := s.setFld (aRunLaneStat p 8) 11 8 k
    (s.setPort p { s.port p with swapWant := none, swapReq := none }).noteSwap p false k
  else s

/-- The far end will use numbers up to `q`: what has not come below it is a gap (R248). -/
def Port.learnTop (x : Port) (q : BitVec 16) (now : W64) : Port :=
  if seqDiff q x.rxTop > 0 then { x with gaps := x.gaps ++ [⟨x.rxTop, q, now, .unfilled⟩], rxTop := q } else x
/-- A number taken out of the gaps; none where no gap holds it. -/
def fillGap (q : BitVec 16) (l : List Gap) : Option (List Gap) :=
  match l with
  | [] => none
  | g :: r =>
    if 0 ≤ seqDiff q g.first ∧ seqDiff q g.past < 0 then
      let below := if q = g.first then [] else [{ g with past := q }]
      let above := if q + 1 = g.past then [] else [{ g with first := q + 1 }]
      some (below ++ above ++ r)
    else (fillGap q r).map (fun t => g :: t)
/-- A received sequence number (R248): answers whether it is new. The last number of a lost gap ends its loss (R251). -/
def State.takeSeq (s : State) (p : Nat) (q : BitVec 16) : State × Bool :=
  let x := s.port p
  if 0 ≤ seqDiff q x.rxTop then (s.setPort p { x.learnTop q s.link with rxTop := q + 1 }, true)
  else
    match fillGap q x.gaps with
    | none => (s.count (aRunPortRxcnt p) 15 0 1, false)
    | some l =>
      let lost := fun (l : List Gap) => l.any (fun g => g.st == .lost)
      let s := s.setPort p { x with gaps := l }
      (if lost x.gaps ∧ !lost l then s.lossesOver p else s, true)

/-- Errors met within so many columns, counted. -/
def errTotal (now : W64) (span : Nat) (l : List LaneErrs) : Nat :=
  (l.filter (fun e => decide ((now - e.t).toNat ≤ span))).foldl (fun a e => a + e.n) 0
/-- Code errors of the last 4 µs on a logical lane, of both ends (R250). -/
def Port.errSum (x : Port) (now : W64) (k : Nat) : Nat := errTotal now 12800 ((x.errs ++ x.farErrs).filter (fun e => e.logical == k))
/-- The logical lane with the most code errors, the lowest on a tie; none where every count is 0. -/
def Port.worstLane (x : Port) (now : W64) : Option Nat :=
  (List.range 8).foldl (fun m k =>
    let n := x.errSum now k
    if n = 0 then m
    else match m with
      | none => some k
      | some j => if x.errSum now j < n then some k else some j) none

/-- Code errors on physical lanes (R229): counted, and kept as long as R245, R250 and R411 look at them. -/
def State.noteErrs (s : State) (p : Nat) (l : List (Nat × Nat × Nat)) : State :=
  s.each l (fun s e =>
    let s := (s.count (aRunLaneErr p e.1) 31 16 e.2.1).count (aRunLaneErr p e.1) 15 0 e.2.2
    let x := s.port p
    let old := x.errs.filter (fun d => decide ((s.link - d.t).toNat ≤ max 12800 (s.link - x.lastAck).toNat))
    s.setPort p { x with errs := ⟨s.link, e.1, s.laneLogical p e.1, e.2.1 + e.2.2⟩ :: old
                         hour := (s.mono, e.1, e.2.1 + e.2.2) :: x.hour.filter (fun d => decide (s.since d.1 ≤ 3600000000000)) })
/-- Code errors of the last hour on a physical lane (R411). -/
def State.hourErrs (s : State) (p l : Nat) : Nat :=
  ((s.port p).hour.filter (fun d => d.2.1 == l && decide (s.since d.1 ≤ 3600000000000))).foldl (fun a d => a + d.2.2) 0
/-- A lane with more than 1 code error per 10^11 symbols over 1 h, that is more than 115 at 3.2 GBd, is worn (R411): the logical lane that
it carries is asked to L8 with no stall; with L8 not free an alert is raised and logged, and the lane stays. Its count starts again. -/
def State.judgeHour (s : State) (p : Nat) : State :=
  s.each (List.range 8) (fun s k =>
    let worn := (s.carriersOf p k).filter (fun l => decide (115 < s.hourErrs p l))
    if !(s.port p).carries || worn.isEmpty || (s.port p).swapWant == some k then s
    else
      let s := s.setPort p { s.port p with hour := (s.port p).hour.filter (fun d => !worn.contains d.2.1) }
      if s.rxSpareFree p then s.setPort p { s.port p with swapReq := some (BitVec.ofNat 3 k), swapWant := some k }
      else (s.alert 5).logEvent 0x0010 0x17 (leBytes 1 p ++ leBytes 1 k))
/-- 8 or more code errors within 1 µs on the lane that carries a logical lane declare it faulty (R249). -/
def State.judgeErrs (s : State) (p : Nat) : State :=
  s.each (List.range 8) (fun s k =>
    let x := s.port p
    let bad := (s.carriersOf p k).any (fun l =>
      !s.bit (aRunLaneStat p l) 3 && decide (8 ≤ errTotal s.link 3200 (x.errs.filter (fun e => e.phys == l && e.logical == k))))
    if x.carries && bad then s.rxLaneFault p k else s)
/-- What a port's receiver has met since the last arrival takes effect (R229, R249, R411). -/
def State.seeLine (s : State) (p : Nat) (o : LineObs) : State :=
  let s := ((s.noteErrs p (o.errs.map (fun e => (e.1.val, e.2.1, e.2.2)))).judgeErrs p).judgeHour p
  match o.l8 with
  | none => s
  | some id => if (s.port p).carries then s.seeL8 p id else s
/-- Frames and blocks are received (R232, R233). -/
def Port.hears (x : Port) : Bool := x.carries || x.st == .measure
/-- A frame arrives (R243): one of the type `ty` acts; one that fails its check, or has no known type, is discarded and counted. A
well-formed command carries no frame of another known type. -/
def State.takeFrame (s : State) (p ty : Nat) (f : FrameIn) (act : State → State) : State :=
  if (s.port p).hears then
    let s := s.seeLine p f.line
    if !(s.port p).hears then s
    else if frameKind f = some ty then act s
    else s.count (aRunPortRxcnt p) 31 16 1
  else s

/-- A port's internal latency in 0.1 ps: its fuse record, else as built (R238, R372). -/
def State.portLatency (s : State) (p : Nat) : Int :=
  match fuseRec s.fuseShadow 0x13 p with
  | some d => d.toInt
  | none => Config.portLatency p
/-- A MEAS request leaves (R238), carrying the port's internal latency. -/
def State.sendMeas (s : State) (p : Nat) : State :=
  (s.setPort p { s.port p with measBusy := true }).emit (.frame p (frameBytes 2 0 (Config.measBytes false 0 ((s.portLatency p)))))
/-- A set of 4096 round trips begins (R238). -/
def State.startMeas (s : State) (p : Nat) : State :=
  (s.setPort p { s.port p with measN := 0, measMax := 0, measAt := s.link }).sendMeas p
/-- A new D (R238, R239): shown; more than 5 ns from the accepted delay sets delay_changed, is logged and alerts. -/
def State.noteDelay (s : State) (p d : Nat) : State :=
  let s := (s.setFld (aRunPortMeas p) 23 0 d).setBit (aRunPortMeas p) 31 true
  let acc := s.fld (aRunPortDacc p) 23 0
  if acc ≠ 0 ∧ ((d : Int) - acc).natAbs > 5000 then
    ((s.setBit (aRunPortStat p) 22 true).alert 7).logEvent 0x0020 0x0004 (leBytes 1 p ++ leBytes 4 d)
  else s

/-- The confirmed tick that an ACK promises (R251). -/
def State.promise (s : State) : Stamp :=
  (List.range 8).foldl (fun c p =>
    let x := s.port p
    if x.st = .enabled ∧ (s.importEn p ∨ x.forwards) then stampMin c x.conf else c) (s.now - 2000).stamp

/-- LINK_LOST reaches the importers of a shot (R254). -/
def State.linkLost (s : State) (r : Run) (h : Shot) : State :=
  s.each s.losses (fun s l =>
    let endsAfter : Bool := match h.endTick with | none => true | some x => decide (sdiff x.stamp l.c > 0)
    let startsBy : Bool := match l.upTo with | none => true | some u => decide (sdiff h.start.stamp u ≤ 0)
    if endsAfter && startsBy then
      let c := Tick.ofStamp h.start l.c
      let tick := if (c - h.start).toInt < 0 then h.start else c
      s.each ((r.engs).filter s.importer) (fun s e => s.condIn (r.id, h.index, h.start) e .linkLost tick)
    else s)

end Sys2Proof.Machine
end

