-- ==== Sys2Proof/Machine/Runner.lean ====
section
/-! DEFINITION. Runner link events: bring-up, alignment, blocks, acknowledgements, losses and delay measurement
(R227-R254). Capture blocks are in Capture.lean's operations. -/

namespace Sys2Proof.Machine

/-- A RUN_PORT_CTRL write (R240): enable brings an OFF port up or puts a port in OFF; retrain resyncs an ENABLED one. -/
def State.runCtrlEffect (s : State) (p : Nat) (v : W32) : State :=
  let x := s.port p
  if v.getLsbD 0 then
    if x.st = .off then s.bringUp p
    else if v.getLsbD 3 ∧ x.st = .enabled then s.enterResync p
    else s
  else if x.st = .off then s
  else (s.portDown p .off)

/-- A search for the symbol boundary is under way: in ALIGN, or in stage 3 of a RESYNC (R233, R236, R250). -/
def Port.searching (x : Port) : Bool := x.st == .align || (x.st == .resync && x.resyncStage == 3)

/-- A bit-slip (R236): acted on only in ALIGN with manual_align = 1; where the new boundary stands is what the line shows. -/
def State.laneSlipEffect (s : State) (p l : Nat) (aligned : Bool) : State :=
  if (s.port p).searching ∧ s.bit (aRunPortCtrl p) 2 then
    let n := s.fld (aRunLaneStat p l) 15 12
    (s.setFld (aRunLaneStat p l) 15 12 (min (n + 1) 15)).setBit (aRunLaneStat p l) 2 aligned
  else s

/-- Lanes set in a mask of the nine. -/
def lanes9 (m : BitVec 9) : List Nat := (List.range 9).filter (fun l => m.getLsbD l)
/-- The mask of some lanes. -/
def maskOf (f : Nat → Bool) : BitVec 9 := (List.range 9).foldl (fun m l => if f l then m ||| (1#9 <<< l) else m) 0
/-- L8 takes a logical lane that no lane carries, if it stands unused (R228, R233). -/
def State.fillMissing (s : State) (p : Nat) : State :=
  match (List.range 8).find? (fun k => (s.carriersOf p k).isEmpty), s.carriersOf p 8 with
  | some k, l :: _ => ((s.setFld (aRunLaneStat p l) 11 8 k).setBit (aRunPortStat p) 15 true).setFld (aRunPortStat p) 18 16 k
  | _, _ => s
/-- A stage in which only the lanes of `ok` pass (R233): a lane that fails is excluded, for every later stage too, and L8 takes its
logical lane; with fewer than 8 lanes the port goes to FAILED. -/
def State.stageWith (s : State) (p : Nat) (ok : BitVec 9) (next : State → State) : State :=
  let x := s.port p
  let out := x.out ||| ~~~ok
  if 2 ≤ (lanes9 out).length then s.portDown p .failed
  else
    let s := (s.setPort p { x with out := out }).each (lanes9 out) (fun s l => s.setFld (aRunLaneStat p l) 11 8 0xF)
    next s

/-- AUTO_SLIP_STEP (R236): aligned, or one more slip, or the lane fails after 9; a lane that has failed is searched no more. -/
def execAutoSlipStep (p : Fin 8) (l : Fin 9) (comma : Bool) (s : State) : Out :=
  .next (
    let x := s.port p
    let a := aRunLaneStat p l
    let n := Tbl.get x.search l 0
    if x.searching ∧ !s.bit (aRunPortCtrl p) 2 ∧ !s.bit a 2 ∧ !x.out.getLsbD l then
      if comma then s.setBit a 2 true
      else if n ≥ 9 then s.stageWith p (~~~(1#9 <<< l.val)) (fun s => s)
      else (s.setPort p { x with search := Tbl.put x.search l (n + 1) 0 }).setFld a 15 12 (min (s.fld a 15 12 + 1) 15)
    else s)

/-- Lane number that a training sequence shows in symbol 1; above 8 where it is none (R235, R237). -/
def trainId (o : StageObs) (l : Nat) : Nat :=
  let b := ((o.train.getD l []).getD 1 0).toNat
  if 0xA0 ≤ b then b - 0xA0 else 255
/-- Lanes that show an ID of their own, 0 to 8 (R237). -/
def ownIds (m : BitVec 9) (o : StageObs) : List Nat :=
  let ids := (lanes9 m).map (trainId o)
  (lanes9 m).filter (fun l => decide (trainId o l ≤ 8) && decide (ids.count (trainId o l) = 1))
/-- Every logical lane is found, L8 standing in for one that is missing (R233). -/
def orderFound (l : List Nat) (o : StageObs) : Bool :=
  let ids := l.map (trainId o)
  let missing := (List.range 8).filter (fun k => !ids.contains k)
  decide (missing.length = 0) || (decide (missing.length = 1) && ids.contains 8)

/-- What the far end's training sequences say (R235, R237): its module and port, and the lane that it asks to have on L8. -/
def State.readTraining (s : State) (p : Nat) (m : BitVec 9) (o : StageObs) : State :=
  let t := match lanes9 m with | [] => [] | l :: _ => o.train.getD l []
  let a := aRunPortStat p
  let wish := (t.getD 4 0xFF).toNat
  let s := (s.setFld a 31 26 ((t.getD 2 0).toNat % 64)).setFld a 25 23 ((t.getD 3 0).toNat % 8)
  if wish < 8 then (s.setBit a 11 true).setFld a 14 12 wish else s.setBit a 11 false
/-- LANE_ORDER is passed (R228, R237): logical k arrives on the lane with ID k, L8 takes a missing one, and no lane is faulty. -/
def State.setLaneMap (s : State) (p : Nat) (good : List Nat) (o : StageObs) : State :=
  let s := s.each good (fun s l => (s.setFld (aRunLaneStat p l) 11 8 (trainId o l)).setBit (aRunLaneStat p l) 3 false)
  let rev := (List.range 8).all (fun l => trainId o l == 7 - l)
  ((s.setBit (aRunPortStat p) 19 rev).setBit (aRunPortStat p) 15 false).fillMissing p

/-- After RESYNC (R250): what is unacknowledged is sent once more, and the port returns when it is covered; a bring-up goes on. -/
def State.afterResync (s : State) (p : Nat) : State :=
  let x := s.port p
  if !x.wasUp then (s.portState p .measure).startMeas p
  else if x.unacked.isEmpty then s.enterEnabled p
  else
    let s := s.resendAll p
    (s.setPort p { s.port p with resentAfterResync := true }).enterStalled p

/-- Lanes aligned and not excluded (R236). -/
def State.alignedLanes (s : State) (p : Nat) : BitVec 9 := maskOf (fun l => s.bit (aRunLaneStat p l) 2 && !(s.port p).out.getLsbD l)
/-- Stage 3 passes once at least 8 lanes are aligned; until then the search goes on (R233, R236). -/
def State.passAlign (s : State) (p : Nat) (next : State → State) : State :=
  let m := s.alignedLanes p
  if 8 ≤ (lanes9 m).length then s.stageWith p m next else s
/-- Stage 4 (R233, R235, R237). -/
def State.passOrder (s : State) (p : Nat) (o : StageObs) (next : State → State) : State :=
  let m := ~~~(s.port p).out
  let good := ownIds m o
  if orderFound good o then
    s.stageWith p (maskOf (fun l => good.contains l)) (fun s => next ((s.setLaneMap p good o).readTraining p m o))
  else s.portDown p .failed
/-- Stage 5 (R233): lanes with no more than 32 columns of skew pass, and L8 takes the lane of one that fails. -/
def State.passDeskew (s : State) (p : Nat) (o : StageObs) (next : State → State) : State :=
  s.stageWith p (maskOf (fun l => decide (o.skew.getD l 33 ≤ 32))) (fun s =>
    let m := ~~~(s.port p).out
    let s := s.each (lanes9 m) (fun s l => s.setFld (aRunLaneStat p l) 21 16 (min (o.skew.getD l 0) 63))
    next ((s.fillMissing p).readTraining p m o))

/-- BRINGUP_STAGE_PASS (R233-R240): at least 8 of 9 lanes pass and the next stage begins; fewer put the port in FAILED. -/
def execBringupStagePass (p : Fin 8) (obs : StageObs) (s : State) : Out :=
  .next (
    let x := s.port p
    let mark := fun (s : State) (bit : Nat) (f : Nat → Bool) => s.each (List.range 9) (fun s l => s.setBit (aRunLaneStat p l) bit (f l))
    let turn := fun (l : Nat) => laneInverted (obs.bits.getD l 0)
    match x.st with
    | .signal => s.stageWith p obs.signal (fun s => (mark s 0 (fun l => obs.signal.getLsbD l)).portState p .polarity)
    | .polarity =>
      s.stageWith p (maskOf (fun l => (turn l).isSome))
        (fun s => ((mark s 1 (fun l => turn l == some true)).portState p .align).sendTraining p 3)
    | .align => s.passAlign p (fun s => (s.portState p .laneOrder).sendTraining p 4)
    | .laneOrder => s.passOrder p obs (fun s => (s.portState p .deskew).sendTraining p 5)
    | .deskew => s.passDeskew p obs (fun s => (s.portState p .measure).startMeas p)
    | .measure =>
      if x.measN < 4096 ∨ x.sentEnable then s
      else
        let s := (s.setPort p { x with measN := 0, measMax := 0, sentEnable := true }).noteDelay p x.measMax.toNat
        let s := s.emit (.frame p (frameBytes 5 0 []))
        if x.gotEnable then s.enterEnabled p else s
    | .resync =>
      if x.resyncStage = 3 then s.passAlign p (fun s => (s.setPort p { s.port p with resyncStage := 4 }).sendTraining p 4)
      else if x.resyncStage = 4 then s.passOrder p obs (fun s => (s.setPort p { s.port p with resyncStage := 5 }).sendTraining p 5)
      else s.passDeskew p obs (fun s => s.afterResync p)
    | _ => s)

/-- Timeout of a stage in columns (R233, R250); none in manual alignment. -/
def State.stageLimit (s : State) (p : Nat) : Option Nat :=
  let x := s.port p
  match x.st with
  | .signal => some 3200000
  | .polarity => some 32000
  | .align => if s.bit (aRunPortCtrl p) 2 then none else some 320000
  | .laneOrder => some 32000
  | .deskew => some 32000
  | .measure => some 32000000
  | .resync => if x.resyncStage = 3 ∧ s.bit (aRunPortCtrl p) 2 then none else some 96000
  | _ => none

/-- BRINGUP_STAGE_TIMEOUT (R233): the port goes to FAILED. -/
def execBringupStageTimeout (p : Fin 8) (s : State) : Out :=
  .next (
    match s.stageLimit p with
    | none => s
    | some n => if s.cols (s.port p).since ≥ n then s.portDown p .failed else s)

/-- BRINGUP_RESTART (R240): 1 ms after a failure, 10 ms after a second in a row, 1 s after every later one. -/
def execBringupRestart (p : Fin 8) (s : State) : Out :=
  .next (
    let x := s.port p
    let wait := if x.fails ≤ 1 then 3200000 else if x.fails = 2 then 32000000 else 3200000000
    if x.st = .failed ∧ s.bit (aRunPortCtrl p) 0 ∧ s.cols x.since ≥ wait then s.bringUp p else s)

/-- ENABLE_FRAME_RECEIVE (R240): ENABLED once the port has sent its own frame and received the far end's. -/
def execEnableFrameReceive (r : PortFrame) (s : State) : Out :=
  .next (s.takeFrame r.port 5 r.frame (fun s =>
    let x := s.port r.port
    let s := s.setPort r.port { x with gotEnable := true }
    if x.st = .measure ∧ x.sentEnable then s.enterEnabled r.port else s))

/-- The item to be sent next, and the rest: blocks go ahead of waiting frames (R244). -/
def nextItem (l : List TxBody) : Option (TxBody × List TxBody) :=
  let isBlock := fun (b : TxBody) => match b with | .block _ _ _ _ => true | .loss _ _ => false
  match l.find? isBlock with
  | some b => some (b, l.eraseP isBlock)
  | none => match l with
    | [] => none
    | b :: r => some (b, r)
/-- A waiting block is more than 2000 ticks past its use tick (R251). -/
def State.tooLate (s : State) (b : TxBody) : Bool :=
  match b with
  | .block _ _ v _ => decide (sdiff s.now.stamp v.use > 2000)
  | .loss _ _ => false

/-- BLOCK_TRANSMIT (R244, R248, R251): with fewer than 8192 items unacknowledged the next waiting item is sent; a block now past
its use tick by more than 2000 ticks is a loss instead. -/
def execBlockTransmit (p : Fin 8) (s : State) : Out :=
  .next (
    let x := s.port p
    match nextItem x.queue with
    | none => s
    | some (b, r) =>
      if x.st = .enabled ∧ x.unacked.length < 8192 then
        if s.tooLate b then (s.setPort p { x with queue := r }).notSent p b
        else
          let i : TxItem := ⟨x.txSeq, b, s.link, s.link, 0⟩
          (s.setPort p { x with queue := r, unacked := x.unacked ++ [i], txSeq := x.txSeq + 1 }).sendItem p x.txSeq b
      else s)

/-- Own code errors since the last ACK, four bits a logical lane (R245). -/
def Port.laneErr (x : Port) (now : W64) : W32 :=
  let since := (now - x.lastAck).toNat
  BitVec.ofNat 32 ((List.range 8).foldl (fun a k =>
    let l := x.errs.filter (fun e => e.logical == k && decide ((now - e.t).toNat < since))
    a + min (errTotal now since l) 15 * 2 ^ (4 * k)) 0)
/-- The ACK that a port sends now (R245, R249, R251). -/
def State.ackNow (s : State) (p : Nat) : AckFrame :=
  let x := s.port p
  ⟨x.rxNext - 1, x.txSeq, s.promise, match x.swapReq with | none => 0xFF | some k => k.setWidth 8, x.laneErr s.link⟩

/-- RUNNER_ACK_SEND (R245, R249, R251). -/
def execRunnerAckSend (p : Fin 8) (s : State) : Out :=
  .next (
    let x := s.port p
    if x.carries then
      (s.setPort p { x with lastAck := s.link, swapReq := none }).emit (.frame p (frameBytes 1 0 (s.ackNow p).body))
    else s)

/-- The confirmed tick moves with an ACK that leaves no gap before it, and is held at C while a gap loss lasts (R251); it ends
the reach of losses that are over (R254). -/
def State.confirm (s : State) (p : Nat) (c : Stamp) : State :=
  let s := s.setPort p { s.port p with conf := c }
  { s with losses := s.losses.map (fun l => if l.port = p ∧ l.done ∧ l.upTo.isNone then { l with upTo := some c } else l) }

/-- The far end asks for a transmit lane to move to L8 (R249): a filler sequence starts at once and the lane is carried there from it
on; with L8 in use for another lane the port fails. -/
def State.moveTxLane (s : State) (p k : Nat) : State :=
  let a := aRunPortStat p
  if s.bit a 11 then (if s.fld a 14 12 = k then s else s.portDown p .failed) else (s.noteSwap p true k).sendFiller p
/-- Code errors of the far end's receive direction, as an ACK reports them (R245, R250). -/
def State.farErrors (s : State) (p : Nat) (w : W32) : State :=
  let x := s.port p
  let new := (List.range 8).filterMap (fun k =>
    let n := fieldOf w (4 * k + 3) (4 * k)
    if n = 0 then none else some ⟨s.link, k, k, n⟩)
  s.setPort p { x with farErrs := new ++ x.farErrs.filter (fun e => decide ((s.link - e.t).toNat ≤ 12800)) }

/-- RUNNER_ACK_RECEIVE (R245, R248-R251): items acknowledged, a gap known, the confirmed tick, far lane errors, a swap of a
transmit lane. -/
def execRunnerAckReceive (p : Fin 8) (f : FrameIn) (s : State) : Out :=
  .next (s.takeFrame p 1 f (fun s =>
    let a := ackOf f.body
    let x := s.port p
    if !x.carries then s
    else
      let y := { x with unacked := x.unacked.filter (fun i => decide (seqDiff i.seq a.ackSeq > 0)) }.learnTop a.txNext s.link
      let s := (s.setPort p y).farErrors p a.laneErr
      let s := if y.gapHolds then s else s.confirm p a.conf
      let s := if x.st = .stalled ∧ y.unacked.isEmpty then s.enterEnabled p else s
      if a.swapReq.toNat < 8 then s.moveTxLane p a.swapReq.toNat else s))

/-- ACK_OVERDUE (R250): 2 µs without an ACK that covers an item: STALLED, a lane swap or RESYNC, and a resend; RESYNC when
still overdue after it; FAILED when overdue after the resend that followed RESYNC. -/
def execAckOverdue (p : Fin 8) (s : State) : Out :=
  .next (
    let x := s.port p
    match x.unacked with
    | [] => s
    | i :: _ =>
      if x.unacked.any (fun j => decide (s.cols j.sent ≥ 6400)) then
        match x.st with
        | .enabled =>
          let s := s.enterStalled p
          let swapped := match x.swapAt with | none => false | some t => decide ((t - i.first).toInt ≥ 0)
          if swapped then s.resendAll p
          else match x.worstLane s.link with
            | none => s.enterResync p
            | some k =>
              if s.bit (aRunPortStat p) 11 then s.portDown p .failed else ((s.noteSwap p true k).sendFiller p).resendAll p
        | .stalled => if x.resentAfterResync then s.portDown p .failed else s.enterResync p
        | _ => s
      else s)

/-- GAP_TIMEOUT (R251, R252): a gap unfilled for 10 µs is a loss; the confirmed tick is held until it is filled. -/
def execGapTimeout (p : Fin 8) (s : State) : Out :=
  .next (
    let x := s.port p
    let due := fun (g : Gap) => g.st == .unfilled && decide (s.cols g.known ≥ 32000)
    match x.gaps.find? due with
    | none => s
    | some g =>
      if x.carries then
        let mark := fun (h : Gap) => if h.known = g.known ∧ h.st = .unfilled then { h with st := .lost } else h
        (s.setPort p { x with gaps := x.gaps.map mark }).declareLoss (some p) x.conf false
      else s)

/-- LOSS_FRAME_RECEIVE (R252): a sequenced item; the loss has C, the lesser of the frame's tick and the port's. -/
def execLossFrameReceive (p : Fin 8) (hdr body check : List Byte) (s : State) : Out :=
  let f : FrameIn := ⟨hdr, body, check, ⟨none, []⟩⟩
  .next (s.takeFrame p 4 f (fun s =>
    let x := s.port p
    let l := Config.lossOf body
    let r := s.takeSeq p (frameSeq f)
    if r.2 then (r.1.declareLoss (some p) (stampMin l.1 x.conf) true).logEvent 0x0020 0x0003 (leBytes 1 l.2.toNat) else r.1))

/-- The elastic buffers run (R231): once the lanes stand in order. -/
def Port.buffers (x : Port) : Bool := x.hears || x.st == .laneOrder || x.st == .deskew
/-- ELASTIC_BUFFER_FAULT (R231): a buffer has reached 0 or 32: a code error on every lane, and RESYNC. -/
def execElasticBufferFault (p : Fin 8) (s : State) : Out :=
  .next (
    let x := s.port p
    if x.buffers ∧ (x.fill = 0 ∨ 32 ≤ x.fill) then (s.noteErrs p ((List.range 9).map (fun l => (l, 1, 0)))).enterResync p else s)

/-- LANE_SIGNAL_LOST (R233, R249): the far end's electrical idle restarts the bring-up; otherwise the lane is faulty and its
swap is asked for, or, in a bring-up, it has failed its stage. -/
def execLaneSignalLost (p : Fin 8) (l : Fin 9) (idle : Bool) (s : State) : Out :=
  .next (
    let x := s.port p
    if x.st = .off ∨ x.st = .failed then s
    else
      let s := (s.setBit (aRunLaneStat p l) 0 false).setBit (aRunLaneStat p l) 2 false
      if idle then
        if x.carries then (s.portDown p .failed).bringUp p else s.bringUp p
      else if x.carries then (s.setBit (aRunLaneStat p l) 3 true).rxLaneFault p (s.laneLogical p l)
      else s.stageWith p (~~~(1#9 <<< l.val)) (fun s => s.fillMissing p))

/-- A MEAS request is echoed with the port's turnaround and A (R238). -/
def State.echoMeas (s : State) (p : Nat) (far : Int) : State :=
  let own := s.portLatency p
  s.emit (.frame p (frameBytes 2 0 (Config.measBytes true (Config.turnaround p) (if Config.ownLess then own - far else far - own))))
/-- MEAS_FRAME_RECEIVE (R238): a request is echoed; the echo of the port's own request gives a sample of D, and another request
follows until the set of 4096 is complete. -/
def execMeasFrameReceive (p : Fin 8) (f : MeasIn) (s : State) : Out :=
  .next (s.takeFrame p 2 f.frame (fun s =>
    let x := s.port p
    let m := Config.measOf f.frame.body
    if !m.1 then s.echoMeas p m.2.2
    else if !x.measBusy then s
    else
      let d := ratio (f.trip - m.2.1 + m.2.2) 2
      let y := { x with measBusy := false, measN := x.measN + 1, measMax := if x.measN = 0 then d else max x.measMax d }
      let s := s.setPort p y
      if y.measN < 4096 then s.sendMeas p else s))

/-- MEAS_UPDATE (R238, R239): once a second the largest sample of 4096 is reported, and the next set begins. -/
def execMeasUpdate (p : Fin 8) (s : State) : Out :=
  .next (
    let x := s.port p
    if x.st = .enabled ∧ 4096 ≤ x.measN ∧ s.cols x.measAt ≥ 3200000000 then (s.startMeas p).noteDelay p x.measMax.toNat else s)

/-- A tick of a port's link (R230, R231): the lane references of the two ends drift against each other and a filler sequence may
arrive, both free values of `u`; within one, whole columns bring the buffers' fill back to 12 to 20. Its own filler sequences start
4000 columns apart. -/
def State.linkPort (s : State) (u : W64) (p : Nat) : State :=
  let x := s.port p
  if x.buffers then
    let drift := match (u.toNat / 4 ^ p) % 4 with | 1 => x.fill + 1 | 2 => x.fill - 1 | _ => x.fill
    let come := u.getLsbD (16 + p)
    let fill := if !come then drift else if drift < 12 then drift + 2 else if 20 < drift then drift - 2 else drift
    let s := s.setPort p { x with fill := min fill 32 }
    if x.carries ∧ 4000 ≤ s.cols x.lastFiller then s.sendFiller p else s
  else s

end Sys2Proof.Machine
end

