-- ==== Sys2Proof/Machine/CapOps.lean ====
section
/-! DEFINITION. The capture unit: arming, firing, the trigger point, the record and its measurements (R280-R295), and the
time-interval units (R297-R299). -/

namespace Sys2Proof.Machine

/-- Capture unit state code (CAP_STAT.state). -/
def CapSt.code : CapSt → Nat
  | .idle => 0
  | .armed => 1
  | .triggered => 2
  | .closed => 3

/-- Fields of CAP_PROBE_k (R296). -/
def State.probeOn (s : State) (k : Nat) : Bool := s.bit (aCapProbe k) 31
def State.probeKind (s : State) (k : Nat) : Nat := s.fld (aCapProbe k) 30 29
def State.probeCh (s : State) (k : Nat) : Nat := s.fld (aCapProbe k) 28 24
def State.probeTone (s : State) (k : Nat) : Nat := s.fld (aCapProbe k) 23 20
def State.probeComp (s : State) (k : Nat) : Nat := s.fld (aCapProbe k) 19 18
def State.probesOn (s : State) : List Nat := (List.range 4).filter s.probeOn
/-- Size of the capture partition in bytes (R93). -/
def State.capBytes (s : State) : Nat := s.fld aMldPatStat 31 28 * 2 ^ 30
/-- Share of a probe, in bytes (R282). -/
def State.capShare (s : State) : Nat := (s.capBytes - 65536) / s.probesOn.length / 4096 * 4096
/-- Offset of a probe's share in the partition, shares lying in probe order (R282, R295). -/
def State.shareOff (s : State) (k : Nat) : Nat := 65536 + ((List.range k).filter s.probeOn).length * s.capShare
/-- The unit can arm: IDLE, a probe enabled, a partition to hold the record (R291). -/
def State.canArm (s : State) : Bool := s.cap.st == .idle && !s.probesOn.isEmpty && decide (0 < s.capBytes)
/-- Modules of the capture group (R289, R291). -/
def State.capGroup (s : State) : List Nat :=
  (List.range 64).filter (fun m => if m < 32 then (s.reg aCapGrpExpLo).getLsbD m else (s.reg aCapGrpExpHi).getLsbD (m - 32))
/-- Set a flag of the record header (R295). -/
def State.capFlag (s : State) (n : Nat) : State := { s with cap := { s.cap with flags := s.cap.flags ||| (1#12 <<< n) } }

/-- An arm at the present tick A (R281, R291): a new record, and arm blocks from a master. -/
def State.capArmUnit (s : State) (session : Option W32) : State :=
  let k : Tbl Nat := s.probesOn.filterMap (fun p =>
    let v := s.fld (aCapProbe p) 17 13
    if v = 0 then none else some (p, v))
  let s := { s with cap := { Cap.init with st := .armed, session := session, armTick := s.now, k := k, times := s.cap.times } }
  let s := s.setReg aCapRec (s.reg aCapRec + 1)
  if s.fld aCapCfg 30 29 = 1 then
    let v := localEv 240 s.now.stamp (0x8000#16 ||| Config.moduleId.setWidth 16) 1 0x0F9
    s.each s.capGroup (fun s m => s.exportTo m v)
  else s

/-- A member that receives an arm block (R291). -/
def State.capArmBlock (s : State) : State :=
  if s.fld aCapCfg 30 29 = 2 then if s.canArm then s.capArmUnit none else s.count aCapCnt 15 8 1 else s

/-- The unit fires at tick F: the first fire of an arming is published, and sent to the group (R288, R289). -/
def State.capFireUnit (s : State) (F : Tick) (kind : Nat) : State :=
  if s.cap.st = .armed ∧ !s.cap.fired then
    let s := { s with cap := { s.cap with fired := true } }
    let v := localEv 240 F.stamp (Config.moduleId.setWidth 16 ||| BitVec.ofNat 16 (64 * kind)) 1 0x0F9
    s.each s.capGroup (fun s m => s.exportTo m v) |>.publish v
  else s

/-- A proposal is kept before another (R290). -/
def Proposal.before (a b : Proposal) : Bool :=
  decide ((a.t - b.t).toInt < 0) || (a.t == b.t && decide (a.module.toNat < b.module.toNat))

/-- A fire event reaches the capture unit (R290). -/
def State.capProposal (s : State) (v : Ev) : State :=
  let F := Tick.ofStamp s.now v.stamp
  let p : Proposal := ⟨F, F + BitVec.ofNat 64 (s.fld aCapTrig 15 0), v.payload.setWidth 6, (v.payload >>> 6).setWidth 2⟩
  match s.cap.st, s.cap.best with
  | .armed, none => { s with cap := { s.cap with best := some p } }
  | .armed, some b => if p.before b then { s with cap := { s.cap with best := some p } } else s
  | .triggered, some b =>
    if (p.t - b.t).toInt < 0 then (s.count aCapCnt 31 24 1).capFlag 6 else s.count aCapCnt 23 16 1
  | _, _ => s.count aCapCnt 23 16 1

/-- The record stops at a tick: the state is CLOSED; its header waits for the close (R281, R292). -/
def State.capStop (s : State) (last : Tick) : State :=
  { s with cap := { s.cap with st := .closed, endTick := some last, closeTai := s.clock.sys } }
/-- An abort (R292). -/
def State.capAbortUnit (s : State) : State :=
  if s.cap.st = .armed ∨ s.cap.st = .triggered then (s.capFlag 5).capStop s.now else s
/-- A release (R281): in ARMED or TRIGGERED it acts as an abort. -/
def State.capReleaseUnit (s : State) : State :=
  match s.cap.st with
  | .closed => { s with cap := { s.cap with st := .idle } }
  | .idle => s
  | _ => s.capAbortUnit
/-- A write of CAP_CTRL that has passed its checks, by a session (R288, R291, R292). -/
def State.capCtrlEffect (s : State) (sid : W32) (v : W32) : State :=
  let s := if v.getLsbD 0 then s.capArmUnit (some sid) else s
  let s := if v.getLsbD 1 then s.capFireUnit (s.now + 24) 0 else s
  let s := if v.getLsbD 2 then s.capAbortUnit else s
  if v.getLsbD 3 then s.capReleaseUnit else s

/-- Add a mark to a probe's marks: the 32nd says that further marks are left out (R295). -/
def State.capMark (s : State) (m : CapMark) : State :=
  let n := (s.cap.marks.filter (fun x => x.probe == m.probe)).length
  if n < 31 then { s with cap := { s.cap with marks := s.cap.marks ++ [m] } }
  else if n = 31 then { s with cap := { s.cap with marks := s.cap.marks ++ [{ m with kind := 3 }] } }
  else s

/-- k of a probe. -/
def Cap.kOf (c : Cap) (p : Nat) : Nat := Tbl.get c.k p 0
/-- Stored data rate of a raw or baseband probe, in bytes in 2^20 source samples, times 64 for raw (R284, R285). -/
def State.storedRate (s : State) (p : Nat) : Nat :=
  let k := s.cap.kOf p
  let raw := s.probeKind p = 1
  let size := if raw then (if k = 0 then 2 else 4) else (if k = 0 then 4 else 8)
  size * 2 ^ (20 - k) * (if raw then 64 else 1)
/-- The probe that steps (R285). -/
def State.stepProbe (s : State) : Option Nat :=
  s.probesOn.foldl (fun b p =>
    let can := (s.probeKind p = 1 ∨ (s.probeKind p = 2 ∧ s.cap.kOf p ≠ 0)) ∧ s.cap.kOf p < 20
    if can then
      match b with
      | none => some p
      | some q => if s.storedRate q < s.storedRate p then some p else b
    else b) none

/-- First tick of a source value: a raw sample or a baseband block; a decision's stamp (R280). -/
def srcTick (kind idx : Nat) : Nat := if kind = 1 then idx / 12 else if kind = 2 then 64 * idx / 12 else idx
/-- First source index at or after the start of a tick. -/
def tickSrc (kind t : Nat) : Nat := if kind = 1 then 12 * t else if kind = 2 then (12 * t + 63) / 64 else t

/-- Source index of an element, and its stored bytes (R295). -/
def elemIdx (e : CapElem) : Nat :=
  match e with
  | .value i _ _ => i
  | .minmax i _ _ _ _ => i
  | .decision st _ _ _ _ _ _ _ => st.toNat
def sBytes (n : Nat) (x : Int) : List Byte := leBytes n (x % (2 ^ (8 * n) : Int)).toNat
def elemBytes (kind : Nat) (e : CapElem) : List Byte :=
  match e with
  | .value _ i q => if kind = 1 then sBytes 2 i else sBytes 2 i ++ sBytes 2 q
  | .minmax _ a b c d => if kind = 1 then sBytes 2 a ++ sBytes 2 b else sBytes 2 a ++ sBytes 2 b ++ sBytes 2 c ++ sBytes 2 d
  | .decision t tone st dm tr i q ctx =>
    leBytes 5 t.stamp.toNat
      ++ leBytes 1 (tone.toNat + 16 * st.toNat + (if dm then 64 else 0) + (if tr then 128 else 0))
      ++ sBytes 3 i ++ sBytes 3 q ++ [ctx, 0, 0, 0]

/-- A measured element: source index, low and high value in 1/16 LSB, reduced. -/
structure Meas where
  idx : Nat
  lo : Int
  hi : Int
  reduced : Bool
  deriving DecidableEq, Repr

/-- The component of an element that a probe measures; a reduced element has no magnitude (R293). -/
def measOf (comp : Nat) (e : CapElem) : Option Meas :=
  match e with
  | .value n i q =>
    let v := if comp = 0 then 16 * i else if comp = 1 then 16 * q else Config.magnitude16 i q
    some ⟨n, v, v, false⟩
  | .minmax n a b c d =>
    if comp = 0 then some ⟨n, 16 * a, 16 * b, true⟩ else if comp = 1 then some ⟨n, 16 * c, 16 * d, true⟩ else none
  | .decision _ _ _ _ _ _ _ _ => none

/-- Rising crossings of `level / 10` with re-arming below `rearm / 10`, as fractions of source samples (numerator,
denominator): a reduced element crosses at its start (R293). -/
def crossings (level rearm : Int) (prev : Option Meas) (low : Bool) (l : List Meas) : List (Int × Int) :=
  match l with
  | [] => []
  | m :: r =>
    let up := low && decide (level ≤ 10 * m.hi)
    let low' := if up then false else low || decide (10 * m.lo < rearm)
    let rest := crossings level rearm (some m) low' r
    if up then
      let t : Int × Int := match prev with
        | none => (m.idx, 1)
        | some p =>
          if m.reduced ∨ m.hi = p.hi ∨ level ≤ 10 * p.hi then (m.idx, 1)
          else
            let den := 10 * (m.hi - p.hi)
            ((p.idx : Int) * den + (level - 10 * p.hi) * ((m.idx : Int) - p.idx), den)
      t :: rest
    else rest

/-- Fraction `a - b`, and `a <= b`. -/
def fracSub (a b : Int × Int) : Int × Int := (a.1 * b.2 - b.1 * a.2, a.2 * b.2)
def fracLe (a b : Int × Int) : Bool := decide (a.1 * b.2 ≤ b.1 * a.2)

/-- The seven results and the valid word of a raw or baseband probe (R293). -/
def measure (comp : Nat) (l : List CapElem) : List Int :=
  let ms := l.filterMap (measOf comp)
  let vals := ms.flatMap (fun m => if m.reduced then [m.lo, m.hi] else [m.lo])
  let mean := ratio ((ms.map (fun m => m.lo + m.hi)).sum) (2 * ms.length)
  let base := Config.percentile 5 vals
  let top := Config.percentile 95 vals
  let a := top - base
  let hi := vals.foldl max (vals.headD 0)
  let over' := ratio ((hi - top) * 10000) a
  let c9 := crossings (10 * base + 9 * a) (10 * base + 9 * a) none false ms
  let c1 := crossings (10 * base + a) (10 * base + a) none false ms
  let rise : Int := match c9 with
    | [] => 0xFFFFFFFF
    | t :: _ => match (c1.filter (fun u => fracLe u t)).getLast? with
      | none => 0xFFFFFFFF
      | some u => let d := fracSub t u; ratio (16 * d.1) d.2
  let c5 := crossings (10 * base + 5 * a) (10 * base + 4 * a) none false ms
  let period : Int := match c5, c5.getLast? with
    | t :: _ :: _, some u => let d := fracSub u t; ratio (16 * d.1) (d.2 * (c5.length - 1 : Nat))
    | _, _ => 0xFFFFFFFF
  let part : Int := if ms.length < l.length then 2 else 0
  [mean, base, top, a, rise, over', period, part + (if ms.isEmpty then 0 else 1)]

/-- State counts of a decision probe (R293). -/
def countStates (l : List CapElem) : List Int :=
  let n := fun (x : Nat) => ((l.filter (fun e => match e with
    | .decision _ _ st _ _ _ _ _ => st.toNat == x
    | _ => false)).length : Int)
  [n 0, n 1, n 2, n 3, 0, 0, 0, 0]

/-- Bytes written round a probe's ring from a byte position (R282). -/
def State.storeRing (s : State) (base share pos : Nat) (l : List Byte) : State :=
  match l with
  | [] => s
  | b :: r => (s.setMem (base + pos % share) b).storeRing base share (pos + 1) r

/-- The interval exponent in force at a source index: that of the arming, or of the last step marked at or before it (R284, R285). -/
def kAt (k0 : Nat) (steps : List CapMark) (idx : Nat) : Nat :=
  steps.foldl (fun k m => if m.src ≤ idx then m.k else k) k0
/-- A value joins the element of its interval, or begins a new one (R284); the newest element stands first, with its exponent and
interval number. -/
def addValue (k : Nat) (v : SrcVal) (l : List (Nat × Nat × CapElem)) : List (Nat × Nat × CapElem) :=
  let n := v.idx / 2 ^ k
  if k = 0 then (0, n, .value v.idx v.i v.q) :: l
  else
    let fresh := (k, n, .minmax (n * 2 ^ k) v.i v.i v.q v.q) :: l
    match l with
    | (k', n', .minmax idx a b c d) :: r =>
      if k' = k ∧ n' = n then (k, n, .minmax idx (min a v.i) (max b v.i) (min c v.q) (max d v.q)) :: r else fresh
    | _ => fresh
/-- The elements that a raw or baseband probe stores of its source values (R284). -/
def reduceSrc (k0 : Nat) (steps : List CapMark) (l : List SrcVal) : List CapElem :=
  ((l.foldl (fun t v => addValue (kAt k0 steps v.idx) v t) []).map (fun x => x.2.2)).reverse
/-- What a probe has stored: of a decision probe its decisions, else its source values, reduced. -/
def State.probeElems (s : State) (p : Nat) (l : List SrcVal) : List CapElem :=
  if s.probeKind p = 3 then Tbl.get s.cap.decs p []
  else reduceSrc (s.fld (aCapProbe p) 17 13) (s.cap.marks.filter (fun m => m.probe == p && m.kind == 0)) l

/-- The newest elements that fill at most `room` bytes, with the bytes of those before them. -/
def keepShare (kind room : Nat) (l : List CapElem) : Nat × List CapElem :=
  match l with
  | [] => (0, [])
  | e :: r =>
    let total := ((e :: r).map (fun x => (elemBytes kind x).length)).sum
    if total ≤ room then (0, e :: r)
    else let t := keepShare kind room r; ((elemBytes kind e).length + t.1, t.2)

/-- Write probe `p`'s data, descriptor, measurements and marks; `span` is the record's first and last tick, `from'` the
tick from which values are measured (R283, R293, R295). -/
def State.capProbeClose (s : State) (p : Nat) (written : List CapElem) (span : Option (Nat × Nat)) (from' : Option Nat) : State :=
  let kind := s.probeKind p
  let base := s.capBase
  let share := s.capShare
  let off := s.shareOff p
  let kept := keepShare kind share written
  let inSpan := kept.2.filter (fun e => match span with
    | none => true
    | some (a, b) => decide (tickSrc kind a ≤ elemIdx e) && decide (srcTick kind (elemIdx e) ≤ b))
  let before := (kept.2.takeWhile (fun e => match span with
    | none => false
    | some (a, _) => decide (elemIdx e < tickSrc kind a)))
  let head := kept.1 + (before.map (fun e => (elemBytes kind e).length)).sum
  let first := match inSpan with | [] => 0 | e :: _ => elemIdx e
  let ring := (written.map (elemBytes kind)).flatten
  let skip := ring.length - share
  let s := s.storeRing (base + off) share skip (ring.drop skip)
  let A := s.cap.armTick.toNat
  let pre := match span with | none => false | some (a, _) => decide (a < A)
  let cut := match span with | none => decide (0 < kept.1) | some (a, _) => decide (tickSrc kind a < first) && decide (0 < kept.1)
  let overwritten := match span with
    | none => 0
    | some (a, _) =>
      if kind = 3 then ((written.take (written.length - kept.2.length)).filter (fun e => decide (a ≤ elemIdx e))).length
      else first - tickSrc kind a
  let missed := fun (a : Nat) => (s.cap.times.filter (fun x => x.1 == s.probeCh p && decide (a ≤ x.2.toNat) && decide (x.2.toNat < A))).length
  let lost := match span with
    | none => overwritten
    | some (a, _) =>
      if pre then (if kind = 3 then missed a else tickSrc kind A - tickSrc kind a) else if cut then overwritten else 0
  let s := if pre then s.capFlag 2 else if cut then s.capFlag 1 else s
  let marks := s.cap.marks.filter (fun m => m.probe == p)
  let desc := leBytes 4 (s.reg (aCapProbe p)).toNat ++ leBytes 4 (share / 4096) ++ leBytes 4 (off / 4096)
    ++ leBytes 2 marks.length ++ leBytes 1 (s.cap.kOf p) ++ leBytes 1 0 ++ leBytes 8 (head % share)
    ++ leBytes 8 inSpan.length ++ leBytes 8 first ++ leBytes 8 lost ++ leBytes 8 (Tbl.get s.cap.gaps p 0) ++ leBytes 8 0
  let s := s.storeBytes (base + 64 + 64 * p) desc
  let measured := inSpan.filter (fun e => match from' with | none => false | some t => decide (t ≤ srcTick kind (elemIdx e)))
  let words := if kind = 3 then countStates measured else measure (s.probeComp p) measured
  let s := if kind ≠ 3 ∧ (words.getD 7 0) ≥ 2 then s.capFlag 9 else s
  let s := s.storeBytes (base + 320 + 32 * p) (words.flatMap (sBytes 4))
  s.storeBytes (base + 448 + 512 * p)
    (marks.flatMap (fun m => leBytes 8 m.elem ++ leBytes 7 m.src ++ leBytes 1 (m.k + 32 * m.kind)))

/-- Write the header (R295). A trigger that never came leaves its fields open. -/
def State.capHeader (s : State) : State :=
  let c := s.cap
  let d0 := s.draw
  let d1 := d0.2.draw
  let d2 := d1.2.draw
  let tr : W64 × W64 × Nat × Nat := match c.best with
    | some b => (b.f, b.t, b.module.toNat, b.kind.toNat)
    | none => (d0.1, d1.1, d2.1.toNat % 64, d2.1.toNat / 64 % 4)
  let s := if c.best.isSome then s else d2.2
  let probes := s.probesOn.foldl (fun a p => a + 2 ^ p) 0
  let s := s.capFlag 0
  let w8 := s.cap.flags.toNat + tr.2.2.1 * 2 ^ 12 + tr.2.2.2 * 2 ^ 18 + Config.moduleId.toNat * 2 ^ 20
  s.storeBytes s.capBase
    (leBytes 4 (0x0105 + probes * 2 ^ 16) ++ leBytes 4 (s.reg aCapRec).toNat ++ leBytes 4 w8 ++ leBytes 4 0
      ++ leBytes 8 c.armTick.toNat ++ leBytes 8 tr.1.toNat ++ leBytes 8 tr.2.1.toNat
      ++ leBytes 8 (c.endTick.getD 0).toNat ++ leBytes 8 c.closeTai.toNat
      ++ leBytes 4 (s.reg aCapPre).toNat ++ leBytes 4 (s.reg aCapPost).toNat)

/-- The close of a record, with the source values that raw and baseband probes have met: its data, descriptors, measurements and header, and the notification (R282, R283, R292, R293). -/
def State.capFinish (s : State) (stored : List (List SrcVal)) : State :=
  let c := s.cap
  let last := (c.endTick.getD 0).toNat
  let span : Option (Nat × Nat) := match c.best with
    | none => none
    | some b => some ((b.t - BitVec.ofNat 64 (s.reg aCapPre).toNat).toNat, last)
  let from' := c.best.map (fun b => b.t.toNat)
  let s := s.each s.probesOn (fun s p => s.capProbeClose p (s.probeElems p (stored.getD p [])) span from')
  let s := s.capHeader
  let data := leBytes 4 (s.reg aCapRec).toNat
  if s.fld aCapCfg 30 29 = 2 then s.notifyRole .operator 0x04 data
  else match c.session with
    | none => s
    | some id => s.notify id 0x04 data

/-- A stamped edge reaches a running unit (R298, R299). -/
def State.tiuTake (s : State) (u k : Nat) (t : Int) (tick : Tick) : State :=
  let x := s.tiuUnit u
  let mode := s.fld (aTiuUcfg u) 13 12
  let inA := s.fld (aTiuUcfg u) 6 4
  let inB := s.fld (aTiuUcfg u) 10 8
  let m := s.fld (aTiuUn u) 31 16
  let p := s.fld (aTiuIn inA) 3 0
  let finish := fun (v : Int) =>
    let left := x.left - 1
    s.setTiu u { x with vals := x.vals ++ [v], left := left, t0 := none, edges := 0, begun := tick,
                        running := decide (0 < left), done := decide (left = 0) }
  if !x.running then s
  else match x.t0 with
    | none => if k = inA then s.setTiu u { x with t0 := some t, edges := 0 } else s
    | some t0 =>
      if mode = 0 then if k = inB then finish (t - t0) else s
      else if k = inA then
        if x.edges + 1 = m then
          let n : Int := (m * 2 ^ p : Nat)
          finish (if mode = 1 then ratio (t - t0) n else ratio (n * 10 ^ 18) (t - t0))
        else s.setTiu u { x with edges := x.edges + 1 }
      else s

/-- A start command: N measurements (R299). -/
def State.tiuStartUnit (s : State) (u : Nat) : State :=
  s.setTiu u { Tiu.init with running := true, left := 2 ^ s.fld (aTiuUn u) 15 0, begun := s.now }
/-- An abort keeps what has been measured (R299). -/
def State.tiuAbortUnit (s : State) (u : Nat) : State :=
  let x := s.tiuUnit u
  if x.running then s.setTiu u { x with running := false, left := 0, t0 := none, edges := 0 } else s
/-- A write of TIU_UCTRL (R300). -/
def State.tiuCtrlEffect (s : State) (u : Nat) (v : W32) : State :=
  let s := if v.getLsbD 0 then s.tiuStartUnit u else s
  if v.getLsbD 1 then s.tiuAbortUnit u else s

/-- Statistics of a unit: mean, deviation, minimum, maximum; 0 with none valid (R299). -/
def Tiu.stats (x : Tiu) : Int × Nat × Int × Int :=
  match x.vals with
  | [] => (0, 0, 0, 0)
  | v :: r => (ratio x.vals.sum x.vals.length, min (Config.stdDev x.vals) 0xFFFFFFFF, r.foldl min v, r.foldl max v)
/-- Word `w` of TIU_URES (R300). -/
def Tiu.word (x : Tiu) (w : Nat) : W32 :=
  let r := x.stats
  let half := fun (v : Int) (hi : Bool) => BitVec.ofInt 32 (if hi then v / 2 ^ 32 else v)
  match w with
  | 0 => half r.1 false
  | 1 => half r.1 true
  | 2 => BitVec.ofNat 32 r.2.1
  | 3 => half r.2.2.1 false
  | 4 => half r.2.2.1 true
  | 5 => half r.2.2.2 false
  | _ => half r.2.2.2 true

end Sys2Proof.Machine
end

