-- ==== Sys2Proof/Machine/Feedback.lean ====
section
/-! DEFINITION. What Sprue consumers do with a round, software flags, timers, TRIG pins, the loop graph, and the arrival of
fast-path blocks (R82, R83, R106-R108, R141, R144, R162, R208-R222, R244-R248). -/

namespace Sys2Proof.Machine

/-- Attribute of a channel (R206): system channels have attribute maker. -/
def State.chAttr (s : State) (ch : Nat) : Nat := if ch < 240 then s.fld (aSprCh ch) 27 26 else 3
/-- A role holds a channel's attribute (R206). -/
def Role.holds (r : Role) (attr : Nat) : Bool := attr == 0 || attr == r.code.toNat + 1
/-- Owner role of a channel (R206). -/
def State.chOwner (s : State) (ch : Nat) : Role :=
  if ch < 240 then (match s.fld (aSprCh ch) 29 28 with | 0 => .operator | 2 => .maker | _ => .installer) else .installer

/-- An engine latch takes its round; an engine in a swap has its events held (R61, R89, R210). -/
def State.latchRound (s : State) (e : Nat) (l : List Ev) : State :=
  let g := s.eng e
  match g.swap with
  | some w => (s.setEng e { g with swap := some { w with held := w.held ++ l } }).count aSprCntB 15 8 l.length
  | none =>
    let s := s.latchEvents e l
    s.setEng e (if s.inTime e then (s.eng e).wake s.now else s.eng e)

/-- A jump request reaches a player (R106-R108). DESIGN CHOICE: the target register and its valid bit are read when it arrives, not at its
tick E. -/
def State.jumpRequest (s : State) (t : Nat) (v : Ev) : State :=
  let ch := toneChan t
  let i := toneIdx t
  let w := s.reg (aPlyJtgt ch i (v.payload.toNat % 4))
  let x := s.tone t
  if w.getLsbD 31 then
    let E := Tick.ofStamp s.now v.stamp + BitVec.ofNat 64 (s.fld (aPlyJcfg ch i) 31 16)
    if (E - s.now).toInt < 24 then (s.count (aPlyCnt ch i) 31 24 1).lateAt (toneEng t) E
    else if x.jumps.length ≥ 8 then (s.count (aPlyCnt ch i) 23 16 1).lateAt (toneEng t) E
    else s.setTone t { x with jumps := x.jumps ++ [⟨E, w.setWidth 20⟩] }
  else s

/-- Data of a flag notification: channel, stamp, payload, producer (R212). -/
def flagData (v : Ev) : List Byte := [v.ch] ++ leBytes 5 v.stamp.toNat ++ leBytes 2 v.payload.toNat ++ leBytes 2 v.producer.toNat
def State.flagNote (s : State) (ch : Nat) : FlagNote := Tbl.get s.notes ch ⟨none, none⟩
def State.setFlagNote (s : State) (ch : Nat) (x : FlagNote) : State := { s with notes := Tbl.put s.notes ch x ⟨none, none⟩ }
/-- Send a flag's notification to the channel's owner role (R212). -/
def State.sendFlag (s : State) (v : Ev) : State :=
  (s.setFlagNote v.ch.toNat ⟨some s.mono, none⟩).notifyRole (s.chOwner v.ch.toNat) 0x03 (flagData v)
/-- Set a channel's flag (R212). -/
def State.raiseFlag (s : State) (v : Ev) : State :=
  let ch := v.ch.toNat
  let a := aSprFlag (ch / 32)
  if s.bit a (ch % 32) then s
  else
    let s := s.setBit a (ch % 32) true
    if ch < 240 ∧ s.bit (aSprCh ch) 30 then
      let x := s.flagNote ch
      match x.last with
      | none => s.sendFlag v
      | some t =>
        if s.since t ≥ 1000000 then s.sendFlag v
        else s.setFlagNote ch { x with deferred := some (x.deferred.getD v) }
    else s

/-- An event on an ADC channel's window-start channel (R162, R208). -/
def State.adcStart (s : State) (c : Nat) (v : Ev) : State :=
  let w := s.reg (aAdcTrig c)
  let a := s.adcch c
  s.setAdcch c { a with starts := a.starts ++
    [⟨Tick.ofStamp s.now v.stamp, BitVec.ofNat 8 (fieldOf w 15 8), BitVec.ofNat 16 (fieldOf w 31 16), v.hop, none⟩] }

/-- An event on a group's strobe channel (R141, R144). -/
def State.strobeEvent (s : State) (g : Nat) (v : Ev) : State :=
  let x := s.grp g
  let T := Tick.ofStamp s.now v.stamp + BitVec.ofNat 64 (s.fld (aGrpStrb g) 31 16)
  if (T - s.now).toInt ≥ 24 then s.setGrp g (x.request T none true false)
  else if x.st = .on then (s.count (aGrpStat g) 23 16 1).each (groupEngs g) (fun s e => s.lateAt e T)
  else s

/-- A relay's output for one input event (R214, R219). -/
def State.relayOut (s : State) (r : Nat) (v : Ev) : State :=
  let c := s.reg (aSprRlyCfg r)
  let d := s.reg (aSprRlyDly r)
  if c.getLsbD 31 then
    let p := if c.getLsbD 30 then BitVec.ofNat 16 (fieldOf d 31 16) else v.payload
    s.publish (localEv (BitVec.ofNat 8 (fieldOf c 15 8)) (v.stamp + BitVec.ofNat 40 (fieldOf d 15 0)) p (v.hop + 1)
      (BitVec.ofNat 10 (0xB0 + r)))
  else s

/-- A pulse request of a TRIG output (R216). -/
def State.trigRequest (s : State) (k : Nat) (v : Ev) : State :=
  let t := Tick.ofStamp s.now v.stamp + BitVec.ofNat 64 (s.fld (aSprTrig k) 23 8)
  let x := Tbl.get s.pulses k TrigOut.init
  if (t - s.now).toInt ≥ 24 then { s with pulses := Tbl.put s.pulses k { x with due := x.due ++ [t] } TrigOut.init }
  else s.count aSprCntB 23 16 1

/-- Export of a local event to each destination but the own module (R222, R225). -/
def State.exportEv (s : State) (v : Ev) : State :=
  s.each ((s.exports v.ch).filter (fun m => m != Config.moduleId.toNat)) (fun s m => s.exportTo m v)

/-- A round's events are presented to its consumer, in order (R208, R210). -/
def State.present (s : State) (i : TaskInput) (l : List Ev) : State :=
  let multi := decide (1 < l.length)
  match i with
  | .latch e _ => s.latchRound e l
  | .player t => (s.countJoined multi).each l (fun s v => s.jumpRequest t v)
  | .capTrig => (s.countJoined multi).each l (fun s v => s.capProposal v)
  | .flag _ => (s.countJoined multi).each l (fun s v => s.raiseFlag v)
  | .adcTrig c => s.each l (fun s v => s.adcStart c v)
  | .grpStrobe g => s.each l (fun s v => s.strobeEvent g v)
  | .relay r => s.each l (fun s v => s.relayOut r v)
  | .trigOut k => s.each l (fun s v => s.trigRequest k v)
  | .sendOut _ => s.each l (fun s v => s.exportEv v)

/-- A write of SPR_SWPUB at the latch tick (R213). -/
def State.swPublish (s : State) (w : W32) : State :=
  s.publish (localEv (w.setWidth 8) (s.now + 24).stamp (BitVec.ofNat 16 (fieldOf w 31 16)) 1 0x0F8)

/-- Next stamp of a timer enabled now (R215): the first of its series at least 64 ticks after the latch. -/
def State.timerFirst (s : State) (i : Nat) : Option Tick :=
  let per := (s.reg (aSprTmrPer i)).toNat
  let start := Tick.ofStamp s.now (BitVec.ofNat 40 (s.fld (aSprTmrStartHi i) 7 0 * 2 ^ 32 + (s.reg (aSprTmrStartLo i)).toNat))
  let least := s.now + 64
  if (start - least).toInt ≥ 0 then some start
  else if per = 0 then none
  else some (start + BitVec.ofNat 64 (ceilDiv (least - start).toNat per * per))
def State.timer (s : State) (i : Nat) : TimerRun := Tbl.get s.timers i ⟨none⟩
def State.setTimer (s : State) (i : Nat) (x : TimerRun) : State := { s with timers := Tbl.put s.timers i x ⟨none⟩ }
/-- A write of SPR_TMR_CFG_i over an old word (R215): enabling starts the series, disabling stops it. -/
def State.timerCfgEffect (s : State) (i : Nat) (old : W32) : State :=
  let on := s.bit (aSprTmrCfg i) 31
  if on ∧ !old.getLsbD 31 then s.setTimer i ⟨s.timerFirst i⟩ else if on then s else s.setTimer i ⟨none⟩

/-- An edge of the loop graph (R217): its relay, or 64 + 16 times its ADC channel plus its tone. -/
structure LoopEdge where
  key : Nat
  src : Nat
  dst : Nat
  delay : Nat
  deriving DecidableEq, Repr
/-- The edges of the loop graph of the configuration in force (R217). -/
def State.loopEdges (s : State) : List LoopEdge :=
  let relays := (List.range 64).filterMap (fun r =>
    let c := s.reg (aSprRlyCfg r)
    if c.getLsbD 31 then some ⟨r, fieldOf c 7 0, fieldOf c 15 8, s.fld (aSprRlyDly r) 15 0⟩ else none)
  let adcs := (List.range 32).flatMap (fun ch =>
    if s.bit (aAdcCtrl ch) 1 then
      let w := s.reg (aAdcTrig ch)
      let d := s.fld (aAdcWdly ch (fieldOf w 15 8)) 19 0
      (List.range 16).filterMap (fun t =>
        let p := s.reg (aCruPub (s.cruPhys ch) t)
        if w.getLsbD (16 + t) && p.getLsbD 8 then some ⟨64 + 16 * ch + t, fieldOf w 7 0, fieldOf p 7 0, d⟩ else none)
    else [])
  relays ++ adcs
/-- Drop the edges that lead nowhere, as often as there are edges: what is left holds a cycle. -/
def pruneEdges (n : Nat) (l : List LoopEdge) : List LoopEdge :=
  match n with
  | 0 => l
  | k + 1 => pruneEdges k (l.filter (fun e => l.any (fun f => f.src == e.dst)))
/-- A cycle in which every edge has a delay below 2000 ticks (R218). -/
def State.hasLoop (s : State) : Bool :=
  let l := s.loopEdges.filter (fun e => decide (e.delay < 2000))
  !(pruneEdges l.length l).isEmpty

/-- A change of configuration that only removes edges or raises delays (R218): every edge that is left was there, no slower. -/
def easesLoops (old new : List LoopEdge) : Bool :=
  new.all (fun e => old.any (fun f => f.key == e.key && f.src == e.src && f.dst == e.dst && decide (f.delay ≤ e.delay)))
/-- A write that leaves `t` is refused under the loop rule (R218): a fast cycle is left, and the write does more than ease. -/
def State.loopRefused (s t : State) : Bool := t.hasLoop && !easesLoops s.loopEdges t.loopEdges

/-- A remote event late against its use tick U (R83). -/
def State.lateRemote (s : State) (v : Ev) : State :=
  let U := Tick.ofStamp s.now v.use
  let hit := (s.subEngines v.ch).filter (fun e => (s.shotAt e U).isSome)
  if hit.isEmpty then s.count aSprRemote 15 8 1 else s.each hit (fun s e => s.condAt e .decisionLate U)

/-- Deliver an imported event (R82, R83, R222): margin noted, judged against U, published with the remote bit. -/
def State.deliverRemote (s : State) (v : Ev) : State :=
  let margin := sdiff v.use s.now.stamp
  let old := sfieldOf (s.reg aSprRemote) 31 16
  let s := if margin < old then s.setFld aSprRemote 31 16 (satBits 16 margin) else s
  let late := decide (margin < 0)
  let s := if late then s.lateRemote v else s
  s.publish { v with late := late }

/-- A fast-path block accepted at a port: forwarded, or taken by the capture unit, or delivered (R222, R247, R291). -/
def State.routeBlock (s : State) (p : Nat) (dest src : BitVec 6) (v : Ev) : State :=
  if dest ≠ Config.moduleId then
    let out := s.route dest.toNat
    if out = none ∨ out = some p then (s.count aRunFwd 31 16 1).lossOf (some p) v
    else if v.hop.toNat = 0 ∨ 16 < v.hop.toNat then s.dropHop v
    else
      let s := s.setPort p { s.port p with forwards := true }
      s.offerBlock (out.getD 0) (some p) dest src v
  else if !s.importEn p then s.count aRunFwd 15 0 1
  else if v.ch = 240 ∧ v.payload.getLsbD 15 then s.capArmBlock
  else if !s.imports v.ch.toNat then s.count aSprRemote 7 0 1
  else s.deliverRemote v

end Sys2Proof.Machine
end

