-- ==== Sys2Proof/Machine/RunImg.lean ====
section
/-! DEFINITION. The checks of cluster images and Crucible images at a run's submission, and the detail of the first fault
(R69, R70, R197, R198, R322). -/

namespace Sys2Proof.Machine

/-- An image fault (R322): kind of item, byte offset of the faulty field, logical engine or Crucible, instruction address or
index. -/
structure ImgFault where
  kind : Nat
  off : Nat
  unit : Nat
  instr : Nat
  deriving DecidableEq, Repr

def ImgFault.detail (f : ImgFault) : Detail :=
  ⟨BitVec.ofNat 32 f.kind, BitVec.ofNat 32 f.off, BitVec.ofNat 32 f.unit, BitVec.ofNat 32 f.instr⟩

/-- The first fault of a list of tests in order. -/
def firstFault (l : List (Bool × ImgFault)) : Option ImgFault := (l.find? (fun x => x.1)).map (fun x => x.2)

/-- Bits `hi .. lo` as a mask, and a field of an instruction word. -/
def bitMask (hi lo : Nat) : Nat := 2 ^ (hi + 1) - 2 ^ lo
def wfield (w hi lo : Nat) : Nat := (w / 2 ^ lo) % 2 ^ (hi - lo + 1)

/-- Fields that each Efaux opcode uses, as a mask of its low 56 bits (R50, R51). -/
def efauxUses (op : Nat) : Option Nat :=
  let rd := bitMask 55 51
  let ra := bitMask 50 46
  let rb := bitMask 45 41
  let imm := bitMask 31 0
  let ci := bitMask 55 53
  let tgt := bitMask 46 32
  let raB := bitMask 51 47
  let ts := bitMask 52 50
  let i40 := bitMask 39 0
  let raF := bitMask 52 48
  let sub := bitMask 52 49
  let raP := bitMask 47 43
  let rbP := bitMask 42 38
  let dtP := bitMask 27 16
  let dtL := bitMask 39 28
  let edge := bitMask 54 48
  if op = 0x00 ∨ op = 0x01 ∨ op = 0x04 then some 0
  else if op = 0x02 ∨ op = 0x03 then some tgt
  else if op = 0x05 then some (ci + bitMask 52 52 + tgt)
  else if op = 0x06 then some (raB + tgt)
  else if op = 0x07 then some (bitMask 52 52 + raB + tgt + imm)
  else if 0x10 ≤ op ∧ op ≤ 0x1A then some (rd + ra + rb)
  else if 0x20 ≤ op ∧ op ≤ 0x2A then some (rd + ra + imm)
  else if 0x30 ≤ op ∧ op ≤ 0x32 then some (ci + ra + rb)
  else if 0x33 ≤ op ∧ op ≤ 0x35 then some (ci + ra + imm)
  else if op = 0x38 then some (rd + imm)
  else if op = 0x40 then some i40
  else if op = 0x41 then some (bitMask 49 45)
  else if op = 0x42 ∨ op = 0x45 then some ci
  else if op = 0x43 then some (ts + i40)
  else if op = 0x44 then some (ci + ts + i40)
  else if op = 0x46 then some (ci + ts)
  else if op = 0x50 then some (ci + bitMask 47 0)
  else if op = 0x51 ∨ op = 0x54 then some (ci + raF)
  else if op = 0x52 ∨ op = 0x53 then some (ci + imm)
  else if op = 0x55 then some ci
  else if op = 0x60 then some (ci + sub + bitMask 47 28 + dtP + bitMask 15 0)
  else if op = 0x61 then some (ci + sub + raP + rbP + dtP)
  else if op = 0x68 then some (edge + dtL + bitMask 15 0)
  else if op = 0x69 then some (edge + raP + dtL)
  else if op = 0x6A then some (bitMask 55 55 + dtL + bitMask 19 0)
  else if op = 0x6B then some (bitMask 55 55 + raP + dtL)
  else if op = 0x6C then some (bitMask 55 55 + dtL)
  else if op = 0x70 then some (bitMask 55 44 + dtL)
  else if op = 0x78 then some (bitMask 55 48 + dtL + bitMask 15 0)
  else if op = 0x79 then some (bitMask 55 48 + raP + dtL)
  else if op = 0x7C then some (ci + bitMask 52 40 + bitMask 23 0)
  else if op = 0x7E then some (ra + rb)
  else none

/-- An operand outside the range that R51 or R70 gives it: `pub` tells the channels the role may publish on, `subs` the
engine's subscriptions, `count` its code_count. -/
def efauxRangeBad (pub : Nat → Bool) (subs : List Nat) (count w : Nat) : Bool :=
  let op := w / 2 ^ 56
  let tgt := decide (count ≤ wfield w 46 32)
  if op = 0x02 ∨ op = 0x03 ∨ op = 0x05 ∨ op = 0x07 then tgt
  else if op = 0x06 then tgt || wfield w 51 47 == 0
  else if 0x25 ≤ op ∧ op ≤ 0x27 then decide (31 < wfield w 31 0)
  else if op = 0x38 then decide (3 < wfield w 31 0)
  else if op = 0x51 then wfield w 52 48 == 31
  else if op = 0x60 ∨ op = 0x61 then decide (11 < wfield w 52 49)
  else if op = 0x70 then wfield w 55 52 == 0
  else if op = 0x78 ∨ op = 0x79 then !pub (wfield w 55 48)
  else if op = 0x7C then !subs.contains (wfield w 47 40)
  else false

/-- An instruction that breaks R50, R51 or R70. -/
def efauxBad (pub : Nat → Bool) (subs : List Nat) (count w : Nat) : Bool :=
  match efauxUses (w / 2 ^ 56) with
  | none => true
  | some m => Nat.land (w % 2 ^ 56) m != w % 2 ^ 56 || efauxRangeBad pub subs count w

/-- Section-table entry `j` of a cluster image (R69). -/
def secU (img : List Byte) (j o n : Nat) : Nat := leNat (slice img (64 + 32 * j + o) n)
def secCode (img : List Byte) (j : Nat) : Nat := secU img j 0 4
def secCount (img : List Byte) (j : Nat) : Nat := secU img j 4 4
def secEntry (img : List Byte) (j : Nat) : Nat := secU img j 8 2
def secSubs (img : List Byte) (j : Nat) : List Nat := (slice img (secU img j 12 4) (secU img j 10 2)).map (fun b => b.toNat)
def secFrames (img : List Byte) (j : Nat) : Nat := secU img j 16 4
def imgHas (img : List Byte) (j : Nat) : Bool := (leNat (slice img 6 2)).testBit j

/-- A section of `n` bytes from `o` lies at or after byte 576 and before image_length (R69). -/
def secOk (len o n : Nat) : Bool := decide (576 ≤ o) && decide (o + n ≤ len)

/-- First fault of the subscription list of entry `j`: a system channel, or one not above the one before it. -/
def subFault (l : List Nat) (prev : Option Nat) (off unit : Nat) : Option ImgFault :=
  match l with
  | [] => none
  | c :: r =>
    let down : Bool := match prev with | none => false | some p => decide (c ≤ p)
    if 240 ≤ c ∨ down then some ⟨3, off, unit, 0xFFFFFFFF⟩ else subFault r (some c) (off + 1) unit

/-- First instruction fault from address `a`, over `n` instructions. -/
def codeFault (pub : Nat → Bool) (img : List Byte) (subs : List Nat) (count base unit : Nat) (l : List Nat) : Option ImgFault :=
  match l with
  | [] => none
  | a :: r =>
    let w := leNat (slice img (base + 8 * a) 8)
    if efauxBad pub subs count w then some ⟨1, base + 8 * a, unit, a⟩ else codeFault pub img subs count base unit r

/-- Fields of a section-table entry: offset and size (R69). -/
def entryFields : List (Nat × Nat) := [(0, 4), (4, 4), (8, 2), (10, 2), (12, 4), (16, 4), (20, 12)]
/-- First fault of engine `j`: section-table entry, subscriptions, frame records, instructions (R70). DESIGN CHOICE: within the entry
the fields are judged in the order of the list below, code_count before the code_offset that is judged with it; an empty subscription
list needs an offset in range as any other does. -/
def engineFault (pub : Nat → Bool) (img : List Byte) (k j : Nat) : Option ImgFault :=
  let len := leNat (slice img 8 4)
  let base := 64 + 32 * j
  let unit := 16 * k + j
  let f := fun (o : Nat) => (⟨2, base + o, unit, 0xFFFFFFFF⟩ : ImgFault)
  if imgHas img j then
    let code := secCode img j
    let cnt := secCount img j
    let sub := secU img j 12 4
    let fr := secFrames img j
    let entry := firstFault
      [(decide (cnt < 1) || decide (32768 < cnt), f 4),
       (code % 8 != 0 || !secOk len code (8 * cnt), f 0),
       (decide (cnt ≤ secEntry img j), f 8),
       (decide (32 < secU img j 10 2), f 10),
       (!secOk len sub (secU img j 10 2), f 12),
       (!secOk len fr 128, f 16),
       (secU img j 20 12 != 0, f 20)]
    let frame := (List.range 8).findSome? (fun i =>
      let o := fr + 16 * i
      if leNat (slice img (o + 6) 2) ≠ 0 then some (⟨4, o, unit, 0xFFFFFFFF⟩ : ImgFault)
      else if leNat (slice img (o + 12) 4) ≠ 0 then some ⟨4, o + 12, unit, 0xFFFFFFFF⟩ else none)
    entry <|> subFault (secSubs img j) none sub unit <|> frame
      <|> codeFault pub img (secSubs img j) cnt code unit (List.range cnt)
  else
    (entryFields.find? (fun x => secU img j x.1 x.2 != 0)).map (fun x => f x.1)

/-- First fault of a cluster image for ECk, taken in R70's order. DESIGN CHOICE: the fields of the header are judged in the order of the
list below. An engine of the run for which the image holds no program is no fault: its code_count is 0. -/
def clusterFault (pub : Nat → Bool) (img : List Byte) (k : Nat) : Option ImgFault :=
  let len := leNat (slice img 8 4)
  let f := fun (o : Nat) => (⟨0, o, 16 * k, 0xFFFFFFFF⟩ : ImgFault)
  let head := firstFault
    [(leNat (slice img 0 4) != 0x3149574E, f 0),
     (leNat (slice img 4 2) != 1, f 4),
     (len != img.length || len % 8 != 0 || decide (len < 576), f 8),
     (leNat (slice img 16 16) != 0, f 16),
     (hashBytes (Config.sha256 ((img.take len).drop 64)) != slice img 32 32, f 32)]
  head <|> (List.range 16).findSome? (engineFault pub img k)

/-- Fields that each Crucible opcode uses, as a mask of its low 26 bits (R182, R183). -/
def cruUses (op : Nat) : Option Nat :=
  let cnd := bitMask 25 24
  let acc := bitMask 23 23
  let dsel := bitMask 21 13
  let cmode := bitMask 12 11
  let conj := bitMask 10 10
  let n := bitMask 8 0
  let sa := bitMask 25 23
  match op with
  | 0x00 => some 0
  | 0x01 => some (cnd + acc + bitMask 22 22 + dsel + cmode + conj + n)
  | 0x02 => some (cnd + acc + bitMask 22 22 + dsel + cmode + conj + n)
  | 0x03 => some (cnd + acc + bitMask 22 22 + dsel + cmode + conj + n)
  | 0x04 => some (cnd + acc + cmode + n)
  | 0x05 => some (cnd + cmode + n)
  | 0x06 => some (cnd + cmode + n)
  | 0x07 => some (cnd + dsel + cmode + conj + n)
  | 0x08 => some (cnd + acc)
  | 0x09 => some (cnd + acc + bitMask 4 0)
  | 0x0A => some (cmode + n)
  | 0x20 => some (sa + bitMask 15 0)
  | 0x21 => some (sa + bitMask 22 20 + bitMask 15 0)
  | 0x30 => some (bitMask 9 0)
  | 0x31 => some (sa + bitMask 9 0)
  | 0x34 => some (bitMask 17 10)
  | _ => none

/-- Instruction `i` of a Crucible image breaks R198. -/
def cruBad (img : List Byte) (i : Nat) : Bool :=
  let w := (cruCode img i).toNat
  let op := w / 2 ^ 26
  let count := cruCodeCount img
  let cmode := wfield w 12 11
  let range : Bool := match op with
    | 0x03 => cmode != 1 && cmode != 2
    | 0x05 => cmode == 3
    | 0x06 => cmode != 1 && cmode != 2
    | 0x0A => cmode == 3
    | 0x30 => decide (count ≤ wfield w 9 0)
    | 0x31 => decide (count ≤ wfield w 9 0)
    | 0x34 => decide (count ≤ i + 1) || !([1, 3, 4] : List Nat).contains ((cruCode img (i + 1)).toNat / 2 ^ 26)
    | _ => false
  let kinc := (op == 1 || op == 2 || op == 3) && wfield w 22 22 == 1 && wfield w 21 21 == 1
  let last := i + 1 == count && op != 0x30
  match cruUses op with
  | none => true
  | some m => Nat.land (w % 2 ^ 26) m != w % 2 ^ 26 || range || kinc || last

/-- First fault of a Crucible image, in R198's order. -/
def crucibleImgFault (img : List Byte) (n : Nat) : Option ImgFault :=
  let count := cruCodeCount img
  let chunks := cruImgChunks img
  let fill := match chunks.getLast? with
    | none => cruChunkOff img
    | some c => c.1 + pad8 (8 + 4 * c.2.2.2)
  let f := fun (o : Nat) => (⟨0, o, n, 0xFFFFFFFF⟩ : ImgFault)
  let head := firstFault
    [(imgU img 0 4 != 0x3143574E, f 0),
     (imgU img 4 2 != 1, f 4),
     (decide (3 < imgU img 6 2), f 6),
     (decide (count < 1) || decide (1024 < count), f 12),
     (decide (1024 < imgU img 14 2), f 14),
     (imgU img 16 16 != 0, f 16),
     (imgU img 8 4 != img.length || imgU img 8 4 != fill, f 8),
     (hashBytes (Config.sha256 (img.drop 64)) != slice img 32 32, f 32)]
  let code := ((List.range count).find? (cruBad img)).map (fun i => (⟨1, 64 + 4 * i, n, i⟩ : ImgFault))
  let ctx := if cruHasCtx img then ((List.range 256).find? (fun k =>
      let w := imgU img (cruCtxOff img + 4 * k) 4
      wfield w 23 12 == 0 || decide (3840 < wfield w 11 0 + wfield w 23 12))).map
        (fun k => (⟨5, cruCtxOff img + 4 * k, n, k⟩ : ImgFault)) else none
  let cls := if cruHasCls img then ((List.range 64).find? (fun k =>
      decide (2 ≤ wfield (imgU img (cruClsOff img + 32 * k) 4) 1 0))).map
        (fun k => (⟨6, cruClsOff img + 32 * k, n, k⟩ : ImgFault)) else none
  let chunk := (chunks.zipIdx).findSome? (fun (c, i) => firstFault
    [(decide (15 < c.2.1), ⟨7, c.1, n, i⟩),
     (imgU img (c.1 + 1) 1 != 0, ⟨7, c.1 + 1, n, i⟩),
     (decide (4095 < c.2.2.1), ⟨7, c.1 + 2, n, i⟩),
     (decide (c.2.2.2 < 1) || decide (4096 < c.2.2.1 + c.2.2.2), ⟨7, c.1 + 4, n, i⟩),
     (imgU img (c.1 + 6) 2 != 0, ⟨7, c.1 + 6, n, i⟩)])
  head <|> code <|> ctx <|> cls <|> chunk

end Sys2Proof.Machine
end

