-- ==== Sys2Proof/Machine/RunOps.lean ====
section
/-! DEFINITION. Runs and their shots: what submission, loading, shot starts and ends, records and stops share (R28-R43, R45,
R69, R150, R263-R268, R463). -/

namespace Sys2Proof.Machine

/-- Healthy brick stages (R396). -/
def State.stagesOk (s : State) : Nat := (s.supply.stages.filter (fun b => b)).length
/-- The actions of temper level 3 are in force (R396, R409). -/
def State.holdRuns (s : State) : Bool := decide (3 ≤ s.thermal.level) || decide (s.stagesOk < 8)
/-- A stop is under way, or the start is not complete (R394, R420, R429). -/
def State.stopping (s : State) : Bool := s.supply.brownout.isSome || s.boot.stop.isSome || s.boot.stage != 10

/-- Bytes of the largest record of a run's shot (R40). -/
def Run.maxRecord (r : Run) : Nat := 32 + r.engs.length * ((16 + 8 * r.desc.maxWords.toNat + 15) / 16 * 16)
/-- Used space of the result buffer, and with the room that open records may take (R40). -/
def State.resUsed (s : State) : Nat := (s.results.map (fun r => r.bytes.length)).sum
def State.resReserved (s : State) : Nat := s.resUsed + (s.runs.map (fun r => r.shots.length * r.maxRecord)).sum
def resSize : Nat := 268435456

/-- An engine entry as bytes (R35). -/
def Entry.bytes (x : Entry) : List Byte :=
  let n := x.words.length
  let l := leBytes 1 x.engine ++ leBytes 1 (statusOf x.mask) ++ leBytes 2 x.mask.toNat ++ leBytes 2 x.lateCount.toNat
    ++ [x.decisions] ++ leBytes 1 (n + (if x.overflow then 64 else 0)) ++ leBytes 4 x.first.toNat ++ [x.phys, x.exc, 0, 0]
    ++ x.words.flatMap (fun w => leBytes 8 w.toNat)
  if n % 2 = 1 then l ++ leBytes 8 0 else l

/-- A shot result record (R35). -/
def shotRecord (r : Run) (h : Shot) (last : Bool) (tai : W64) : List Byte :=
  let body := h.entries.flatMap Entry.bytes
  leBytes 2 0x0101 ++ leBytes 2 ((32 + body.length) / 16) ++ leBytes 4 r.id.toNat ++ leBytes 4 h.index.toNat
    ++ leBytes 1 Config.moduleId.toNat ++ leBytes 1 h.entries.length ++ leBytes 2 (if last then 1 else 0)
    ++ leBytes 8 h.start.toNat ++ leBytes 8 tai.toNat ++ body

/-- A run end record (R36). -/
def runEndRecord (id : W32) (cause : Byte) (requested executed clean lost first : Nat) (tai endTick : W64) : List Byte :=
  leBytes 2 0x0103 ++ leBytes 2 3 ++ leBytes 4 id.toNat ++ [cause, Config.moduleId.setWidth 8, 0, 0] ++ leBytes 4 requested
    ++ leBytes 4 executed ++ leBytes 4 clean ++ leBytes 4 lost ++ leBytes 4 first ++ leBytes 8 tai.toNat ++ leBytes 8 endTick.toNat

/-- Records grouped into transactions: as many whole records as fit within the limit, a larger one alone (R324). -/
def packRecords (limit : Nat) (acc : List ResRec) (l : List ResRec) : List (List ResRec) :=
  match l with
  | [] => if acc.isEmpty then [] else [acc]
  | r :: rest =>
    let n := (acc.map (fun x => x.bytes.length)).sum + r.bytes.length
    if acc.isEmpty ∨ n ≤ limit then packRecords limit (acc ++ [r]) rest else acc :: packRecords limit [r] rest

/-- Send one group of a run's records, and note the transaction that carries them (R324). -/
def State.sendRecords (s : State) (sid : W32) (g : List ResRec) : State :=
  match s.sess? sid with
  | none => s
  | some x =>
    let bytes := g.flatMap (fun r => r.bytes)
    let parts := cutParts bytes.length (s.contentLimit x.port) bytes
    let last := (List.range (parts.length - 1)).foldl (fun q _ => nextSeq q) x.txSeq
    let s := s.sendParts sid 0x40 false false 0 0 parts
    { s with results := s.results.map (fun r =>
        if g.any (fun y => y.run == r.run && y.shot == r.shot) then { r with sent := some (sid, last) } else r) }

/-- Offer a run's records that no transaction carries to the session that owns its delivery (R324, R38). -/
def State.offerResults (s : State) (id : W32) : State :=
  match s.run? id with
  | none => s
  | some r =>
    match s.sess? r.owner with
    | none => s
    | some x =>
      let l := s.results.filter (fun y => y.run == id && y.sent.isNone)
      s.each (packRecords (s.contentLimit x.port) [] l) (fun s g => s.sendRecords r.owner g)

/-- The high-water bit is set, and each operator session told, when use exceeds 192 MiB while the bit is 0 (R40). -/
def State.highWater (s : State) : State :=
  if s.resUsed > 201326592 ∧ !s.bit aMldResbufStat 20 then
    (s.setBit aMldResbufStat 20 true).notifyRole .operator 0x01 (leBytes 4 (min (s.resUsed / 1024) 262143))
  else s

/-- A record enters the result buffer and is offered (R35, R38, R40). -/
def State.addResult (s : State) (r : ResRec) : State := ({ s with results := s.results ++ [r] }.highWater).offerResults r.run

/-- The run's cluster image and its bytes. -/
def State.imageOf (s : State) (h : W32) : Option Image := (s.images.find? (fun x => x.1 == h.toNat)).map (fun x => x.2)
/-- Crucibles that a run names an image for, with the image. -/
def State.namedCrucibles (s : State) (r : Run) : List (Nat × List Byte) :=
  r.desc.crucImages.filterMap (fun x => x.2.bind (fun h => (s.imageOf h).map (fun i => (x.1.val, i.bytes))))

/-- A run ends: its end record, its engines idle, the notification of its end (R36, R53). -/
def State.finishRun (s : State) (id : W32) (cause : Byte) : State :=
  match s.run? id with
  | none => s
  | some r =>
    let s := if r.holds then
        s.each r.engs (fun s e => s.setEng e { s.eng e with st := .idle, shot := none, wait := none, held := none })
      else s
    let s := if r.phase = .loading then s.each (s.namedCrucibles r) (fun s x => s.cruResume (s.cruPhys x.1)) else s
    let s := s.modRun id (fun r => { r with phase := .over, nextStart := none, turnTick := none })
    let endRec := runEndRecord id cause r.desc.shotCount.toNat r.executed.toNat r.clean.toNat 0 0xFFFFFFFF s.clock.sys
      (if r.executed = 0 then 0 else r.endTick)
    (s.addResult ⟨id, none, endRec, none⟩).notify r.owner 0x06 (leBytes 4 id.toNat ++ [cause])

/-- Cause with which a run that starts no more shots ends (R34, R36, R42). DESIGN CHOICE: where a cancel was accepted and a fault then
stops the run during its last shot, the cause is that of the fault. -/
def Run.cause (r : Run) : Byte := r.stop.getD (if r.cancel then 0x01 else 0x00)
/-- A shot of the run is in flight. -/
def Run.inFlight (r : Run) : Bool := r.shots.any (fun h => !h.ended)
/-- No further shot of the run can start. -/
def Run.noMore (r : Run) : Bool := r.cancel || r.stop.isSome || r.executed == r.desc.shotCount

/-- A run that can start no more shots, has none in flight and no record to close, ends (R34, R36). No run ends while a stop is under
way: its closure record then tells its end, so that no executed shot is left unaccounted for (R37, R43). -/
def State.settleRun (s : State) (id : W32) : State :=
  match s.run? id with
  | none => s
  | some r =>
    if r.phase = .over ∨ !r.noMore ∨ r.inFlight then s
    else
      let s := s.modRun id (fun r => { r with nextStart := none })
      if r.shots.isEmpty ∧ !s.stopping then s.finishRun id r.cause else s

/-- Stop a run with a cause: the shot in flight completes, no later one starts (R42). -/
def State.stopRun (s : State) (cause : Byte) (id : W32) : State :=
  (s.modRun id (fun r => if r.phase = .over ∨ r.stop.isSome then r else { r with stop := some cause })).settleRun id
/-- Runs that have not ended; those that hold their clusters. -/
def State.openRuns (s : State) : List W32 := (s.runs.filter (fun r => r.phase != .over)).map (fun r => r.id)
def State.heldRuns (s : State) : List W32 := (s.runs.filter Run.holds).map (fun r => r.id)

/-- Frame initialisation values of engine `j` in an image (R69). -/
def imgFrames (img : List Byte) (j : Nat) : List FrameInit :=
  (List.range 8).map (fun i =>
    let o := secFrames img j + 16 * i
    ⟨BitVec.ofNat 48 (leNat (slice img o 6)), BitVec.ofNat 32 (leNat (slice img (o + 8) 4))⟩)

/-- Program words of a cluster's image, in rising key order, zero words left out. -/
def imgProg (k : Nat) (img : List Byte) : Tbl ProgWord :=
  (List.range 16).flatMap (fun j =>
    if imgHas img j then
      (List.range (secCount img j)).filterMap (fun a =>
        let w := leNat (slice img (secCode img j + 8 * a) 8)
        if w = 0 then none else some (progKey (16 * k + j) a, ⟨BitVec.ofNat 64 w, false, false⟩))
    else [])

/-- Set a tone's frame to its initialisation value; the restore re-seeds the tone (R45). -/
def State.restoreFrames (s : State) (e : Nat) (t : Tick) : State :=
  s.each ((s.eng e).finit.zipIdx) (fun s (f, i) =>
    let x := (s.tone (toneOf e i)).noteFrame t
    s.setTone (toneOf e i) ({ x with freq := f.freq, phase := f.phase }.reseed t))

/-- Load a cluster's image: programs, subscriptions and the state of R45 at run start; engines outside the set idle. -/
def State.loadCluster (s : State) (r : Run) (k : Nat) (img : List Byte) : State :=
  let lo := k * 2 ^ 19
  let p := s.prog.filter (fun x => decide (x.1 < lo)) ++ imgProg k img ++ s.prog.filter (fun x => decide (lo + 2 ^ 19 ≤ x.1))
  let s := { s with prog := p, clusterImg := Tbl.put s.clusterImg k img [] }
  s.each (List.range 16) (fun s j =>
    let e := 16 * k + j
    let old := s.eng e
    let keep := { Engine.init with hsFault := old.hsFault, swap := old.swap, qd := old.qd, qr := old.qr, qf := old.qf,
                                   memErrLast := old.memErrLast }
    let g := if imgHas img j then { keep with codeCount := secCount img j } else keep
    if r.has e then
      let g := if imgHas img j then
          { g with finit := imgFrames img j, entry := secEntry img j, subs := (secSubs img j).map (fun c => BitVec.ofNat 8 c) }
        else g
      ((s.setEng e g).setFld (aPeLead (s.pePhys e)) 31 16 0x7FFF).restoreFrames e s.now
    else s.setEng e g)

/-- A cluster is ready for a run to begin loading (R134, R149, R161). -/
def State.clusterReady (s : State) (k : Nat) : Bool :=
  (s.grp k).st == .on && (s.grp (8 + k)).st == .on && (clusterBanks k).all (fun b => (s.bank b).st == .on)
    && (List.range 4).all (fun i => !s.bit (aAdcCtrl (4 * k + i)) 0 || (s.adcch (4 * k + i)).refbuf == .ready)

/-- An earlier accepted run that has not ended claims a cluster of this one (R30). -/
def earlierClaim (l : List Run) (r : Run) : Bool :=
  match l with
  | [] => false
  | q :: rest =>
    if q.id = r.id then false
    else (q.phase != .over && q.clusters.any (fun k => r.clusters.contains k)) || earlierClaim rest r

/-- An engine is denied its cluster in a shot that starts at a tick (R334). -/
def Run.deniedAt (r : Run) (e : Nat) (t : Tick) : Bool :=
  r.denied.any (fun d => d.1 == e / 16 && decide ((t - d.2).toInt ≥ 0))

/-- An engine starts a shot (R45). -/
def State.startEngine (s : State) (id idx : W32) (S : Tick) (e : Nat) : State :=
  let g := s.eng e
  let late := g.latches.filter (fun l => decide (sdiff l.2.stamp S.stamp ≥ 0))
  let g := { g with t := Tbl.put g.t 0 S 0, c := 0, tc := S, pc := g.entry, stack := [], latches := late, st := .running,
                    wait := none, held := none, shot := some (id, idx, S), doneTick := none, lastRel := none, shotMin := none,
                    firstLateQ := none }
  (s.setEng e g).restoreFrames e S

/-- Open range-change windows of an engine's flux and bias channels that meet a shot's start (R153). -/
def State.rangeAtStart (s : State) (h : W32 × W32 × Tick) (e : Nat) : State :=
  s.each [e, 128 + 2 * e, 129 + 2 * e] (fun s n =>
    match (s.fbch n).window with
    | none => s
    | some w => if (h.2.2 - (w.2 + 6000)).toInt < 0 then s.condIn h e .rangeChange h.2.2 else s)

/-- A swap of an engine or a Crucible of the run's clusters is under way (R87, R201): no shot and no load ends within it. -/
def State.swapBusy (s : State) (r : Run) : Bool :=
  r.clusters.any (fun k => (List.range 16).any (fun i => (s.eng (16 * k + i)).swap.isSome) ||
    (List.range 4).any (fun i => (s.cru (s.cruPhys (4 * k + i))).swap.isSome))
/-- What holds the next shot of a run back: temper level 3 holds a run that has not started, a swap completes first, and the
result buffer must have room for the largest record (R40, R87, R201, R409). -/
def State.startHeld (s : State) (r : Run) : Bool := r.executed == 0 && s.holdRuns
def State.roomFor (s : State) (r : Run) : Bool := decide (s.resReserved + r.maxRecord ≤ resSize)
/-- A PACED start that is held back moves with the time: it comes at the first tick edge at or after the instant at which
nothing holds it (R31, R40). -/
def State.slideStarts (s : State) : State :=
  { s with runs := s.runs.map (fun r => match r.nextStart with
      | none => r
      | some n =>
        if r.phase = .active ∧ r.desc.paced ∧ !r.inFlight ∧ (s.now - n).toInt ≥ 0 ∧ (s.startHeld r ∨ s.swapBusy r ∨ !s.roomFor r) then
          { r with nextStart := some (s.now + 1) }
        else r) }

/-- Start shot `executed` of a run at tick S (R32, R45, R148, R153, R207, R268, R334). -/
def State.startShot (s : State) (r : Run) (S : Tick) : State :=
  let idx := r.executed
  let entries := r.engs.map (fun e => Entry.start e (s.pePhys e))
  let stop : Option Tick := if r.desc.paced then none else some (S + r.desc.period.setWidth 64)
  let s := s.modRun r.id (fun r => { r with executed := r.executed + 1, nextStart := none,
                                            shots := r.shots ++ [⟨idx, S, stop, false, entries⟩] })
  let h := (r.id, idx, S)
  let cleared := s.fault.clearTick.isSome ||
    (match s.fault.releaseTick with | none => false | some t => decide ((S - t).toInt ≤ 0))
  let unlocked := s.castUnlocked
  let s := s.each r.engs (fun s e =>
    let s := s.rewriteProg e
    let s := if r.deniedAt e S then s.condIn h e .roleDenied S
      else if (s.eng e).hsFault then
        (s.condIn h e .engineFault S).modEntry h.1 h.2.1 e (fun x => { x with exc := 9 })
      else s.startEngine r.id idx S e
    let s := if cleared then s.condIn h e .outputCleared S else s
    let s := if unlocked then s.condIn h e .timeUnlocked S else s
    s.rangeAtStart h e)
  s.publishSys 241 S (r.id.setWidth 16)

/-- The physical engine that ran an engine's part of a shot, as its entry tells (R35, R86). -/
def State.ranOn (s : State) (id idx : W32) (e : Nat) : Nat :=
  match ((s.run? id).bind (fun r => r.shots.find? (fun h => h.index == idx))).bind (fun h => h.entries.find? (fun x => x.engine == e)) with
  | none => s.pePhys e
  | some x => x.phys.toNat
/-- An engine's part in the end of a shot at tick E (R33, R86, R104): one that has not ended overruns, or is stopped by the
fault that ends the shot; its plays stop. -/
def State.endEngine (s : State) (id idx : W32) (E : Tick) (fault : Bool) (e : Nat) : State :=
  let g := s.eng e
  match g.shot with
  | none => s
  | some h =>
    if h.1 = id ∧ h.2.1 = idx then
      let busy := g.st == .running || g.st == .waiting || g.st == .queueFull
      let s := if busy && !fault then s.raiseExc e 6 E
        else if busy then s.setEng e { g with st := .stopped, wait := none, held := none, doneTick := some E } else s
      let s := s.dropItems e E
      let p := s.ranOn id idx e
      let s := s.setFld (aPeLead p) 15 0 (match g.shotMin with | none => 0x7FFF | some m => satBits 16 m)
      let s := s.setFld (aPeLate p) 17 16
        (match g.firstLateQ with | none => 3 | some .drive => 0 | some .readout => 1 | some .fluxBias => 2)
      s.setEng e { s.eng e with shot := none }
    else s

/-- End a shot at tick E; `fault` is the condition of a fault that ends it (R32, R33, R42, R166, R207). -/
def State.endShot (s : State) (r : Run) (h : Shot) (E : Tick) (fault : Option Cond) : State :=
  let s := match fault with
    | none => s
    | some c => s.each r.engs (fun s e => s.condIn (r.id, h.index, h.start) e c E)
  let s := s.each r.engs (fun s e => s.endEngine r.id h.index E fault.isSome e)
  let s := s.each (r.clusters.flatMap (fun k => (List.range 4).map (fun i => 4 * k + i))) (fun s ch =>
    s.cutWins ch E (fun w => match w.shot with
      | none => false
      | some x => x.1 == r.id && (fault.isSome || x.2 == E)))
  let s := s.modShot r.id h.index (fun h => { h with ended := true, endTick := some E })
  let s := s.settleDues r (r.id, h.index, h.start) E
  let s := s.modRun r.id (fun r => { r with endTick := E,
                                            nextStart := if r.noMore then none
                                              else some (if r.desc.paced then E + r.desc.gap.setWidth 64 else E) })
  s.publishSys 242 E (r.id.setWidth 16)

/-- Tick at which an engine's part in a PACED shot is done, once it is (R32, R104). -/
def State.pacedDone (s : State) (e : Nat) : Option Tick :=
  let g := s.eng e
  let later := fun (a : Tick) (b : Option Tick) => match b with | none => a | some x => if (x - a).toInt > 0 then x else a
  match g.doneTick with
  | none => none
  | some d =>
    if (g.st = .ended ∨ g.st = .stopped) ∧ !s.outstanding e s.now then
      let t := later d g.lastRel
      let t := (engTones e).foldl (fun t n => match (s.tone n).lastOut with
        | some z => if (z - g.start).toInt ≥ 0 then later t (some (z + 8)) else t
        | none => t) t
      let w := s.watchTick e
      some (if (t - w).toInt > 0 then w else t)
    else none

/-- End tick of a PACED shot, once every engine of it is done (R32). -/
def State.pacedEnd (s : State) (r : Run) (h : Shot) : Option Tick :=
  r.engs.foldl (fun t e =>
    match t with
    | none => none
    | some t =>
      if (s.eng e).shot = some (r.id, h.index, h.start) then
        (s.pacedDone e).map (fun d => if (d - t).toInt > 0 then d else t)
      else some t) (some h.start)

/-- The shot of a run that is in flight. -/
def Run.current (r : Run) : Option Shot := r.shots.find? (fun h => !h.ended)

/-- Every condition and decision of a shot has been judged (R253, R463). -/
def State.shotJudged (s : State) (r : Run) (E : Tick) : Bool :=
  let before := fun (t : Tick) => decide ((t - E).toInt < 0)
  let chans := r.clusters.flatMap (fun k => (List.range 4).map (fun i => 4 * k + i))
  let adc := chans.all (fun ch =>
    let a := s.adcch ch
    a.starts.all (fun w => !before (w.stamp + BitVec.ofNat 64 (s.fld (aAdcWdly ch w.ctx.toNat) 19 0)))
      && a.wins.all (fun w =>
        !(w.classify && !w.decided && before (blockTick (w.spanEnd - 1)))
          && !(!w.opened && before w.o) && !(decide (w.nextB < w.bEnd) && before (blockTick w.nextB))))
  let strobes := r.clusters.all (fun k => [k, 8 + k].all (fun g => (s.grp g).reqs.all (fun q => !before q.tick)))
  let events := s.waiting.all (fun x => match x.1 with
    | .player _ => sdiff x.2.stamp E.stamp ≥ 0
    | .grpStrobe _ => sdiff x.2.stamp E.stamp ≥ 0
    | .adcTrig _ => sdiff x.2.stamp E.stamp ≥ 0
    | .relay _ => sdiff x.2.stamp E.stamp ≥ 0
    | _ => true)
  let links := r.desc.paced || !r.engs.any s.importer ||
    (List.range 8).all (fun p => (s.port p).st != .enabled || !s.importEn p || decide (sdiff (s.port p).conf E.stamp ≥ 0))
  let plays := r.engs.all (fun e => (engTones e).all (fun t => match (s.tone t).lastOut with
    | none => true
    | some z => decide ((z + 19 - s.now).toInt ≤ 0)))
  adc && strobes && events && links && plays

/-- A closure record of a run not ended (R43). -/
def Run.closure (r : Run) (cause : Byte) : Closure :=
  ⟨r.id, r.desc.shotCount, r.executed, r.acked, r.stop.getD (if r.cancel then 0x01 else cause)⟩
/-- Write the closure records of every run not ended (R43). -/
def State.writeClosures (s : State) (cause : Byte) : State :=
  let l := (s.runs.filter (fun r => r.phase != .over)).map (fun r => r.closure cause)
  if s.nv.holding then { s with nv := { s.nv with heldClosures := s.nv.heldClosures ++ l } }
  else { s with nv := { s.nv with closures := s.nv.closures ++ l } }

end Sys2Proof.Machine
end

