-- ==== Sys2Proof/Machine/TimeOps.lean ====
section
/-! DEFINITION. What the time commands share: the servo, the step of TB_CAST, offset samples, the offsets of TB_SYS and the
transmit timestamp queues (R257-R275). -/

namespace Sys2Proof.Machine

/-- An instant in units of 1/128 ps (R261). -/
def fineUnits (x : FineTick) : Int := x.tick.toNat * 64000 + x.fine.toNat

/-- One servo sample; `cfg` holds the gains and `maxN / maxD` is the largest rate in units of 2^-40 (R259). -/
def Servo.sample (v : Servo) (cfg : W32) (maxN maxD : Int) (theta : Int) : Servo :=
  let kp := sfieldOf cfg 15 8
  let ki := sfieldOf cfg 7 0
  let m := max 0 (max (-kp) (-ki))
  let acc := if v.clamped then v.acc else v.acc + theta
  let num := -(theta * 2 ^ (kp + m).toNat + acc * 2 ^ (ki + m).toNat)
  let den : Int := 2 ^ m.toNat
  if maxN * den < (num.natAbs : Int) * maxD then
    ⟨acc, (if num < 0 then -(ratio maxN maxD) else ratio maxN maxD), true⟩
  else ⟨acc, ratio num den, false⟩

def State.portUp (s : State) (p : Nat) : Bool := (s.port p).st == .enabled
/-- Latest TIME frame seen on a port: its unlocked flag and depth; a port that has seen none counts as unlocked. -/
def peer0 : Bool × BitVec 6 := (true, 0x3F)
def State.peer (s : State) (p : Nat) : Bool × BitVec 6 := Tbl.get s.cast.peers p peer0
/-- The backup port may take over (R266). -/
def State.backupUsable (s : State) : Bool :=
  let b := s.fld aTimCastCfg 14 12
  s.bit aTimCastCfg 15 && s.portUp b && !(s.peer b).1
/-- Depth in the cast tree (R260): a follower's is one more than that of the peer on the port in use, as its latest TIME frame
tells. -/
def State.castDepth (s : State) : BitVec 6 :=
  match s.castRole with
  | 1 => 0
  | 2 =>
    let d := (s.peer s.castPort).2
    if d = 0x3F then 0x3F else d + 1
  | _ => 0x3F

/-- Apply `f` to every value of a table, keeping its canonical form. -/
def tblMap {α : Type} [DecidableEq α] (d : α) (f : α → α) (l : Tbl α) : Tbl α :=
  l.filterMap (fun x => if f x.2 = d then none else some (x.1, f x.2))

/-- Elapsed times that the module measures in ticks keep their length over a step of `d` ticks; stamps do not move (R258,
R265). -/
def State.shiftAnchors (s : State) (d : Tick) : State :=
  { s with
    banks := tblMap Bank.init (fun x => { x with since := x.since + d }) s.banks
    groups := tblMap Group.init (fun x => { x with since := x.since + d, lastStrobe := x.lastStrobe.map (fun t => t + d),
                                                   judged := x.judged.map (fun j => (j.1 + d, j.2)) }) s.groups
    rf := tblMap RfChan.init (fun x => { x with since := x.since + d, ncoFix := x.ncoFix.map (fun f => (f.1 + d, f.2)) }) s.rf
    fb := tblMap FbChan.init (fun x =>
      { x with moves := x.moves.map (fun m => { m with start := m.start + d }), window := x.window.map (fun w => (w.1 + d, w.2 + d)),
               switchAt := x.switchAt.map (fun w => (w.1 + d, w.2)) }) s.fb
    tones := tblMap Tone.init (fun x => { x with ended := [], leaving := x.leaving.map (fun q => (q.1, q.2 + d)) }) s.tones
    fault := { s.fault with clearTick := s.fault.clearTick.map (fun t => t + d), releaseTick := s.fault.releaseTick.map (fun t => t + d) }
    adc := tblMap AdcChan.init (fun x =>
      { x with rOn := x.rOn + d, sdTick := x.sdTick + d, switched := x.switched.map (fun t => t + d) }) s.adc
    engines := tblMap Engine.init (fun x => { x with swap := x.swap.map (fun w => { w with begun := w.begun + d }) }) s.engines
    crus := tblMap Cru.init (fun x =>
      { x with stopReq := x.stopReq.map (fun t => t + d), swap := x.swap.map (fun w => (w.1 + d, w.2)) }) s.crus
    runs := s.runs.map (fun r =>
      let n := if r.desc.paced then r.nextStart.map (fun t => t + d) else r.nextStart
      { r with loadTick := r.loadTick + d, turnTick := r.turnTick.map (fun t => t + d), nextStart := n }) }

/-- Re-seed every tone at a tick (R123). -/
def State.reseedAll (s : State) (t : Tick) : State := s.each (List.range 1024) (fun s n => s.setTone n ((s.tone n).reseed t))

/-- The step of TB_CAST by minus an offset in ps (R265, R267): whole ticks to the counter, the rest to the sample-clock phase. -/
def State.castStepBy (s : State) (theta : Int) : State :=
  let n := (-theta).tdiv 500
  let d := BitVec.ofInt 64 n
  let s := { s with clock := { s.clock with cast := s.clock.cast + d, castPhase := s.clock.castPhase + (-theta - 500 * n) } }
  let s := ((s.shiftAnchors d).reseedAll s.now).setBit aTimCastStat 21 true
  let s := (s.logEvent 0x0003 1 (leBytes 8 (BitVec.ofInt 64 theta).toNat)).publishSys 245 s.now 0
  s.withCast { s.cast with st := if s.castRole = 1 then .locked else .slewing, moved := true, mayStep := false,
                           stepDue := none, acq := [], samples := [], cause := s.cast.baseCause, holdSince := none }

/-- Insert into a rising list. -/
def insertInt (x : Int) (l : List Int) : List Int :=
  match l with
  | [] => [x]
  | y :: r => if x ≤ y then x :: y :: r else y :: insertInt x r
/-- The median of a list. -/
def medianInt (l : List Int) : Int :=
  let t := l.foldr insertInt []
  let n := t.length
  if n % 2 = 1 then t.getD (n / 2) 0 else ratio (t.getD (n / 2 - 1) 0 + t.getD (n / 2) 0) 2

/-- TB_CAST may be stepped: it has not been, or a realign permits it (R258). -/
def CastSync.stepAllowed (c : CastSync) : Bool := !c.moved || c.mayStep
/-- A follower's acquisition takes one sample; with 64 it decides (R265, R266). DEDUCED: where R258 allows no step, an offset beyond
100 ps is a discontinuity, as after a holdover. -/
def CastSync.acquire (c : CastSync) (theta : Int) (hold : Bool) : CastSync :=
  let l := theta :: c.acq
  if l.length < 64 then { c with acq := l }
  else
    let m := medianInt l
    if hold then
      if m.natAbs ≤ 1000000 then { c with st := .slewing, acq := [], cause := c.baseCause, holdSince := none } else { c with acq := [], cause := 2 }
    else if m.natAbs ≤ 100 then { c with st := .slewing, acq := [] }
    else if c.stepAllowed then { c with acq := [], stepDue := some m }
    else { c with st := .holdover, acq := [], cause := 2 }

/-- An offset sample of a follower, in ps (R259, R263-R266). -/
def State.castSample (s : State) (theta : Int) : CastSync :=
  let c := { s.cast with samples := (theta :: s.cast.samples).take 64 }
  match c.st with
  | .acquiring => if c.stepDue.isSome then c else c.acquire theta false
  | .holdover => if c.cause = 2 ∨ !c.refinOk ∨ !c.pllLock then c else c.acquire theta true
  | .slewing | .locked =>
    let c := { c with servo := c.servo.sample (s.reg aTimSrvCast) (2 ^ 40) 10000000 theta }
    let sum := c.samples.sum
    let full := c.samples.length == 64
    if c.st = .slewing then
      if full && decide (sum.natAbs ≤ 20 * 64) then { c with st := .locked } else c
    else if full && decide (100 * 64 < sum.natAbs) then { c with st := .slewing } else c
  | _ => c

/-- Mean of the last samples as TIM_CAST_OFS shows it (R278). -/
def State.castOfs (s : State) : W32 :=
  if s.cast.samples.isEmpty then 0
  else BitVec.ofNat 32 (satBits 32 (ratio s.cast.samples.sum s.cast.samples.length))

/-- Entry into HOLDOVER with a cause (R266): the servo freezes and the age starts. -/
def State.enterHold (s : State) (cause : BitVec 4) : State :=
  s.withCast { s.cast with st := .holdover, cause := cause, holdSince := some (s.cast.holdSince.getD s.mono), acq := [], stepDue := none }

/-- PTP runs inside the module (R270, R271). -/
def State.ptpOn (s : State) (p domain : Nat) : Bool :=
  s.bit aTimSysCfg 0 && s.bit aTimSysCfg (10 + p) && s.fld aTimSysCfg 31 24 == domain && decide (8 ≤ s.boot.stage) && !s.boot.ingot
def State.hostMode (s : State) : Bool := s.bit aTimSysCfg 15

/-- TB_SYS in units of 2^-41 ns, and in ps. -/
def Clock.sysUnits (c : Clock) : Int := (c.sys ++ c.sysFrac ++ c.sysLow).toNat
/-- The clock with TB_SYS at a number of those units. -/
def Clock.withSys (c : Clock) (u : Int) : Clock :=
  { c with sys := BitVec.ofInt 64 (u / 2 ^ 41), sysFrac := BitVec.ofInt 16 (u / 2 ^ 25), sysLow := BitVec.ofInt 25 u }
def Clock.sysPs (c : Clock) : Int := c.sysUnits * 1000 / 2 ^ 41

/-- TB_SYS moved by minus an offset in ps (R271). -/
def Clock.sysStep (c : Clock) (theta : Int) : Clock := c.withSys (c.sysUnits - theta * 2 ^ 41 / 1000)

/-- An offset of TB_SYS in ps (R258, R271, R272): a step where one is allowed, HOLDOVER with cause discontinuity beyond 1 ms
there, else a servo sample. -/
def State.sysOffset (s : State) (theta : Int) : State :=
  let y := { s.sys with ofs := theta }
  if !y.stepped ∨ y.stepArmed then
    let s := { s with clock := s.clock.sysStep theta }
    let y := { y with stepped := true, stepArmed := false, steps := BitVec.ofNat 16 (satAdd 16 y.steps.toNat 1),
                      recent := [], st := .uncalibrated, cause := 0, holdSince := none }
    { s with sys := y }.logEvent 0x0003 2 (leBytes 8 (BitVec.ofInt 64 theta).toNat)
  else if y.st = .holdover ∧ 1000000000 < theta.natAbs then { s with sys := { y with cause := 3 } }
  else
    let l := (theta :: y.recent).take 16
    let inLock := l.length == 16 && l.all (fun x => decide (x.natAbs ≤ 50000))
    { s with sys := { y with servo := y.servo.sample (s.reg aTimSrvSys) (5 * 2 ^ 40) 10000 theta, recent := l,
                             st := if inLock then .locked else .uncalibrated, cause := 0, holdSince := none } }

/-- TB_SYS enters HOLDOVER (R272). -/
def State.sysHold (s : State) (cause : BitVec 4) : State :=
  { s with sys := { s.sys with st := .holdover, cause := cause, holdSince := some (s.sys.holdSince.getD s.mono), recent := [],
                               sync := none, dreq := none, pathDelay := none } }

/-- A transmit timestamp enters a port's queue, or is discarded and counted (R273). -/
def State.txqPush (s : State) (p : Nat) (x : TxTs) : State :=
  let l := Tbl.get s.txq p []
  if 16 ≤ l.length then (s.count (aTimTxqStat p) 31 16 1).setBit (aTimTxqStat p) 15 true
  else { s with txq := Tbl.put s.txq p (l ++ [x]) [] }

/-- A received PTP frame goes to the installer session that most recently sent RAW_TX (R320). -/
def State.rawRx (s : State) (p : Nat) (frame : List Byte) : State :=
  match s.rawSid with
  | none => s
  | some sid => s.sendMsg sid 0x79 false false 0 0 (leBytes 1 p ++ leBytes 8 s.clock.sys.toNat ++ frame)

/-- The values that the best master clock algorithm compares, in order (R270). -/
def announceOrder (m : Announce) : List Nat :=
  [m.priority1.toNat, m.clockClass.toNat, m.accuracy.toNat, m.variance.toNat, m.priority2.toNat, m.identity.toNat, m.steps.toNat]
/-- The first list precedes the second. -/
def lexLt (a b : List Nat) : Bool :=
  match a, b with
  | x :: xs, y :: ys => decide (x < y) || (x == y && lexLt xs ys)
  | [], _ :: _ => true
  | _, [] => false

/-- Best master known on a port. -/
def State.master (s : State) (p : Nat) : Option (Announce × W64) := Tbl.get s.sys.masters p none
def State.setMaster (s : State) (p : Nat) (m : Option (Announce × W64)) : State :=
  { s with sys := { s.sys with masters := Tbl.put s.sys.masters p m none } }
/-- Port with the best master (R270). -/
def State.bestPort (s : State) : Option Nat :=
  match s.master 0, s.master 1 with
  | none, none => none
  | some _, none => some 0
  | none, some _ => some 1
  | some a, some b => some (if lexLt (announceOrder b.1) (announceOrder a.1) then 1 else 0)
/-- Identity of the master followed. -/
def State.masterId (s : State) : Option W64 := (s.sys.slavePort.bind s.master).map (fun m => m.1.identity)

/-- Run the choice of master again (R270, R272): a changed master puts TB_SYS in HOLDOVER; the first makes the port SLAVE. -/
def State.chooseMaster (s : State) (old : Option W64) : State :=
  let s := { s with sys := { s.sys with slavePort := s.bestPort } }
  match old, s.masterId with
  | none, some _ =>
    if s.sys.st = .listening then { s with sys := { s.sys with st := .uncalibrated, sync := none, dreq := none, pathDelay := none } } else s
  | some a, some b => if a = b then s else s.sysHold 2
  | some _, none => s.sysHold 1
  | none, none => s

/-- TIM_SYS_CFG has been written (R270, R278): the PTP engine starts again, or stops. -/
def State.sysCfgEffect (s : State) (old : W32) : State :=
  if old = s.reg aTimSysCfg then s
  else
    let y := { s.sys with masters := [], slavePort := none, sync := none, dreq := none, pathDelay := none }
    if !s.bit aTimSysCfg 0 then { s with sys := { y with st := .disabled, cause := 0, holdSince := none, recent := [] } }
    else if y.st = .disabled then { s with sys := { y with st := .listening } }
    else if y.st = .listening then { s with sys := y }
    else { s with sys := y }.sysHold 1

/-- TIM_CAST_CFG has been written (R260, R263): a new role starts in the state that the role has. -/
def State.castCfgEffect (s : State) (old : W32) : State :=
  if fieldOf old 1 0 = s.castRole then
    if old = s.reg aTimCastCfg then s
    else
      let s := { s with cast := { s.cast with onBackup := false, acq := [], upUnlocked := (s.peer (s.fld aTimCastCfg 10 8)).1 } }
      if s.portUp s.castPort then s.castJoin s.castPort else s
  else
    let c := { s.cast with acq := [], samples := [], stepDue := none, realign := false, holdSince := none, cause := s.cast.baseCause,
                           onBackup := false, reqs := [], upUnlocked := false }
    match s.castRole with
    | 2 =>
      let s := s.withCast { c with st := .free }
      if s.portUp s.castPort then s.castJoin s.castPort else s
    | 1 => if c.pllLock then s.withCast { c with st := .adopting, adoptSince := s.mono } else s.withCast { c with st := .free }
    | _ => s.withCast { c with st := if c.pllLock then .locked else .free }

/-- A realign command (R258, R265). -/
def State.realignEffect (s : State) : State :=
  let s := { s with cast := { s.cast with realign := true } }
  if s.portUp s.castPort then s.castAcquire else s

end Sys2Proof.Machine
end

