-- ==== Sys2Proof/Machine/Time.lean ====
section
/-! DEFINITION. Events of the time bases: cast synchronisation over the Runner, PTP, transmit timestamps and the TAI second
(R257-R275). -/

namespace Sys2Proof.Machine

/-- Send a TIME request on a port (R261): t1 is the tick of its transmission, its sub-tick part what is measured there. -/
def State.timeAsk (s : State) (p : Nat) : State :=
  let (v, s) := s.draw
  let t1 : FineTick := ⟨s.now, BitVec.ofNat 16 (v.toNat % 64000)⟩
  let f : TimeFrame := ⟨false, s.cast.reqSeq, s.castDepth, s.castUnlocked, s.cast.st == .holdover, t1.tick.stamp, t1.fine, 0, 0, 0, 0⟩
  let l := s.cast.reqs.filter (fun r => decide (s.since r.2.2.2 ≤ 1000000))
  let s := { s with cast := { s.cast with reqs := (p, s.cast.reqSeq, t1, s.mono) :: l, reqSeq := s.cast.reqSeq + 1 } }
  s.emit (.frame p (frameBytes 3 0 f.body))

/-- A follower in HOLDOVER turns to its upstream port, or to a usable backup port, when that is ENABLED again (R266). -/
def State.holdPort (s : State) : State :=
  let up := s.fld aTimCastCfg 10 8
  let onBackup := !s.portUp up && s.backupUsable
  if s.cast.st = .holdover ∧ onBackup ≠ s.cast.onBackup ∧ (s.portUp up ∨ onBackup) then
    let s := { s with cast := { s.cast with onBackup := onBackup, acq := [] } }
    { s with cast := { s.cast with upUnlocked := (s.peer s.castPort).1 } }
  else s

/-- TIME_REQUEST_SEND (R261, R267): a follower asks on its upstream port, an adopting root on every ENABLED port. -/
def execTimeRequestSend (s : State) : Out :=
  .next (match s.castRole with
  | 2 =>
    let s := s.holdPort
    if s.portUp s.castPort then s.timeAsk s.castPort else s
  | 1 => if s.cast.st = .adopting then s.each ((List.range 8).filter s.portUp) State.timeAsk else s
  | _ => s)

/-- Note the TIME frame last seen on a port (R266, R268). -/
def State.noteTime (s : State) (p : Nat) (f : TimeFrame) : State :=
  let c := { s.cast with peers := Tbl.put s.cast.peers p (f.unlocked, f.depth) peer0 }
  if s.castRole = 2 ∧ p = s.castPort then s.withCast { c with upUnlocked := f.unlocked } else { s with cast := c }

/-- The reply to a TIME request that arrives in the present tick (R261): t2 is the module's own TB_CAST, and t3 its tick when the
reply leaves, some ticks later; the sub-tick parts are what is measured. -/
def State.timeReply (s : State) (f : TimeFrame) (t2 : BitVec 16) (t3 : FineTick) : TimeFrame :=
  ⟨true, f.seq, s.castDepth, s.castUnlocked, s.cast.st == .holdover, f.t1, f.t1fine, s.now.stamp, t2, s.now + t3.tick, t3.fine⟩

/-- TIME_REQUEST_RECEIVE (R260, R261): the root answers on every ENABLED port, a follower on all but its upstream one. -/
def execTimeRequestReceive (p : Fin 8) (f : FrameIn) (t2 : BitVec 16) (t3 : FineTick) (s : State) : Out :=
  .next (s.takeFrame p 3 f (fun s =>
    let f := timeOf f.body
    if s.portUp p.val ∧ !f.reply then
      let s := s.noteTime p.val f
      if s.castRole = 1 ∨ (s.castRole = 2 ∧ p.val ≠ s.castPort) then s.emit (.frame p.val (frameBytes 3 0 (s.timeReply f t2 t3).body))
      else s
    else s))

/-- The two legs of an exchange in units of 1/128 ps, t2 - t1 and t4 - t3 (R262): the 40-bit ticks are extended next to their
partners. -/
def timeLegs (f : TimeFrame) (t4 : FineTick) : Int × Int :=
  let t1 : FineTick := ⟨Tick.ofStamp t4.tick f.t1, f.t1fine⟩
  let t2 : FineTick := ⟨Tick.ofStamp f.t3 f.t2, f.t2fine⟩
  (fineUnits t2 - fineUnits t1, fineUnits t4 - fineUnits ⟨f.t3, f.t3fine⟩)
/-- Offset of an exchange in ps (R262). -/
def State.thetaOf (s : State) (p : Nat) (f : TimeFrame) (t4 : FineTick) : Int :=
  ratio ((timeLegs f t4).2 - (timeLegs f t4).1) 256 - sfieldOf (s.reg (aTimAsym p)) 15 0
/-- Delay of an exchange in ps (R262). -/
def delayOf (f : TimeFrame) (t4 : FineTick) : Int := ratio ((timeLegs f t4).1 + (timeLegs f t4).2) 256

/-- A reply has been used: its request is done, and its delay and time are noted (R262, R266). -/
def State.replySeen (s : State) (p : Nat) (f : TimeFrame) (t4 : FineTick) : State :=
  { s with cast := { s.cast with reqs := s.cast.reqs.filter (fun r => !(r.1 == p && r.2.1 == f.seq)), lastReply := s.mono,
                                 delay := delayOf f t4 } }

/-- A root in adoption takes an offset to a peer whose time is not unlocked (R267); a step is allowed under R258 only. -/
def State.adopt (s : State) (theta : Int) : State :=
  if s.cast.st = .adopting ∧ s.cast.stepDue.isNone then
    if theta.natAbs ≤ 100 then s.withCast { s.cast with st := .locked }
    else if s.cast.stepAllowed then s.withCast { s.cast with stepDue := some theta }
    else s
  else s
/-- A reply that arrives at t4 on an ENABLED port (R262-R267). -/
def State.timeAnswer (s : State) (p : Nat) (f : TimeFrame) (t4 : FineTick) : State :=
  let s := s.noteTime p f
  match s.cast.reqs.find? (fun r => r.1 == p && r.2.1 == f.seq && r.2.2.1.tick.stamp == f.t1) with
  | none => s
  | some r =>
    if 1000000 < s.since r.2.2.2 then s
    else
      let theta := s.thetaOf p f t4
      let s := s.replySeen p f t4
      match s.castRole with
      | 2 => if p = s.castPort then s.withCast (s.castSample theta) else s
      | 1 => if f.unlocked then s else s.adopt theta
      | _ => s

/-- TIME_REPLY_RECEIVE (R262-R267): a reply within 1 ms of its request gives an offset. A follower takes it as a sample; an
adopting root steps to the first peer whose time is not unlocked. -/
def execTimeReplyReceive (p : Fin 8) (f : FrameIn) (t4 : BitVec 16) (s : State) : Out :=
  .next (s.takeFrame p 3 f (fun s => if s.portUp p.val ∧ (timeOf f.body).reply then s.timeAnswer p (timeOf f.body) ⟨s.now, t4⟩ else s))

/-- CAST_STEP (R265, R267): a due step is made while no run is running. -/
def execCastStep (s : State) : Out :=
  .next (match s.cast.stepDue with
  | none => s
  | some theta => if s.runningRuns = 0 then s.castStepBy theta else s)

/-- CAST_HOLDOVER_ENTRY (R266): no reply for 10 ms, or the upstream port not ENABLED: a follower changes to a usable backup
port and slews, or enters HOLDOVER. -/
def execCastHoldoverEntry (s : State) : Out :=
  .next (let c := s.cast
  let lost := !s.portUp s.castPort || decide (10000000 < s.since c.lastReply)
  if s.castRole = 2 ∧ c.st ≠ .free ∧ c.st ≠ .holdover ∧ lost then
    if !c.onBackup ∧ s.backupUsable then
      s.withCast { c with onBackup := true, st := .slewing, acq := [], stepDue := none, lastReply := s.mono,
                          upUnlocked := (s.peer (s.fld aTimCastCfg 14 12)).1 }
    else s.enterHold (if c.baseCause = 0 then 1 else c.baseCause)
  else s)

/-- REFIN_LOST (R266, R268): the PLLs hold their frequency; a follower enters HOLDOVER. -/
def execRefinLost (s : State) : Out :=
  .next (if s.cast.refinOk then
    let s := { s with cast := { s.cast with refinOk := false, cause := 3 } }.logEvent 0x0003 3 []
    if s.castRole = 2 then s.enterHold 3 else s.withCast s.cast
  else s)

/-- PLL_UNLOCK (R266, R268). -/
def execPllUnlock (s : State) : Out :=
  .next (if s.cast.pllLock then
    let s := { s with cast := { s.cast with pllLock := false, cause := 4 } }.logEvent 0x0003 4 []
    if s.castRole = 2 then s.enterHold 4 else s.withCast s.cast
  else s)

/-- ADOPTION_WINDOW_END (R267): 50 ms without a peer to follow, and the root is LOCKED with no step. -/
def execAdoptionWindowEnd (s : State) : Out :=
  .next (if s.castRole = 1 ∧ s.cast.st = .adopting ∧ s.cast.stepDue.isNone ∧ 50000000 ≤ s.since s.cast.adoptSince then
    s.withCast { s.cast with st := .locked }
  else s)

/-- HOLD_LIMIT_EXCEEDED (R268): the holdover age has passed TIM_CAST_HOLD.limit, and shots in flight take TIME_UNLOCKED. -/
def execHoldLimitExceeded (s : State) : Out :=
  .next (match s.cast.holdSince with
  | none => s
  | some t =>
    if s.cast.st = .holdover ∧ s.fld aTimCastHold 15 0 * 1000000 < s.since t then s.condInFlight .timeUnlocked else s)

/-- PTP_SYNC (R270, R271): the SLAVE port's Sync gives an offset once the path delay is known; in host mode the frame goes to
host software. -/
def execPtpSync (p : Fin 2) (m : PtpSync) (frame : List Byte) (s : State) : Out :=
  .next (if s.ptpOn p.val m.domain.toNat then
    if s.hostMode then s.rawRx p.val frame
    else if s.sys.slavePort = some p.val then
      let s := { s with sys := { s.sys with sync := some (m.t1, m.t2, m.corr) } }
      match s.sys.pathDelay with
      | none => s
      | some d => s.sysOffset (m.t2 - m.t1 - m.corr - d)
    else s
  else s)

/-- PTP_DELAY_RESP (R270): the answer to the Delay_Req outstanding gives the path delay. -/
def execPtpDelayResp (p : Fin 2) (id : BitVec 16) (t4 corr : Int) (frame : List Byte) (s : State) : Out :=
  .next (if s.ptpOn p.val (s.fld aTimSysCfg 31 24) then
    if s.hostMode then s.rawRx p.val frame
    else
      match s.sys.dreq, s.sys.sync with
      | some d, some (t1, t2, c) =>
        if s.sys.slavePort = some p.val ∧ d.1 = id then
          { s with sys := { s.sys with dreq := none, pathDelay := some (ratio ((t2 - t1 - c) + (t4 - d.2 - corr)) 2) } }
        else s
      | _, _ => s
  else s)

/-- PTP_ANNOUNCE (R270, R272): the best master of the port is noted, and the choice of master made again. -/
def execPtpAnnounce (p : Fin 2) (m : Announce) (frame : List Byte) (s : State) : Out :=
  .next (if s.ptpOn p.val m.domain.toNat then
    if s.hostMode then s.rawRx p.val frame
    else
      let old := s.masterId
      let take : Bool := match s.master p.val with
        | none => decide (m.steps.toNat < 255)
        | some x => decide (m.steps.toNat < 255) && (x.1.identity == m.identity || lexLt (announceOrder m) (announceOrder x.1))
      if take then (s.setMaster p.val (some (m, s.mono))).chooseMaster old else s
  else s)

/-- ANNOUNCE_RECEIPT_TIMEOUT (R272): three announce intervals without the master: it is lost. -/
def execAnnounceReceiptTimeout (s : State) : Out :=
  .next (match s.sys.slavePort with
  | none => s
  | some p =>
    match s.master p with
    | none => s
    | some x =>
      let ns : Nat := if 0 ≤ x.1.logInterval then 3000000000 * 2 ^ x.1.logInterval.toNat else 3000000000 / 2 ^ (-x.1.logInterval).toNat
      if ns ≤ s.since x.2 then
        let s := (s.setMaster p none).sysHold 1
        { s with sys := { s.sys with slavePort := s.bestPort } }
      else s)

/-- DELAY_REQ_SEND (R270, R273): the engine's Delay_Req; its timestamp passes through the transmit queue, and is lost where the
queue is full. -/
def execDelayReqSend (p : Fin 2) (s : State) : Out :=
  .next (if s.ptpOn p.val (s.fld aTimSysCfg 31 24) ∧ !s.hostMode ∧ s.sys.slavePort = some p.val then
    let id := s.sys.dreqId
    let isFull := decide (16 ≤ (Tbl.get s.txq p.val []).length)
    let s := if isFull then s.txqPush p.val ⟨id, 1, s.clock.sys⟩ else s
    let s := { s with sys := { s.sys with dreqId := id + 1, dreq := if isFull then none else some (id, s.clock.sysPs) } }
    s.emit (.delayReq p.val id)
  else s)

/-- TAI_SECOND_BOUNDARY (R275, R207): TIM_CORR takes the second, the tick that contains the boundary and the place in it, and
channel 246 marks it. -/
def execTaiSecondBoundary (s : State) : Out :=
  .next (let sec := s.clock.sys.toNat / 1000000000
  if s.clock.sys.toNat % 1000000000 = 0 ∧ sec ≠ 0 ∧ BitVec.ofNat 32 sec ≠ s.reg aTimCorrSec then
    let ago := (s.clock.sysFrac ++ s.clock.sysLow).toNat * 1000 / 2 ^ 41
    let back := ceilDiv ago 500
    let fine := back * 500 - ago
    let tick := s.now - BitVec.ofNat 64 back
    let inLock := s.sys.st == .locked
    let s := s.setReg aTimCorrSec (BitVec.ofNat 32 sec)
    let s := (s.setReg aTimCorrTlo (tick.setWidth 32)).setReg aTimCorrThi ((tick >>> 32).setWidth 32)
    let s := s.setReg aTimCorrFine (BitVec.ofNat 32 (fine + (if inLock then 2 ^ 31 else 0)))
    s.publishSys 246 (if fine < 250 then tick else tick + 1) (BitVec.ofNat 16 sec)
  else s)

/-- A frame with a residence time leaves on the other port of the chain (R274, R304). -/
def State.chainOut (s : State) (p : Nat) (f : EthFrame) : State :=
  match f.ptpEvent with
  | none => s.emit (.forward (1 - p) f.bytes none)
  | some r =>
    if f.v6 && !f.padded then (s.count aTimTcStat 15 0 1).emit (.forward (1 - p) f.bytes none)
    else (s.count aTimTcStat 31 16 1).emit (.forward (1 - p) f.bytes (some (ratio (r * (2 ^ 40 + s.sys.servo.rate)) (2 ^ 40))))

/-- MAC address of a port, as NET_MAC shows it (R327). -/
def State.portMac (s : State) (p : Nat) : BitVec 48 := (s.reg (aNetMacHi p)).setWidth 16 ++ s.reg (aNetMacLo p)
/-- CHAIN_FORWARD (R274, R304): a frame addressed to neither port leaves on the other one, a PTP event message with its
residence time added. -/
def execChainForward (p : Fin 2) (f : EthFrame) (s : State) : Out :=
  .next (if s.bit aTimSysCfg 14 ∧ 8 ≤ s.boot.stage ∧ !s.boot.ingot ∧ f.dst ≠ s.portMac 0 ∧ f.dst ≠ s.portMac 1 then s.chainOut p.val f
  else s)

end Sys2Proof.Machine
end

