-- ==== Sys2Proof/Machine/NetOps.lean ====
section
/-! DEFINITION. What the host interface's events share: ports, the loss of sessions, acknowledgements, delivery in order, and
resending (R302-R316). -/

namespace Sys2Proof.Machine

/-- A NET port serves frames: from stage 8 with its enable set; in ingot mode NET0 alone (R304, R326, R327, R420, R426). -/
def State.netOpen (s : State) (p : Nat) : Bool :=
  if s.boot.ingot then p == 0 && s.boot.stop.isNone else decide (8 ≤ s.boot.stage) && s.bit (aNetPortCfg p) 0

/-- `a` is at or before `b` in the order of sequence numbers (R277, R311). -/
def seqLe (a b : W32) : Bool := decide ((a - b).toInt ≤ 0)

/-- A session is closed or lost (R306, R312, R314, R333): it is logged with its cause; its uploads fail, its unacknowledged
replies go, and its results wait in the buffer. -/
def State.endSession (s : State) (sid : W32) : State :=
  match s.sess? sid with
  | none => s
  | some x =>
    let s := s.each (s.segs.filter (fun g => g.2.uploading && g.2.owner == sid)) (fun s g => s.failUpload g.1 false)
    let gone := s.images.filter (fun i => !i.2.done && i.2.owner == sid)
    { s with
      images := s.images.filter (fun i => i.2.done || i.2.owner != sid)
      checks := s.checks.filter (fun c => !gone.any (fun i => i.1 + 2 ^ 20 == c.1))
      results := s.results.map (fun r => match r.sent with
        | none => r
        | some y => if y.1 = sid then { r with sent := none } else r)
      reports := s.reports.filter (fun r => r.sid != x.id)
      rawSid := if s.rawSid = some sid then none else s.rawSid
      sessions := s.sessions.filter (fun y => y.id != sid) }
def State.loseSession (s : State) (sid : W32) (cause : Byte) : State :=
  match s.sess? sid with
  | none => s
  | some x => (s.logAs x.role.code x.id (keyWord x.keyId) 0x0006 [cause]).endSession sid

/-- A session whose packet numbers are spent in the module's own direction is closed (R306). -/
def State.closeSpent (s : State) : State :=
  s.each ((s.sessions.filter (fun x => decide (2 ^ 40 ≤ x.txPkt))).map (fun x => x.id)) (fun s id => s.loseSession id 4)

/-- Records whose transactions a cumulative acknowledgement covers are acknowledged, and leave the result buffer (R39, R324);
the run's acknowledged prefix grows (R43). -/
def State.ackResults (s : State) (sid ack : W32) : State :=
  let covered := fun (r : ResRec) => match r.sent with
    | none => false
    | some y => y.1 == sid && seqLe y.2 ack
  let s := s.each (s.results.filter covered) (fun s r => match r.shot with
    | none => s
    | some i => s.modRun r.run (fun q => { q with acked := i + 1 }))
  { s with results := s.results.filter (fun r => !covered r) }

/-- Acknowledge a session's transactions up to `ack`, with what `sack` shows received (R311, R312). -/
def State.ackUpTo (s : State) (sid ack : W32) (sack : BitVec 16) : State :=
  match s.sess? sid with
  | none => s
  | some x =>
    if seqLe x.txSeq ack then s
    else
      let mark := fun (t : TxTr) =>
        let i := (t.seq - ack).toNat
        if 2 ≤ i ∧ i < 18 ∧ sack.getLsbD (i - 2) then { t with sacked := true } else t
      (s.modSess sid (fun x => { x with unacked := (x.unacked.filter (fun t => !seqLe t.seq ack)).map mark })).ackResults sid ack

/-- Resend one transaction (R312, R316): the interval to the next resend doubles, up to 100 ms. -/
def State.resendOne (s : State) (sid seq : W32) : State :=
  match (s.sess? sid).bind (fun x => x.unacked.find? (fun t => t.seq == seq)) with
  | none => s
  | some t =>
    let t' := { t with sentAt := s.mono, interval := min (2 * t.interval) 100000000, resends := t.resends + 1 }
    (s.modSess sid (fun x => { x with txPkt := x.txPkt + 1, ackDue := none,
                                      unacked := x.unacked.map (fun u => if u.seq == seq then t' else u) })).emit (.trans sid t')

/-- Request types that a host may send (R320). -/
def requestTypes : List Byte :=
  [0x03, 0x04, 0x10, 0x11, 0x20, 0x21, 0x22, 0x23, 0x24, 0x25, 0x30, 0x31, 0x32, 0x33, 0x34, 0x35, 0x36, 0x60, 0x61, 0x62, 0x63,
   0x70, 0x71, 0x78]

/-- Deliver one transaction: the parts of a continued message wait for its last; one over 1 MiB is marked so (R310). -/
def Session.deliver (x : Session) (t : RxTr) : Session :=
  let x := { x with ack := t.seq }
  if t.continued then { x with parts := x.parts ++ [t] }
  else
    let c := (x.parts ++ [t]).flatMap (fun p => p.content)
    let big := decide (1048576 < c.length)
    { x with parts := [], inbox := x.inbox ++ [⟨t.seq, t.msgType, big, if big then [] else c⟩] }
/-- Deliver every held arrival that is next in order (R311). -/
def Session.drain (fuel : Nat) (x : Session) : Session :=
  match fuel with
  | 0 => x
  | n + 1 => match x.heldTr.find? (fun t => t.seq == nextSeq x.ack) with
    | none => x
    | some t => ({ x with heldTr := x.heldTr.filter (fun u => u.seq != t.seq) }.deliver t).drain n

/-- Refuse what stands in the inbox with a type that no message has. -/
def State.refuseUnknown (s : State) (sid : W32) : State :=
  match s.sess? sid with
  | none => s
  | some x =>
    let bad := x.inbox.filter (fun t => !requestTypes.contains t.msgType)
    let s := s.modSess sid (fun x => { x with inbox := x.inbox.filter (fun t => requestTypes.contains t.msgType) })
    s.each bad (fun s t => s.reply sid t.seq t.msgType .range noDetail.bytes)

/-- A sequenced transaction whose check has passed (R311, R313): one already delivered is answered with the stored reply; one
in the window is held and delivered in order. -/
def State.receiveTr (s : State) (x : Session) (t : RxTr) : State :=
  if seqLe t.seq x.ack then
    let s := s.modSess x.id (fun x => { x with ackDue := some (x.ackDue.getD s.mono) })
    match x.replies.find? (fun r => r.ref == t.seq) with
    | none => s
    | some r => s.sendMsg x.id r.msgType true false r.ref r.status r.content
  else if 1024 < (t.seq - x.ack).toNat then { s with lateArrivals := s.lateArrivals + 1 }
  else
    let up := fun (x : Session) =>
      let x := if x.heldTr.any (fun u => u.seq == t.seq) then x else { x with heldTr := x.heldTr ++ [t] }
      { x.drain (x.heldTr.length + 1) with ackDue := some (x.ackDue.getD s.mono) }
    (s.modSess x.id up).refuseUnknown x.id

/-- The sack bits of a session's receive side (R307). -/
def Session.sack (x : Session) : BitVec 16 :=
  (List.range 16).foldl (fun b i => if x.heldTr.any (fun t => t.seq == x.ack + 2 + BitVec.ofNat 32 i) then b ||| (1#16 <<< i) else b) 0

end Sys2Proof.Machine
end

