-- ==== Sys2Proof/Machine/SecOps.lean ====
section
/-! DEFINITION. Fuse rows, credentials, NV records, firmware images and digests: what the Flask's commands share (R329-R353,
R371-R376). -/

namespace Sys2Proof.Machine

/-- A 256-bit hash held in eight 32-bit words (R372). -/
def fuseHash (t : Tbl W64) (cls key : Nat) : Option (BitVec 256) :=
  (List.range 8).foldr (fun i a => match a, fuseRec t cls (key + i) with
    | some v, some d => some (v ||| (d.setWidth 256 <<< (32 * i)))
    | _, _ => none) (some 0)

/-- Slots of a role (R331). -/
def Role.slots : Role → Nat
  | .operator => 32
  | .installer => 8
  | .maker => 4
def State.cred (s : State) (r : Role) (i : Nat) : Cred := Tbl.get s.creds (r.code.toNat * 64 + i) Cred.init
/-- Key identifier: SHA-256 of the public key (R331). -/
def Cred.keyId (c : Cred) : BitVec 256 := Config.sha256 (leBytes 64 c.key.toNat)
/-- The active slot of a role that a key identifier names (R340). -/
def State.slotOf (s : State) (r : Role) (k : BitVec 256) : Option Nat :=
  (List.range r.slots).find? (fun i => (s.cred r i).active && (s.cred r i).keyId == k)
def roleOf (b : Byte) : Option Role := if b = 0 then some .operator else if b = 1 then some .installer else if b = 2 then some .maker else none
/-- Active slots of a role. -/
def State.activeKeys (s : State) (r : Role) : Nat := ((List.range r.slots).filter (fun i => (s.cred r i).active)).length

/-- Flask state (FLK_STAT.state): self-test in stage 1, fault after cause 0x11 or a Flask state fault, else ready (R353, R428). -/
def State.flaskState (s : State) : Nat :=
  if (s.fault.fatalDomain = 0xFE ∧ (s.boot.stop.isSome ∨ s.boot.ingot)) ∨ (s.boot.ingot ∧ s.boot.lastFail = 0x11) then 2 else if s.boot.stage = 1 then 0 else 1

/-- Record of an NV class and index, as stored. -/
def nvKey (cls idx : Nat) : Nat := cls * 65536 + idx
def State.nvGet (s : State) (cls idx : Nat) : List Byte := Tbl.get s.nv.recs (nvKey cls idx) []
def State.nvPut (s : State) (cls idx : Nat) (r : List Byte) : State :=
  { s with nv := { s.nv with recs := Tbl.put s.nv.recs (nvKey cls idx) r [] } }
/-- Records of a range of classes, in order of class and index. -/
def State.nvRange (s : State) (lo hi : Nat) : List Byte :=
  (s.nv.recs.filter (fun x => decide (nvKey lo 0 ≤ x.1) && decide (x.1 < nvKey (hi + 1) 0))).flatMap (fun x => x.2)

/-- Bytes 0-251 of a record carry the CRC-32C of bytes 252-255 (R246, R331, R376). -/
def recCheck (r : List Byte) : Bool := r.length == 256 && crc32c (slice r 0 252) == leNat (slice r 252 4)
/-- Bytes of a record that must be 0. -/
def zeroBytes (r : List Byte) (o n : Nat) : Bool := (slice r o n).all (fun b => b == 0)

/-- A credential record whose fields lie in range (R331, R332). -/
def credRecOk (r : List Byte) : Bool :=
  recCheck r && leNat (slice r 0 4) == 0x4443524B && decide (leNat (slice r 4 1) ≤ 1) && zeroBytes r 6 2 && zeroBytes r 104 148
def credOfRec (r : List Byte) : Cred :=
  ⟨leNat (slice r 4 1) == 1, BitVec.ofNat 8 (leNat (slice r 5 1)), BitVec.ofNat 512 (leNat (slice r 8 64)),
    BitVec.ofNat 256 (leNat (slice r 72 32))⟩

/-- Registers that a saved-configuration class lists (R376). -/
def savedClassHas (cls a : Nat) : Bool :=
  match findReg a with
  | none => false
  | some f =>
    let inst := f.row.role == some .installer
    match cls with
    | 0x0300 => inst && a / 0x10000 == 6
    | 0x0301 => inst && a / 0x10000 == 3
    | 0x0302 => inst && a / 0x10000 == 4
    | 0x0303 => inst && a / 0x10000 == 5
    | 0x0305 => [RegId.rfCtrl, .flxClr, .biaClr, .grpCtrl, .adcCtrl].contains f.row.id
    | 0x0306 => [RegId.capTrig, .capGrpExpLo, .capGrpExpHi, .timCastHold].contains f.row.id
    | 0x0307 => [RegId.tgain, .eqTap, .calRtt, .demPhs].contains f.row.id
    | _ => false
/-- Address and value pairs of a saved-configuration record (R376). -/
def savedPairs (r : List Byte) : List (Nat × W32) :=
  (List.range (leNat (slice r 2 1))).map (fun i => (leNat (slice r (4 + 8 * i) 4), BitVec.ofNat 32 (leNat (slice r (8 + 8 * i) 4))))
/-- The layout and check of a saved-configuration record hold (R376). -/
def savedLayout (r : List Byte) : Bool :=
  recCheck r && leNat (slice r 0 2) == 0x4643 && decide (leNat (slice r 2 1) ≤ 30) && zeroBytes r 3 1 && zeroBytes r 244 8
def savedOk (cls : Nat) (r : List Byte) : Bool := savedLayout r && (savedPairs r).all (fun p => savedClassHas cls p.1)

/-- Signed byte. -/
def sByte (b : Byte) : Int := b.toInt
/-- An equalisation record whose fields lie in range (R241). -/
def eqRecOk (idx : Nat) (r : List Byte) : Bool :=
  let lane := fun (l : Nat) =>
    let o := 16 + 16 * l
    let b := fun i => (r.getD (o + i) 0)
    decide ((b 0).toNat ≤ 15) && decide ((b 1).toNat ≤ 31) && decide ((b 0).toNat + (b 1).toNat ≤ 24) && decide ((b 2).toNat ≤ 15)
      && decide ((b 3).toNat ≤ 7) && decide (-32 ≤ sByte (b 4)) && decide (sByte (b 4) ≤ 31)
      && [5, 6, 7, 8].all (fun i => decide (-16 ≤ sByte (b i)) && decide (sByte (b i) ≤ 15)) && zeroBytes r (o + 9) 7
  recCheck r && leNat (slice r 0 4) == 0x51454E52 && leNat (slice r 4 2) == 1 && leNat (slice r 6 1) == idx && decide (idx < 8)
    && decide ((r.getD 7 0).toNat ≤ 15) && zeroBytes r 10 2 && (List.range 9).all lane && zeroBytes r 160 92
/-- An accepted equalisation record: its generation is set by the module, and its check with it (R241). -/
def eqStamp (old r : List Byte) : List Byte :=
  let g := (leNat (slice old 12 4) + 1) % 2 ^ 32
  let r := slice r 0 12 ++ leBytes 4 g ++ slice r 16 236
  r ++ leBytes 4 (crc32c r)

/-- Slot in force of an image kind, and the image of a slot as held (R344): one never written is the factory's. -/
def State.fwActive (s : State) (kind : Nat) : Nat := Tbl.get s.fw.active kind 0
def fwFactory (n : Nat) : FwImage := ⟨Config.factorySha n, Config.factorySvn n, true, []⟩
def State.fwImage (s : State) (kind slot : Nat) : FwImage :=
  match s.fw.images.find? (fun x => x.1 == kind * 2 + slot) with
  | none => fwFactory (kind * 2 + slot)
  | some x => x.2
/-- Anti-rollback counter `i` (R345). -/
def State.arcOf (s : State) (i : Nat) : W32 := Tbl.get s.arc i 0
/-- The staged bytes of an image of a length: records in order of index (R344). -/
def State.stagedBytes (s : State) (len : Nat) : List Byte :=
  ((List.range (ceilDiv len 256)).flatMap (fun i => (Tbl.get s.fw.staged i [] ++ List.replicate 256 0).take 256)).take len

/-- A staged image is valid for its kind (R342, R343). -/
def State.imageValid (s : State) (kind : Nat) (b : List Byte) : Bool :=
  let slot := leNat (slice b 5 1)
  let payload := b.drop 29920
  let key := BitVec.ofNat 512 (leNat (slice b 64 64))
  leNat (slice b 0 4) == 0x4D57464B && leNat (slice b 4 1) == kind && decide (slot < 4) && leNat (slice b 6 2) == 1
    && leNat (slice b 12 4) == payload.length && (kind != 2 || payload.length == 81920)
    && fuseHash s.fuseShadow 0x03 (slot * 8) == some (Config.sha256 (leBytes 64 key.toNat))
    && fuseRec s.fuseShadow 0x04 slot != some 0x5245564B
    && Config.sigOk key (Config.sha256 (slice b 0 128)) (slice b 128 29792)
    && hashBytes (Config.sha256 payload) == slice b 16 32 && leNat (slice b 48 2) == 0x4B04 && zeroBytes b 50 14
    && decide ((s.arcOf (kind - 1)).toNat ≤ leNat (slice b 8 4))
def imageSvn (b : List Byte) : W32 := BitVec.ofNat 32 (leNat (slice b 8 4))

/-- Class 0x0008 detail (R350). -/
def imageDetail (action kind : Nat) (svn : W32) (sha : BitVec 256) (result : Nat) : List Byte :=
  leBytes 1 action ++ leBytes 1 kind ++ leBytes 4 svn.toNat ++ hashBytes sha ++ leBytes 1 result

/-- A privileged change whose log entries have several classes (R348). -/
def State.privilegedL (s : State) (x : Session) (l : List (BitVec 16 × List Byte)) (k : State → Answer) : Answer :=
  if !s.nvWindow then .refuse .state noDetail
  else if s.logTaken + l.length > 1000 then .failed (s.count aFlkCnt 15 8 1) .rate noDetail
  else k (s.each l (fun s e => s.logNow x e.1 0 e.2))

/-- A refusal of a privileged kind of request, logged with the refused flag (R348). -/
def State.refusePriv (s : State) (x : Session) (cls : BitVec 16) (detail : List Byte) (st : Status) : Answer :=
  .failed (s.logRefused x cls detail) st noDetail

/-- Class 0x0003 and 0x0004 detail (R350). -/
def credDetail (cls idx : Nat) (c : Cred) : List Byte :=
  leBytes 2 cls ++ leBytes 2 idx ++ hashBytes c.keyId ++ [c.mask]

/-- A credential's key is withdrawn (R333): its sessions close, its runs stop. -/
def State.withdraw (s : State) (k : BitVec 256) : State :=
  let s := s.each ((s.sessions.filter (fun x => x.keyId == k)).map (fun x => x.id)) (fun s id => s.loseSession id 3)
  s.each ((s.runs.filter (fun r => r.cred == k && r.phase != .over)).map (fun r => r.id)) (fun s id => s.stopRun 0x07 id)

/-- Clusters taken from a credential's mask are denied to its runs from the write's latch plus 24 ticks (R334). -/
def State.denyClusters (s : State) (k : BitVec 256) (old new : Byte) : State :=
  let gone := (List.range 8).filter (fun i => old.getLsbD i && !new.getLsbD i)
  { s with runs := s.runs.map (fun r =>
      if r.cred == k && r.phase != .over then { r with denied := r.denied ++ gone.map (fun i => (i, s.now + 24)) } else r) }

/-- Role that a credential class belongs to (R331). -/
def credRole (cls : Nat) : Role := if cls = 0x0101 then .operator else if cls = 0x0102 then .installer else .maker

/-- A credential record is written (R331-R334, R348). -/
def State.writeCred (s : State) (x : Session) (cls idx : Nat) (r : List Byte) : Answer :=
  let role := credRole cls
  let c := credOfRec r
  let old := s.cred role idx
  let taken := [Role.operator, .installer, .maker].any (fun q =>
    (List.range q.slots).any (fun i => !(q == role && i == idx) && (s.cred q i).active && (s.cred q i).key == c.key))
  let s' := { s with creds := Tbl.put s.creds (role.code.toNat * 64 + idx) c Cred.init }
  if role.slots ≤ idx ∨ !credRecOk r ∨ (c.active && taken) ∨ s'.activeKeys .maker = 0 then s.refusePriv x 0x0003 (credDetail cls idx c) .range
  else
    let drops := old.active && !(c.active && c.key == old.key)
    let adds := c.active && !(old.active && c.key == old.key)
    let l := (if drops then [((0x0004 : BitVec 16), credDetail cls idx old)] else [])
      ++ (if adds then [((0x0003 : BitVec 16), credDetail cls idx c)] else [])
    let l := if l.isEmpty then [((0x0002 : BitVec 16), leBytes 2 cls ++ leBytes 2 idx ++ hashBytes (Config.sha256 r))] else l
    s.privilegedL x l (fun s =>
      let s := { s with creds := Tbl.put s.creds (role.code.toNat * 64 + idx) c Cred.init }.nvPut cls idx r
      let s := if drops then s.withdraw old.keyId else if role == .operator && old.active then s.denyClusters old.keyId old.mask c.mask else s
      .done s [])

/-- Bytes of the device certificate: the fields that the manual fixes, and the others as built (R330). -/
def certByte (s : State) (i : Nat) : Byte :=
  let head := leBytes 4 0x43524B42 ++ leBytes 2 1 ++ leBytes 2 0 ++ leBytes 8 s.serial.toNat ++ leBytes 4 (s.reg aMldIdent).toNat ++ leBytes 4 0
  if i < 24 then head.getD i 0
  else if 32 ≤ i ∧ i < 96 then ((Config.idPub ((i - 32) / 4)) >>> (8 * ((i - 32) % 4))).setWidth 8
  else if 128 ≤ i ∧ i < 416 then 0
  else Config.certByte i
/-- Record of a class and index as NV_READ returns it (R320, R330, R336). -/
def State.nvRead? (s : State) (cls idx : Nat) : Option (List Byte) :=
  if cls = 0x0100 then
    if idx < 118 then some ((List.range 256).map (fun i => certByte s (256 * idx + i))) else none
  else if cls = 0x0200 then (s.fw.staged.find? (fun x => x.1 == idx)).map (fun x => x.2)
  else (s.nv.recs.find? (fun x => x.1 == nvKey cls idx)).map (fun x => x.2)

/-- Bytes of a log entry (R349). -/
def LogEntry.bytes (e : LogEntry) : List Byte :=
  logBytes e.number ⟨e.cls, e.role, e.flags, e.tai, e.mono, e.session, e.keyId, e.detail⟩ ++ hashBytes e.prev ++ hashBytes e.hash

/-- Bytes 0-471 of an attestation report (R346, R347). While a Moulder patch set is being installed the standby runs it (R415). -/
def State.reportBytes (s : State) (challenge : BitVec 256) : List Byte :=
  let sha := fun (k slot : Nat) => hashBytes (s.fwImage k slot).sha
  let m := s.fwActive 1
  let standby := match s.fw.install with
    | some (1, _) => 1 - m
    | _ => m
  let rows := ((List.range 4096).map (fuseRowOf s.fuses)).filter fuseValid
  leBytes 4 0x54414B42 ++ leBytes 2 1 ++ leBytes 2 (if s.boot.ingot then 1 else 0) ++ leBytes 4 (s.reg aMldIdent).toNat
    ++ leBytes 8 s.serial.toNat ++ leBytes 4 Config.moduleId.toNat ++ leBytes 8 s.clock.sys.toNat ++ leBytes 8 s.mono.toNat
    ++ leBytes 4 s.boot.starts.toNat ++ leBytes 4 0 ++ hashBytes challenge ++ sha 1 m ++ sha 1 standby ++ sha 2 (s.fwActive 2) ++ sha 3 (s.fwActive 3)
    ++ hashBytes (Config.sha256 (rows.flatMap (fun w => leBytes 8 w.toNat)))
    ++ hashBytes (Config.sha256 (s.nvRange 0x0300 0x0307)) ++ hashBytes (Config.sha256 (s.nvRange 0x0101 0x0103))
    ++ (List.range 16).flatMap (fun i => leBytes 4 (s.arcOf i).toNat) ++ leBytes 4 s.log.num.toNat ++ leBytes 4 0 ++ hashBytes s.log.head
    ++ (List.range 16).flatMap (fun i => leBytes 4 (Config.idPub i).toNat)

end Sys2Proof.Machine
end

