-- ==== Sys2Proof/Machine/CmkOps.lean ====
section
/-! DEFINITION. The Coremaker's calibration set: what its words and its events share (R364-R377). -/

namespace Sys2Proof.Machine

/-- Clusters and kind of a calibration target (R364, R367): cluster, and whether it is a readout ADC target. -/
def calTarget (a : Nat) : Option (RegId × List Nat × Nat × Bool) :=
  match findReg a with
  | none => none
  | some f =>
    let i := f.idx.headD 0
    match f.row.id with
    | .tgain => some (.tgain, f.idx, chanCluster i, false)
    | .eqTap => some (.eqTap, f.idx, chanCluster i, false)
    | .calRtt => some (.calRtt, f.idx, i / 4, true)
    | .demPhs => some (.demPhs, f.idx, i / 4, true)
    | _ => none

/-- A calibration value is put in force (R365): of a CSR it takes the fields that the quantity has, RO to every session as they may be. -/
def State.calPut (s : State) (p : W32 × W32) : State :=
  let a := p.1.toNat
  if 2 ^ 31 ≤ a then s.setTrim a p.2
  else match calTarget a with
    | none => s
    | some (.tgain, _) => s.setFld a 15 0 (fieldOf p.2 15 0)
    | some (.eqTap, _) => s.setFld a 17 0 (fieldOf p.2 17 0)
    | some (.calRtt, _) => s.setFld a 23 0 (fieldOf p.2 23 0)
    | some _ => s.setReg a p.2
/-- Value that an address holds once a set is in force. -/
def State.withSet (s : State) (l : List (W32 × W32)) (a : Nat) : W32 :=
  match (l.filter (fun p => p.1.toNat == a)).getLast? with
  | some p => p.2
  | none => s.reg a

/-- A pair of a set lies in the plausible range of its quantity (R366). -/
def State.plausible (s : State) (l : List (W32 × W32)) (p : W32 × W32) : Bool :=
  let a := p.1.toNat
  let v := p.2.toNat
  if 2 ^ 31 ≤ a then Config.trimOk p.1 p.2
  else match calTarget a with
    | some (.tgain, _, _, _) =>
      let o := fieldOf (s.reg a) 15 0
      decide (v < 2 ^ 16) && decide (v ^ 20 ≤ 10 * o ^ 20) && decide (o ^ 20 ≤ 10 * v ^ 20)
    | some (.eqTap, _, _, _) =>
      let base := a - a % 0x40
      let taps := (List.range 16).map (fun k => sfieldOf (s.withSet l (base + 4 * k)) 17 0)
      decide (v < 2 ^ 18) && eqGainOk taps && decide ((sfieldOf p.2 17 0 - sfieldOf (s.reg a) 17 0).natAbs ≤ 6553)
    | some (.calRtt, idx, _, _) =>
      decide (1000 ≤ v) && decide (v ≤ 2000000)
        && (Config.cablesChanged (idx.headD 0) || decide (((v : Int) - (fieldOf (s.reg a) 23 0 : Nat)).natAbs ≤ 1000))
    | some (.demPhs, _, _, _) => decide ((p.2 - s.reg a).toInt.natAbs ≤ 2 ^ 30)
    | _ => false

/-- A set passes: every pair is plausible; the first that is not (R366). -/
def State.setFault (s : State) (l : List (W32 × W32)) : Option (W32 × W32) := l.find? (fun p => !s.plausible l p)

/-- Acceptance bit of a routine in CAL_CFG.auto (R367, R377). -/
def State.calAuto (s : State) (r : Byte) : Bool :=
  match r.toNat with
  | 0x10 => s.bit aCalCfg 0
  | 0x11 => s.bit aCalCfg 1
  | 0x12 => s.bit aCalCfg 2
  | _ => true

/-- A tick is no tick within a shot of a run that has claimed a cluster, or the start tick of one (R367). -/
def State.shotEdge (s : State) (k : Nat) (t : Tick) : Bool :=
  !s.claimedRunning k || s.runs.any (fun r => r.running && r.clusters.contains k && r.shots.any (fun h => h.start == t))
/-- A tick may be the commit tick as far as a target goes (R367): of the trims, those of an RF channel's skew lie in its cluster, those
of a sub-converter on a readout ADC channel, and those of a flux or bias group wait until its cluster is not claimed. -/
def State.calTickOk (s : State) (p : W32 × W32) (t : Tick) : Bool :=
  let adc := fun (ch : Nat) => s.shotEdge (ch / 4 % 8) t && (s.adcch (ch % 32)).quiet t
  if 2 ^ 31 ≤ p.1.toNat then
    (match Config.trimRf p.1 with | none => true | some ch => s.shotEdge (chanCluster (ch % 96)) t)
      && (match Config.trimSub p.1 with | none => true | some x => adc x.1)
      && (match Config.trimGroup p.1 with | none => true | some g => !s.claimed (g % 8))
  else match calTarget p.1.toNat with
    | none => true
    | some (_, idx, k, isAdc) => if isAdc then adc (idx.headD 0) else s.shotEdge k t

/-- Committed calibration as pairs, from its NV records (R368, R376). -/
def State.calPairs (s : State) : List (Nat × W32) :=
  (s.nv.recs.filter (fun x => decide (nvKey 0x0307 0 ≤ x.1) && decide (x.1 < nvKey 0x0308 0))).flatMap (fun x => savedPairs x.2)
/-- A saved-configuration record of some pairs (R376). -/
def savedRecord (l : List (Nat × W32)) : List Byte :=
  let b := leBytes 2 0x4643 ++ leBytes 1 l.length ++ [0] ++ l.flatMap (fun p => leBytes 4 p.1 ++ leBytes 4 p.2.toNat)
  let b := (b ++ List.replicate 252 0).take 252
  b ++ leBytes 4 (crc32c b)
/-- Write committed values into class 0x0307, 30 to a record, one for each address (R368). -/
def State.calSave (s : State) (l : List (W32 × W32)) : State :=
  let new : Tbl W32 := l.foldl (fun t p => Tbl.insert t p.1.toNat p.2) (s.calPairs.foldl (fun t p => Tbl.insert t p.1 p.2) [])
  let recs := (chunksOf (new.length + 1) 30 new).map savedRecord
  s.each recs.zipIdx (fun s r => s.nvPut 0x0307 r.2 r.1)

/-- A refused or discarded set (R366, R367): counted and logged. -/
def State.calRefuse (s : State) (r : Byte) (p : W32 × W32) : State :=
  let s := (s.count aCalStat 23 16 1).logEvent 0x0008 1 ([r] ++ leBytes 4 p.1.toNat ++ leBytes 4 p.2.toNat)
  { s with cmk := { s.cmk with setSt := .none, sub := none } }

/-- CAL_ACCEPT has been written (R367, R377). -/
def State.calAcceptEffect (s : State) (v : W32) : State :=
  if s.cmk.setSt ≠ .awaitAccept then s
  else if v.getLsbD 1 then { s with cmk := { s.cmk with setSt := .none, sub := none } }
  else if v.getLsbD 0 then
    { s with cmk := { s.cmk with setSt := .awaitTick, sub := s.cmk.sub.map (fun x => (x.1, x.2.1, x.2.2.1, s.now + 2000)) } }
  else s

end Sys2Proof.Machine
end

