-- ==== Sys2Proof/Machine/CryOps.lean ====
section
/-! DEFINITION. The thermometry scan and the ratiometric outputs: what the writes of the CRY_ registers and the front end's
events share (R379-R389). -/

namespace Sys2Proof.Machine

/-- Channel status codes (R382): DISABLED 0, PENDING 1, VALID 2, OPEN 3, OVERRANGE 4. -/
def State.cryStatus (s : State) (n : Nat) : Nat := s.fld (aCryCst n) 2 0
/-- The scan runs, and a channel is in it (R381). -/
def State.cryScan (s : State) : Bool := s.bit aCryCtrl 0
def State.cryEnabled (s : State) (n : Nat) : Bool := s.bit (aCryExc n) 31

/-- Output `k` takes the code that its channel's status gives it (R385). -/
def State.routUpdate (s : State) (k : Nat) : State :=
  let cfg := s.reg (aCryRoutCfg k)
  let n := fieldOf cfg 19 16
  if cfg.getLsbD 31 ∧ s.cryStatus n = 2 then
    let code := min (65536 * (s.reg (aCryRes n)).toNat / (1000 * (s.reg (aCryRoutFs k)).toNat)) 65535
    s.setReg (aCryRoutOut k) (BitVec.ofNat 32 code)
  else s.setReg (aCryRoutOut k) (BitVec.ofNat 32 (0x10000 + fieldOf cfg 15 0))

/-- A channel's status changes, or is confirmed VALID, and the outputs that follow it with it (R382, R385). -/
def State.crySet (s : State) (n v : Nat) : State :=
  let s := s.setFld (aCryCst n) 2 0 v
  s.each ((List.range 4).filter (fun k => s.fld (aCryRoutCfg k) 19 16 == n && s.bit (aCryRoutCfg k) 31)) (fun s k => s.routUpdate k)

/-- The first enabled channel after `n` in scan order (R381). -/
def State.cryAfter (s : State) (n : Nat) : Option Nat :=
  ((List.range 16).map (fun i => (n + 1 + i) % 16)).find? s.cryEnabled
/-- A channel is excited: an OPEN one receives its probe first (R381, R384). -/
def State.cryExcite (s : State) (n : Option Nat) : State :=
  let phase := match n with
    | none => CryPhase.convert
    | some k => if s.cryStatus k = 3 then CryPhase.probe else CryPhase.convert
  { s with cryo := { s.cryo with active := n, phase := phase, half := 0, sum := 0, den := 1, since := s.mono } }
/-- The scan moves on from channel `n` (R381). -/
def State.cryNext (s : State) (n : Nat) : State := s.cryExcite (s.cryAfter n)
/-- Excitation periods and half-periods of a conversion (R381). -/
def State.cryAvg (s : State) (n : Nat) : Nat := s.fld (aCryExc n) 28 23 + 1
def State.crySettle (s : State) (n : Nat) : Nat := s.fld (aCryExc n) 22 19
def State.cryHalves (s : State) (n : Nat) : Nat := 2 * (s.crySettle n + s.cryAvg n)

/-- A half-period of 1,824,818 housekeeping clocks of 20 ns has passed since the last reversal (R380). -/
def State.cryHalfOver (s : State) : Bool := decide (36496360 ≤ s.since s.cryo.since)
/-- The mean of the samples of a half-period later than blank_ms after its start, one every 0.5 ms (R381), as a fraction in 0.1 pV. -/
def State.cryMean (s : State) (samples : List Int) : Int × Nat :=
  let l := samples.drop (2 * s.fld aCryCtrl 12 8 + 1)
  (l.sum, max l.length 1)
/-- Sum of two fractions, brought to their own denominator where they share it. -/
def addFrac (a : Int × Nat) (b : Int × Nat) : Int × Nat := if a.2 = b.2 then (a.1 + b.1, a.2) else (a.1 * b.2 + b.1 * a.2, a.2 * b.2)
/-- The sum of a conversion with the half-period `h` of samples in it: positive halves add, negative ones subtract, settle periods are
discarded (R381). -/
def State.cryTake (s : State) (n h : Nat) (samples : List Int) : Int × Nat :=
  let m := s.cryMean samples
  if h / 2 < s.crySettle n then (s.cryo.sum, s.cryo.den)
  else if h < 2 * s.crySettle n + 1 then m
  else addFrac (s.cryo.sum, s.cryo.den) (if h % 2 = 0 then m else (-m.1, m.2))

/-- Nearest integer to a quotient by a positive number; a tie goes to either neighbour. -/
def nearest (a : Int) (b : Nat) : Int :=
  let q := a / b
  let r := a % b
  if 2 * r < b then q else if 2 * r > b then q + 1 else if Config.roundUp a b then q + 1 else q

/-- A CRY_CTRL write (R388). -/
def State.cryCtrlEffect (s : State) (old : W32) : State :=
  let on := (List.range 16).filter s.cryEnabled
  if s.cryScan ∧ !old.getLsbD 0 then
    let s := s.each on (fun s n => s.crySet n 1)
    s.cryExcite on.head?
  else if !s.cryScan ∧ old.getLsbD 0 then
    let s := if s.cryo.active.isSome then s.count aCryCnt 15 0 1 else s
    (s.each on (fun s n => s.crySet n 0)).cryExcite none
  else s

/-- A CRY_PINS_n or CRY_EXC_n write (R388): the channel excited discards its conversion, and the scan moves on. -/
def State.cryChannelEffect (s : State) (n : Nat) : State :=
  let v := if s.cryScan ∧ s.cryEnabled n then 1 else 0
  if s.cryo.active = some n then ((s.count aCryCnt 15 0 1).crySet n v).cryNext n
  else
    let s := s.crySet n v
    if s.cryScan ∧ s.cryo.active.isNone then s.cryExcite (s.cryAfter 15) else s

/-- A CRY_ROUT_CFG_k write: a new channel or a disable takes effect at once, the rest with the next change of status (R388). -/
def State.cryRoutEffect (s : State) (k : Nat) (old : W32) : State :=
  let v := s.reg (aCryRoutCfg k)
  if !v.getLsbD 31 ∨ fieldOf old 19 16 ≠ fieldOf v 19 16 then s.routUpdate k else s

end Sys2Proof.Machine
end

