-- ==== Sys2Proof/Machine/PowerOps.lean ====
section
/-! DEFINITION. Power domains, stops and starts: what the supply, thermal, start and fault events share (R392-R435). -/

namespace Sys2Proof.Machine

/-- A set of power domains. -/
def domSet (l : List Nat) : BitVec 30 := l.foldl (fun m k => m ||| (1#30 <<< k)) 0
/-- Domains that stay powered through a stop, and in ingot mode (R394, R398). -/
def alwaysDoms : BitVec 30 := domSet [0, 1, 2, 28]
def ingotDoms : BitVec 30 := domSet [0, 1, 2, 26, 28]
/-- Domains that a stage of the start powers (R397, R419). -/
def stageDoms : Nat → BitVec 30
  | 1 => domSet [1, 2, 28]
  | 4 => domSet [27]
  | 5 => domSet [10, 29]
  | 6 => domSet [23]
  | 7 => domSet [11, 12, 13, 14, 15, 16, 17, 18, 19, 20, 21, 22]
  | 8 => domSet [24, 25, 26]
  | _ => 0
/-- Domains ON (PWR_DOM_ON): those of step 8 follow their banks and groups (R397, R398). -/
def State.domains (s : State) : BitVec 30 :=
  let bank := fun (b : Nat) => (s.bank b).st == .on
  s.supply.domOn
    ||| domSet ((List.range 4).filterMap (fun b => if bank b then some (3 + b) else none))
    ||| domSet ((if bank 4 then [7] else []) ++ (if bank 5 then [8] else [])
        ++ (if (List.range 16).any (fun g => (s.grp g).st == .on) then [9] else []))

/-- Everything that a power-off of PD03 to PD29 takes away goes back to its reset (R433); the NV store, the fuses, the log, the
spare maps, TB_MONO and what PD00 watches are kept. -/
def State.powerOff (s : State) : State :=
  let r := State.reset
  let lost := if s.cap.st = .idle then s.nv.capLost else some (s.reg aCapRec)
  let keep := s.regs.filter (fun x => (decide (0x20000 ≤ x.1) && decide (x.1 < 0x30000)) || x.1 == aMldAlert)
  let t : State := { r with
    pending := s.pending
    free := s.free
    sent := s.sent
    clock := { r.clock with mono := s.clock.mono, monoPhase := s.clock.monoPhase, monoFrac := s.clock.monoFrac }
    regs := keep
    nextRun := s.nextRun
    nextSid := s.nextSid
    creds := s.creds
    arc := s.arc
    log := s.log
    fw := { s.fw with install := none }
    nv := { s.nv with capLost := lost }
    fuses := s.fuses
    fuseShadow := s.fuseShadow
    supply := { s.supply with domOn := s.supply.domOn &&& alwaysDoms, rail := [], slack := [], starveSince := [], healSince := [] }
    spares := s.spares
    thermal := s.thermal
    boot := { s.boot with stage := 0 }
    fault := { s.fault with clearTick := none, temper := false, stop := true } }
  let t := t.each (List.range 128) (fun t n => t.setReg (aMldPeMap n) (BitVec.ofNat 32 (s.pePhys n)))
  let t := t.each (List.range 32) (fun t n => t.setReg (aMldCruMap n) (BitVec.ofNat 32 (s.cruPhys n)))
  t.each (List.range 34) (fun t c => t.setCru c { Cru.init with retired := (s.cru c).retired })

/-- Failed starts after which ingot mode follows (R418, R423). -/
def ingotThreshold (straps : BitVec 2) : Nat := if straps = 2 then 1 else 3
/-- Straps that force ingot mode (R418). -/
def forcedIngot (straps : BitVec 2) : Bool := straps.getLsbD 0
/-- One more failed start (R423). -/
def counterUp (c : BitVec 2) : BitVec 2 := if c = 3 then 3 else c + 1

/-- Boot record of the attempt (R425). -/
def State.bootRecord (s : State) (failStage failCause : Nat) (ingot forced : Bool) : List Byte :=
  let b := s.boot
  let flag := fun (x : Bool) (v : Nat) => if x then v else 0
  let ends := (b.stageEnds.map (fun (e : W32) => e.toNat) ++ List.replicate 10 0xFFFFFFFF).take 10
  [b.cause] ++ leBytes 1 failStage ++ leBytes 1 failCause ++ leBytes 1 b.counter.toNat ++ leBytes 1 b.straps.toNat
    ++ leBytes 1 (flag b.unclean 1 + flag b.configDefault 2 + flag b.imageFallback 4 + flag ingot 8 + flag forced 16)
    ++ leBytes 2 (min b.blocksFaulted 65535) ++ leBytes 4 b.starts.toNat ++ ends.flatMap (fun e => leBytes 4 e)
    ++ leBytes 1 s.spares.moulder.toNat ++ leBytes 1 b.slots.toNat
/-- The attempt's record enters the boot history and, while the NV store can be written, the log (R425). -/
def State.bootClose (s : State) (failStage failCause : Nat) (ingot forced : Bool) : State :=
  let b := s.boot
  let p : BootPast := ⟨b.cause, BitVec.ofNat 8 failCause, BitVec.ofNat 4 failStage, b.counter, ingot, b.unclean⟩
  let s := { s with boot := { b with past := (p :: b.past).take 4 } }
  if failCause = 0x12 then s else s.logOwn 0x000A (s.bootRecord failStage failCause ingot forced)

/-- A start begins at stage 1 (R419, R421, R423, R427): every volatile register is reset, and what the previous end left to be
found is noted. -/
def State.startBegin (s : State) (cause : Byte) : State :=
  let b := s.boot
  let t := s.powerOff
  let t := { t with regs := t.regs.filter (fun x => decide (x.1 < 0x20000) && x.1 != aMldAlert) }
  let fromIngot := b.ingot && (cause == 0x01 || cause == 0x02)
  { t with
    supply := { t.supply with domOn := 1, brownout := none, limitDone := false, unpowered := false, domBad := [] }
    thermal := { t.thermal with sensors := tblMap Sensor.init (fun (x : Sensor) => { x with failed := false, alone := false }) t.thermal.sensors
                                hold := false, shutdown := false, coolSince := none }
    fault := { FaultPath.init with
      outclrLow := s.fault.outclrLow
      temper := decide (4 ≤ s.thermal.level)
      fatalDomain := if cause = 0x07 ∨ cause = 0x08 then s.fault.fatalDomain else 0xFF }
    boot := { Boot.init with
      straps := b.straps
      cause := cause
      begun := s.mono
      stageAt := s.mono
      counter := if fromIngot then BitVec.ofNat 2 (ingotThreshold b.straps - 1) else b.counter
      lastFail := b.lastFail
      found := b.found
      unclean := !s.nv.clean
      past := b.past
      starts := b.starts + 1 } }

/-- Ingot mode (R426): only its domains stay powered, and the attempt's record says so. -/
def State.enterIngot (s : State) (failStage failCause : Nat) (forced : Bool) : State :=
  let s := s.bootClose failStage failCause true forced
  let t := s.logFlush.powerOff
  { t with supply := { t.supply with domOn := ingotDoms }
           boot := { t.boot with ingot := true, stop := none, restartAt := none } }

/-- The attempt fails (R420, R423): it is counted, and the module stops and retries after 1 s or enters ingot mode. -/
def State.failAttempt (s : State) (cause : Byte) : State :=
  let k := s.boot.stage
  let s := { s with boot := { s.boot with counter := counterUp s.boot.counter, lastFail := cause } }
  if s.boot.counter.toNat < ingotThreshold s.boot.straps then
    let s := (s.bootClose k cause.toNat false false).logFlush.powerOff
    { s with nv := { s.nv with clean := true }
             boot := { s.boot with stop := some (.failedStart, s.now, true), restartAt := some (s.mono + 1000000000) } }
  else { s with nv := { s.nv with clean := true } }.enterIngot k cause.toNat false

/-- A stop begins (R394, R429, R433): no shot starts, the runs are to end with the cause, and every routine is aborted. -/
def State.beginStop (s : State) (k : StopKind) (cause : Byte) : State :=
  let s := { s with boot := { s.boot with stop := some (k, s.now, false), restartAt := none } }
  let s := { s with runs := s.runs.map (fun (r : Run) =>
    if r.phase = RunPhase.over then r else { r with stop := some (r.stop.getD cause), nextStart := none }) }
  s.cmkStop

/-- Every shot in flight ends at a tick with a condition (R394, R409, R429). -/
def State.abortShots (s : State) (E : Tick) (c : Cond) : State :=
  s.each (s.runs.filter (fun (r : Run) => r.phase != RunPhase.over)) (fun s r => match r.current with
    | none => s
    | some h => s.endShot r h E (some c))
/-- A shot is in flight. -/
def State.anyInFlight (s : State) : Bool := s.runs.any (fun (r : Run) => r.phase != RunPhase.over && r.inFlight)

/-- A stop or temper level 4 takes hold of the fault path, which is then asserted, and latched at tick C if it was not (R146, R429,
R431). -/
def State.assertFault (s : State) (C : Tick) (hold : FaultPath → FaultPath) : State :=
  let t := { s with fault := hold s.fault }
  if s.fault.asserted then t else t.latchClear C 0x0001

/-- The orderly end of a stop (R394 steps 3 to 5): outputs clear, the log is flushed, closure records and the shut-down record are
written, and PD29 down to PD03 lose power. -/
def State.orderlyOff (s : State) (cause : Byte) : State :=
  let s := s.assertFault s.now (fun f => { f with stop := true })
  let s := (s.logFlush.writeClosures cause).powerOff
  if s.nv.holding then { s with nv := { s.nv with heldEnd := true } } else { s with nv := { s.nv with clean := true } }

/-- A stop whose shots have ended ends (R394, R395, R423, R429, R434); after a fault in PD28 that domain goes off too. -/
def State.finishStop (s : State) (k : StopKind) (D : Tick) : State :=
  let s := s.orderlyOff (if k = .brownout then 0x05 else 0x06)
  let again := s.boot.found == 0xF2 && decide (ingotThreshold s.boot.straps ≤ s.boot.counter.toNat)
  let off := if k = .fatal ∧ s.fault.fatalDomain = 28 then domSet [28] else 0
  let s := { s with boot := { s.boot with stop := some (k, D, true), found := 0 }, supply := { s.supply with domOn := s.supply.domOn &&& ~~~off } }
  let held := s.boot.rstLow
  match k with
  | .brownout => { s with supply := { s.supply with limitDone := true } }
  | .rst => if held then s else s.startBegin 0x02
  | .command => if held then s else s.startBegin (if s.boot.rstWaits then 0x02 else 0x03)
  | _ =>
    if s.boot.rstWaits ∧ !held then s.startBegin 0x02
    else if again then s.enterIngot 0 0xF2 false
    else { s with boot := { s.boot with restartAt := some (s.mono + 1000000000) } }

/-- The start has completed less than 60 s ago (R423). -/
def State.unsettled (s : State) : Bool := s.boot.stage == 10 && s.boot.settling

/-- Failure cause that a fatal fault gives an attempt (R424); a stage with several causes or none leaves it open. -/
def State.stageCause (s : State) (source : Byte) : Byte × State :=
  if source = 27 then (0x41, s) else if source = 26 then (0x80, s)
  else match s.boot.stage with
    | 5 => (0x50, s)
    | 6 => (0x60, s)
    | 7 => (0x70, s)
    | 8 => (0x80, s)
    | _ => (s.draw.1.setWidth 8, s.draw.2)

/-- Sources of a fatal fault (R428): rails of eight domains, and the Flask. -/
def fatalSources : List Byte := [0, 1, 2, 9, 23, 26, 27, 28, 0xFE]

/-- A fatal fault with an active Moulder (R424, R429). -/
def State.fatal (s : State) (source : Byte) : State :=
  let s := { s with fault := { s.fault with fatalDomain := source } }
  if s.boot.ingot ∨ s.boot.stage = 0 ∨ s.boot.stop.isSome then s
  else
    let s := s.logEvent 0x0019 0x0001 [source]
    if s.boot.stage = 10 then
      let s := s.assertFault s.now (fun f => { f with stop := true })
      let s := if s.unsettled then
          { s with boot := { s.boot with counter := counterUp s.boot.counter, lastFail := 0xF2, found := 0xF2 } }
        else s
      s.beginStop .fatal 0x06
    else
      let c := s.stageCause source
      c.2.failAttempt c.1

/-- Temper level 4's action, or that of shut-down (R409, R410): outputs clear at C, shots in flight end there, routines abort. -/
def State.levelFour (s : State) (C : Tick) : State :=
  let s := s.assertFault C (fun f => { f with temper := true })
  let s := s.abortShots C .temperAbort
  (s.each s.openRuns (fun s id => match s.run? id with
    | none => s
    | some r => if r.running then s.stopRun 0x04 id else s)).cmkFault

/-- Running runs complete their current shot and end (R396, R409). -/
def State.holdNow (s : State) : State :=
  s.each ((s.runs.filter Run.running).map (fun r => r.id)) (fun s id => s.stopRun 0x04 id)

/-- The orderly power-off of a shut-down (R396, R410). -/
def State.shutDown (s : State) : State :=
  let s := { s.levelFour s.now with boot := { s.boot with restartAt := none } }
  let s := s.cmkStop.orderlyOff 0x04
  { s with boot := { s.boot with stop := some (.thermal, s.now, true) } }

/-- Alert sources whose condition holds set their bits again (R432). -/
def State.alerts (s : State) : State :=
  let at' := fun (b : Bool) (n : Nat) (s : State) => if b then s.alert n else s
  let starved := (List.range 13).any (fun r => s.bit (aPwrSlk r) 31)
  let wear := (List.range 32).any (fun c => s.bit (aAdcStat c) 17)
  let link := (List.range 8).any (fun p => s.bit (aRunPortStat p) 22)
  let feed := [s.supply.feedA, s.supply.feedB].any (fun f => !f.ok)
  let spent := (List.range 128).any (fun e => s.bit (aMldPeMap e) 8 && !s.spareFree (e / 16))
    || ((List.range 32).any (fun c => s.bit (aMldCruMap c) 8) && s.spareCru.isNone)
  at' s.boot.imageFallback 9 <| at' s.boot.configDefault 8 <| at' link 7 <| at' (!s.spares.standby) 6 <| at' (wear || spent) 5
    <| at' starved 3 <| at' (decide (s.stagesOk < 10)) 2 <| at' feed 1 <| at' s.thermal.warning 0 s

/-- Images: the payload that a slot in force holds, as control-store words (R355). -/
def storeWords (b : List Byte) : Tbl (BitVec 160) :=
  if b.isEmpty then []
  else (List.range 4096).filterMap (fun i =>
    let w := BitVec.ofNat 160 (leNat (slice b (29920 + 20 * i) 20))
    if w = Config.controlWord i then none else some (i, w))

end Sys2Proof.Machine
end

