-- ==== Sys2Proof/Machine/Pins.lean ====
section
/-! DEFINITION. The connectors (R449-R454, R458): which way, pin or contact carries what, and the levels that the module drives on the
pins of the control, reference and thermometry connectors (R386, R431, R432, R452). -/

namespace Sys2Proof.Machine

/-- What a connector carries. -/
inductive Signal where
  | drive (ch : Nat) | readout (ch : Nat) | adcIn (ch : Nat) | flux (n : Nat) | bias (n : Nat) | biasReturn (lo hi : Nat)
  | th (n : Nat) | rout (k : Nat) | vrefExt | vrefReturn | routReturn (k : Nat) | guard | shield
  | trigP (k : Nat) | trigN (k : Nat) | outclrN | rstN | faultN | alertN | mode0 | mode1 | ground
  | txLaneP (l : Nat) | txLaneN (l : Nat) | rxLaneP (l : Nat) | rxLaneN (l : Nat)
  deriving DecidableEq, Repr

/-- Way `w` of coaxial block CXk (R449). -/
def cxWay (k w : Nat) : Option Signal :=
  if 1 ≤ w ∧ w ≤ 8 then some (.drive (8 * k + w - 1))
  else if 9 ≤ w ∧ w ≤ 12 then some (.readout (4 * k + w - 9))
  else if 13 ≤ w ∧ w ≤ 16 then some (.adcIn (4 * k + w - 13))
  else if 17 ≤ w ∧ w ≤ 32 then some (.flux (16 * k + w - 17)) else none
/-- Bias channel `b`: its connector, BIAS_J1 or BIAS_J2, its pin, and the pin of its return (R450). -/
def biasPin (b : Nat) : Nat × Nat × Nat :=
  let j := b % 128
  (b / 128 + 1, 5 * (j / 4) + j % 4 + 1, 5 * (j / 4) + 5)
/-- Pin `n` of TH_J (R451). -/
def thPin (n : Nat) : Option Signal :=
  if 1 ≤ n ∧ n ≤ 64 then some (.th (n - 1))
  else if 65 ≤ n ∧ n ≤ 68 then some (.rout (n - 65))
  else if n = 69 then some .vrefExt
  else if n = 70 then some .vrefReturn
  else if 71 ≤ n ∧ n ≤ 74 then some (.routReturn (n - 71))
  else if 75 ≤ n ∧ n ≤ 78 then some .guard
  else if 79 ≤ n ∧ n ≤ 80 then some .shield else none
/-- Pin `n` of CTL_J (R454). -/
def ctlPin (n : Nat) : Option Signal :=
  if 1 ≤ n ∧ n ≤ 16 then some (if n % 2 = 1 then .trigP ((n - 1) / 2) else .trigN ((n - 1) / 2))
  else match n with
    | 17 => some .outclrN
    | 18 => some .rstN
    | 19 => some .faultN
    | 20 => some .alertN
    | 21 => some .mode0
    | 22 => some .mode1
    | 23 | 24 | 25 | 26 => some .ground
    | _ => none
/-- Contact `c` of a row of a Runner receptacle: row A transmits, row B receives (R458). -/
def runnerContact (rowA : Bool) (c : Nat) : Option Signal :=
  if c = 0 ∨ 27 < c then none
  else
    let l := (c - 1) / 3
    match (c - 1) % 3 with
    | 0 => some (if rowA then .txLaneP l else .rxLaneP l)
    | 1 => some (if rowA then .txLaneN l else .rxLaneN l)
    | _ => some .ground

/-- Level of an open-drain pin. -/
inductive PinLevel where
  | low | high | highZ
  deriving DecidableEq, Repr

/-- ALERT_N: low while any bit of MLD_ALERT is 1, high-impedance while the module is unpowered (R432). -/
def State.alertPin (s : State) : PinLevel :=
  if s.supply.unpowered then .highZ else if s.reg aMldAlert = 0 then .high else .low
/-- FAULT_N: low whenever the module cannot run shots, unpowered included (R431). -/
def State.faultPin (s : State) : PinLevel := if s.faultN || s.supply.unpowered then .low else .high
/-- REFOUT gives 100 MHz from the end of stage TIMING on, through a holdover, and not in ingot mode (R452). -/
def State.refout (s : State) : Bool := decide (4 < s.boot.stage) && !s.boot.ingot && !s.supply.unpowered
/-- ROUT_A to ROUT_D: the code in force of VREF_EXT / 65,536; high-impedance with a pull-down to ground while PD10 is off (R385, R386). -/
def State.routPin (s : State) (k : Nat) : Option Nat :=
  if s.domains.getLsbD 10 then some (s.fld (aCryRoutOut k) 15 0) else none

end Sys2Proof.Machine
end

