-- ==== Sys2Proof/Machine/RegRead.lean ====
section
/-! DEFINITION. What a read of a register returns and what it does: live status fields, fields that a read clears, and the pairs
that a session latches (R2, R439-R444, and the register maps of the chapters). -/

namespace Sys2Proof.Machine

/-- A word with several fields set: high bit, low bit, value. -/
def setFields (w : W32) (l : List (Nat × Nat × Nat)) : W32 := l.foldl (fun w x => withField w x.1 x.2.1 x.2.2) w
def bitN (b : Bool) : Nat := if b then 1 else 0
/-- Low and high words of a 64-bit value. -/
def lo32 (v : W64) : W32 := v.setWidth 32
def hi32 (v : W64) : W32 := (v >>> 32).setWidth 32
/-- A signed value saturated to a word. -/
def satWord (x : Int) : W32 := BitVec.ofNat 32 (satBits 32 x)
/-- ms since a tick of TB_MONO, saturating; 0 if none. -/
def State.ageMs (s : State) (t : Option W64) : W32 :=
  match t with
  | none => 0
  | some t => BitVec.ofNat 32 (min (s.since t / 1000000) (2 ^ 32 - 1))

/-- PE_STAT.state (R68). -/
def EngState.code : EngState → Nat
  | .idle => 0
  | .running => 1
  | .waiting => 2
  | .queueFull => 3
  | .ended => 4
  | .stopped => 5
/-- PE_STAT of a physical engine (R68). -/
def State.peStatus (s : State) (p : Nat) : W32 :=
  match s.peLogical p with
  | none => setFields 0 [(31, 28, 6), (7, 0, 0xFF)]
  | some e => let g := s.eng e; setFields 0 [(31, 28, g.st.code), (22, 8, g.pc), (7, 0, e)]
/-- PE_QSTAT of a physical engine, over its stored word (R86). -/
def State.peQueues (s : State) (p : Nat) (w : W32) : W32 :=
  match s.peLogical p with
  | none => w
  | some e =>
    let g := s.eng e
    setFields w [(22, 16, g.qf.items.length), (13, 8, g.qr.items.length), (6, 0, g.qd.items.length)]

/-- Tone of a player or frame register of an RF channel. -/
def chanTone (ch i : Nat) : Nat := if ch < 64 then 8 * ch + i else 512 + 16 * (ch - 64) + i
/-- PLY_STAT of a tone over its stored word (R114). -/
def State.plyStatus (s : State) (t : Nat) (w : W32) : W32 :=
  let x := s.tone t
  match x.play with
  | none => setFields w [(31, 30, if x.free then 2 else 0)]
  | some p =>
    setFields w [(31, 30, if s.playsFill p (12 * s.now.toNat - p.segStart) then 2 else 1), (29, 28, p.stack.length), (27, 27, bitN p.pending.isSome),
      (26, 26, match p.pending with | none => 0 | some q => bitN q.2), (19, 0, p.seg.toNat)]

/-- State of an RF channel (R131). -/
def State.rfState (s : State) (ch : Nat) : Nat :=
  match (s.bank (chanBank ch)).st with
  | .off => 0
  | .poweringUp => 1
  | .shuttingDown => 6
  | .on => match (s.rfch ch).st with
    | .muted => 2
    | .settling => 3
    | .waitQuiet => 4
    | .live => 5
/-- STAT of an RF channel over its stored word (R137). -/
def State.rfStatus (s : State) (ch : Nat) (w : W32) : W32 :=
  let causes := ((s.muteCauses ch).zipIdx.map (fun x => bitN x.1 * 2 ^ x.2)).sum
  setFields w [(13, 8, causes), (4, 4, bitN (s.bank (chanBank ch)).enPending), (2, 0, s.rfState ch)]

/-- Power state codes (R149). -/
def Power.code : Power → Nat
  | .off => 0
  | .poweringUp => 1
  | .on => 2
  | .shuttingDown => 3
/-- FLX_OUT and BIA_OUT (R154). -/
def State.fbOut (s : State) (n : Nat) : W32 :=
  let x := s.fbch n
  let win := bitN (x.inWindow s.now)
  if n < 128 then
    setFields 0 [(18, 18, bitN (x.moves.any (fun m => m.runs s.now && x.moveAt s.now == some m))), (17, 17, win), (16, 16, bitN x.atClear), (15, 0, satBits 16 (s.inForce n))]
  else setFields 0 [(22, 22, win), (21, 21, bitN x.atClear), (19, 0, satBits 20 (s.inForce n))]

/-- Reference buffer codes (R159). -/
def RefBuf.code : RefBuf → Nat
  | .off => 0
  | .starting => 1
  | .ready => 2
  | .shuttingDown => 3
/-- ADC_STAT over its stored word (R173). -/
def State.adcStatus (s : State) (c : Nat) (w : W32) : W32 :=
  let a := s.adcch c
  let pool := if s.fld (aAdcPool c) 5 0 = 0x3F then 33 else 32
  setFields w [(15, 15, bitN (pool == 33)), (13, 8, pool), (7, 7, bitN (a.rangePending.isSome || a.switched.isSome)),
    (6, 6, bitN a.disPending), (5, 5, bitN a.enPending), (3, 2, a.range.toNat), (1, 0, a.refbuf.code)]

/-- CRU_STAT.state (R202). -/
def CruSt.code : CruSt → Nat
  | .noProg => 0
  | .executing => 1
  | .waiting => 2
  | .repeating => 3
  | .stopped => 4
  | .fault => 5
/-- CRU_STAT of a physical Crucible (R202). -/
def State.cruStatus (s : State) (c : Nat) : W32 :=
  let u := s.cru c
  match s.cruLogical c with
  | none => setFields 0 [(31, 29, 6), (27, 24, u.faultCode.toNat), (23, 16, 0xFF)]
  | some n => setFields 0 [(31, 29, u.st.code), (28, 28, bitN u.beatRule), (27, 24, u.faultCode.toNat), (23, 16, n), (9, 0, u.pc)]

/-- TIM_CAST_STAT over its stored word (R278). -/
def State.castStatus (s : State) (w : W32) : W32 :=
  let c := s.cast
  let st := match c.st with
    | .free => 0
    | .acquiring => 1
    | .slewing => 2
    | .locked => 3
    | .holdover => 4
    | .adopting => 5
  setFields w [(31, 26, s.castDepth.toNat), (25, 25, bitN s.castUnlocked), (24, 24, bitN c.upUnlocked), (23, 23, bitN c.refinOk),
    (22, 22, bitN c.pllLock), (20, 18, s.castPort), (17, 17, bitN c.onBackup), (11, 8, c.cause.toNat), (2, 0, st)]
/-- TIM_SYS_STAT (R278). -/
def State.sysStatus (s : State) : W32 :=
  let y := s.sys
  let st := match y.st with
    | .disabled => 0
    | .listening => 1
    | .uncalibrated => 2
    | .locked => 3
    | .holdover => 4
  setFields 0 [(31, 16, y.steps.toNat), (11, 8, y.cause.toNat), (5, 5, bitN y.stepArmed), (4, 4, y.slavePort.getD 0), (2, 0, st)]

/-- NET_SESS_STAT (R327). -/
def State.sessStatus (s : State) : W32 :=
  let n := fun (r : Role) => (s.sessions.filter (fun x => x.role == r)).length
  setFields 0 [(19, 15, n .maker), (14, 10, n .installer), (9, 5, n .operator), (4, 0, s.sessions.length)]
/-- A check profile is used by an open session (R327). -/
def State.profileUsed (s : State) (k : Nat) : Bool := s.sessions.any (fun x => x.profile == k)

/-- FLK_STAT (R353). -/
def State.flaskStatus (s : State) : W32 :=
  setFields 0 [(31, 30, s.flaskState), (29, 24, s.activeKeys .operator), (23, 20, s.activeKeys .installer), (19, 17, s.activeKeys .maker),
    (16, 14, (s.handshakes.filter (fun h => h.st != .finished)).length), (13, 7, s.log.entries.length * 100 / 65536)]

/-- CMK_STAT (R377). Undo is complete within the command that makes it, so state 2 is never read. -/
def State.cmkStatus (s : State) : W32 :=
  let k := s.cmk
  let st := match k.running with
    | none => 0
    | some c => if c.waiting.isSome then 3 else 1
  let pc := match k.running with
    | none => 0
    | some c => c.pc
  setFields 0 [(31, 30, st), (29, 28, k.yielded.length), (27, 23, k.queue.length), (22, 12, k.journal.length), (11, 0, pc)]
/-- CAL_STAT over its stored word (R377). -/
def State.calStatus (s : State) (w : W32) : W32 :=
  let st := match s.cmk.setSt with
    | .none => 0
    | .awaitAccept => 1
    | .awaitTick => 2
    | .committed => 3
  setFields w [(1, 0, st)]

/-- Rows of the fuse array, and what FUS_STAT says of them (R373, R374). -/
def State.fuseRows (s : State) : List W64 := (List.range 4096).map (fuseRowOf s.fuses)
def State.nextRow (s : State) : Option Nat := (List.range 4096).find? (fun r => fuseRowOf s.fuses r == 0)
/-- A row with a blown bit and no valid marker was abandoned (R374). -/
def fuseAbandoned (w : W64) : Bool := w != 0 && !fuseValid w
def State.fuseStatus (s : State) : W32 :=
  let rows := s.fuseRows
  let bad := (((List.range 4096).map (fuseRowOf s.fuseShadow)).filter (fun w => fuseValid w && !fuseGood w)).length
  setFields 0 [(31, 20, s.nextRow.getD 0xFFF), (19, 12, min (rows.filter fuseAbandoned).length 255), (11, 4, min bad 255),
    (3, 3, bitN s.fuseWindow), (2, 2, bitN s.nextRow.isNone)]
/-- NVS_STAT (R377). -/
def State.nvStatus (s : State) : W32 :=
  setFields 0 [(31, 19, min (if s.nv.holding then s.log.pend.length + s.nv.heldClosures.length + bitN s.nv.heldEnd else 0) 4096), (18, 12, s.nv.spares), (11, 11, bitN s.nvWindow)]

/-- PWR_STAT over its stored word (R416). -/
def State.pwrStatus (s : State) (w : W32) : W32 :=
  let p := s.supply
  setFields w [(31, 23, min p.inputW 511), (22, 16, p.riserPct), (15, 12, s.stagesOk), (11, 11, bitN p.feedA.ok), (10, 10, bitN p.feedB.ok),
    (9, 9, bitN p.brownout.isSome)]
/-- Voltage of a servoed rail in units of 0.5 mV (R400). -/
def State.railOf (s : State) (r : Nat) : Nat := Tbl.get s.supply.rail r 1240
/-- PWR_SLK_r over its stored word (R416). -/
def State.slackStatus (s : State) (r : Nat) (w : W32) : W32 :=
  setFields w [(23, 16, satBits 8 (Tbl.get s.supply.slack r 0)), (9, 0, s.railOf r / 2)]
/-- Spares left (R416): engines and Crucibles not yet brought in, program and DRAM rows. -/
def State.spareStatus (s : State) : W32 :=
  let eng := ((List.range 8).filter (fun k => (s.peLogical (17 * k + 16)).isNone && !s.spares.retiredPe.contains (17 * k + 16))).length
  let cru := ([32, 33].filter (fun c => (s.cruLogical c).isNone && !(s.cru c).retired)).length
  let pm := 32 - (List.range 8).foldl (fun m k => max m (Tbl.get s.spares.pmUsed k 0)) 0
  let dr := 240 - (List.range 32).foldl (fun m k => max m (Tbl.get s.spares.dramUsed k 0)) 0
  setFields 0 [(31, 28, eng), (27, 26, cru), (25, 25, bitN s.spares.standby), (15, 8, pm), (7, 0, dr)]
/-- Thermal shut-downs of the last 24 h (R410). -/
def State.shutdowns24 (s : State) : Nat := (s.thermal.shutdowns.filter (fun t => decide (s.since t < 86400000000000))).length
/-- THM_STAT (R416). -/
def State.thmStatus (s : State) : W32 :=
  let t := s.thermal
  setFields 0 [(31, 29, t.level), (28, 28, bitN t.hold), (27, 27, bitN t.warning), (26, 21, t.hottest), (15, 0, satBits 16 t.hottestT)]
/-- THM_SNS_k (R416). -/
def State.sensorStatus (s : State) (k : Nat) : W32 :=
  let x := s.sensor k
  setFields 0 [(31, 31, bitN x.failed), (30, 30, bitN x.stopped), (29, 29, bitN x.alone), (15, 0, satBits 16 x.value)]
/-- MLD_BOOT_STAT (R435). -/
def State.bootStatus (s : State) : W32 :=
  let b := s.boot
  setFields 0 [(31, 28, if b.ingot then 0xF else b.stage), (27, 26, b.straps.toNat), (25, 24, b.counter.toNat), (23, 23, bitN b.ingot),
    (22, 22, bitN b.settling), (21, 21, bitN b.unclean), (20, 20, bitN b.configDefault), (19, 19, bitN b.imageFallback),
    (15, 8, b.lastFail.toNat), (7, 0, b.cause.toNat)]
/-- MLD_BOOT_LAST_k (R435). -/
def State.bootLast (s : State) (k : Nat) : W32 :=
  match s.boot.past[k]? with
  | none => 0
  | some p => setFields 0 [(31, 24, p.cause.toNat), (23, 16, p.failCause.toNat), (15, 12, p.failStage.toNat), (11, 10, p.counter.toNat),
      (9, 9, bitN p.ingot), (8, 8, bitN p.unclean)]
/-- MLD_FAULT (R435). -/
def State.faultStatus (s : State) : W32 :=
  setFields 0 [(31, 31, bitN s.fault.asserted), (30, 30, bitN s.faultN), (23, 16, s.fault.fatalDomain.toNat), (15, 8, s.fault.blocks.toNat)]

/-- Words at which a session's latch stands in for the register (R443). -/
def isLatched (id : RegId) (idx : List Nat) : Bool :=
  match id with
  | .timCastNowHi | .timSysNowHi | .timMonoHi | .runPortConfHi | .tfrqHi | .tphs | .timCorrTlo | .timCorrThi | .timCorrFine | .flkLogHead => true
  | .tiuUres => idx.getD 1 0 != 0
  | _ => false

/-- A register's word as it stands at a read, before the effects of the read (R2, R441); `w` is the stored word. -/
def State.liveWord (s : State) (f : RegRef) (w : W32) : W32 :=
  let i := f.idx.headD 0
  let j := f.idx.getD 1 0
  match f.row.id with
  | .mldRunqStat =>
    setFields 0 [(23, 16, ((List.range 8).map (fun k => bitN (s.claimedRunning k) * 2 ^ k)).sum), (15, 8, s.runningRuns), (7, 0, s.openRuns.length)]
  | .mldResbufStat => setFields w [(18, 0, min (s.resUsed / 1024) 262143)]
  | .mldPatStat => setFields w [(21, 12, s.pinnedBlocks.length), (11, 0, (s.segs.filter (fun g => s.segActive (BitVec.ofNat 20 g.1))).length)]
  | .mldBootStat => s.bootStatus
  | .mldBootLast => s.bootLast i
  | .mldStarts => s.boot.starts
  | .mldFault => s.faultStatus
  | .peStat => s.peStatus i
  | .peQstat => s.peQueues i w
  | .plyStat => s.plyStatus (chanTone i j) w
  | .rfStat => s.rfStatus i w
  | .tfrqLo => (s.tone (chanTone i j)).freq.setWidth 32
  | .tfrqHi => ((s.tone (chanTone i j)).freq >>> 32).setWidth 32
  | .tphs => (s.tone (chanTone i j)).phase
  | .flxOut => s.fbOut i
  | .biaOut => s.fbOut (128 + i)
  | .grpStat =>
    let g := s.grp i
    setFields w [(5, 5, bitN s.clearHeld), (4, 4, bitN g.enPending), (1, 0, g.st.code)]
  | .adcStat => s.adcStatus i w
  | .cruStat => s.cruStatus i
  | .cruRing => setFields w [(6, 0, (s.cru i).beats.length)]
  | .cruClsThi => setFields w [(29, 29, bitN (s.cru i).pending.isSome)]
  | .cruDragData =>
    let a := s.reg (aCruDragAddr i)
    (s.cru i).dragAt (fieldOf a 15 12) (fieldOf a 11 0)
  | .cruProg => (s.cru i).word j
  | .sprCh => if i < 240 then w else if i = 240 then 0x9C000000 else 0x1C000000
  | .runPortStat => setFields w [(3, 0, (s.port i).st.code)]
  | .runPortConfLo => (s.port i).conf.setWidth 32
  | .runPortConfHi => ((s.port i).conf >>> 32).setWidth 32
  | .timCastStat => s.castStatus w
  | .timCastNowLo => lo32 s.now
  | .timCastNowHi => hi32 s.now
  | .timCastOfs => s.castOfs
  | .timCastRate => satWord s.cast.servo.rate
  | .timCastAge => s.ageMs (if s.cast.st = .holdover then s.cast.holdSince else none)
  | .timSysStat => s.sysStatus
  | .timSysNowLo => lo32 s.clock.sys
  | .timSysNowHi => hi32 s.clock.sys
  | .timSysOfs => satWord s.sys.ofs
  | .timSysRate => satWord s.sys.servo.rate
  | .timSysAge => s.ageMs (if s.sys.st = .holdover then s.sys.holdSince else none)
  | .timMonoLo => lo32 s.mono
  | .timMonoHi => hi32 s.mono
  | .timTxqStat => setFields w [(4, 0, (Tbl.get s.txq i []).length)]
  | .capStat => setFields 0 [(31, 30, s.cap.st.code)]
  | .tiuUstat =>
    let u := s.tiuUnit i
    setFields 0 [(31, 30, if u.running then 1 else if u.done then 2 else 0), (24, 0, u.vals.length)]
  | .tiuUtmo => BitVec.ofNat 32 (s.tiuUnit i).timeouts
  | .tiuUres => (s.tiuUnit i).word j
  | .netSessStat => s.sessStatus
  | .netChkCfg => setFields w [(31, 31, bitN (s.profileUsed i))]
  | .flkStat => s.flaskStatus
  | .flkArc => s.arcOf i
  | .flkLogNum => s.log.num
  | .flkLogHead => (s.log.head >>> (32 * i)).setWidth 32
  | .cmkStat => s.cmkStatus
  | .calStat => s.calStatus w
  | .fusStat => s.fuseStatus
  | .fusRdLo => lo32 (fuseRowOf s.fuses (s.fld aFusRdSel 11 0))
  | .fusRdHi => hi32 (fuseRowOf s.fuses (s.fld aFusRdSel 11 0))
  | .nvsStat => s.nvStatus
  | .cryStat => setFields w [(7, 7, bitN s.cryo.active.isSome), (3, 0, s.cryo.active.getD 0)]
  | .pwrFeed => setFields 0 [(31, 16, s.supply.feedB.reading), (15, 0, s.supply.feedA.reading)]
  | .pwrStat => s.pwrStatus w
  | .pwrDomOn => s.domains.setWidth 32
  | .pwrSlk => s.slackStatus i w
  | .pwrSpare => s.spareStatus
  | .thmStat => s.thmStatus
  | .thmRate => BitVec.ofNat 32 (satBits 16 (s.thermal.rate / 8))
  | .thmSns => s.sensorStatus i
  | .thmCnt => setFields w [(7, 0, min s.shutdowns24 255)]
  | _ => w

/-- Addresses that a read of a LO half latches (R443), relative to its own. -/
def latchSet (id : RegId) (idx : List Nat) : List Nat :=
  match id with
  | .timCastNowLo | .timSysNowLo | .timMonoLo | .runPortConfLo => [4]
  | .tfrqLo => [4, 8]
  | .timCorrSec => [4, 8, 12]
  | .flkLogNum => (List.range 8).map (fun i => 4 + 4 * i)
  | .tiuUres => if idx.getD 1 0 = 0 then (List.range 6).map (fun i => 4 + 4 * i) else []
  | _ => []

/-- The word at an address as it stands. -/
def State.liveAt (s : State) (a : Nat) : W32 :=
  match findReg a with
  | none => 0
  | some f => s.liveWord f (s.reg a)

/-- The head of a transmit timestamp queue (R273): a read removes it and latches its time. -/
def State.txqTake (s : State) (p : Nat) : W32 × State :=
  match Tbl.get s.txq p [] with
  | [] => (0, s)
  | x :: r =>
    let s := { s with txq := Tbl.put s.txq p r [] }
    let s := (s.setReg (aTimTxqTslo p) (lo32 x.ts)).setReg (aTimTxqTshi p) (hi32 x.ts)
    (setFields 0 [(31, 31, 1), (27, 24, x.msgType.toNat), (15, 0, x.id.toNat)], s)

/-- The Drag address moves on after an access (R202). -/
def State.dragNext (s : State) (c : Nat) : State :=
  if s.bit (aCruDragAddr c) 16 then s.setFld (aCruDragAddr c) 11 0 (s.fld (aCruDragAddr c) 11 0 + 1) else s

/-- What has come from outside since it was last looked at and no command carries: samples of blocks outside windows at full scale or
saturated (R170, R172), uncorrected codewords on a line. How many is open; they are
counted before the word is read, and samples at full scale set their flag. -/
def State.unseen (s : State) (id : RegId) (i : Nat) : State :=
  let n := s.draw.1.toNat
  match id with
  | .adcCntA | .adcStat =>
    let s := s.draw.2
    let s := (s.count (aAdcCntA i) 31 16 n).count (aAdcCntA i) 15 0 s.draw.1.toNat
    let s := s.draw.2
    if n = 0 then s else s.setBit (aAdcStat i) 16 true
  | .netPortCnt => s.draw.2.count (aNetPortCnt i) 15 0 n
  | _ => s

/-- One read by a session (R2, R443, R444): the value, and what the read clears, latches or moves. A WO field reads 0, and what has come
from outside unseen is counted first. -/
def State.readReg (s : State) (sid : W32) (a : Nat) : W32 × State :=
  match findReg a with
  | none => (0, s)
  | some f =>
    let s := s.unseen f.row.id (f.idx.headD 0)
    let stored := s.reg a
    let v := s.liveWord f stored &&& ~~~f.row.wo
    match f.row.id with
    | .timTxqId => s.txqTake (f.idx.headD 0)
    | .cruDragData => (v, s.dragNext (f.idx.headD 0))
    | id =>
      let v := if isLatched id f.idx then
          (match s.sess? sid with
            | none => v
            | some x => Tbl.get x.latches a (if id = .flkLogHead then v else resetWord a))
        else v
      let s := match latchSet id f.idx with
        | [] => s
        | l => s.modSess sid (fun x => { x with latches := l.foldl (fun t d => Tbl.insert t (a + d) (s.liveAt (a + d))) x.latches })
      (v, if f.row.rc = 0 then s else s.setReg a ((stored &&& ~~~f.row.rc) ||| (resetWord a &&& f.row.rc)))

/-- Registers served in ingot mode (R442): blocks 0x0, 0x1, 0x2, 0x6, 0x7, 0x8 and TIM_MONO. -/
def ingotReads (a : Nat) : Bool := [0, 1, 2, 6, 7, 8].contains (a / 0x10000) || a == 0x300B0 || a == 0x300B4

/-- Read addresses in order (R444). -/
def State.readAll (s : State) (sid : W32) (l : List W32) : List W32 × State :=
  match l with
  | [] => ([], s)
  | a :: r =>
    let x := s.readReg sid a.toNat
    let y := x.2.readAll sid r
    (x.1 :: y.1, y.2)

/-- A REG_READ checked in whole before any register is read (R320, R321, R440, R442). -/
def State.regRead (s : State) (sid : W32) (l : List W32) : Answer :=
  if l.isEmpty ∨ 256 < l.length then .refuse .range noDetail
  else match l.zipIdx.find? (fun x => (findReg x.1.toNat).isNone) with
    | some x => .refuse .address { noDetail with index := BitVec.ofNat 32 x.2, addr := x.1 }
    | none =>
      match (if s.boot.ingot then l.zipIdx.find? (fun x => !ingotReads x.1.toNat) else none) with
      | some x => .refuse .ingot { noDetail with index := BitVec.ofNat 32 x.2, addr := x.1 }
      | none =>
        let r := s.readAll sid l
        .done r.2 (r.1.flatMap (fun v => leBytes 4 v.toNat))

end Sys2Proof.Machine
end

