-- ==== Sys2Proof/Machine/RegOps.lean ====
section
/-! DEFINITION. What a write of a register is checked against and what it does: the one shared operation behind every command
that is a register write (R2, R3, R5, R321, R348, and the register maps of the chapters). -/

namespace Sys2Proof.Machine

/-- Why an entry of a REG_WRITE is refused: a status, and whether the loop counter counts it (R218, R325). -/
structure WrFault where
  st : Status
  loop : Bool
  deriving DecidableEq, Repr

/-- No bit of a capture group mask names a module whose use latency is 0 (R296). -/
def State.maskOk (s : State) (base : Nat) (v : W32) : Bool :=
  (List.range 32).all (fun j => !v.getLsbD j || s.reg (aSprUlat (base + j)) != 0)
/-- The own module's bit of an export mask is ignored (R225). -/
def State.exportOk (s : State) (base : Nat) (v : W32) : Bool :=
  (List.range 32).all (fun j => !v.getLsbD j || base + j == Config.moduleId.toNat || s.reg (aSprUlat (base + j)) != 0)
/-- A module is named by an export mask (R225). -/
def State.exportNamed (s : State) (m : Nat) : Bool :=
  m != Config.moduleId.toNat && (List.range 256).any (fun n => s.bit (if m < 32 then aSprChExpLo n else aSprChExpHi n) (m % 32))
/-- Two pin fields of a steering word are equal (R379). -/
def pinsClash (v : W32) : Bool :=
  let p := [fieldOf v 29 24, fieldOf v 21 16, fieldOf v 13 8, fieldOf v 5 0]
  p.dedup.length != 4
/-- A channel of a writing role's own: within 0-239, and its attribute held (R206). -/
def State.mayPublish (s : State) (r : Role) (ch : Nat) : Option Status :=
  if 240 ≤ ch then some .range else if r.holds (s.chAttr ch) then none else some .roleDenied

/-- The range of the fields written, register by register (R321 and the maps of the chapters); `w` is the word that the write would
leave, `v` the word written. -/
def State.rangeFault (s : State) (r : Role) (f : RegRef) (v w : W32) : Option Status :=
  let i := f.idx.headD 0
  let bad := fun (b : Bool) => if b then some Status.range else none
  match f.row.id with
  | .mldReset => bad (fieldOf v 31 24 != 0xA5)
  | .plyJcfg | .grpStrb | .adcTrig => bad (decide (240 ≤ fieldOf w 7 0))
  | .flxCfg => bad (fieldOf w 1 0 == 3)
  | .adcWcnt => bad (fieldOf w 15 0 == 0)
  | .cruPub => s.mayPublish r (fieldOf w 7 0)
  | .cruCtx => bad (kernelLen w == 0 || decide (3840 < kernelBase w + kernelLen w))
  | .cruCls => bad (f.row.rw == 0x11F03 && decide (2 ≤ fieldOf w 1 0))
  | .sprCh => bad (decide (i < 240) && fieldOf v 29 28 == 3)
  | .sprChExpLo => bad (!s.exportOk 0 w)
  | .sprChExpHi => bad (!s.exportOk 32 w)
  | .sprSwpub => s.mayPublish r (fieldOf v 7 0)
  | .sprUlat =>
    let n := fieldOf w 15 0
    bad ((decide (1 ≤ n) && decide (n < 360)) || (n == 0 && s.exportNamed i))
  | .sprRlyCfg => if w.getLsbD 31 then s.mayPublish r (fieldOf w 15 8) else bad (decide (240 ≤ fieldOf w 15 8))
  | .sprTmrCfg => s.mayPublish r (fieldOf w 7 0)
  | .sprTmrPer => bad (decide (1 ≤ w.toNat) && decide (w.toNat < 100))
  | .sprTrig => if w.getLsbD 31 ∧ !w.getLsbD 30 then s.mayPublish r (fieldOf w 7 0) else bad (!w.getLsbD 30 && decide (240 ≤ fieldOf w 7 0))
  | .timCastCfg => bad (fieldOf w 1 0 == 3)
  | .timSysCfg => bad (fieldOf w 13 12 == 3)
  | .capCfg => bad (fieldOf w 30 29 == 3)
  | .capProbe => bad (fieldOf w 19 18 == 3 || fieldOf w 17 13 == 1 || decide (20 < fieldOf w 17 13))
  | .capFire =>
    let k := s.probeKind i
    match fieldOf w 31 30 with
    | 0 => none
    | 1 => bad (!(k == 1 || k == 2))
    | 2 => bad (k != 2)
    | _ => bad (k != 3)
  | .capPost => bad (w == 0)
  | .capGrpExpLo => bad (!s.maskOk 0 w)
  | .capGrpExpHi => bad (!s.maskOk 32 w)
  | .tiuIn => bad (decide (8 < fieldOf w 3 0))
  | .tiuUcfg => bad (fieldOf w 31 16 == 0 || fieldOf w 13 12 == 3)
  | .tiuUn => bad (fieldOf w 31 16 == 0 || decide (24 < fieldOf w 15 0))
  | .netPortCfg => bad (decide (128 < fieldOf w 22 16) || decide (32 < fieldOf w 13 8))
  | .netUdp => bad (fieldOf w 15 0 == 319 || fieldOf w 15 0 == 320)
  | .netSessCfg => bad (fieldOf w 15 0 == 0)
  | .netChkCfg => bad (decide (2 ≤ i) && (decide (fieldOf w 6 0 < 8) || decide (64 < fieldOf w 6 0)))
  | .cmkReq => bad (decide (fieldOf v 31 24 < 0x10) || decide (0x12 < fieldOf v 31 24))
  | .cryCtrl => bad (decide (fieldOf w 12 8 < 2) || decide (30 < fieldOf w 12 8))
  | .cryPins => bad (s.cryEnabled i && pinsClash w)
  | .cryExc =>
    let e := fieldOf w 16 0
    bad (decide (e < 10) || decide (100000 < e) || (w.getLsbD 31 && pinsClash (s.reg (aCryPins i))))
  | .cryRoutFs => bad (decide (w.toNat < 1) || decide (4294967 < w.toNat))
  | _ => none

/-- A cluster with tones on an RF channel is claimed by a running run (R136, R370). -/
def State.chanRunning (s : State) (ch : Nat) : Bool := s.claimedRunning (chanCluster ch)
/-- A physical Crucible's cluster is claimed by a running run (R199, R202). -/
def State.cruRunning (s : State) (c : Nat) : Bool :=
  match s.cruLogical c with
  | none => false
  | some n => s.claimedRunning (n / 4)
/-- A run accepted and not ended claims a cluster (R150). -/
def State.clusterWanted (s : State) (k : Nat) : Bool :=
  s.runs.any (fun (r : Run) => r.phase != RunPhase.over && r.clusters.contains k)

/-- The state that stands against a write (R29, R114, R136, R150, R154, R173, R202, R215, R225, R278, R281, R296, R300, R327, R359,
R370, R377). -/
def State.busyFault (s : State) (f : RegRef) (old v w : W32) : Option Status :=
  let i := f.idx.headD 0
  let busy := fun (b : Bool) => if b then some Status.busy else none
  let state := fun (b : Bool) => if b then some Status.state else none
  match f.row.id with
  | .plyJcfg | .plyJtgt | .tgain => busy (s.claimedRunning (toneEng (chanTone i (f.idx.getD 1 0)) / 16))
  | .eqTap => busy (s.chanRunning i)
  | .rfCtrl => busy (fieldOf old 7 4 != fieldOf w 7 4 && s.chanRunning i)
  | .flxHold => busy (s.claimedRunning (i / 16))
  | .biaHold => busy (s.claimedRunning (i / 32))
  | .grpStrb | .grpSw => busy (s.claimedRunning (i % 8))
  | .flxEdge | .flxEpts => busy (s.claimedRunning i)
  | .grpCtrl => busy (!w.getLsbD 0 && s.clusterWanted (i % 8))
  | .adcTrig | .adcWdly | .adcWcnt => busy (s.claimedRunning (i / 4))
  | .cruPub | .cruCtx | .cruDragData => busy (s.cruRunning i)
  | .sprCh | .sprChExpLo | .sprChExpHi | .sprUlat | .runRoute | .timCastCfg | .timAsym | .timSysCfg => busy (s.runningRuns != 0)
  | .sprTmrStartLo | .sprTmrStartHi | .sprTmrPer => state (s.bit (aSprTmrCfg i) 31)
  | .sprTmrCfg => state (old.getLsbD 31 && w.getLsbD 31 && fieldOf old 7 0 != fieldOf w 7 0)
  | .timCastCtrl => state (v.getLsbD 0 && s.castRole != 2)
  | .timSysOfsIn => state (!s.hostMode)
  | .capCfg | .capProbe | .capFire | .capPre | .capPost => state (s.cap.st != .idle)
  | .capCtrl => state (v.getLsbD 0 && (!s.canArm || s.fld aCapCfg 30 29 == 2))
  | .tiuUcfg | .tiuUn => state (s.tiuUnit i).running
  | .netChkCfg | .netChkPolyLo | .netChkPolyHi | .netChkInitLo | .netChkInitHi => state (decide (2 ≤ i) && s.profileUsed i)
  | .calAccept => state (v.getLsbD 0 && !v.getLsbD 1 && s.cmk.setSt != .awaitAccept)
  | .cmkReq => busy (s.cmkRequest (BitVec.ofNat 8 (fieldOf v 31 24)) (v.setWidth 24)).isNone
  | .fusProgHi => busy (v.getLsbD 31 && (s.cmkRequest 0x20 0).isNone)
  | _ => none

/-- An /O register of a physical engine or Crucible that serves no logical number: spare, or retired (R439). -/
def State.servesNone (s : State) (f : RegRef) : Bool :=
  match f.row.id with
  | .peWdog => (s.peLogical (f.idx.headD 0)).isNone
  | .cruDragAddr | .cruDragData | .cruClsTlo | .cruClsThi | .cruPub | .cruCtx | .cruCls => (s.cruLogical (f.idx.headD 0)).isNone
  | _ => false

/-- Registers that the loop rule judges (R218). -/
def loopJudged (id : RegId) : Bool :=
  match id with
  | .sprRlyCfg | .sprRlyDly | .adcTrig | .adcCtrl | .adcWdly | .cruPub => true
  | _ => false

/-- One entry checked, against the state that the entries before it leave (R321): the first cause found. -/
def State.checkEntry (s : State) (r : Role) (a : Nat) (v : W32) : Option WrFault :=
  match findReg a with
  | none => some ⟨.address, false⟩
  | some f =>
    if (match f.row.role with | none => false | some q => q != r) then some ⟨.roleDenied, false⟩
    else if s.servesNone f then some ⟨.state, false⟩
    else
      let old := s.reg a
      let w := f.stored old v
      match s.rangeFault r f v w with
      | some st => some ⟨st, false⟩
      | none => match s.busyFault f old v w with
        | some st => some ⟨st, false⟩
        | none => if loopJudged f.row.id && s.loopRefused (s.setReg a w) then some ⟨.loop, true⟩ else none

/-- A write of CRU_CLS_THI.go (R196): the whole shadow becomes pending, with its commit tick. -/
def State.classifierGo (s : State) (c : Nat) : State :=
  let T := Tick.ofStamp s.now (BitVec.ofNat 40 (s.fld (aCruClsThi c) 7 0 * 2 ^ 32 + (s.reg (aCruClsTlo c)).toNat))
  let late := decide ((T - s.now).toInt < 24)
  let set := (List.range 512).map (fun n => (n, s.reg (aCruCls c (n / 32) (n / 8 % 4) (n % 8))))
  let s := s.setBit (aCruClsThi c) 30 late
  let p := some (if late then s.now + 24 else T, set)
  let u := s.cru c
  s.setCru c { u with pending := p, aheadPending := if u.ahead.isEmpty then none else p }

/-- A command reset (R433): the stop begins, unless one is under way. -/
def State.commandReset (s : State) : State :=
  if s.boot.stop.isSome then s else s.beginStop .command 0x06

/-- What a write does once its word is stored (R5): `old` is the word before it, `v` the word written. -/
def State.writeEffect (s : State) (sid : W32) (f : RegRef) (old v : W32) : State :=
  let i := f.idx.headD 0
  let a := s.reg
  match f.row.id with
  | .mldReset => if v.getLsbD 0 then s.commandReset else s
  | .mldResbufStat => s.highWater
  | .rfCtrl => s.rfCtrlEffect i old
  | .rfStat => s.judgeMute i s.now
  | .flxClr => s.clrWritten i
  | .biaClr => s.clrWritten (128 + i)
  | .flxCfg => if fieldOf old 1 0 = fieldOf (a (aFlxCfg i)) 1 0 then s else s.openWindow i
  | .biaCfg => if fieldOf old 0 0 = fieldOf (a (aBiaCfg i)) 0 0 then s else s.openWindow (128 + i)
  | .grpCtrl => s.grpCtrlEffect i
  | .grpSw => if v.getLsbD 0 then s.grpSwEffect i else s
  | .adcCtrl => s.adcCtrlEffect i
  | .cruDragData =>
    let w := a (aCruDragAddr i)
    ((s.setCru i ((s.cru i).setDrag (fieldOf w 15 12) (fieldOf w 11 0) v)).copyWrite i (65536 + fieldOf w 15 0) v).dragNext i
  | .cruCtx => s.copyWrite i (0x400 + 4 * f.idx.getD 1 0) (a (aCruCtx i (f.idx.getD 1 0)))
  | .cruClsThi => if v.getLsbD 31 then s.classifierGo i else s
  | .sprSwpub => s.swPublish v
  | .sprTmrCfg => s.timerCfgEffect i old
  | .runPortCtrl => s.runCtrlEffect i v
  | .runLaneCtrl => if v.getLsbD 0 then s.draw.2.laneSlipEffect i (f.idx.getD 1 0) (s.draw.1.getLsbD 0) else s
  | .timCastCfg => s.castCfgEffect old
  | .timCastCtrl => if v.getLsbD 0 then s.realignEffect else s
  | .timSysCfg => s.sysCfgEffect old
  | .timSysCtrl => if v.getLsbD 0 then { s with sys := { s.sys with stepArmed := true } } else s
  | .timSysOfsIn => s.sysOffset v.toInt
  | .capCtrl => s.capCtrlEffect sid v
  | .tiuUctrl => s.tiuCtrlEffect i v
  | .cmkReq => (s.cmkRequest (BitVec.ofNat 8 (fieldOf v 31 24)) (v.setWidth 24)).getD s
  | .calAccept => s.calAcceptEffect v
  | .fusProgHi => if v.getLsbD 31 then (s.cmkRequest 0x20 0).getD s else s
  | .cryCtrl => s.cryCtrlEffect old
  | .cryPins | .cryExc => s.cryChannelEffect i
  | .cryRoutCfg => s.cryRoutEffect i old
  | _ => s

/-- One entry applied (R5, R321): its word is stored, then it acts. The Drag word is held in Drag memory. -/
def State.applyWrite (s : State) (sid : W32) (a : Nat) (v : W32) : State :=
  match findReg a with
  | none => s
  | some f =>
    let old := s.reg a
    let s := match f.row.id with
      | .cruDragData => s
      | _ => s.setReg a (f.stored old v)
    s.writeEffect sid f old v

/-- The first entry refused, each judged against the state that those before it leave (R321). -/
def State.writeFault (s : State) (x : Session) (n : Nat) (l : List (Nat × W32)) : Option (Nat × Nat × WrFault) :=
  match l with
  | [] => none
  | e :: r =>
    match s.checkEntry x.role e.1 e.2 with
    | some c => some (n, e.1, c)
    | none => (s.applyWrite x.id e.1 e.2).writeFault x (n + 1) r

/-- Old and new words of the entries that name /I and /M registers (R348, R350). -/
def State.privWrites (s : State) (x : Session) (l : List (Nat × W32)) : List (Nat × W32 × W32) :=
  match l with
  | [] => []
  | e :: r =>
    let rest := (s.applyWrite x.id e.1 e.2).privWrites x r
    match findReg e.1 with
    | none => rest
    | some f => if f.row.role == some .installer || f.row.role == some .maker then (e.1, s.liveAt e.1, e.2) :: rest else rest

/-- Class 0x0001 details: 12 writes to an entry (R350). -/
def writeDetails (l : List (Nat × W32 × W32)) : List (List Byte) :=
  (chunksOf (l.length + 1) 12 l).map (fun c =>
    leBytes 4 c.length ++ c.flatMap (fun e => leBytes 4 e.1 ++ leBytes 4 e.2.1.toNat ++ leBytes 4 e.2.2.toNat))

/-- Entries applied in order, the first latched at tick `t` (R321, R462). Entries of different registers never share a latch
tick: the next one comes 1 to 78 ticks later, how many being left open, so that all 256 latch within 10 µs. -/
def State.applyFrom (s : State) (sid : W32) (t : Tick) (l : List (Nat × W32)) : State :=
  match l with
  | [] => s
  | [e] => s.atTick t (fun s => s.applyWrite sid e.1 e.2)
  | e :: f :: r =>
    let s := s.atTick t (fun s => s.applyWrite sid e.1 e.2)
    if f.1 = e.1 then s.applyFrom sid t (f :: r)
    else s.draw.2.applyFrom sid (t + 1 + BitVec.ofNat 64 (s.draw.1.toNat % 78)) (f :: r)
/-- Apply entries in order (R321), the command standing at the latch tick of the first (R462). -/
def State.applyAll (s : State) (sid : W32) (l : List (Nat × W32)) : State := s.applyFrom sid s.now l

/-- A refused REG_WRITE: the loop counter counts, and a privileged one is logged (R218, R325, R348). -/
def State.writeRefused (s : State) (x : Session) (l : List (Nat × W32)) (n a : Nat) (c : WrFault) : Answer :=
  let d : Detail := { detailAddr a with index := BitVec.ofNat 32 n }
  let s := if c.loop then s.count aSprCntB 31 24 1 else s
  let priv := l.filterMap (fun e => match findReg e.1 with
    | none => none
    | some f => if f.row.role == some .installer || f.row.role == some .maker then some (e.1, s.liveAt e.1, e.2) else none)
  match writeDetails priv with
  | [] => .failed s c.st d
  | b :: _ => .failed (s.logRefused x 0x0001 b) c.st d

/-- A REG_WRITE (R321): checked in whole, its privileged entries logged, then applied in order. -/
def State.regWriteAll (s : State) (x : Session) (l : List (Nat × W32)) : Answer :=
  if l.isEmpty ∨ 256 < l.length then .refuse .range noDetail
  else match s.writeFault x 0 l with
    | some c => s.writeRefused x l c.1 c.2.1 c.2.2
    | none =>
      match writeDetails (s.privWrites x l) with
      | [] => .done (s.applyAll x.id l) []
      | ds => s.privileged x 0x0001 ds (fun s => .done (s.applyAll x.id l) [])

/-- Address and value pairs of a REG_WRITE's content (R321). -/
def writePairs (n : Nat) (b : List Byte) : List (Nat × W32) :=
  (List.range n).map (fun i => (leNat (slice b (8 * i) 4), BitVec.ofNat 32 (leNat (slice b (8 * i + 4) 4))))

/-- The REG_WRITE of one register, as a command of its own. -/
def State.writeOne (s : State) (sid seq : W32) (a : Nat) (v : W32) : State :=
  s.request sid seq 0x11 none (fun x s => s.regWriteAll x [(a, v)])

end Sys2Proof.Machine
end

