-- ==== Sys2Proof/Machine/Coremaker.lean ====
section
/-! DEFINITION. The Coremaker's microwords, routines and calibration commits (R355-R376). A microword's command acts only while the
word at the running routine's PC is that word. -/

namespace Sys2Proof.Machine

/-- Scratch register (R355): m0 reads 0. -/
def CmkCtx.mreg (c : CmkCtx) (i : BitVec 5) : W32 := if i = 0 then 0 else Tbl.get c.m i.toNat 0
def CmkCtx.setM (c : CmkCtx) (i : BitVec 5) (v : W32) : CmkCtx := if i = 0 then c else { c with m := Tbl.put c.m i.toNat v 0 }
/-- The word at an address: a CSR as it stands, or an internal trim. -/
def State.cmkPeek (s : State) (a : W32) : W32 := if a.getLsbD 31 then Tbl.get s.cmk.trims (a.toNat - 2 ^ 31) 0 else s.liveAt a.toNat
/-- A condition (R357). -/
def State.cmkCond (s : State) (c : CmkCtx) (w : MicroWord) : Bool :=
  let x : Bool := match w.cond.toNat with
    | 0 => true
    | 1 => (s.cmkPeek w.addr).getLsbD (w.count.toNat % 32)
    | 2 => c.mreg w.src == 0
    | 3 => s.cmkInt
    | 4 => s.fuseWindow
    | 5 => s.nvWindow
    | _ => false
  x != w.pol

/-- A free word. -/
def State.drawWord (s : State) : W32 × State := (s.draw.1.setWidth 32, s.draw.2)
/-- The ALU (R356): none for a reserved operation; a shift by 32 or more is left open. -/
def State.cmkAlu (s : State) (op : Nat) (a b : W32) : Option (W32 × State) :=
  let n := b.toNat
  match op with
  | 0 => some (a, s)
  | 1 => some (a + b, s)
  | 2 => some (a - b, s)
  | 3 => some (a &&& b, s)
  | 4 => some (a ||| b, s)
  | 5 => some (a ^^^ b, s)
  | 6 => some (if n < 32 then (a <<< n, s) else s.drawWord)
  | 7 => some (if n < 32 then (a >>> n, s) else s.drawWord)
  | 8 => some (if n < 32 then (a.sshiftRight n, s) else s.drawWord)
  | 9 => some (if a.toInt ≤ b.toInt then a else b, s)
  | 10 => some (if b.toInt ≤ a.toInt then a else b, s)
  | 11 => some (a * b, s)
  | 12 => some (BitVec.ofInt 32 (a.toInt * b.toInt / 2 ^ 32), s)
  | 13 => some (if a.toInt < b.toInt then 1 else 0, s)
  | _ => none

/-- What an action gives: the state and the routine's context, or the result with which the routine ends. -/
inductive CmkAct where
  | go (s : State) (c : CmkCtx)
  | fail (s : State) (result : Byte)

/-- The running routine's context. -/
def State.cmkCtx (s : State) (c : CmkCtx) : State := { s with cmk := { s.cmk with running := some c } }
/-- A sub-converter leaves the pool (R158). -/
def State.retireSub (s : State) (ch sub : Nat) : State :=
  if s.fld (aAdcPool ch) 5 0 = 0x3F then
    (s.setFld (aAdcPool ch) 5 0 sub).logEvent 0x0008 3 (leBytes 1 ch ++ leBytes 1 sub)
  else s
/-- A routine ends with success (R356, R358, R360): ADC_RETIRE takes its sub-converter out of the pool. -/
def State.cmkEndOk (s : State) : State :=
  match s.cmk.running with
  | none => s
  | some c =>
    let t := s.cmkEnd true 0
    if c.routine = 0x09 then t.retireSub (c.target.toNat / 64 % 32) (c.target.toNat % 64) else t

/-- Sequencing (R356, R357). -/
def State.cmkSeq (s : State) (c : CmkCtx) (w : MicroWord) : State :=
  let next := { c with pc := w.next.toNat }
  let alt := { c with pc := w.alt.toNat }
  let bad := (s.cmkCtx c).cmkEnd false 0xFF
  match w.seqk.toNat with
  | 0 => s.cmkCtx next
  | 1 => s.cmkCtx (if s.cmkCond c w then alt else next)
  | 2 => if s.cmkCond c w then s.cmkCtx next else (s.cmkCtx { c with waiting := some s.mono }).cmkNotice
  | 3 => if 4 ≤ c.stack.length then bad else s.cmkCtx { alt with stack := w.next.toNat :: c.stack }
  | 4 => match c.stack with
    | [] => bad
    | p :: r => s.cmkCtx { c with pc := p, stack := r }
  | 5 =>
    let c' := c.setM w.dst (c.mreg w.dst - 1)
    s.cmkCtx { c' with pc := if c'.mreg w.dst = 0 then w.next.toNat else w.alt.toNat }
  | 6 => (s.cmkCtx c).cmkEndOk
  | 7 => (s.cmkCtx c).cmkEnd false (w.imm.setWidth 8)
  | _ => bad

/-- A word of the running routine (R355, R356, R361): an interrupt is taken first at a safe point, then the action, its log entry, and
the sequencing. -/
def State.cmkWord (s : State) (w : MicroWord) (action : Nat) (act : State → CmkCtx → CmkAct) : State :=
  match s.cmk.running with
  | none => s
  | some c =>
    if c.waiting.isSome ∨ s.microAt c.pc ≠ MicroCode w action then s
    else
      let t := if w.safe && s.cmkInt then s.cmkTakeInt else s
      if t.cmk.running.isNone then t
      else match act t c with
        | .fail t r => t.cmkEnd false r
        | .go t c' =>
          let t := if w.log then t.logEvent 0x0007 2 (leBytes 1 c.routine.toNat ++ leBytes 2 c.pc ++ leBytes 1 action) else t
          t.cmkSeq c' w

/-- An irreversible action: made only in a safe word, the journal committed first (R363). -/
def irreversible (w : MicroWord) (s : State) (c : CmkCtx) (k : State → CmkAct) : CmkAct :=
  if w.safe then k { s with cmk := { s.cmk with journal := [] } } else .go s c

/-- NONE (R356), and the reserved action codes, which end the routine. -/
def execCmkNone (w : MicroWord) (s : State) : Out :=
  .next (
    match s.cmk.running with
    | none => s
    | some c =>
      let k := microAction (s.microAt c.pc)
      if 11 ≤ k then s.cmkWord w k (fun s _ => .fail s 0xFF) else s.cmkWord w 0 .go)

/-- WRITE (R356, R360). -/
def execCmkWrite (w : MicroWord) (s : State) : Out :=
  .next (s.cmkWord w 1 (fun s c =>
    if 1024 ≤ s.cmk.journal.length then .fail s 0xFE
    else
      let old := if w.addr.getLsbD 31 then s.cmkPeek w.addr else s.reg w.addr.toNat
      let s := { s with cmk := { s.cmk with journal := (w.addr, old) :: s.cmk.journal } }
      .go (s.cmkPoke w.addr.toNat (c.mreg w.src + w.imm)) c))

/-- READ (R356). -/
def execCmkRead (w : MicroWord) (s : State) : Out :=
  .next (s.cmkWord w 2 (fun s c => .go s (c.setM w.dst (s.cmkPeek w.addr))))

/-- ALU (R356). -/
def execCmkAlu (w : MicroWord) (s : State) : Out :=
  .next (s.cmkWord w 3 (fun s c =>
    match s.cmkAlu w.alu.toNat (c.mreg w.src) w.imm with
    | none => .fail s 0xFF
    | some x => .go x.2 (c.setM w.dst x.1)))

/-- SHADOW (R356, R365): the set holds up to 1024 pairs. -/
def execCmkShadow (w : MicroWord) (s : State) : Out :=
  .next (s.cmkWord w 4 (fun s c =>
    if s.cmk.set.length < 1024 then
      .go { s with cmk := { s.cmk with set := s.cmk.set ++ [(w.addr, c.mreg w.src + w.imm)] } } c
    else .go s c))

/-- The sub-converter of a channel that is out of the pool, or on its way out (R158). -/
def State.retiring (s : State) (ch : Nat) : Option Nat :=
  let r := s.fld (aAdcPool ch) 5 0
  let asked := ((s.cmk.queue ++ s.cmk.asks).filter (fun q => q.routine == 0x09)).map (fun q => q.target.toNat)
    ++ ((s.cmk.running.toList ++ s.cmk.yielded).filter (fun c => c.routine == 0x09)).map (fun c => c.target.toNat)
  if r ≠ 0x3F then some r else (asked.find? (fun k => k / 64 == ch)).map (fun k => k % 64)
/-- A sub-converter exceeds its wear limit (R158): ADC_RETIRE is requested for the first of its channel; a second raises the alarm. -/
def State.subWorn (s : State) (ch sub : Nat) : State :=
  match s.retiring ch with
  | none => s.routineAsk 0x09 (64 * ch + sub)
  | some r =>
  if r = sub then s
  else ((s.setBit (aAdcStat ch) 17 true).alert 5).logEvent 0x0008 4 (leBytes 1 ch ++ leBytes 1 sub)

/-- Refusals in a row of a sub-converter's sets are counted; the third is a wear limit exceeded (R366). -/
def State.subRefused (s : State) (l : List (W32 × W32)) (bad : Bool) : State :=
  s.each ((l.filterMap (fun p => Config.trimSub p.1)).dedup) (fun s x =>
    let k := 64 * x.1 + x.2
    let n := if bad then Tbl.get s.cmk.subRefusals k 0 + 1 else 0
    let s := { s with cmk := { s.cmk with subRefusals := Tbl.put s.cmk.subRefusals k (n % 3) 0 } }
    if n = 3 then s.subWorn (x.1 % 32) (x.2 % 64) else s)

/-- The set under construction is submitted (R366, R367): refused with its first implausible pair, or left to wait for acceptance or
for its commit tick, at the least 2000 ticks on. -/
def State.cmkSubmit (s : State) (routine : Byte) : State :=
  let l := s.cmk.set
  let s := { s with cmk := { s.cmk with set := [] } }.setFld aCalStat 31 24 routine.toNat
  match s.setFault l with
  | some p => (s.calRefuse routine p).subRefused [p] true
  | none =>
    let s := s.subRefused l false
    let s := s.each ((l.filter (fun p => Config.trimWorn p.1 p.2)).filterMap (fun p => Config.trimSub p.1)) (fun s x => s.subWorn (x.1 % 32) (x.2 % 64))
    { s with cmk := { s.cmk with setSt := if s.calAuto routine then .awaitTick else .awaitAccept
                                 sub := some (routine, l, s.mono, s.now + 2000) } }

/-- COMMIT (R363, R366, R367). -/
def execCmkCommit (w : MicroWord) (s : State) : Out :=
  .next (s.cmkWord w 5 (fun s c => irreversible w s c (fun s => .go (s.cmkSubmit c.routine) c)))

/-- Bits [59:0] of the row that FUS_PROG_LO and HI describe (R371, R377). -/
def State.fuseTarget (s : State) : W64 :=
  let w := BitVec.ofNat 64 (s.fld aFusProgHi 19 12 * 2 ^ 52 + s.fld aFusProgHi 11 0 * 2 ^ 40 + (s.reg aFusProgLo).toNat * 2 ^ 8)
  w ||| BitVec.ofNat 64 (fuseCrc w)
def State.setFuse (s : State) (r : Nat) (v : W64) : State := { s with fuses := Tbl.insert s.fuses r v }

/-- FUSE (R363, R374): the lowest row with no bit blown takes its bits and, if they compare, its valid marker; a cut or miscompared
row is abandoned. -/
def execCmkFuse (w : MicroWord) (o : FuseObs) (s : State) : Out :=
  .next (s.cmkWord w 6 (fun s c => irreversible w s c (fun s =>
    if !s.fuseWindow || decide (o.railMv < 1710) || decide (1890 < o.railMv) then .fail s 0x01
    else match s.nextRow with
      | none => .fail ((s.alert 5).logEvent 0x0008 5 []) 0x03
      | some r =>
        let v := s.fuseTarget
        let lost := fun (s : State) (v : W64) => CmkAct.fail ((s.setFuse r v).logEvent 0x0008 6 (leBytes 2 r)) 0x02
        match o.cut with
        | some n => lost s (Config.blownFirst v n &&& v)
        | none => if o.same then .go ((s.setFuse r (v ||| (1#64 <<< 63))).logEvent 0x0008 7 (leBytes 2 r)) c else lost s v)))

/-- A list of free bytes: the record buffer, of which the manual says no more than its name (R356). -/
def State.drawBytes (s : State) (n : Nat) : List Byte × State :=
  match n with
  | 0 => ([], s)
  | k + 1 =>
    let x := s.draw
    let y := x.2.drawBytes k
    (x.1.setWidth 8 :: y.1, y.2)

/-- NVWRITE (R356, R363, R375): no write begins outside the NV window. -/
def execCmkNvwrite (w : MicroWord) (s : State) : Out :=
  .next (s.cmkWord w 7 (fun s c => irreversible w s c (fun s =>
    if s.nvWindow then
      let x := s.drawBytes 256
      .go (x.2.nvPut (fieldOf w.imm 31 16) (fieldOf w.imm 15 0) x.1) c
    else .go s c)))

/-- PUBLISH (R356, R359, R363): on the system channels; none is ever published on 250 to 255 (R207). -/
def execCmkPublish (w : MicroWord) (s : State) : Out :=
  .next (s.cmkWord w 8 (fun s c => irreversible w s c (fun s =>
    let ch := fieldOf w.imm 7 0
    if 240 ≤ ch ∧ ch < 250 then .go (s.publishSys (BitVec.ofNat 8 ch) s.now (BitVec.ofNat 16 (fieldOf w.imm 31 16))) c else .go s c)))

/-- SLIP (R236, R356): one bit-slip on a lane in word alignment; where the new boundary stands is left open. -/
def execCmkSlip (w : MicroWord) (s : State) : Out :=
  .next (s.cmkWord w 9 (fun s c =>
    match findReg w.addr.toNat with
    | none => .go s c
    | some f =>
      let p := f.idx.headD 0
      let l := f.idx.getD 1 0
      let x := s.port p
      let lane : Bool := f.row.id == .runLaneCtrl || f.row.id == .runLaneStat || f.row.id == .runLaneErr
      if lane && x.searching then
        let t := s.draw.2.setFld (aRunLaneStat p l) 15 12 (min (s.fld (aRunLaneStat p l) 15 12 + 1) 15)
        .go (t.setBit (aRunLaneStat p l) 2 (s.draw.1.getLsbD 0)) c
      else .go s c))

/-- LOAD (R356, R373): the record in force of the shadow table; a missing record leaves the value open. -/
def execCmkLoad (w : MicroWord) (s : State) : Out :=
  .next (s.cmkWord w 10 (fun s c =>
    match fuseRec s.fuseShadow (fieldOf w.imm 15 8) (fieldOf w.imm 27 16) with
    | some d => .go s (c.setM w.dst d)
    | none => .go s.drawWord.2 (c.setM w.dst s.drawWord.1)))

/-- The limit of a WAIT, in ns (R355, R357). -/
def waitLimit (w : MicroWord) : Nat := (if w.timeout = 0 then 2 ^ 21 else w.timeout.toNat) * 1000

/-- CMK_WAIT_TIMEOUT (R356, R357). -/
def execCmkWaitTimeout (s : State) : Out :=
  .next (
    match s.cmk.running with
    | none => s
    | some c =>
      let w := microOf (s.microAt c.pc)
      match c.waiting with
      | none => s
      | some t =>
        if waitLimit w ≤ s.since t ∧ !s.cmkCond c w then
          (s.count aCmkCnt 23 16 1).cmkCtx { c with pc := w.alt.toNat, waiting := none }
        else s)

/-- CMK_WAIT_SATISFIED (R357): the condition becomes true; a hardware bit among the internal trims is what the command reports. -/
def execCmkWaitSatisfied (s : State) : Out :=
  .next (
    match s.cmk.running with
    | none => s
    | some c =>
      let w := microOf (s.microAt c.pc)
      let go := fun (s : State) => s.cmkCtx { c with pc := w.next.toNat, waiting := none }
      if c.waiting.isNone then s
      else if s.cmkCond c w then go s
      else if w.cond = 1 ∧ w.addr.getLsbD 31 then
        let v := s.cmkPeek w.addr
        let n := w.count.toNat % 32
        go (s.cmkPoke w.addr.toNat (withField v n n (bitN (!w.pol))))
      else s)

/-- FORCED_ABORT (R361): 200 µs without a safe point. -/
def execForcedAbort (s : State) : Out :=
  .next (
    match s.cmk.intSince with
    | none => s
    | some t => if s.cmkInt ∧ 200000 ≤ s.since t then s.cmkEnd false 0xFD else s)

/-- Scratch registers m1 to m(n) at free values: the manual does not say what they hold when a routine starts. -/
def State.drawScratch (s : State) (n : Nat) : Tbl W32 × State :=
  match n with
  | 0 => ([], s)
  | k + 1 =>
    let x := s.drawScratch k
    let y := x.2.drawWord
    (Tbl.put x.1 (k + 1) y.1 0, y.2)

/-- ROUTINE_START (R358, R359, R361): the highest priority that can run; a yielded routine resumes before a queued one of its priority. -/
def execRoutineStart (s : State) : Out :=
  .next (
    if s.cmk.running.isSome then s
    else
      let y := s.cmk.yielded.filter (fun c => s.cmkEligible ⟨c.routine, c.target⟩)
      let q := s.cmk.queue.filter s.cmkEligible
      let ps := y.map (fun c => routinePriority c.routine) ++ q.map (fun r => routinePriority r.routine)
      match ps with
      | [] => s
      | p :: r =>
        let best := r.foldl min p
        match y.find? (fun c => routinePriority c.routine == best) with
        | some c => { s with cmk := { s.cmk with running := some c, yielded := s.cmk.yielded.erase c, journal := [], set := c.set } }
        | none => match q.find? (fun r => routinePriority r.routine == best) with
          | none => s
          | some r =>
            let x := s.drawScratch 31
            let s := x.2
            let c : CmkCtx := ⟨r.routine, r.target, (Config.routineEntry r.routine).toNat, x.1, [], none, []⟩
            State.asksAgain { s with cmk := { s.cmk with running := some c, queue := s.cmk.queue.erase r, journal := [], set := [] } })

/-- ROUTINE_PERIODIC_REQUEST (R358): TIU_CAL every 10 s, NV_SCRUB every 24 h, and ADC_BG without a break while the ADC bank is ON, channel
after channel. -/
def execRoutinePeriodicRequest (r : BitVec 8) (s : State) : Out :=
  .next (
    if s.boot.stage ≠ 10 ∨ s.boot.stop.isSome then s
    else if r = 0x0A ∧ 10000000000 ≤ s.since s.cmk.lastTiu then
      match s.cmkRequest 0x0A 0 with
      | none => s
      | some t => { t with cmk := { t.cmk with lastTiu := s.mono } }
    else if r = 0x21 ∧ 86400000000000 ≤ s.since s.cmk.lastScrub then
      match s.cmkRequest 0x21 0 with
      | none => s
      | some t => { t with cmk := { t.cmk with lastScrub := s.mono } }
    else if r = 0x08 ∧ (s.bank 5).st = .on then
      match s.cmkRequest 0x08 (BitVec.ofNat 24 s.cmk.bgNext) with
      | none => s
      | some t => { t with cmk := { t.cmk with bgNext := (s.cmk.bgNext + 1) % 32 } }
    else s)

/-- ACCEPTANCE_TIMEOUT (R367): 60 s without acceptance. -/
def execAcceptanceTimeout (s : State) : Out :=
  .next (
    match s.cmk.setSt, s.cmk.sub with
    | .awaitAccept, some x => if 60000000000 ≤ s.since x.2.2.1 then s.calRefuse x.1 ((x.2.1.head?).getD (0, 0)) else s
    | _, _ => s)

/-- CAL_COMMIT_TICK (R367, R368, R375): at the first tick that every target and the NV window allow, every value takes effect, is saved,
logged and published. -/
def execCalCommitTick (s : State) : Out :=
  .next (
    match s.cmk.setSt, s.cmk.sub with
    | .awaitTick, some x =>
      let l := x.2.1
      if x.2.2.2.toNat ≤ s.now.toNat ∧ s.nvWindow ∧ l.all (fun p => s.calTickOk p s.now) then
        let t := (s.each l State.calPut).calSave l
        let t := { t with cmk := { t.cmk with setSt := .committed, sub := none } }
        (t.logEvent 0x0008 2 ([x.1] ++ leBytes 8 s.now.toNat)).publishSys 0xF8 s.now (x.1.setWidth 16)
      else s
    | _, _ => s)

/-- REFIN_RETURN (R23, R266, R358): the reference is back, the locked domains relock, and PLL_LOCK is requested. -/
def execRefinReturn (s : State) : Out :=
  .next (
    if s.cast.refinOk then s
    else
      let c := { s.cast with refinOk := true, pllLock := true }
      let t := { s with cast := { c with cause := if c.st = CastSt.holdover then c.cause else 0 } }
      let t := t.withCast t.cast
      t.routineAsk 0x02 0)

end Sys2Proof.Machine
end

