-- ==== Sys2Proof/Machine/Power.lean ====
section
/-! DEFINITION. Supply, temperature, spares and updates: the housekeeping round, feeds, stops and restarts of the supply, the slack
servo, and what is brought in or switched over (R392-R415). -/

namespace Sys2Proof.Machine

/-- The eight grid positions next to a sensor, as far as the grid goes (R403, R404). -/
def neighboursOf (k : Nat) : List Nat :=
  (List.range 64).filter (fun j => j != k && decide (((j / 8 : Nat) - (k / 8 : Nat) : Int).natAbs ≤ 1)
    && decide (((j % 8 : Nat) - (k % 8 : Nat) : Int).natAbs ≤ 1))
/-- Twice the median of a list that is not empty: an even number of values has the mean of its two middle ones. -/
def median2 (l : List Int) : Int :=
  let t := l.foldr insertInt []
  t.getD ((t.length - 1) / 2) 0 + t.getD (t.length / 2) 0

/-- A sensor is declared failed in this round (R404): it has stopped, or lies more than 8 degrees from its neighbours' median. -/
def State.failsNow (s : State) (r : List (Option Int)) (k : Nat) : Bool :=
  match r.getD k none with
  | none => true
  | some v =>
    let l := (neighboursOf k).filterMap (fun j => if (s.sensor j).failed then none else r.getD j none)
    !l.isEmpty && decide (2048 < (2 * v - median2 l).natAbs)

/-- A sensor after a round (R404, R405): its reading while valid, else the substitute. -/
def State.sensorStep (s : State) (r : List (Option Int)) (failed : List Bool) (k : Nat) : Sensor :=
  let x := s.sensor k
  let stopped := (r.getD k none).isNone
  let near := (neighboursOf k).filterMap (fun j => if failed.getD j true then none else r.getD j none)
  if failed.getD k true then
    match near with
    | [] => { x with value := 110 * 128, failed := true, stopped := stopped, alone := true, hist := [] }
    | v :: l => { x with value := l.foldl max v + 640, failed := true, stopped := stopped, alone := false, hist := [] }
  else
    let v := (r.getD k none).getD 0
    { x with value := v, failed := false, stopped := stopped, alone := false, hist := (v :: x.hist).take 100 }

/-- Every sensor after a round, with the counts and log entries of new failures (R404, THM_CNT). -/
def State.sensorRound (s : State) (r : List (Option Int)) : State :=
  let failed := (List.range 64).map (fun k => (s.sensor k).failed || s.failsNow r k)
  let fresh := (List.range 64).filter (fun k => !(s.sensor k).failed && failed.getD k true)
  let new := (List.range 64).map (fun k => (k, s.sensorStep r failed k))
  let s := { s with thermal := { s.thermal with sensors := new.foldl (fun (t : Tbl Sensor) (x : Nat × Sensor) => Tbl.put t x.1 x.2 Sensor.init) s.thermal.sensors } }
  s.each fresh (fun s k => (s.count aThmCnt 23 16 1).logEvent 0x0018 1 (leBytes 1 k))

/-- The module's rate of rise, in 1/128 degree a second: the largest over the valid sensors with a value 100 rounds old (R405). -/
def State.thermRate (old new : State) : Int :=
  let l := (List.range 64).filterMap (fun k =>
    let x := new.sensor k
    if x.failed then none else ((old.sensor k).hist[99]?).map (fun v => 10 * (x.value - v)))
  match l with
  | [] => 0
  | v :: r => r.foldl max v
/-- The hottest sensor and its value, substituted values included (R406). -/
def State.hottestNow (s : State) : Nat × Int :=
  (List.range 64).foldl (fun m k => if m.2 < (s.sensor k).value then (k, (s.sensor k).value) else m) (0, (s.sensor 0).value)

/-- The highest level whose condition holds; 5 stands for shut-down (R406). -/
def levelOf (t rate : Int) : Nat :=
  if 118 * 128 ≤ t then 5
  else if 114 * 128 ≤ t then 4
  else if 110 * 128 ≤ t then 3
  else if 105 * 128 ≤ t ∨ 20 * 128 < rate then 2
  else if 100 * 128 ≤ t ∨ 5 * 128 < rate then 1 else 0
/-- The falling condition of a level (R406). -/
def fallOk (level : Nat) (t rate : Int) : Bool :=
  match level with
  | 1 => decide (t ≤ 97 * 128) && decide (rate ≤ 320)
  | 2 => decide (t ≤ 102 * 128) && decide (rate ≤ 1280)
  | 3 => decide (t ≤ 107 * 128)
  | 4 => decide (t ≤ 111 * 128)
  | _ => false

/-- A channel-243 event, while cast ticks run (R207, R406). -/
def State.publishLevel (s : State) (payload : BitVec 16) : State :=
  if s.clock.castRuns then s.publishSys 0xF3 s.now payload else s
/-- The module can act on a level: it is neither stopped nor in ingot mode. -/
def State.acting (s : State) : Bool := s.boot.stage != 0 && !s.boot.ingot
/-- A level is raised: the actions of every level passed take effect (R406, R409). -/
def State.levelUp (s : State) (new : Nat) : State :=
  let old := s.thermal.level
  let s := { s with thermal := { s.thermal with level := new, fallCount := 0 } }.count aThmCnt 31 24 1
  let s := s.publishLevel (BitVec.ofNat 16 new)
  if !s.acting then s
  else
    let s := if old < 3 ∧ 3 ≤ new then s.holdNow else s
    if old < 4 ∧ 4 ≤ new then s.levelFour s.now else s
/-- A level falls by one; leaving level 4 releases the fault path (R407, R409). -/
def State.levelDown (s : State) : State :=
  let new := s.thermal.level - 1
  let s := { s with thermal := { s.thermal with level := new, fallCount := 0 } }.publishLevel (BitVec.ofNat 16 new)
  if s.fault.temper ∧ new < 4 then
    let s := { s with fault := { s.fault with temper := false } }
    if s.fault.asserted then s else s.releaseClear s.now 0x8001
  else s

/-- The hold (R408): begun when the sensor hottest in the preceding round fails at level 1 or higher, ended by 10 confirmed rounds. -/
def State.holdStep (s : State) (prevHot : Nat) (wasFailed : Bool) : State :=
  let t := s.thermal
  if !wasFailed && (s.sensor prevHot).failed && decide (1 ≤ t.level) then
    let x := s.sensor prevHot
    { s with thermal := { t with hold := true, holdSensor := prevHot, holdRounds := if x.alone then 0 else 1, holdLast := x.value, fallCount := 0 } }
      |>.count aThmCnt 15 8 1
  else if t.hold then
    let x := s.sensor t.holdSensor
    let n := if !x.alone && decide ((x.value - t.holdLast).natAbs ≤ 128) then t.holdRounds + 1 else 0
    { s with thermal := { t with holdRounds := n, holdLast := x.value } }
  else s

/-- Thermal shut-down (R406, R410). -/
def State.thermalShut (s : State) : State :=
  let s := if s.thermal.level < 4 then s.levelUp 4 else s
  let rst := match s.boot.stop with
    | some (k, _, false) => k == StopKind.rst
    | _ => false
  let s := { s with boot := { s.boot with rstWaits := s.boot.rstWaits || rst } }.publishLevel 0x8000
  let t := s.shutDown
  { t with thermal := { t.thermal with shutdown := true, coolSince := none, shutdowns := s.mono :: t.thermal.shutdowns } }

/-- Warning, rise and fall of the level at the end of a round (R406-R408). -/
def State.levelStep (s : State) : State :=
  let hot := s.thermal.hottestT
  let rate := s.thermal.rate
  let warn := s.thermal.warning
  let nw := if warn ∧ hot ≤ 92 * 128 then s.thermal.warnFall + 1 else 0
  let on : Bool := decide (95 * 128 ≤ hot) || (warn && decide (nw < 1000))
  let s := { s with thermal := { s.thermal with warning := on, warnFall := if on then nw else 0 } }
  let s := if 95 * 128 ≤ hot then s.alert 0 else s
  let want := levelOf hot rate
  if want = 5 ∧ s.acting then s.thermalShut
  else if s.thermal.level < min want 4 then s.levelUp (min want 4)
  else if s.thermal.hold then
    if 10 ≤ s.thermal.holdRounds then { s with thermal := { s.thermal with hold := false, fallCount := 0 } } else s
  else if fallOk s.thermal.level hot rate then
    let n := s.thermal.fallCount + 1
    if 1000 ≤ n ∧ want < s.thermal.level then s.levelDown
    else { s with thermal := { s.thermal with fallCount := min n 1000 } }
  else { s with thermal := { s.thermal with fallCount := 0 } }

/-- A bank is idle: no run accepted and not ended claims a cluster with channels in it (R134, R161). -/
def State.bankIdle (s : State) (b : Nat) : Bool :=
  if b < 4 then !s.clusterWanted (2 * b) && !s.clusterWanted (2 * b + 1) else (List.range 8).all (fun k => !s.clusterWanted k)
/-- Idle banks power down at level 1 and above (R134, R161, R409). -/
def State.idleBanks (s : State) : State :=
  if 1 ≤ s.thermal.level ∧ s.acting then s.each ((List.range 6).filter s.bankIdle) (fun s b => s.bankDown b) else s

/-- The rail that feeds a physical engine, and a physical Crucible: groups 0-3 hold eight Crucibles each, spare 32 lies in
group 1 and spare 33 in group 3 (R19, R400). -/
def peRail (p : Nat) : Nat := p / 17
def cruRail (c : Nat) : Nat := 8 + (if c < 32 then c / 8 else if c = 32 then 1 else 3)
/-- A block by its number in what a round reads: physical engines 0-135, then Crucibles; its rail, and swap_pending for it (R399, R402,
R411), where it serves a logical number. -/
def blockRail (b : Nat) : Nat := if b < 136 then peRail b else cruRail (b - 136)
def State.swapBlock (s : State) (b : Nat) : State :=
  if b < 136 then (match s.peLogical b with | none => s | some n => s.swapPendingPe n)
  else match s.cruLogical (b - 136) with
    | none => s
    | some n => s.swapPendingCru n
/-- swap_pending for the one block behind a starved rail (R402): a physical engine or Crucible that the rail feeds. -/
def State.starvedBlock (s : State) (r : Nat) (block : Option Nat) : State :=
  match block with
  | none => s
  | some b =>
    if r < 8 ∧ peRail b = r then s.swapBlock b
    else if 8 ≤ r ∧ r < 12 ∧ cruRail b = r then s.swapBlock (136 + b) else s
/-- A rail out of window for three rounds (R399, R428); in an engine or Crucible domain the blocks whose own monitors failed are to be
swapped. -/
def State.railFault (s : State) (monitors : List Nat) (k : Nat) : State :=
  let s := (s.setBit aPwrDomFlt k true).logEvent 0x0018 2 (leBytes 1 k)
  if fatalSources.contains (BitVec.ofNat 8 k) then s.fatal (BitVec.ofNat 8 k)
  else if 3 ≤ k ∧ k ≤ 8 then (s.bankDown (k - 3)).blockFault
  else if 11 ≤ k ∧ k ≤ 22 then (s.each (monitors.filter (fun b => blockRail b == k - 11)) State.swapBlock).blockFault
  else s.blockFault
/-- Rounds in a row with a rail of a domain out of window (R399). -/
def State.railRound (s : State) (out : BitVec 30) (monitors : List Nat) : State :=
  let on := s.domains
  s.each (List.range 30) (fun s k =>
    let n := if out.getLsbD k && on.getLsbD k then min (Tbl.get s.supply.domBad k 0 + 1) 4 else 0
    let s := { s with supply := { s.supply with domBad := Tbl.put s.supply.domBad k n 0 } }
    if n = 3 then s.railFault monitors k else s)

/-- The blocks that share a supply figure of R411: the engines of a cluster, the Crucibles of a group. -/
def blockPeers (b : Nat) : List Nat := (List.range 170).filter (fun x => decide (x < 136) == decide (b < 136) && blockRail x == blockRail b)
/-- A block serves a logical number. -/
def State.inService (s : State) (b : Nat) : Bool := if b < 136 then (s.peLogical b).isSome else (s.cruLogical (b - 136)).isSome
/-- Register of a block's rail requirement (R416). -/
def reqReg (b : Nat) : Nat := if b < 136 then aPwrReq b else aPwrReqc (b - 136)
/-- A block needs 40 mV more than the median of its in-service peers (R411). -/
def State.overNeeds (s : State) (b : Nat) : Bool :=
  s.inService b && decide (80 < 2 * (s.fld (reqReg b) 9 0 : Int) - median2 (((blockPeers b).filter s.inService).map (fun x => (s.fld (reqReg x) 9 0 : Int))))
/-- New 1 h means are shown, and a block that needs too much is to be swapped (R411, R416). -/
def State.needRound (s : State) (l : List (Nat × BitVec 10)) : State :=
  let s := s.each l (fun s x => s.setReg (reqReg x.1) (x.2.setWidth 32))
  s.each ((l.map (fun x => x.1)).filter s.overNeeds) (fun s b => (s.swapBlock b).logEvent 0x0018 3 (leBytes 1 b))
/-- A corrected error in a Crucible's memory: counted, and the 64th within 24 h has the Crucible swapped (R200, R202, R411). -/
def State.cruHit (s : State) (c : Nat) : State :=
  let l := (s.mono :: (Tbl.get s.spares.cruHits c []).filter (fun t => decide (s.since t < 86400000000000))).take 64
  let s := { s with spares := { s.spares with cruHits := Tbl.put s.spares.cruHits c l [] } }.count (aCruCnt c) 7 0 1
  if l.length = 64 then s.swapBlock (136 + c) else s

/-- Records held outside the NV window are written once the sensors read 105 degrees or less (R375). -/
def State.holdRound (s : State) : State :=
  let cool := s.sensors6263 (-20) 105
  let h := if !s.nvWindow then true else if cool then false else s.nv.holding
  let s := { s with nv := { s.nv with holding := h } }
  if h then s
  else { s with nv := { s.nv with closures := s.nv.closures ++ s.nv.heldClosures, heldClosures := [],
                                  clean := s.nv.clean || s.nv.heldEnd, heldEnd := false } }.logFlush

/-- HOUSEKEEPING_ROUND (R375, R399, R403-R411, R432). -/
def execHousekeepingRound (o : RoundObs) (s : State) : Out :=
  .next (
    if s.supply.unpowered then s
    else
      let prev := s.thermal.hottest
      let was := (s.sensor prev).failed
      let p := s.supply
      let t := { s with supply := { p with feedA := { p.feedA with reading := o.feedA }, feedB := { p.feedB with reading := o.feedB },
                                           inputW := o.inputW, riserPct := o.riserPct, progMv := o.progMv } }
      let t := t.sensorRound o.sensors
      let rate := s.thermRate t
      let hot := t.hottestNow
      let t := { t with thermal := { t.thermal with rate := rate, hottest := hot.1, hottestT := hot.2 } }
      let t := (t.holdStep prev was).levelStep
      let cold := (List.range 64).all (fun k => (t.sensor k).failed || decide ((t.sensor k).value ≤ 85 * 128))
      let since := if cold then some (t.thermal.coolSince.getD t.mono) else none
      let t := { t with thermal := { t.thermal with coolSince := if t.thermal.shutdown then since else none } }
      let t := ((t.idleBanks.railRound o.railsOut o.monitors).needRound o.reqs).each o.cruHits State.cruHit
      t.holdRound.alerts)

/-- THERMAL_RESTART (R410, R421): after 60 s at 85 degrees or less, unless it was the third shut-down within 24 h. -/
def execThermalRestart (s : State) : Out :=
  .next (
    match s.thermal.coolSince with
    | none => s
    | some t =>
      if s.thermal.shutdown ∧ 60000000000 ≤ s.since t ∧ s.shutdowns24 < 3 ∧ !s.boot.rstLow then
        s.startBegin (if s.boot.rstWaits then 0x02 else if s.supply.brownout.isSome then 0x05 else 0x06)
      else s)

/-- A feed of the two, and a change of it. -/
def State.feed (s : State) (f : Fin 2) : Feed := if f = 0 then s.supply.feedA else s.supply.feedB
def State.setFeed (s : State) (f : Fin 2) (x : Feed) : State :=
  { s with supply := if f = 0 then { s.supply with feedA := x } else { s.supply with feedB := x } }
/-- Neither feed carries the bus: it lies below 33 V (R392). -/
def State.busLow (s : State) : Bool := !s.supply.feedA.ok && !s.supply.feedB.ok
/-- The bus has fallen (R392, R395). -/
def State.busFell (s : State) : State :=
  if s.busLow then { s with supply := { s.supply with lowSince := some (s.supply.lowSince.getD s.mono), okSince := none } } else s
/-- The bus is back at 36 V or more: a dropout of up to 10 ms has been ridden through (R392, R395). -/
def State.busBack (s : State) : State :=
  let s := match s.supply.lowSince with
    | none => s
    | some t => if s.since t ≤ 10000000 ∧ s.supply.brownout.isNone then (s.count aPwrCnt 23 16 1).setBit aPwrStat 8 true else s
  { s with supply := { s.supply with lowSince := none, okSince := some (s.supply.okSince.getD s.mono) } }

/-- FEED_UNDERVOLTAGE (R392): a feed below 33 V. -/
def execFeedUndervoltage (f : Fin 2) (mv : Int) (s : State) : Out :=
  .next (
    let x := s.feed f
    if 33000 ≤ mv ∨ s.supply.unpowered then s
    else
      let t := s.setFeed f { x with reading := (mv / 10).toNat, ok := false, backSince := none }
      (if x.ok then (t.alert 1).logEvent 0x0017 1 (leBytes 1 f.val) else t).busFell)

/-- FEED_OVERVOLTAGE (R392): counted up to 100 V and 100 ms; beyond, the feed's input is isolated. -/
def execFeedOvervoltage (f : Fin 2) (mv : Int) (us : Nat) (s : State) : Out :=
  .next (
    let x := s.feed f
    if mv ≤ 75000 ∨ s.supply.unpowered then s
    else if mv ≤ 100000 ∧ us ≤ 100000 then s.count aPwrCnt 7 0 1
    else
      let t := s.setFeed f { x with reading := (mv / 10).toNat, ok := false, isolated := true, backSince := none }
      ((t.alert 1).logEvent 0x0017 2 (leBytes 1 f.val)).busFell)

/-- FEED_RETURN (R392): a feed is back within 36-75 V; an isolated one is reconnected once it has been so for 1 s. -/
def execFeedReturn (f : Fin 2) (mv : Int) (s : State) : Out :=
  .next (
    let x := s.feed f
    if mv < 36000 ∨ 75000 < mv ∨ x.ok then s
    else
      let since := x.backSince.getD s.mono
      let x := { x with reading := (mv / 10).toNat, backSince := some since }
      if x.isolated ∧ s.since since < 1000000000 then s.setFeed f x
      else ((s.setFeed f { x with ok := true, isolated := false, backSince := none }).logEvent 0x0017 3 (leBytes 1 f.val)).busBack)

/-- BROWNOUT_DECIDED (R394, R424): the bus has been below 33 V for 10 ms, and no other stop is under way. -/
def execBrownoutDecided (s : State) : Out :=
  .next (
    match s.supply.lowSince with
    | none => s
    | some t =>
      if 10000000 ≤ s.since t ∧ s.supply.brownout.isNone ∧ s.boot.stop.isNone ∧ s.acting ∧ !s.supply.unpowered then
        let D := s.now
        let s := { s with supply := { s.supply with brownout := some D, limitDone := false } }
        let s := (s.count aPwrCnt 31 24 1).logEvent 0x0017 4 (leBytes 8 D.toNat)
        let s := if s.clock.castRuns then s.publishSys 0xF9 D 0 else s
        s.beginStop .brownout 0x05
      else s)

/-- BROWNOUT_SHOT_LIMIT (R394, R429, R433): a stop under way ends: 2 ms after its tick the shots left end with POWER_ABORT, and with no
shot in flight it goes on at once. -/
def execBrownoutShotLimit (s : State) : Out :=
  .next (
    match s.boot.stop with
    | some (k, D, false) =>
      if D.toNat + 4000000 ≤ s.now.toNat then (s.abortShots (D + 4000000) .powerAbort).finishStop k D
      else if s.anyInFlight then s
      else s.finishStop k D
    | _ => s)

/-- BROWNOUT_RESTART (R395, R421). -/
def execBrownoutRestart (s : State) : Out :=
  .next (
    match s.boot.stop, s.supply.okSince with
    | some (.brownout, _, true), some t =>
      if 100000000 ≤ s.since t ∧ !s.boot.rstLow then s.startBegin (if s.boot.rstWaits then 0x02 else 0x05) else s
    | _, _ => s)

/-- Everything that power holds outside the NV store is lost; entries held back in the Moulder are lost with it (R375, R394). -/
def State.blackout (s : State) : State :=
  let s := if s.nv.holding then
      { s with log := { s.log with pend := [] }
               nv := { s.nv with heldClosures := [], heldEnd := false } }
    else s.logFlush
  let early : Bool := decide (1 ≤ s.boot.stage) && decide (s.boot.stage < 10)
  let found : Byte := if (s.unsettled || early) && !s.nv.clean then 0xF1 else s.boot.found
  let s := { s with boot := { s.boot with found := found } }
  s.powerOff

/-- RISER_BANK_SPENT (R394, R431, R433): with both feeds lost the module loses its last power. -/
def execRiserBankSpent (s : State) : Out :=
  .next (
    if s.busLow ∧ !s.supply.unpowered then
      let t := s.blackout
      { t with
        supply := { t.supply with unpowered := true, domOn := 0, lowSince := none, okSince := none, brownout := none, riserPct := 0 }
        boot := { t.boot with stop := none, restartAt := none } }
    else s)

/-- STAGE_ISOLATE (R396): below 8 stages as temper level 3; below 6 the orderly power-off of a shut-down. -/
def execStageIsolate (i : Fin 10) (s : State) : Out :=
  .next (
    if (s.supply.stages.getD i false) ∧ !s.supply.unpowered then
      let before := s.stagesOk
      let t := { s with supply := { s.supply with stages := s.supply.stages.set i false } }
      let t := ((t.count aPwrCnt 15 8 1).alert 2).logEvent 0x0017 5 (leBytes 1 i.val)
      if !t.acting then t
      else if t.stagesOk < 6 ∧ 6 ≤ before then t.shutDown
      else if t.stagesOk < 8 ∧ 8 ≤ before then t.holdNow else t
    else s)

/-- The domain of a servoed rail (R397, R400): clusters PD11-PD18, Crucible groups PD19-PD22, the Sprue in PD00. -/
def railDomain (r : Nat) : Nat := if r < 12 then 11 + r else 0
/-- Starved rails (R402): below the floor at 0.90 V for 100 µs, until 1 ms at or above it. -/
def State.starveStep (s : State) (r : Nat) (worst : Int) (alone : Option Nat) : State :=
  let p := s.supply
  if worst < 8 then
    let s := { s with supply := { p with healSince := Tbl.put p.healSince r none none } }
    if s.railOf r = 1800 ∧ !s.bit (aPwrSlk r) 31 then
      let t := (Tbl.get p.starveSince r none).getD s.mono
      if 100000 ≤ s.since t then
        (((s.setBit (aPwrSlk r) 31 true).alert 3).logEvent 0x0017 6 (leBytes 1 r)).starvedBlock r alone
      else { s with supply := { s.supply with starveSince := Tbl.put s.supply.starveSince r (some t) none } }
    else s
  else
    let s := { s with supply := { p with starveSince := Tbl.put p.starveSince r none none } }
    if s.bit (aPwrSlk r) 31 then
      let t := (Tbl.get p.healSince r none).getD s.mono
      if 1000000 ≤ s.since t then
        { s with supply := { s.supply with healSince := Tbl.put s.supply.healSince r none none } }.setBit (aPwrSlk r) 31 false
      else { s with supply := { s.supply with healSince := Tbl.put s.supply.healSince r (some t) none } }
    else s

/-- SLACK_SERVO_STEP (R400-R402): the rail moves from its worst slack, within 0.62 V to 0.90 V. -/
def execSlackServoStep (r : Fin 13) (worst : Int) (tenth : Bool) (alone : Option Nat) (s : State) : Out :=
  .next (
    if s.domains.getLsbD (railDomain r) then
      let v : Int := s.railOf r
      let v := if worst < 8 then v + 20 else v
      let target : Int := if s.thermal.level = 0 then 16 else 10
      let v := if !tenth then v else if worst < target then v + 10 else if target + 4 < worst then v - 5 else v
      let v := (clampInt 1240 1800 v).toNat
      let p := s.supply
      let t := { s with supply := { p with rail := Tbl.put p.rail r v 1240, slack := Tbl.put p.slack r worst 0 } }
      t.starveStep r worst alone
    else s)

/-- MOULDER_TAKEOVER (R414): the standby becomes active, and no standby is left. -/
def execMoulderTakeover (s : State) : Out :=
  .next (
    if s.spares.standby ∧ s.boot.stage ≠ 0 then
      let s := { s with spares := { s.spares with moulder := ~~~s.spares.moulder, standby := false } }
      (s.alert 6).logEvent 0x0010 0x10 (leBytes 1 s.spares.moulder.toNat)
    else s)

/-- DRAM_ROW_REMAP (R411, R412): 240 spare rows a pseudo-channel; the data are the same in either place. -/
def execDramRowRemap (pc : Fin 32) (row : Nat) (s : State) : Out :=
  .next (
    let used := Tbl.get s.spares.dramUsed pc 0
    let d := leBytes 1 pc.val ++ leBytes 4 row
    if used < 240 then
      let s := { s with spares := { s.spares with dramUsed := Tbl.put s.spares.dramUsed pc (used + 1) 0
                                                  dramRows := (pc.val * 2 ^ 24 + row % 2 ^ 24) :: s.spares.dramRows } }
      s.logEvent 0x0010 0x11 d
    else (s.alert 5).logEvent 0x0010 0x12 d)

/-- DRAM_BANK_REMAP (R411, R412): one spare bank a pseudo-channel. -/
def execDramBankRemap (pc : Fin 32) (bank : Nat) (s : State) : Out :=
  .next (
    let d := leBytes 1 pc.val ++ leBytes 1 bank
    if s.spares.dramBanks.any (fun b => b / 256 == pc.val) then (s.alert 5).logEvent 0x0010 0x14 d
    else
      let s := { s with spares := { s.spares with dramBanks := (pc.val * 256 + bank % 256) :: s.spares.dramBanks } }
      s.logEvent 0x0010 0x13 d)

/-- HOT_CACHE_LINE_RETIRE (R411, R412): an unlocked line gives way to a spare, and its block is refetched on its next use. -/
def execHotCacheLineRetire (k : Fin 8) (block : Nat) (s : State) : Out :=
  .next (
    let h := s.hot k
    let used := Tbl.get s.spares.hotUsed k 0
    let d := leBytes 1 k.val ++ leBytes 4 block
    if !h.lines.contains block ∨ s.hotLocked k block then s
    else if used < 32 then
      let s := s.setHot k { h with lines := h.lines.filter (fun b => b != block), retired := h.retired + 1 }
      { s with spares := { s.spares with hotUsed := Tbl.put s.spares.hotUsed k (used + 1) 0 } }.logEvent 0x0010 0x15 d
    else (s.alert 5).logEvent 0x0010 0x16 d)

/-- An install of a kind is under way. -/
def State.installing (s : State) (kind : Nat) : Option W64 :=
  match s.fw.install with
  | some (k, t) => if k.toNat = kind then some t else none
  | none => none
/-- The new image of a kind comes into force, and has completed its handover (R344, R345, R415). -/
def State.installDone (s : State) (kind : Nat) : State :=
  let slot := 1 - s.fwActive kind
  let i := s.fwImage kind slot
  { s with fw := { s.fw with active := Tbl.put s.fw.active kind slot 0, proven := Tbl.put s.fw.proven kind true false, install := none } }
    |>.logOwn 0x0008 (imageDetail 1 kind i.svn i.sha 0)
/-- An install fails: the old image stays in force, and ALERT_N is raised (R415, R432). -/
def State.installFailed (s : State) (kind : Nat) : State :=
  let i := s.fwImage kind (1 - s.fwActive kind)
  ({ s with fw := { s.fw with install := none } }.alert 9).logOwn 0x0008 (imageDetail 1 kind i.svn i.sha 0x07)

/-- MOULDER_UPDATE_HANDOVER (R415): with no standby to restart, the install fails. -/
def execMoulderUpdateHandover (s : State) : Out :=
  .next (
    match s.installing 1 with
    | none => s
    | some _ =>
      if s.spares.standby then
        { s.installDone 1 with spares := { s.spares with moulder := ~~~s.spares.moulder } }
      else s.installFailed 1)

/-- CONTROL_STORE_SWITCH (R359, R415): with no routine running or yielded, the second bank is switched in. -/
def execControlStoreSwitch (s : State) : Out :=
  .next (
    match s.installing 2 with
    | none => s
    | some _ =>
      if s.cmk.running.isNone ∧ s.cmk.yielded.isEmpty then
        let t := s.installDone 2
        { t with cmk := { t.cmk with store := storeWords (t.fwImage 2 (t.fwActive 2)).bytes } }
      else s)

/-- CONTROL_STORE_INSTALL_TIMEOUT (R415): 60 s without such a moment; the staged image is kept. -/
def execControlStoreInstallTimeout (s : State) : Out :=
  .next (
    match s.installing 2 with
    | none => s
    | some t => if 60000000000 ≤ s.since t then s.installFailed 2 else s)

/-- FLASK_PATCH_SWITCH (R415): between two Flask operations; nothing else changes. -/
def execFlaskPatchSwitch (s : State) : Out :=
  .next (
    match s.installing 3 with
    | none => s
    | some _ => s.installDone 3)

end Sys2Proof.Machine
end

