-- ==== Sys2Proof/Machine/Boot.lean ====
section
/-! DEFINITION. The start, its failure, resets, fatal faults and the watchdog (R418-R435). -/

namespace Sys2Proof.Machine

/-- The stage in progress ends (R419, R425): the next stage begins, and its domains are powered (R397). From stage 3 on POWER_SEQ does
the work, and PLL_LOCK that of stage 4 (R358). -/
def State.nextStage (s : State) : State :=
  let k := s.boot.stage
  let us := BitVec.ofNat 32 (s.since s.boot.begun / 1000)
  let s := { s with boot := { s.boot with stage := k + 1, stageAt := s.mono, stageEnds := s.boot.stageEnds ++ [us] }
                    supply := { s.supply with domOn := s.supply.domOn ||| stageDoms k } }
  let s := if k = 2 then s.routineAsk 0x01 0 else if k = 8 then s.routineDone 0x01 0 else s
  if k = 3 then s.routineAsk 0x02 0 else if k = 4 then s.routineDone 0x02 0 else s
/-- An attempt that ended uncleanly before this start is counted at stage 1 (R423). -/
def State.countFound (s : State) : State :=
  let f : Byte := s.boot.found
  if f = 0xF0 ∨ f = 0xF1 then
    { s with boot := { s.boot with counter := counterUp s.boot.counter, lastFail := f, found := 0 } }
  else { s with boot := { s.boot with found := 0 } }
/-- MAC addresses of the ports, from the shadow table (R327, R372). -/
def State.macFromFuses (s : State) : State :=
  match fuseRec s.fuseShadow 0x02 0 with
  | none => s
  | some m => (s.setReg (aNetMacLo 0) m).setReg (aNetMacLo 1) (m + 1)

/-- The essential fuse records are present: serial number, MAC, and the hash of a signing key (R372, R419, R422). -/
def State.essentialFuses (s : State) : Bool :=
  [(0x01, 0), (0x01, 1), (0x02, 0)].all (fun (x : Nat × Nat) => (fuseRec s.fuses x.1 x.2).isSome)
    && (List.range 4).any (fun k => (fuseHash s.fuses 0x03 (8 * k)).isSome)
/-- SUPERVISOR passes (R109, R373, R419): a Moulder is active, the fuse shadow is read, the boot record is opened, and the address hash
is keyed afresh. -/
def State.passSupervisor (s : State) (o : StageResult) : State :=
  let s : State := { s with
    fuseShadow := s.fuses
    spares := { s.spares with moulder := if s.spares.standby then o.moulder else s.spares.moulder } }
  let f : Byte := s.boot.found
  let s : State := { s.macFromFuses.countFound with nv := { s.nv with clean := false } }
  let s : State := { s.draw.2 with hashKey := s.draw.1 }
  if (f = 0xF0 ∨ f = 0xF1) ∧ ingotThreshold s.boot.straps ≤ s.boot.counter.toNat then
    State.enterIngot { s with nv := { s.nv with clean := true } } 0 f.toNat false
  else s.nextStage
/-- Slot that a stage-2 result names for an image kind. -/
def StageSlot (o : StageResult) (kind : Nat) : Nat := if o.slotB.getLsbD (kind - 1) then 1 else 0
/-- The image of a slot can be in force, as far as the module's own state shows (R343). -/
def State.imageReady (s : State) (kind slot : Nat) : Bool :=
  (s.fwImage kind slot).valid && decide ((s.arcOf (kind - 1)).toNat ≤ (s.fwImage kind slot).svn.toNat)
/-- IMAGES passes (R343, R353, R418, R420): the slots in use are in force, an image that gave way to its other slot having failed its check;
forced ingot mode follows. -/
def State.passImages (s : State) (o : StageResult) : State :=
  let failed := ([1, 2, 3].filter (fun k => StageSlot o k != s.fwActive k)).length
  let s := s.each [1, 2, 3] (fun s k => { s with fw := { s.fw with active := Tbl.put s.fw.active k (StageSlot o k) 0 } })
  let s := { s with boot := { s.boot with slots := o.slotB, imageFallback := decide (0 < failed) }
                    cmk := { s.cmk with store := storeWords (s.fwImage 2 (s.fwActive 2)).bytes } }
  let s := if 0 < failed then (s.count aFlkCnt 7 0 failed).alert 9 else s
  if forcedIngot s.boot.straps then State.enterIngot { s.nextStage with nv := { s.nv with clean := true } } 0 0 true else s.nextStage
/-- TIMING passes (R257, R260): the PLLs have locked, and the time bases of PD27 start. -/
def State.passTiming (s : State) : State :=
  let s := { s with
    clock := { s.clock with cast := 0, castRuns := true, castPhase := 0, sys := 0, sysFrac := 0, sysLow := 0, link := 0, linkFrac := 0 }
    cast := { CastSync.init with st := .locked, refinOk := true, pllLock := true } }
  let c := s.cast
  let s := match s.castRole with
    | 2 => { s with cast := { c with st := .free } }
    | 1 => { s with cast := { c with st := .adopting, adoptSince := s.mono } }
    | _ => { s with cast := c }
  s.nextStage
/-- Blocks that failed their own test (R420, R428). -/
def State.startFaults (s : State) (n : Nat) : State :=
  s.each (List.range n) (fun s _ => { s.blockFault with boot := { s.boot with blocksFaulted := s.boot.blocksFaulted + 1 } })
/-- A failed engine gives way to its cluster's spare at once, if one remains (R88, R420). -/
def State.replaceEngine (s : State) (e : Nat) : State :=
  let s := s.startFaults 1
  if s.spareFree (e / 16) then
    let old := s.pePhys e
    let new := 17 * (e / 16) + 16
    let s := s.setReg (aMldPeMap e) (BitVec.ofNat 32 new)
    { s with spares := { s.spares with retiredPe := old :: s.spares.retiredPe } }.logEvent 0x0010 0x0002 (leBytes 1 e ++ leBytes 1 old ++ leBytes 1 new)
  else s
/-- A failed Crucible gives way to a spare at once, if one remains (R201, R420). -/
def State.replaceCru (s : State) (n : Nat) : State :=
  let s := s.startFaults 1
  match s.spareCru with
  | none => s
  | some sp =>
    let c := s.cruPhys n
    let s := s.setCru c { s.cru c with retired := true }
    (s.setReg (aMldCruMap n) (BitVec.ofNat 32 sp)).logEvent 0x0013 0x0005 (leBytes 1 n ++ leBytes 1 c ++ leBytes 1 sp)

/-- One saved register: ADC_CTRL gives only range and refbuf_en, groups are powered later, in stage 9, and a saved clear code is what its
holding register is reset to (R149, R376, R419, R461). -/
def State.restorePair (s : State) (p : Nat × W32) : State :=
  match findReg p.1 with
  | none => s
  | some f => match f.row.id with
    | .adcCtrl => s.applyWrite 0 p.1 (p.2 &&& 0x301)
    | .grpCtrl => s.setReg p.1 (f.stored (s.reg p.1) p.2)
    | .flxClr => (s.applyWrite 0 p.1 p.2).holdClear (f.idx.headD 0)
    | .biaClr => (s.applyWrite 0 p.1 p.2).holdClear (128 + f.idx.headD 0)
    | _ => s.applyWrite 0 p.1 p.2
/-- A saved record: one that fails its check is skipped, with config_default and ALERT_N (R420). -/
def State.restoreRecord (s : State) (bad : List (Nat × Nat)) (k : Nat) (r : List Byte) : State :=
  let cls := k / 65536
  if savedOk cls r && !bad.contains (cls, k % 65536) then s.each (savedPairs r) (fun s p => s.restorePair p)
  else { s.alert 8 with boot := { s.boot with configDefault := true } }
/-- Calibrated gains from the fuse records of class 0x11 in force (R134, R372): a record gives every tone of its channel its gain
(DEDUCED: it holds one gain, and the channel's gain registers are per tone). -/
def State.gainsFromFuses (s : State) : State :=
  s.each (List.range 96) (fun s ch => match fuseRec s.fuseShadow 0x11 ch with
    | none => s
    | some d => s.each (List.range (chanTones ch).length) (fun s t => s.setFld (aTgain ch t) 15 0 (fieldOf d 31 16)))
/-- The saved configuration, then the calibration in force: the fuse records first, the committed values after them (R134, R368,
R376, R419). -/
def State.restoreConfig (s : State) (bad : List (Nat × Nat)) : State :=
  let part := fun (lo hi : Nat) => s.nv.recs.filter (fun x => decide (lo * 65536 ≤ x.1) && decide (x.1 < hi * 65536))
  let saved := part 0x0300 0x0304 ++ part 0x0305 0x0307
  let s := (s.each saved (fun s x => s.restoreRecord bad x.1 x.2)).gainsFromFuses
  s.each (part 0x0307 0x0308) (fun s x =>
    if bad.contains (0x0307, x.1 % 65536) ∨ !savedLayout x.2 then { s.alert 8 with boot := { s.boot with configDefault := true } }
    else s.each (savedPairs x.2) (fun s p => s.calPut (BitVec.ofNat 32 p.1, p.2)))
/-- Stage 9 powers the banks and the groups whose saved enable is 1 (R134, R149, R161). -/
def State.powerOutputs (s : State) : State :=
  let s := s.each (List.range 6) (fun s b => s.bankUp b)
  s.each (List.range 16) (fun s g => if s.bit (aGrpCtrl g) 0 then s.groupUp g else s)
/-- The routines of stage 9 have ended: banks and groups are ON, or have failed (R419, R420). -/
def State.outputsOn (s : State) (o : StageResult) : State :=
  let s := s.each (List.range 6) (fun s b =>
    if (s.bank b).st = .poweringUp then (if o.badBanks.any (fun x => x.val == b) then s.bankFail b else s.bankOn b s.now) else s)
  s.each (List.range 16) (fun s g =>
    if (s.grp g).st = .poweringUp then (if o.badGroups.any (fun x => x.val == g) then s.groupFail g else s.groupOn g) else s)

/-- A closure record becomes a run end record (R43). The record does not hold shots_clean and end_tick: both are left open. It holds no
time either: DESIGN CHOICE, end_tai is TB_SYS at COMPLETE. -/
def State.closureEnd (s : State) (c : Closure) : State :=
  let lost := c.executed.toNat - c.prefixLen.toNat
  let d := s.draw
  let e := d.2.draw
  let clean := d.1.toNat % (c.executed.toNat + 1)
  let rec' := runEndRecord c.run c.cause c.requested.toNat c.executed.toNat clean lost (if lost = 0 then 0xFFFFFFFF else c.prefixLen.toNat)
    s.clock.sys (if c.executed = 0 then 0 else e.1)
  let desc : RunDesc := ⟨0, [], [], c.requested, false, 0, 0, 0, 0⟩
  let r : Run := ⟨c.run, desc, 0, 0, .over, none, 0, none, c.executed, 0, false, some c.cause, [], 0, c.prefixLen, []⟩
  { e.2 with runs := e.2.runs ++ [r] }.addResult ⟨c.run, none, rec', none⟩
/-- A capture record lost at the last reset is counted and named (R294, R320). -/
def State.captureLost (s : State) : State :=
  match s.nv.capLost with
  | none => s
  | some n =>
    let s := (s.count aCapCnt 7 0 1).notifyRole .operator 0x05 (leBytes 4 n.toNat)
    { s with nv := { s.nv with capLost := none } }
/-- FAULT_N goes high and outputs are released (R147, R431). -/
def State.startRelease (s : State) : State :=
  let s := { s with fault := { s.fault with start := false } }
  if s.fault.asserted then s else s.releaseClear s.now 0x8001
/-- The start completes (R419, R423, R425). -/
def State.complete (s : State) (o : StageResult) : State :=
  let s := (s.outputsOn o).nextStage
  let s := { s with boot := { s.boot with stageEnds := s.boot.stageEnds ++ s.boot.stageEnds.getLast?.toList
                                          completeAt := some s.mono, settling := true } }
  let s := { s with fw := { s.fw with proven := [(1, true), (2, true), (3, true)] }
                    cmk := { s.cmk with lastTiu := s.mono, lastScrub := s.mono } }
  let s := s.bootClose 0 0 false false
  let s := { s.each s.nv.closures (fun s c => s.closureEnd c) with nv := { s.nv with closures := [] } }
  let s := s.routineAsk 0x0A 0
  s.captureLost.startRelease

/-- START_STAGE_PASS (R419, R420): the stage in progress passes. Conditions that the module's own state shows are checked. -/
def execStartStagePass (o : StageResult) (s : State) : Out :=
  .next (
    if s.boot.stop.isSome ∨ s.boot.ingot ∨ s.supply.unpowered then s
    else match s.boot.stage with
      | 1 => if s.essentialFuses then s.passSupervisor o else s
      | 2 => if [1, 2, 3].all (fun k => s.imageReady k (StageSlot o k)) then s.passImages o else s
      | 3 => if 95 ≤ s.supply.riserPct ∧ s.thermal.hottestT < 95 * 128 then s.nextStage else s
      | 4 => s.passTiming
      | 5 => if ((List.range 64).filter (fun k => (s.sensor k).failed)).length ≤ 8 then s.nextStage else s
      | 6 => (s.startFaults o.blockFaults).nextStage
      | 7 =>
        let s := s.startFaults o.blockFaults
        let s := s.each (o.badEngines.map (fun e => e.val)) (fun s e => s.replaceEngine e)
        let s := s.each (o.badCrus.map (fun c => c.val)) (fun s c => s.replaceCru c)
        s.nextStage.restoreConfig o.badRecords
      | 8 => (s.startFaults o.blockFaults).nextStage.powerOutputs
      | 9 => (s.startFaults o.blockFaults).complete o
      | _ => s)

/-- Failure causes that a stage can have (R419, R422). -/
def stageCauses : Nat → List Byte
  | 1 => [0x10, 0x11, 0x12, 0x13]
  | 2 => [0x20, 0x21, 0x22]
  | 3 => [0x30, 0x31]
  | 4 => [0x40, 0x41]
  | 5 => [0x50]
  | 6 => [0x60]
  | 7 => [0x70]
  | 8 => [0x80]
  | _ => []
/-- START_STAGE_TIMEOUT (R420, R422, R423): the stage's cause ends the attempt. -/
def execStartStageTimeout (cause : BitVec 8) (s : State) : Out :=
  .next (
    if s.boot.stop.isSome ∨ s.boot.ingot ∨ s.supply.unpowered ∨ !(stageCauses s.boot.stage).contains cause then s
    else s.failAttempt cause)

/-- POWER_ON (R418, R419, R433): PD00 rises from nothing, and TB_MONO restarts at 0. With RST_N low the start waits for its edge. -/
def execPowerOn (straps : BitVec 2) (s : State) : Out :=
  .next (
    if !s.supply.unpowered ∨ s.busLow then s
    else
      let s := { s with
        clock := { s.clock with mono := 0, monoPhase := 0, monoFrac := 0 }
        log := { s.log with sec := 0, inSec := 0 }
        thermal := { Thermal.init with shutdowns := s.thermal.shutdowns.map (fun _ => 0) }
        fault := { s.fault with fatalDomain := 0xFF }
        supply := { s.supply with unpowered := false, domOn := 1 }
        boot := { s.boot with straps := straps, rstWaits := false } }
      if s.boot.rstLow then { s with boot := { s.boot with stage := 0, stop := some (.rst, s.now, true), restartAt := some 0 } }
      else s.startBegin 0x01)

/-- RETRY_START (R423). -/
def execRetryStart (s : State) : Out :=
  .next (
    match s.boot.stop, s.boot.restartAt with
    | some (.failedStart, _, true), some t => if t ≤ s.mono ∧ !s.boot.rstLow then s.startBegin 0x04 else s
    | _, _ => s)

/-- SETTLING_COMPLETE (R423): 60 s past COMPLETE the attempt counter returns to 0. -/
def execSettlingComplete (s : State) : Out :=
  .next (
    match s.boot.completeAt with
    | none => s
    | some t =>
      if s.boot.stage = 10 ∧ s.boot.settling ∧ 60000000000 ≤ s.since t then
        { s with boot := { s.boot with settling := false, counter := 0 } }
      else s)

/-- A stop has ended, or there is nothing to stop: the module stays stopped while RST_N is low (R434). -/
def State.heldByRst (s : State) : State :=
  { s.powerOff with boot := { s.powerOff.boot with stop := some (.rst, s.now, true), restartAt := none } }
/-- RST_N_FALL (R424, R433, R434): the reset stop begins; during a brown-out stop or a thermal shut-down it waits. -/
def execRstFall (s : State) : Out :=
  .next (
    if s.boot.rstLow then s
    else
      let s := { s with boot := { s.boot with rstLow := true } }
      if s.supply.unpowered then s
      else match s.boot.stop with
        | some (.failedStart, _, _) => s.heldByRst
        | some (.fatal, _, true) => s.heldByRst
        | some _ => { s with boot := { s.boot with rstWaits := true } }
        | none => if s.boot.ingot then s.heldByRst else s.beginStop .rst 0x06)

/-- RST_N_RISE (R418, R434): the straps are sampled, and a start begins with cause RST_N. -/
def execRstRise (straps : BitVec 2) (s : State) : Out :=
  .next (
    if !s.boot.rstLow then s
    else
      let s := { s with boot := { s.boot with rstLow := false, straps := straps } }
      if s.supply.unpowered then s
      else match s.boot.stop with
        | some (.rst, _, true) => s.startBegin (if s.boot.restartAt.isSome then 0x01 else 0x02)
        | some (.brownout, _, true) => s
        | some (.thermal, _, true) => if s.thermal.shutdown ∧ s.shutdowns24 < 3 then s else s.startBegin 0x02
        | some (_, _, true) => s.startBegin 0x02
        | _ => s)

/-- FATAL_FAULT (R424, R428, R429). -/
def execFatalFault (source : BitVec 8) (s : State) : Out :=
  .next (if fatalSources.contains source ∧ !s.supply.unpowered then s.fatal source else s)

/-- FATAL_RESTART (R421, R429): 1 s after the stop a start begins. -/
def execFatalRestart (s : State) : Out :=
  .next (
    match s.boot.stop, s.boot.restartAt with
    | some (.fatal, _, true), some t =>
      if t ≤ s.mono ∧ !s.boot.rstLow then s.startBegin (if s.boot.rstWaits then 0x02 else 0x07) else s
    | _, _ => s)

/-- SUPERVISOR_WATCHDOG (R423, R430): no record is delivered and no closure record written; both Moulders restart. -/
def execSupervisorWatchdog (s : State) : Out :=
  .next (
    if s.supply.unpowered ∨ s.boot.ingot ∨ s.boot.stage = 0 then s
    else
      let was := s.unsettled
      let s := s.blackout
      let s := { s with fault := { s.fault with fatalDomain := 0xFD }
                        boot := { s.boot with found := if was then 0xF0 else s.boot.found } }
      if s.boot.rstLow then s.heldByRst else s.startBegin (if s.boot.rstWaits then 0x02 else 0x08))

end Sys2Proof.Machine
end

