-- ==== Sys2Proof/Machine/Capture.lean ====
section
/-! DEFINITION. Events and messages of the capture unit (R284-R295), and events of the time-interval units (R297-R299). -/

namespace Sys2Proof.Machine

/-- A window of the probe's tone opened at tick O with that ctx (R288). -/
def State.sawMarker (s : State) (k : Nat) (ctx : Byte) (o : Tick) : Bool :=
  (s.adcch (s.probeCh k)).wins.any (fun w => w.opened && w.tone == s.probeTone k && w.ctx == ctx && w.o == o)
/-- The probe has recorded that decision (R288). -/
def State.sawDecision (s : State) (k : Nat) (tone : BitVec 4) (st : BitVec 2) (L : Tick) : Bool :=
  (Tbl.get s.cap.decs k []).any (fun e => match e with
    | .decision L' t x _ _ _ _ _ => L' == L && t == tone && x == st
    | _ => false)

/-- CAPTURE_FIRE (R288, R289): a probe's fire condition is met while ARMED. -/
def execCaptureFire (k : Fin 4) (obs : FireObs) (s : State) : Out :=
  .next (
    let w := s.reg (aCapFire k)
    let kind := fieldOf w 31 30
    if !s.probeOn k then s
    else match obs with
      | .level prev cur tick =>
        let l := sfieldOf w 15 0
        let met : Bool := if w.getLsbD 29 then decide (l ≤ prev) && decide (cur < l) else decide (prev < l) && decide (l ≤ cur)
        if kind = 1 ∧ met then s.capFireUnit tick 1 else s
      | .marker ctx o => if kind = 2 ∧ ctx.toNat = fieldOf w 23 16 ∧ s.sawMarker k ctx o then s.capFireUnit o 2 else s
      | .decision tone st stamp =>
        if kind = 3 ∧ tone.toNat = fieldOf w 19 16 ∧ st.toNat = fieldOf w 21 20 ∧ s.sawDecision k tone st stamp then s.capFireUnit stamp 3 else s)

/-- TRIGGER_POINT_FIX (R290). -/
def execTriggerPointFix (s : State) : Out :=
  .next (
    match s.cap.st, s.cap.best with
    | .armed, some b => if (s.now - b.t).toInt ≥ 0 then { s with cap := { s.cap with st := .triggered } } else s
    | _, _ => s)

/-- CAPTURE_CLOSE (R292, R293): at the end of the span, or after an abort or an MK3 stop. -/
def execCaptureClose (stored : List (List SrcVal)) (s : State) : Out :=
  .next (
    let post := BitVec.ofNat 64 (s.reg aCapPost).toNat
    match s.cap.st, s.cap.best with
    | .triggered, some b =>
      if (s.now - (b.t + post)).toInt ≥ 0 then (s.capStop (b.t + post - 1)).capFinish stored else s
    | .closed, _ => if s.cap.flags.getLsbD 0 then s else s.capFinish stored
    | _, _ => s)

/-- CAPTURE_FIFO_RECHECK (R285, R287): above 75 % one probe steps at the first element boundary of its new interval from source index
`src` on, or an MK3 record closes at that boundary. -/
def execCaptureFifoRecheck (percent : Nat) (elem src : Nat) (s : State) : Out :=
  .next (
    if (s.cap.st = .armed ∨ s.cap.st = .triggered) ∧ s.since s.cap.lastCheck ≥ 1000 then
      let s := { s with cap := { s.cap with lastCheck := s.mono } }
      if percent > 75 then
        match s.stepProbe with
        | none => s
        | some p =>
          let k := if s.cap.kOf p = 0 then 2 else s.cap.kOf p + 1
          let src := ceilDiv src (2 ^ k) * 2 ^ k
          if s.bit aCapCfg 31 then
            let s := s.each s.probesOn (fun s q =>
              if q = p then s.capMark ⟨p, elem, src, s.cap.kOf p, 2⟩
              else
                let a := s.draw
                let b := a.2.draw
                b.2.capMark ⟨q, a.1.toNat, b.1.toNat, s.cap.kOf q, 2⟩)
            (s.capFlag 4).capStop (BitVec.ofNat 64 (srcTick (s.probeKind p) src))
          else
            let s := { s with cap := { s.cap with k := Tbl.put s.cap.k p k 0 } }
            (s.capFlag 3).capMark ⟨p, elem, src, k, 0⟩
      else s
    else s)

/-- CAPTURE_GAP (R286, R15): values lost from source index `first` up to `resume`. -/
def execCaptureGap (k : Fin 4) (lost elem first resume : Nat) (tone : BitVec 4) (s : State) : Out :=
  .next (
    if (s.cap.st = .armed ∨ s.cap.st = .triggered) ∧ s.probeOn k then
      let kind := s.probeKind k
      let ch := s.probeCh k
      let s := { s with cap := { s.cap with gaps := Tbl.put s.cap.gaps k (Tbl.get s.cap.gaps k 0 + lost) 0 } }
      let s := (s.capFlag 8).capMark ⟨k, elem, resume, s.cap.kOf k, 1⟩
      let kept := (Tbl.get s.cap.decs k []).filter (fun e => decide (elemIdx e < first) || decide (resume ≤ elemIdx e))
      let s := { s with cap := { s.cap with decs := Tbl.put s.cap.decs k kept [] } }
      let engs := if kind = 1 then (List.range 4).map (fun i => 4 * ch + i)
        else if kind = 2 then [adcEng ch (s.probeTone k)] else [adcEng ch tone.toNat]
      let a : Tick := BitVec.ofNat 64 (srcTick kind first)
      let b : Tick := if kind = 3 then a + 1 else BitVec.ofNat 64 (srcTick kind (resume - 1) + 1)
      s.each engs (fun s e => s.condOver e .acqOverflow a b)
    else s)

/-- CAP_READ (R310, R320). -/
def execCapRead (sid seq : W32) (off : W64) (len : W32) (s : State) : Out :=
  .next (s.request sid seq 0x70 (some .operator) (fun _ s =>
    if len.toNat = 0 ∨ len.toNat > 2 ^ 20 then .refuse .range noDetail
    else if off.toNat + len.toNat > s.capBytes then .refuse .address { noDetail with addr := off.setWidth 32 }
    else .done s (s.loadBytes (s.capBase + off.toNat) len.toNat)))

/-- CAP_RELEASE (R281, R320): a release of the current record. -/
def execCapRelease (sid seq : W32) (rec' : W32) (s : State) : Out :=
  .next (s.request sid seq 0x71 (some .operator) (fun _ s =>
    if s.cap.st = .idle then .refuse .state noDetail
    else if rec' ≠ s.reg aCapRec then .refuse .notFound noDetail
    else .done s.capReleaseUnit []))

/-- TIU_EDGE (R297-R299): an edge is stamped, unless less than 4 ns after the last; `charge` is the calibrated charge time in
fs. -/
def execTiuEdge (k : Fin 8) (tick : Tick) (charge : Nat) (s : State) : Out :=
  .next (
    if s.bit (aTiuIn k) 4 then
      let t : Int := (tick.toNat * 500000 : Nat) - charge
      let close : Bool := match Tbl.get s.tiuLast k none with | none => false | some u => decide (t - u < 4000000)
      if close then s.count (aTiuIn k) 31 16 1
      else
        let s := { s with tiuLast := Tbl.put s.tiuLast k (some t) none }
        s.each (List.range 4) (fun s u => s.tiuTake u k t tick)
    else s)

/-- TIU_MEASUREMENT_TIMEOUT (R299). -/
def execTiuMeasurementTimeout (u : Fin 4) (s : State) : Out :=
  .next (
    let x := s.tiuUnit u
    if x.running ∧ s.ticksSince x.begun ≥ s.fld (aTiuUcfg u) 31 16 * 1024 then
      let left := x.left - 1
      s.setTiu u { x with timeouts := x.timeouts + 1, left := left, t0 := none, edges := 0, begun := s.now,
                          running := decide (0 < left), done := decide (left = 0) }
    else s)

end Sys2Proof.Machine
end

