-- ==== Sys2Proof/Machine/Cryostat.lean ====
section
/-! DEFINITION. Events of the cryostat thermometry front end (R379-R389). -/

namespace Sys2Proof.Machine

/-- EXCITATION_REVERSAL (R380, R381, R384): a half-period that does not complete the conversion ends, with its samples at 2 kS/s in
units of 0.1 pV; a probe without a trip gives way to a full conversion. -/
def execExcitationReversal (samples : List Int) (s : State) : Out :=
  .next (match s.cryo.active with
  | none => s
  | some n =>
    if !s.cryHalfOver then s
    else match s.cryo.phase with
      | .probe => { s with cryo := { s.cryo with phase := .convert, half := 0, sum := 0, den := 1, since := s.mono } }
      | .convert =>
        let h := s.cryo.half
        if s.cryHalves n ≤ h + 1 then s
        else
          let d := s.cryTake n h samples
          { s with cryo := { s.cryo with half := h + 1, sum := d.1, den := d.2, since := s.mono } })

/-- CONVERSION_COMPLETE (R381, R382, R385): the last half-period of a conversion ends, with its samples; `fullScale` tells whether the
converter reached full scale in the conversion. A result below 0 is a free value. -/
def execConversionComplete (last : List Int) (fullScale : Bool) (s : State) : Out :=
  .next (match s.cryo.active with
  | none => s
  | some n => match s.cryo.phase with
    | .probe => s
    | .convert =>
      if s.cryo.half + 1 ≠ s.cryHalves n ∨ !s.cryHalfOver then s
      else
        let d := s.cryTake n s.cryo.half last
        let r := nearest d.1 (2 * s.cryAvg n * s.fld (aCryExc n) 16 0 * d.2)
        let s := s.setFld (aCryCst n) 31 16 (s.fld (aCryCst n) 31 16 + 1)
        let s := { s with cryo := { s.cryo with lastCh := some n } }
        let s :=
          if fullScale then s.crySet n 4
          else if r < 0 then (s.draw.2.setReg (aCryRes n) (s.draw.1.setWidth 32)).crySet n 2
          else (s.setReg (aCryRes n) (BitVec.ofNat 32 (min r.toNat (2 ^ 32 - 1)))).crySet n 2
        s.cryNext n)

/-- OPEN_WIRE_TRIP (R383, R384): the conversion or probe under way ends at once, and the scan moves on. -/
def execOpenWireTrip (s : State) : Out :=
  .next (match s.cryo.active with
  | none => s
  | some n => ((s.count aCryCnt 31 16 1).crySet n 3).cryNext n)

/-- VREF_LOW (R389): VREF_EXT as measured, in mV, against 0.5 V. -/
def execVrefLow (mv : Nat) (s : State) : Out := .next (s.setBit aCryStat 8 (decide (mv < 500)))

end Sys2Proof.Machine
end

