-- ==== Sys2Proof/Machine/Efaux.lean ====
section
/-! DEFINITION. The Efaux instructions (R51-R62): one meaning each. -/

namespace Sys2Proof.Machine

/-- NOP (R51). -/
def execENop (e : Fin 128) (s : State) : Out :=
  .next (s.alu e (encB 0x00 0 false 0 0 0) (fun g => g))

/-- END (R53): the engine executes nothing more until the next shot's start tick. -/
def execEEnd (e : Fin 128) (s : State) : Out :=
  .next (s.fetch e (encB 0x01 0 false 0 0 0) (fun s =>
    let g := s.eng e
    s.setEng e { g.advance with st := .ended, doneTick := some (g.doneTick.getD s.now) }))

/-- J (R52). -/
def execEJ (e : Fin 128) (target : BitVec 15) (s : State) : Out :=
  .next (s.fetch e (encB 0x02 0 false 0 target 0) (fun s => s.setEng e { s.eng e with pc := target.toNat }))

/-- CALL (R52): STACK_OVERFLOW with 8 return addresses stacked. -/
def execECall (e : Fin 128) (target : BitVec 15) (s : State) : Out :=
  .next (s.fetch e (encB 0x03 0 false 0 target 0) (fun s =>
    let g := s.eng e
    if g.stack.length ≥ 8 then s.raiseExc e 2 s.now
    else s.setEng e { g with stack := (g.pc + 1) :: g.stack, pc := target.toNat }))

/-- RET (R52): STACK_UNDERFLOW with an empty stack. -/
def execERet (e : Fin 128) (s : State) : Out :=
  .next (s.fetch e (encB 0x04 0 false 0 0 0) (fun s =>
    let g := s.eng e
    match g.stack with
    | [] => s.raiseExc e 3 s.now
    | a :: r => s.setEng e { g with stack := r, pc := a }))

/-- BC (R51). -/
def execEBc (e : Fin 128) (ci : BitVec 3) (sel : Bool) (target : BitVec 15) (s : State) : Out :=
  .next (s.fetch e (encB 0x05 ci sel 0 target 0) (fun s =>
    let g := s.eng e
    s.setEng e (if g.cbit ci.toNat = sel then { g with pc := target.toNat } else g.advance)))

/-- DBNZ (R51). -/
def execEDbnz (e : Fin 128) (ra : BitVec 5) (target : BitVec 15) (s : State) : Out :=
  .next (s.fetch e (encB 0x06 0 false ra target 0) (fun s =>
    let g := (s.eng e).setReg ra.toNat ((s.eng e).reg ra.toNat - 1)
    s.setEng e (if g.reg ra.toNat ≠ 0 then { g with pc := target.toNat } else g.advance)))

/-- BEQI (R51): branches on equality when s = 0, on inequality when s = 1. -/
def execEBeqi (e : Fin 128) (ra : BitVec 5) (sel : Bool) (imm : W32) (target : BitVec 15) (s : State) : Out :=
  .next (s.fetch e (encB 0x07 0 sel ra target imm) (fun s =>
    let g := s.eng e
    s.setEng e (if decide (g.reg ra.toNat = imm) != sel then { g with pc := target.toNat } else g.advance)))

/-- Result of ADD and ADDI (R51). -/
def aluAdd (a b : W32) : W32 := a + b

/-- Result of SUB and SUBI (R51). -/
def aluSub (a b : W32) : W32 := a - b

/-- Result of AND and ANDI (R51). -/
def aluAnd (a b : W32) : W32 := a &&& b

/-- Result of OR and ORI (R51). -/
def aluOr (a b : W32) : W32 := a ||| b

/-- Result of XOR and XORI (R51). -/
def aluXor (a b : W32) : W32 := a ^^^ b

/-- Result of SHL and SHLI (R51). -/
def aluShl (a b : W32) : W32 := a <<< (b.toNat % 32)

/-- Result of SHR and SHRI (R51). -/
def aluShr (a b : W32) : W32 := a >>> (b.toNat % 32)

/-- Result of SRA and SRAI (R51). -/
def aluSra (a b : W32) : W32 := a.sshiftRight (b.toNat % 32)

/-- Result of MUL and MULI (R51). -/
def aluMul (a b : W32) : W32 := a * b

/-- Result of MIN and MINI (R51). -/
def aluMin (a b : W32) : W32 := if a.slt b then a else b

/-- Result of MAX and MAXI (R51). -/
def aluMax (a b : W32) : W32 := if a.slt b then b else a

/-- ADD (R51). -/
def execEAdd (e : Fin 128) (rd ra rb : BitVec 5) (s : State) : Out :=
  .next (s.alu e (encR 0x10 rd ra rb) (fun g => g.setReg rd.toNat (aluAdd (g.reg ra.toNat) (g.reg rb.toNat))))

/-- SUB (R51). -/
def execESub (e : Fin 128) (rd ra rb : BitVec 5) (s : State) : Out :=
  .next (s.alu e (encR 0x11 rd ra rb) (fun g => g.setReg rd.toNat (aluSub (g.reg ra.toNat) (g.reg rb.toNat))))

/-- AND (R51). -/
def execEAnd (e : Fin 128) (rd ra rb : BitVec 5) (s : State) : Out :=
  .next (s.alu e (encR 0x12 rd ra rb) (fun g => g.setReg rd.toNat (aluAnd (g.reg ra.toNat) (g.reg rb.toNat))))

/-- OR (R51). -/
def execEOr (e : Fin 128) (rd ra rb : BitVec 5) (s : State) : Out :=
  .next (s.alu e (encR 0x13 rd ra rb) (fun g => g.setReg rd.toNat (aluOr (g.reg ra.toNat) (g.reg rb.toNat))))

/-- XOR (R51). -/
def execEXor (e : Fin 128) (rd ra rb : BitVec 5) (s : State) : Out :=
  .next (s.alu e (encR 0x14 rd ra rb) (fun g => g.setReg rd.toNat (aluXor (g.reg ra.toNat) (g.reg rb.toNat))))

/-- SHL (R51). -/
def execEShl (e : Fin 128) (rd ra rb : BitVec 5) (s : State) : Out :=
  .next (s.alu e (encR 0x15 rd ra rb) (fun g => g.setReg rd.toNat (aluShl (g.reg ra.toNat) (g.reg rb.toNat))))

/-- SHR (R51). -/
def execEShr (e : Fin 128) (rd ra rb : BitVec 5) (s : State) : Out :=
  .next (s.alu e (encR 0x16 rd ra rb) (fun g => g.setReg rd.toNat (aluShr (g.reg ra.toNat) (g.reg rb.toNat))))

/-- SRA (R51). -/
def execESra (e : Fin 128) (rd ra rb : BitVec 5) (s : State) : Out :=
  .next (s.alu e (encR 0x17 rd ra rb) (fun g => g.setReg rd.toNat (aluSra (g.reg ra.toNat) (g.reg rb.toNat))))

/-- MUL (R51). -/
def execEMul (e : Fin 128) (rd ra rb : BitVec 5) (s : State) : Out :=
  .next (s.alu e (encR 0x18 rd ra rb) (fun g => g.setReg rd.toNat (aluMul (g.reg ra.toNat) (g.reg rb.toNat))))

/-- MIN (R51). -/
def execEMin (e : Fin 128) (rd ra rb : BitVec 5) (s : State) : Out :=
  .next (s.alu e (encR 0x19 rd ra rb) (fun g => g.setReg rd.toNat (aluMin (g.reg ra.toNat) (g.reg rb.toNat))))

/-- MAX (R51). -/
def execEMax (e : Fin 128) (rd ra rb : BitVec 5) (s : State) : Out :=
  .next (s.alu e (encR 0x1A rd ra rb) (fun g => g.setReg rd.toNat (aluMax (g.reg ra.toNat) (g.reg rb.toNat))))

/-- ADDI (R51). -/
def execEAddi (e : Fin 128) (rd ra : BitVec 5) (imm : W32) (s : State) : Out :=
  .next (s.alu e (encI 0x20 rd ra imm) (fun g => g.setReg rd.toNat (aluAdd (g.reg ra.toNat) imm)))

/-- SUBI (R51). -/
def execESubi (e : Fin 128) (rd ra : BitVec 5) (imm : W32) (s : State) : Out :=
  .next (s.alu e (encI 0x21 rd ra imm) (fun g => g.setReg rd.toNat (aluSub (g.reg ra.toNat) imm)))

/-- ANDI (R51). -/
def execEAndi (e : Fin 128) (rd ra : BitVec 5) (imm : W32) (s : State) : Out :=
  .next (s.alu e (encI 0x22 rd ra imm) (fun g => g.setReg rd.toNat (aluAnd (g.reg ra.toNat) imm)))

/-- ORI (R51). -/
def execEOri (e : Fin 128) (rd ra : BitVec 5) (imm : W32) (s : State) : Out :=
  .next (s.alu e (encI 0x23 rd ra imm) (fun g => g.setReg rd.toNat (aluOr (g.reg ra.toNat) imm)))

/-- XORI (R51). -/
def execEXori (e : Fin 128) (rd ra : BitVec 5) (imm : W32) (s : State) : Out :=
  .next (s.alu e (encI 0x24 rd ra imm) (fun g => g.setReg rd.toNat (aluXor (g.reg ra.toNat) imm)))

/-- SHLI (R51). -/
def execEShli (e : Fin 128) (rd ra : BitVec 5) (imm : W32) (s : State) : Out :=
  .next (s.alu e (encI 0x25 rd ra imm) (fun g => g.setReg rd.toNat (aluShl (g.reg ra.toNat) imm)))

/-- SHRI (R51). -/
def execEShri (e : Fin 128) (rd ra : BitVec 5) (imm : W32) (s : State) : Out :=
  .next (s.alu e (encI 0x26 rd ra imm) (fun g => g.setReg rd.toNat (aluShr (g.reg ra.toNat) imm)))

/-- SRAI (R51). -/
def execESrai (e : Fin 128) (rd ra : BitVec 5) (imm : W32) (s : State) : Out :=
  .next (s.alu e (encI 0x27 rd ra imm) (fun g => g.setReg rd.toNat (aluSra (g.reg ra.toNat) imm)))

/-- MULI (R51). -/
def execEMuli (e : Fin 128) (rd ra : BitVec 5) (imm : W32) (s : State) : Out :=
  .next (s.alu e (encI 0x28 rd ra imm) (fun g => g.setReg rd.toNat (aluMul (g.reg ra.toNat) imm)))

/-- MINI (R51). -/
def execEMini (e : Fin 128) (rd ra : BitVec 5) (imm : W32) (s : State) : Out :=
  .next (s.alu e (encI 0x29 rd ra imm) (fun g => g.setReg rd.toNat (aluMin (g.reg ra.toNat) imm)))

/-- MAXI (R51). -/
def execEMaxi (e : Fin 128) (rd ra : BitVec 5) (imm : W32) (s : State) : Out :=
  .next (s.alu e (encI 0x2A rd ra imm) (fun g => g.setReg rd.toNat (aluMax (g.reg ra.toNat) imm)))

/-- Comparison of CMPEQ (R51). -/
def cmpEq (a b : W32) : Bool := decide (a = b)

/-- Comparison of CMPLT (R51). -/
def cmpLt (a b : W32) : Bool := a.slt b

/-- Comparison of CMPLTU (R51). -/
def cmpLtu (a b : W32) : Bool := a.ult b

/-- CMPEQ (R51). -/
def execECmpeq (e : Fin 128) (ci : BitVec 3) (ra rb : BitVec 5) (s : State) : Out :=
  .next (s.alu e (encC 0x30 ci ra rb 0) (fun g =>
    g.setCbit ci.toNat (cmpEq (g.reg ra.toNat) (g.reg rb.toNat))))

/-- CMPLT (R51). -/
def execECmplt (e : Fin 128) (ci : BitVec 3) (ra rb : BitVec 5) (s : State) : Out :=
  .next (s.alu e (encC 0x31 ci ra rb 0) (fun g =>
    g.setCbit ci.toNat (cmpLt (g.reg ra.toNat) (g.reg rb.toNat))))

/-- CMPLTU (R51). -/
def execECmpltu (e : Fin 128) (ci : BitVec 3) (ra rb : BitVec 5) (s : State) : Out :=
  .next (s.alu e (encC 0x32 ci ra rb 0) (fun g =>
    g.setCbit ci.toNat (cmpLtu (g.reg ra.toNat) (g.reg rb.toNat))))

/-- CMPEQI (R51). -/
def execECmpeqi (e : Fin 128) (ci : BitVec 3) (ra : BitVec 5) (imm : W32) (s : State) : Out :=
  .next (s.alu e (encC 0x33 ci ra 0 imm) (fun g => g.setCbit ci.toNat (cmpEq (g.reg ra.toNat) imm)))

/-- CMPLTI (R51). -/
def execECmplti (e : Fin 128) (ci : BitVec 3) (ra : BitVec 5) (imm : W32) (s : State) : Out :=
  .next (s.alu e (encC 0x34 ci ra 0 imm) (fun g => g.setCbit ci.toNat (cmpLt (g.reg ra.toNat) imm)))

/-- CMPLTUI (R51). -/
def execECmpltui (e : Fin 128) (ci : BitVec 3) (ra : BitVec 5) (imm : W32) (s : State) : Out :=
  .next (s.alu e (encC 0x35 ci ra 0 imm) (fun g => g.setCbit ci.toNat (cmpLtu (g.reg ra.toNat) imm)))

/-- Value selected by GETS (R62): shot_index, logical engine, module_id, run_id. -/
def Engine.shotValue (g : Engine) (e : Nat) (imm : W32) : W32 :=
  match imm.toNat with
  | 0 => (match g.shot with | none => 0 | some h => h.2.1)
  | 1 => BitVec.ofNat 32 e
  | 2 => Config.moduleId.setWidth 32
  | _ => (match g.shot with | none => 0 | some h => h.1)

/-- GETS (R62). -/
def execEGets (e : Fin 128) (rd : BitVec 5) (imm : W32) (s : State) : Out :=
  .next (s.alu e (encI 0x38 rd 0 imm) (fun g => g.setReg rd.toNat (g.shotValue e imm)))

/-- DELAY (R54). -/
def execEDelay (e : Fin 128) (imm : BitVec 40) (s : State) : Out :=
  .next (s.fetch e (encT 0x40 0 0 0 imm) (fun s => s.moveCursor e ((s.eng e).tc + imm.setWidth 64)))

/-- DELAYR (R54). -/
def execEDelayr (e : Fin 128) (ra : BitVec 5) (s : State) : Out :=
  .next (s.fetch e (encT 0x41 0 0 ra 0) (fun s =>
    s.moveCursor e ((s.eng e).tc + ((s.eng e).reg ra.toNat).setWidth 64)))

/-- TSAVE (R54). -/
def execETsave (e : Fin 128) (td : BitVec 3) (s : State) : Out :=
  .next (s.alu e (encT 0x42 td 0 0 0) (fun g => g.setTreg td.toNat g.tc))

/-- TLOAD (R54). -/
def execETload (e : Fin 128) (ts : BitVec 3) (imm : BitVec 40) (s : State) : Out :=
  .next (s.fetch e (encT 0x43 0 ts 0 imm) (fun s => s.moveCursor e ((s.eng e).treg ts.toNat + imm.setWidth 64)))

/-- TADD (R54): the immediate is sign-extended; no range check. -/
def execETadd (e : Fin 128) (td ts : BitVec 3) (imm : BitVec 40) (s : State) : Out :=
  .next (s.alu e (encT 0x44 td ts 0 imm) (fun g => g.setTreg td.toNat (g.treg ts.toNat + imm.signExtend 64)))

/-- TNOW (R54): the tick at which the command executes lies between issue and completion. -/
def execETnow (e : Fin 128) (td : BitVec 3) (s : State) : Out :=
  .next (s.alu e (encT 0x45 td 0 0 0) (fun g => g.setTreg td.toNat s.now))

/-- TCMP (R54): by signed 40-bit difference. -/
def execETcmp (e : Fin 128) (ci ts : BitVec 3) (s : State) : Out :=
  .next (s.alu e (encT 0x46 ci ts 0 0) (fun g =>
    g.setCbit ci.toNat (decide (sdiff g.tc.stamp (g.treg ts.toNat).stamp ≥ 0))))

/-- SETF (R55). -/
def execESetf (e : Fin 128) (f : BitVec 3) (imm : BitVec 48) (s : State) : Out :=
  .next (s.fetch e (encF 0x50 f 0 imm) (fun s =>
    s.enqueue e (frameQueue f) 0 0 (.frame f (.setFreq imm))))

/-- SETFR (R51, R55): the word is v[ra+1][15:0] : v[ra]. -/
def execESetfr (e : Fin 128) (f : BitVec 3) (ra : BitVec 5) (s : State) : Out :=
  .next (s.fetch e (encF 0x51 f ra 0) (fun s =>
    let g := s.eng e
    s.enqueue e (frameQueue f) 0 0
      (.frame f (.setFreq (((g.reg (ra.toNat + 1)).setWidth 16) ++ (g.reg ra.toNat))))))

/-- SETP (R55). -/
def execESetp (e : Fin 128) (f : BitVec 3) (imm : W32) (s : State) : Out :=
  .next (s.fetch e (encF 0x52 f 0 (imm.setWidth 48)) (fun s =>
    s.enqueue e (frameQueue f) 0 0 (.frame f (.setPhase imm))))

/-- SHIFTP (R55). -/
def execEShiftp (e : Fin 128) (f : BitVec 3) (imm : W32) (s : State) : Out :=
  .next (s.fetch e (encF 0x53 f 0 (imm.setWidth 48)) (fun s =>
    s.enqueue e (frameQueue f) 0 0 (.frame f (.shiftPhase imm))))

/-- SHIFTPR (R55). -/
def execEShiftpr (e : Fin 128) (f : BitVec 3) (ra : BitVec 5) (s : State) : Out :=
  .next (s.fetch e (encF 0x54 f ra 0) (fun s =>
    s.enqueue e (frameQueue f) 0 0 (.frame f (.shiftPhase ((s.eng e).reg ra.toNat)))))

/-- RSTF (R55). -/
def execERstf (e : Fin 128) (f : BitVec 3) (s : State) : Out :=
  .next (s.fetch e (encF 0x55 f 0 0) (fun s =>
    s.enqueue e (frameQueue f) 0 0 (.frame f (.resetPhase))))

/-- PLAY (R56). -/
def execEPlay (e : Fin 128) (f : BitVec 3) (sub : BitVec 4) (seg : BitVec 20) (dt : BitVec 12) (amp : BitVec 16) (s : State) : Out :=
  .next (s.fetch e (encP f sub seg dt amp) (fun s => s.enqueue e (frameQueue f) dt.toNat sub (.play f seg amp)))

/-- PLAYR (R56): SEG_RANGE if v[ra] is 2^20 or more. -/
def execEPlayr (e : Fin 128) (f : BitVec 3) (sub : BitVec 4) (ra rb : BitVec 5) (dt : BitVec 12) (s : State) : Out :=
  .next (s.fetch e (encPR f sub ra rb dt) (fun s =>
    let g := s.eng e
    if (g.reg ra.toNat).toNat ≥ 2 ^ 20 then s.raiseExc e 4 s.now
    else s.enqueue e (frameQueue f) dt.toNat sub
      (.play f ((g.reg ra.toNat).setWidth 20) ((g.reg rb.toNat).setWidth 16))))

/-- FLUX (R58). -/
def execEFlux (e : Fin 128) (edge : BitVec 6) (ue : Bool) (dt : BitVec 12) (code : BitVec 16) (s : State) : Out :=
  .next (s.fetch e (encL 0x68 false edge ue 0 dt (code.setWidth 20)) (fun s =>
    s.enqueue e .fluxBias dt.toNat 0 (.flux edge ue code)))

/-- FLUXR (R58). -/
def execEFluxr (e : Fin 128) (edge : BitVec 6) (ue : Bool) (ra : BitVec 5) (dt : BitVec 12) (s : State) : Out :=
  .next (s.fetch e (encL 0x69 false edge ue ra dt 0) (fun s =>
    s.enqueue e .fluxBias dt.toNat 0 (.flux edge ue (((s.eng e).reg ra.toNat).setWidth 16))))

/-- BIAS (R58). -/
def execEBias (e : Fin 128) (sel : Bool) (dt : BitVec 12) (code : BitVec 20) (s : State) : Out :=
  .next (s.fetch e (encL 0x6A sel 0 false 0 dt code) (fun s => s.enqueue e .fluxBias dt.toNat 0 (.bias sel code)))

/-- BIASR (R58). -/
def execEBiasr (e : Fin 128) (sel : Bool) (ra : BitVec 5) (dt : BitVec 12) (s : State) : Out :=
  .next (s.fetch e (encL 0x6B sel 0 false ra dt 0) (fun s =>
    s.enqueue e .fluxBias dt.toNat 0 (.bias sel (((s.eng e).reg ra.toNat).setWidth 20))))

/-- STRB (R58). -/
def execEStrb (e : Fin 128) (sel : Bool) (dt : BitVec 12) (s : State) : Out :=
  .next (s.fetch e (encL 0x6C sel 0 false 0 dt 0) (fun s => s.enqueue e .fluxBias dt.toNat 0 (.strobe sel)))

/-- ACQ (R59): a window-start event to the home ADC channel, one hop, on a private path (R207). -/
def execEAcq (e : Fin 128) (mask : BitVec 4) (ctx : BitVec 8) (dt : BitVec 12) (s : State) : Out :=
  .next (s.fetch e (encA mask ctx dt) (fun s =>
    let g := s.eng e
    let t := g.tc + dt.setWidth 64
    if !inCursor g.start t then s.raiseExc e 5 s.now
    else
      let run := match g.shot with | none => (0 : W32) | some h => h.1
      let a := s.adcch (e.val / 4)
      let w : WinStart := ⟨t, ctx, (mask.setWidth 16) <<< (4 * (e.val % 4)), 1, some (e.val, run)⟩
      (s.setAdcch (e.val / 4) { a with starts := a.starts ++ [w] }).setEng e g.advance))

/-- PUB and PUBR (R60): the event leaves at issue with its stamp. -/
def State.enginePublish (s : State) (e : Nat) (ch : Byte) (dt : BitVec 12) (payload : BitVec 16) : State :=
  let g := s.eng e
  let t := g.tc + dt.setWidth 64
  if !inCursor g.start t then s.raiseExc e 5 s.now
  else (s.setEng e g.advance).publish (localEv ch t.stamp payload 1 (BitVec.ofNat 10 e))

/-- PUB (R60). -/
def execEPub (e : Fin 128) (ch : BitVec 8) (dt : BitVec 12) (payload : BitVec 16) (s : State) : Out :=
  .next (s.fetch e (encE 0x78 ch 0 dt payload) (fun s => s.enginePublish e ch dt payload))

/-- PUBR (R60). -/
def execEPubr (e : Fin 128) (ch : BitVec 8) (ra : BitVec 5) (dt : BitVec 12) (s : State) : Out :=
  .next (s.fetch e (encE 0x79 ch ra dt 0) (fun s => s.enginePublish e ch dt (((s.eng e).reg ra.toNat).setWidth 16)))

/-- WAITE (R61): takes the latched event, or times out, or waits. -/
def execEWaite (e : Fin 128) (ci : BitVec 3) (rd : BitVec 5) (ch : BitVec 8) (dt : BitVec 24) (s : State) : Out :=
  .next (s.fetch e (encW ci rd ch dt) (fun s =>
    let g := s.eng e
    let due := g.tc + dt.setWidth 64
    match g.latches.find? (fun x => x.1 == ch) with
    | some l => s.setEng e (g.takeEvent ci.toNat rd.toNat ch l.2)
    | none =>
      if dt ≠ 0 ∧ sdiff s.now.stamp due.stamp ≥ 0 then s.setEng e (g.timeOut ci.toNat rd.toNat)
      else s.setEng e { g with st := .waiting, wait := some ⟨ci, rd, ch, if dt = 0 then none else some due⟩ }))

/-- Record words that the engine's run keeps for each shot (R28). -/
def State.maxWords (s : State) (g : Engine) : Nat :=
  match g.shot with
  | none => 0
  | some h => match s.run? h.1 with
    | none => 0
    | some r => r.desc.maxWords.toNat

/-- REC (R62): a word beyond max_words is discarded and sets word_overflow (R35). -/
def execERec (e : Fin 128) (ra rb : BitVec 5) (s : State) : Out :=
  .next (s.fetch e (encR 0x7E 0 ra rb) (fun s =>
    let g := s.eng e
    let w : W64 := (g.reg rb.toNat) ++ (g.reg ra.toNat)
    let n := s.maxWords g
    let s := s.setEng e g.advance
    match g.shot with
    | none => s
    | some h => s.modEntry h.1 h.2.1 e (fun x =>
        if x.words.length < n then { x with words := x.words ++ [w] } else { x with overflow := true })))

end Sys2Proof.Machine
end

