-- ==== Sys2Proof/Machine/Net.lean ====
section
/-! DEFINITION. Ethernet and Casting: frames, sealed packets, acknowledgement and sessions (R302-R316). -/

namespace Sys2Proof.Machine

/-- QSFP_INSERT (R302, R457): the medium is identified; a plug of a power class above 4 does not come up. -/
def execQsfpInsert (p : Fin 2) (media : BitVec 3) (powerClass : Nat) (s : State) : Out :=
  .next (if s.boot.ingot ∧ p.val ≠ 0 then s
  else
    let m := if media.toNat ≤ 4 then media.toNat else 0
    let s := s.setFld (aNetPortStat p.val) 7 5 m
    if powerClass ≤ 4 ∧ m ≠ 0 then s else (s.setBit (aNetPortStat p.val) 0 false).setBit (aNetPortStat p.val) 4 false)

/-- A frame that nobody takes is discarded and counted, unless the chain takes it (R303, R304). -/
def State.discardFrame (s : State) (p : Nat) : State :=
  if s.bit aTimSysCfg 14 ∧ !s.boot.ingot then s else s.count (aNetPortCnt p) 31 16 1

/-- ARP_REQUEST (R303). -/
def execArpRequest (p : Fin 2) (ip : W32) (src : BitVec 48) (s : State) : Out :=
  .next (if !s.netOpen p.val then s
  else if s.bit (aNetPortCfg p.val) 2 ∧ ip = s.reg (aNetIpv4 p.val) then s.emit (.arp p.val src (s.portMac p.val) ip)
  else s.discardFrame p.val)

/-- The port's IPv6 address, and the link-local address formed from its MAC. -/
def State.ipv6 (s : State) (p : Nat) : BitVec 128 :=
  s.reg (aNetIpv6 p 3) ++ s.reg (aNetIpv6 p 2) ++ s.reg (aNetIpv6 p 1) ++ s.reg (aNetIpv6 p 0)
def linkLocal (mac : BitVec 48) : BitVec 128 :=
  let m := mac ^^^ 0x020000000000
  (0xFE80000000000000 : BitVec 64) ++ m.extractLsb' 24 24 ++ (0xFFFE : BitVec 16) ++ m.extractLsb' 0 24

/-- NEIGHBOUR_SOLICITATION (R303). -/
def execNeighbourSolicitation (p : Fin 2) (ip : BitVec 128) (src : BitVec 48) (s : State) : Out :=
  .next (if !s.netOpen p.val then s
  else if (s.bit (aNetPortCfg p.val) 3 ∧ ip = s.ipv6 p.val) ∨ ip = linkLocal (s.portMac p.val) then
    s.emit (.neighbour p.val src (s.portMac p.val) ip)
  else s.discardFrame p.val)

/-- ECHO_REQUEST (R303): at most 100 answers a second on a port. -/
def execEchoRequest (p : Fin 2) (v6 : Bool) (src : BitVec 48) (data : List Byte) (s : State) : Out :=
  .next (if !s.netOpen p.val then s
  else
    let l := (Tbl.get s.echoes p.val []).filter (fun t => decide (s.since t < 1000000000))
    if l.length < 100 then { s with echoes := Tbl.put s.echoes p.val (s.mono :: l) [] }.emit (.echo p.val v6 src data) else s)

/-- FRAME_DISCARD (R303): a frame that the module does not act on and that the chain does not take (CHAIN_FORWARD) is counted. -/
def execFrameDiscard (p : Fin 2) (s : State) : Out := .next (if s.netOpen p.val then s.count (aNetPortCnt p.val) 31 16 1 else s)

/-- A packet's number has been accepted in the window, or lies below it (R306). -/
def Session.replayed (x : Session) (n : Nat) : Bool := x.rxSeen.contains n || decide (n + 4096 ≤ x.rxTop)

/-- An authenticated packet is accepted: its number is noted, and the session is bound to where it came from (R306, R314). -/
def Session.accept (x : Session) (p : Nat) (k : SealedPacket) (n : Nat) (now : W64) : Session :=
  let top := max n x.rxTop
  { x with rxTop := top, rxSeen := n :: x.rxSeen.filter (fun m => decide (top < m + 4096)), lastRx := now,
           port := p, peerIp := k.peerIp, peerPort := k.peerPort, peerMac := k.peerMac }

/-- The body of a packet fails its check (R309, R316): counted, digest kept, NAK sent. -/
def State.badBody (s : State) (k : SealedPacket) : State :=
  let s := (s.count aNetCntA 31 16 1).keepDigest ⟨false, k.sid, k.seq, Config.sha256 k.content⟩
  (s.modSess k.sid (fun x => { x with txPkt := x.txPkt + 1, ackDue := none })).emit (.nak k.sid k.seq)

/-- A transaction whose header stands (R309-R316). -/
def State.takeTr (s : State) (k : SealedPacket) : State :=
  let s := s.ackUpTo k.sid k.ack k.sack
  match s.sess? k.sid with
  | none => s
  | some x =>
    let len := k.content.length
    let good := len == 0 || (s.profile x.profile).check k.content == k.check.toNat
    if s.contentLimit x.port < len ∨ !good then s.badBody k
    else
      let s := s.dropDigest ⟨false, k.sid, k.seq, Config.sha256 k.content⟩
      if k.msgType = 0x01 then s
      else if k.msgType = 0x02 then s.resendOne k.sid (BitVec.ofNat 32 (leNat (slice k.content 0 4)))
      else s.receiveTr x ⟨k.seq, k.msgType, k.continued, k.content⟩

/-- SEALED_PACKET_RECEIVE (R305-R316): the tag, the packet number, the header code and the body check are judged in turn; then
acknowledgements are taken and the transaction delivered in order. -/
def execSealedPacketReceive (p : Fin 2) (k : SealedPacket) (s : State) : Out :=
  .next (if !s.netOpen p.val then s
  else match s.sess? k.sid with
    | none => { s with strayPackets := s.strayPackets + 1 }
    | some x =>
      let n := k.counter.toNat % 2 ^ 63
      if 2 ^ 63 ≤ k.counter.toNat ∨ !Config.tagOk k.sid k.counter k.bytes k.tag then s.count aNetCntB 31 24 1
      else if x.replayed n then s.count aNetCntB 23 16 1
      else
        let s := s.modSess k.sid (fun x => x.accept p.val k n s.mono)
        if 2 ^ 40 ≤ n ∨ 2 ^ 40 ≤ x.txPkt then s.loseSession k.sid 4
        else match k.hdr with
          | .uncorrectable => s.count aNetCntB 7 0 1
          | .corrected => (s.count aNetCntB 15 8 1).takeTr k
          | .clean => s.takeTr k)

/-- ACK (R311): a bare acknowledgement, cumulative up to `seq`. -/
def execAck (sid seq : W32) (s : State) : Out := .next (s.ackUpTo sid seq 0)

/-- NAK (R316): the transaction named is resent with the same number. -/
def execNak (sid lost : W32) (s : State) : Out := .next (s.resendOne sid lost)

/-- KEEPALIVE (R312, R320). -/
def execKeepalive (sid seq : W32) (s : State) : Out := .next (s.request sid seq 0x03 none (fun _ s => .done s []))

/-- CLOSE (R320, R348): logged, answered, and the session is closed after the reply. -/
def execClose (sid seq : W32) (s : State) : Out :=
  .next (let due := match s.sess? sid with
    | none => false
    | some x => match x.inbox with
      | [] => false
      | q :: _ => q.seq == seq && q.msgType == 0x04
  let s := s.request sid seq 0x04 none (fun x s => s.privileged x 0x0006 [[0]] (fun s => .done s []))
  match s.sess? sid with
  | none => s
  | some x => match x.replies.head? with
    | none => s
    | some r => if due && r.ref == seq && r.msgType == 0x04 && r.status == 0 then s.endSession sid else s)

/-- BARE_ACK_SEND (R311): an acknowledgement due leaves on its own. -/
def execBareAckSend (sid : W32) (s : State) : Out :=
  .next (match s.sess? sid with
  | none => s
  | some x => match x.ackDue with
    | none => s
    | some _ => (s.modSess sid (fun x => { x with ackDue := none, txPkt := x.txPkt + 1 })).emit (.ack sid x.ack x.sack))

/-- TRANSACTION_RESEND (R312): a transaction due is resent; one resent 20 times loses the session. -/
def execTransactionResend (sid seq : W32) (s : State) : Out :=
  .next (match (s.sess? sid).bind (fun x => x.unacked.find? (fun t => t.seq == seq)) with
  | none => s
  | some t =>
    if t.sacked ∨ s.since t.sentAt < t.interval then s
    else if 20 ≤ t.resends then s.loseSession sid 1
    else s.resendOne sid seq)

/-- SESSION_IDLE_TIMEOUT (R312). -/
def execSessionIdleTimeout (sid : W32) (s : State) : Out :=
  .next (match s.sess? sid with
  | none => s
  | some x => if s.fld aNetSessCfg 15 0 * 1000000000 ≤ s.since x.lastRx then s.loseSession sid 2 else s)

/-- Bytes of an image upload's place in the image store (R92): 1 GiB. -/
def imageStore : Nat := 2 ^ 30
/-- An image that the store may evict (R322): complete, in no run that has not ended, and last loaded into no cluster. -/
def State.evictable (s : State) (h : Nat) (i : Image) : Bool :=
  i.done && !s.runs.any (fun r => r.phase != .over &&
      (r.desc.clusterImages.any (fun x => x.2.toNat == h) || r.desc.crucImages.any (fun x => x.2.map BitVec.toNat == some h)))
    && !s.clusterImg.any (fun x => x.2 == i.bytes)
/-- Evict the oldest images until `need` bytes are free (R322). -/
def State.evictFor (s : State) (fuel need : Nat) : State :=
  match fuel with
  | 0 => s
  | n + 1 =>
    if (s.images.map (fun i => i.2.len)).sum + need ≤ imageStore then s
    else match s.images.find? (fun i => s.evictable i.1 i.2) with
      | none => s
      | some i => { s with images := Tbl.drop s.images i.1 }.evictFor n need

/-- The image of a handle. -/
def State.image? (s : State) (h : W32) : Option Image := (s.images.find? (fun i => i.1 == h.toNat)).map (fun i => i.2)

/-- IMG_BEGIN (R97, R317, R320, R322): an upload of at most the image store's size takes a new handle. -/
def execImgBegin (sid seq : W32) (crucible : Bool) (len : W32) (s : State) : Out :=
  .next (s.request sid seq 0x30 (some .operator) (fun x s =>
    if len = 0 ∨ imageStore < len.toNat then .refuse .range noDetail
    else if 256 ≤ s.uploads then .refuse .queueFull noDetail
    else
      let s := s.evictFor s.images.length len.toNat
      if imageStore < (s.images.map (fun i => i.2.len)).sum + len.toNat then .refuse .busy noDetail
      else
        let h := s.nextHandle
        let p := s.profile x.profile
        let s := { s with images := Tbl.insert s.images h.toNat ⟨crucible, len.toNat, x.id, false, []⟩, nextHandle := h + 1,
                          checks := (2 ^ 20 + h.toNat, ⟨x.profile, BitVec.ofNat 64 p.init, 0⟩) :: s.checks }
        .done s (leBytes 4 h.toNat)))

/-- The upload of an image that a session may go on with, or why not. -/
def State.imageUpload (s : State) (x : Session) (h : W32) : Except Status Image :=
  match s.image? h with
  | none => .error .notFound
  | some i => if i.done ∨ i.owner ≠ x.id then .error .state else .ok i

/-- IMG_DATA (R318): data at the next offset. -/
def execImgData (sid seq : W32) (handle off : W32) (data : List Byte) (s : State) : Out :=
  .next (s.request sid seq 0x31 (some .operator) (fun x s =>
    match s.imageUpload x handle with
    | .error st => .refuse st noDetail
    | .ok i =>
      let d : Detail := { noDetail with instr := BitVec.ofNat 32 i.bytes.length }
      if off.toNat ≠ i.bytes.length ∨ i.len < i.bytes.length + data.length then .refuse .range d
      else
        let s := { s with images := Tbl.insert s.images handle.toNat { i with bytes := i.bytes ++ data } }
        .done (s.runCheck (2 ^ 20 + handle.toNat) data) []))

/-- IMG_END (R317): the check over the whole data decides; an image that fails it is gone. -/
def execImgEnd (sid seq : W32) (handle : W32) (check : W64) (s : State) : Out :=
  .next (s.request sid seq 0x32 (some .operator) (fun x s =>
    match s.imageUpload x handle with
    | .error st => .refuse st noDetail
    | .ok i =>
      if i.bytes.length < i.len then .refuse .range { noDetail with instr := BitVec.ofNat 32 i.bytes.length }
      else
        let key := 2 ^ 20 + handle.toNat
        let c := s.checkCtx key
        let s' := { s with checks := s.checks.filter (fun c => c.1 != key) }
        if (s.profile c.profile).finish c.value.toNat = check.toNat then
          .done { s' with images := Tbl.insert s.images handle.toNat { i with done := true } } []
        else
          let s' := { s' with images := Tbl.drop s.images handle.toNat }
          .failed ((s'.count aNetCntA 31 16 1).keepDigest ⟨true, handle, 0xFFFFFFFF, Config.sha256 i.bytes⟩) .check noDetail))

/-- The PTP messageType of a frame: over IEEE 802.3, UDP over IPv4, or UDP over IPv6 (R270). -/
def ptpKind (frame : List Byte) : BitVec 4 :=
  let at' := if frame.getD 12 0 = 0x08 then 42 else if frame.getD 12 0 = 0x86 then 62 else 14
  (frame.getD at' 0).setWidth 4

/-- RAW_TX (R273, R320): in host mode a frame leaves as it stands, its timestamp going to the transmit queue where asked. -/
def execRawTx (sid seq : W32) (port : Fin 2) (ts : Bool) (id : BitVec 16) (frame : List Byte) (s : State) : Out :=
  .next (s.request sid seq 0x78 (some .installer) (fun x s =>
    if !s.hostMode then .refuse .state noDetail
    else
      let s := { s with rawSid := some x.id }.emit (.raw port.val frame)
      .done (if ts then s.txqPush port.val ⟨id, ptpKind frame, s.clock.sys⟩ else s) []))

end Sys2Proof.Machine
end

