-- ==== Sys2Proof/Machine/Registers.lean ====
section
/-! DEFINITION. The commands that read and write registers: REG_READ, REG_WRITE, and every row that is the write of one register
(R40, R130, R136, R141, R150, R152, R159, R168, R196, R202, R213, R215, R218, R236, R240, R258, R265, R271, R273, R281, R288,
R291, R292, R299, R321, R358, R367, R374, R377, R388, R433). A row that names a bit writes its register with that bit as the row
has it, and the other fields as its value gives them. -/

namespace Sys2Proof.Machine

/-- A word with one bit as a row has it. -/
def withBit (w : W32) (n : Nat) (b : Bool) : W32 := withField w n n (bitN b)

/-- REG_READ (R321, R440, R444). -/
def execRegRead (sid seq : W32) (addrs : List W32) (s : State) : Out :=
  .next (s.request sid seq 0x10 none (fun _ s => s.regRead sid addrs))

/-- REG_WRITE (R321). -/
def execRegWrite (sid seq : W32) (entries : List (W32 × W32)) (s : State) : Out :=
  .next (s.request sid seq 0x11 none (fun x s => s.regWriteAll x (entries.map (fun e => (e.1.toNat, e.2)))))

/-- RESBUF_HIGH_WATER_CLEAR (R40). -/
def execResbufHighWaterClear (sid seq : W32) (s : State) : Out := .next (s.writeOne sid seq aMldResbufStat 0x100000)

/-- RF_QUEUE_FAULT_CLEAR (R130). -/
def execRfQueueFaultClear (sid seq : W32) (ch : Fin 96) (s : State) : Out := .next (s.writeOne sid seq (aRfStat ch) 0x4000)

/-- RF_CTRL_WRITE (R136). -/
def execRfCtrlWrite (sid seq : W32) (ch : Fin 96) (value : W32) (s : State) : Out :=
  .next (s.writeOne sid seq (aRfCtrl ch) value)

/-- GRP_SW (R141). -/
def execGrpSw (sid seq : W32) (g : Fin 16) (value : W32) (s : State) : Out := .next (s.writeOne sid seq (aGrpSw g) value)

/-- RANGE_WRITE (R152): FLX_CFG_n for channels 0-127, BIA_CFG_n for the bias channels from 128. -/
def execRangeWrite (sid seq : W32) (n : Fin 384) (value : W32) (s : State) : Out :=
  .next (s.writeOne sid seq (if n.val < 128 then aFlxCfg n else aBiaCfg (n.val - 128)) value)

/-- GRP_CTRL_WRITE (R149, R150). -/
def execGrpCtrlWrite (sid seq : W32) (g : Fin 16) (value : W32) (s : State) : Out :=
  .next (s.writeOne sid seq (aGrpCtrl g) value)

/-- REFBUF_ENABLE (R159). -/
def execRefbufEnable (sid seq : W32) (ch : Fin 32) (value : W32) (s : State) : Out :=
  .next (s.writeOne sid seq (aAdcCtrl ch) (withBit value 0 true))

/-- REFBUF_DISABLE (R159). -/
def execRefbufDisable (sid seq : W32) (ch : Fin 32) (value : W32) (s : State) : Out :=
  .next (s.writeOne sid seq (aAdcCtrl ch) (withBit value 0 false))

/-- ADC_RANGE_WRITE (R168). -/
def execAdcRangeWrite (sid seq : W32) (ch : Fin 32) (value : W32) (s : State) : Out :=
  .next (s.writeOne sid seq (aAdcCtrl ch) value)

/-- ADC_TRIG_ENABLE (R218). -/
def execAdcTrigEnable (sid seq : W32) (ch : Fin 32) (value : W32) (s : State) : Out :=
  .next (s.writeOne sid seq (aAdcCtrl ch) (withBit value 1 true))

/-- CLASSIFIER_COMMIT_GO (R196). -/
def execClassifierCommitGo (sid seq : W32) (c : Fin 34) (value : W32) (s : State) : Out :=
  .next (s.writeOne sid seq (aCruClsThi c) (withBit value 31 true))

/-- CRU_DRAG_ACCESS (R202): a read of CRU_DRAG_DATA, or a write of a value. -/
def execCruDragAccess (sid seq : W32) (c : Fin 34) (value : Option W32) (s : State) : Out :=
  .next (match value with
    | none => s.request sid seq 0x10 none (fun _ s => s.regRead sid [BitVec.ofNat 32 (aCruDragData c)])
    | some v => s.writeOne sid seq (aCruDragData c) v)

/-- SOFTWARE_PUBLISH (R213). -/
def execSoftwarePublish (sid seq : W32) (value : W32) (s : State) : Out := .next (s.writeOne sid seq aSprSwpub value)

/-- TIMER_ENABLE (R215). -/
def execTimerEnable (sid seq : W32) (i : Fin 16) (value : W32) (s : State) : Out :=
  .next (s.writeOne sid seq (aSprTmrCfg i) (withBit value 31 true))

/-- TIMER_DISABLE (R215). -/
def execTimerDisable (sid seq : W32) (i : Fin 16) (value : W32) (s : State) : Out :=
  .next (s.writeOne sid seq (aSprTmrCfg i) (withBit value 31 false))

/-- PORT_ENABLE (R240). -/
def execPortEnable (sid seq : W32) (p : Fin 8) (value : W32) (s : State) : Out :=
  .next (s.writeOne sid seq (aRunPortCtrl p) (withBit value 0 true))

/-- PORT_DISABLE (R240). -/
def execPortDisable (sid seq : W32) (p : Fin 8) (value : W32) (s : State) : Out :=
  .next (s.writeOne sid seq (aRunPortCtrl p) (withBit value 0 false))

/-- PORT_RETRAIN (R240): the write keeps the port enabled. -/
def execPortRetrain (sid seq : W32) (p : Fin 8) (value : W32) (s : State) : Out :=
  .next (s.writeOne sid seq (aRunPortCtrl p) (withBit (withBit value 0 true) 3 true))

/-- LANE_SLIP (R236): acted on only in ALIGN with manual_align; the row says where the new boundary stands. -/
def execLaneSlip (sid seq : W32) (p : Fin 8) (l : Fin 9) (aligned : Bool) (s : State) : Out :=
  .next (s.request sid seq 0x11 none (fun x s =>
    let acts : Bool := (s.port p).searching && s.bit (aRunPortCtrl p) 2
    match s.regWriteAll x [(aRunLaneCtrl p l, 1)] with
    | .done t b => .done (if acts then t.setBit (aRunLaneStat p l) 2 aligned else t) b
    | r => r))

/-- REALIGN (R265). -/
def execRealign (sid seq : W32) (s : State) : Out := .next (s.writeOne sid seq aTimCastCtrl 1)

/-- STEP_ARM (R258). -/
def execStepArm (sid seq : W32) (s : State) : Out := .next (s.writeOne sid seq aTimSysCtrl 1)

/-- SYS_OFFSET_IN (R271). -/
def execSysOffsetIn (sid seq : W32) (value : W32) (s : State) : Out := .next (s.writeOne sid seq aTimSysOfsIn value)

/-- TXQ_ID_READ (R273). -/
def execTxqIdRead (sid seq : W32) (p : Fin 2) (s : State) : Out :=
  .next (s.request sid seq 0x10 none (fun _ s => s.regRead sid [BitVec.ofNat 32 (aTimTxqId p)]))

/-- CAP_ARM (R291). -/
def execCapArm (sid seq : W32) (s : State) : Out := .next (s.writeOne sid seq aCapCtrl 1)

/-- CAP_SOFTWARE_FIRE (R288). -/
def execCapSoftwareFire (sid seq : W32) (s : State) : Out := .next (s.writeOne sid seq aCapCtrl 2)

/-- CAP_ABORT (R292). -/
def execCapAbort (sid seq : W32) (s : State) : Out := .next (s.writeOne sid seq aCapCtrl 4)

/-- CAP_RELEASE_WRITE (R281). -/
def execCapReleaseWrite (sid seq : W32) (s : State) : Out := .next (s.writeOne sid seq aCapCtrl 8)

/-- TIU_START (R299). -/
def execTiuStart (sid seq : W32) (u : Fin 4) (s : State) : Out := .next (s.writeOne sid seq (aTiuUctrl u) 1)

/-- TIU_ABORT (R299). -/
def execTiuAbort (sid seq : W32) (u : Fin 4) (s : State) : Out := .next (s.writeOne sid seq (aTiuUctrl u) 2)

/-- CMK_REQ (R358, R359). -/
def execCmkReq (sid seq : W32) (value : W32) (s : State) : Out := .next (s.writeOne sid seq aCmkReq value)

/-- CAL_ACCEPT (R367). -/
def execCalAccept (sid seq : W32) (s : State) : Out := .next (s.writeOne sid seq aCalAccept 1)

/-- CAL_DISCARD (R377). -/
def execCalDiscard (sid seq : W32) (s : State) : Out := .next (s.writeOne sid seq aCalAccept 2)

/-- FUSE_PROG_GO (R374). -/
def execFuseProgGo (sid seq : W32) (value : W32) (s : State) : Out :=
  .next (s.writeOne sid seq aFusProgHi (withBit value 31 true))

/-- CRY_CTRL_WRITE (R388). -/
def execCryCtrlWrite (sid seq : W32) (value : W32) (s : State) : Out := .next (s.writeOne sid seq aCryCtrl value)

/-- CRY_CHANNEL_WRITE (R388): CRY_EXC_n or CRY_PINS_n. -/
def execCryChannelWrite (sid seq : W32) (n : Fin 16) (exc : Bool) (value : W32) (s : State) : Out :=
  .next (s.writeOne sid seq (if exc then aCryExc n else aCryPins n) value)

/-- CRY_ROUT_WRITE (R388): CRY_ROUT_FS_k or CRY_ROUT_CFG_k. -/
def execCryRoutWrite (sid seq : W32) (k : Fin 4) (fs : Bool) (value : W32) (s : State) : Out :=
  .next (s.writeOne sid seq (if fs then aCryRoutFs k else aCryRoutCfg k) value)

/-- MLD_RESET (R433, R435). -/
def execMldReset (sid seq : W32) (value : W32) (s : State) : Out := .next (s.writeOne sid seq aMldReset value)

end Sys2Proof.Machine
end

