-- ==== Sys2Proof/Machine/Runs.lean ====
section
/-! DEFINITION. Runs from submission to their end, and the shots of each (R28-R43, R150, R322-R324). -/

namespace Sys2Proof.Machine

/-- The credential slot that a session was opened with (R331). -/
def State.credOf (s : State) (x : Session) : Cred := Tbl.get s.creds (x.role.code.toNat * 64 + x.slot) Cred.init

/-- The fields of a descriptor lie in their ranges: one image for each claimed cluster, Crucibles of claimed clusters only
(R28), whichever the mode. -/
def runDescOk (d : RunDesc) : Bool :=
  let k := (List.range 8).filter (fun k => (List.range 16).any (fun i => d.engineSet.getLsbD (16 * k + i)))
  let cl := d.clusterImages.map (fun x => x.1.val)
  let cr := d.crucImages.map (fun x => x.1.val)
  d.engineSet != 0 && d.shotCount != 0 && decide (2000 ≤ d.period.toNat) && decide (d.maxWords.toNat ≤ 62)
    && cl.length == k.length && k.all (fun i => cl.contains i) && decide cr.Nodup && cr.all (fun n => k.contains (n / 4))

/-- Group of the claimed clusters whose GRP_CTRL.enable is 0 (R150). -/
def State.groupOff (s : State) (k : List Nat) : Option Nat :=
  (k.flatMap (fun i => [i, 8 + i])).find? (fun g => !s.bit (aGrpCtrl g) 0)

/-- The first fault of a submission's images, in R322's order: a handle that names no complete image, or the fault. -/
def State.imagesFault (s : State) (x : Session) (r : Run) : Option (Status × Detail) :=
  let pub := fun ch => decide (ch < 240) && x.role.holds (s.chAttr ch)
  let cluster := r.clusters.findSome? (fun k =>
    (r.desc.clusterImages.find? (fun y => y.1.val == k)).bind (fun y =>
      match s.imageOf y.2 with
      | none => some (Status.notFound, noDetail)
      | some i =>
        if !i.done then some (.notFound, noDetail)
        else (clusterFault pub i.bytes k).map (fun f => (.imageFault, f.detail))))
  match cluster with
  | some f => some f
  | none => (List.range 32).findSome? (fun n =>
      (r.desc.crucImages.find? (fun y => y.1.val == n)).bind (fun y => y.2.bind (fun h =>
        match s.imageOf h with
        | none => some (Status.notFound, noDetail)
        | some i =>
          if !i.done then some (.notFound, noDetail)
          else (crucibleImgFault i.bytes n).map (fun f => (.imageFault, f.detail)))))

/-- Why a submission is refused, taken in the order range, role, state, queue, rate, images (R28, R30, R41, R70, R150, R198,
R334, R396, R409). -/
def State.submitRefusal (s : State) (x : Session) (r : Run) : Option (Status × Detail) :=
  if !runDescOk r.desc then some (.range, noDetail)
  else if r.clusters.any (fun k => !(s.credOf x).mask.getLsbD k) then some (.roleDenied, noDetail)
  else if s.holdRuns || s.stopping then some (.state, noDetail)
  else match s.groupOff r.clusters with
    | some g => some (.state, detailAddr (aGrpCtrl g))
    | none =>
      if 64 ≤ s.openRuns.length then some (.queueFull, noDetail)
      else if 10000 ≤ s.ratesNow.runs then some (.rate, noDetail)
      else s.imagesFault x r

/-- A run as accepted. -/
def newRun (x : Session) (id : W32) (d : RunDesc) : Run :=
  ⟨id, d, x.id, x.keyId, .queued, none, 0, none, 0, 0, false, none, [], 0, 0, []⟩

/-- RUN_SUBMIT (R27, R28, R30, R134, R161): an accepted run takes the next run_id and powers up its banks. -/
def execRunSubmit (sid seq : W32) (d : RunDesc) (s : State) : Out :=
  .next (s.request sid seq 0x33 (some .operator) (fun x s =>
    let r := newRun x s.nextRun d
    match s.submitRefusal x r with
    | some (st, dt) => .refuse st dt
    | none =>
      let rates := s.ratesNow
      let s := { s with runs := s.runs.filter (fun (q : Run) => q.id != r.id) ++ [r], nextRun := s.nextRun + 1,
                        rates := { rates with runs := rates.runs + 1 } }
      let s := s.each (r.clusters.flatMap clusterBanks) State.bankUp
      .done s (leBytes 4 r.id.toNat)))

/-- A run's turn has come under the order of R30: it waits for no earlier run, and nothing holds queued runs (R30, R265, R409). -/
def State.turnOf (s : State) (r : Run) : Bool :=
  r.phase == .queued && !s.holdRuns && !s.stopping && s.cast.stepDue.isNone && !earlierClaim s.runs r

/-- RUN_QUEUE_HEAD (R30, R31, R134, R149, R150, R199): the run begins to load once its banks and groups are ON, or notes when
its turn came. A start tick too close ends it. -/
def execRunQueueHead (run : W32) (s : State) : Out :=
  .next (match s.run? run with
  | none => s
  | some r =>
    if s.turnOf r then
      let s := s.bankSettle (r.clusters.flatMap clusterBanks)
      if r.clusters.all s.clusterReady then
        if !r.desc.paced ∧ (r.desc.startTick - s.now).toInt < 200000 then s.finishRun run 0x02
        else
          let s := s.modRun run (fun r => { r with phase := .loading, loadTick := s.now, turnTick := none })
          s.each (s.namedCrucibles r) (fun s x => s.cruStop (s.cruPhys x.1))
      else s.modRun run (fun r => { r with turnTick := some (r.turnTick.getD s.now) })
    else s)

/-- A Crucible is ready for the image named for it: its sequencer is stopped, or holds no program, or has stopped on a fault (R187,
R199). -/
def State.cruReady (s : State) (n : Nat) : Bool :=
  let u := s.cru (s.cruPhys n)
  u.st == .stopped || u.st == .noProg || u.st == .fault
/-- RUN_LOAD_COMPLETE (R31, R45, R71, R87, R199): programs, subscriptions and engine state are set, the Crucibles take their images, and
the first start tick is known. Sequencers have stopped, and a swap begun during the load has completed, before. -/
def execRunLoadComplete (run : W32) (s : State) : Out :=
  .next (match s.run? run with
  | none => s
  | some r =>
    if r.phase = .loading ∧ !s.swapBusy r ∧ (s.namedCrucibles r).all (fun x => s.cruReady x.1) then
      let s := s.each r.clusters (fun s k =>
        match (r.desc.clusterImages.find? (fun y => y.1.val == k)).bind (fun y => s.imageOf y.2) with
        | none => s
        | some i => s.loadCluster r k i.bytes)
      let s := s.each (s.namedCrucibles r) (fun s x => s.cruImage (s.cruPhys x.1) x.1 x.2)
      let first := if r.desc.paced then s.now else r.desc.startTick
      (s.modRun run (fun r => { r with phase := .active, nextStart := some first })).settleRun run
    else s)

/-- Banks and groups of a run's clusters that are not ON, as their numbers: groups 0-15, banks from 16 (R150). -/
def State.notOn (s : State) (r : Run) : List Nat :=
  r.clusters.flatMap (fun k => (([k, 8 + k].filter (fun g => (s.grp g).st != .on)) ++
    ((clusterBanks k).filter (fun b => (s.bank b).st != .on)).map (fun b => 16 + b)))

/-- RESOURCE_FAULT (R150): a bank or group still not ON 10 ms after the run's turn ends it with no shot. -/
def execResourceFault (run : W32) (s : State) : Out :=
  .next (match s.run? run with
  | none => s
  | some r =>
    match r.turnTick with
    | none => s
    | some t =>
      let s := s.bankSettle (r.clusters.flatMap clusterBanks)
      if r.phase = .queued ∧ s.ticksSince t ≥ 20000000 ∧ !(s.notOn r).isEmpty then
        let s := s.each (s.notOn r) (fun s n => s.logEvent 0x0020 1 (leBytes 4 run.toNat ++ leBytes 1 n))
        s.finishRun run 0x08
      else s)

/-- SHOT_START (R31, R32, R40, R45, R268, R409): the next shot of a run starts at its start tick where the result buffer has room for
its record; a PERIODIC run that lacks the room ends, a PACED start waits. DESIGN CHOICE: a PERIODIC run still held by temper
level 3 at its start tick has missed it. -/
def execShotStart (run : W32) (s : State) : Out :=
  .next (match s.run? run with
  | none => s
  | some r =>
    match r.nextStart with
    | none => s
    | some n =>
      if r.phase = .active ∧ (s.now - n).toInt ≥ 0 ∧ !r.inFlight ∧ !r.noMore ∧ !s.stopping then
        if s.startHeld r then (if r.desc.paced then s else s.stopRun 0x02 run)
        else if s.swapBusy r then s
        else if s.roomFor r then s.startShot r n
        else if r.desc.paced then s
        else s.stopRun 0x03 run
      else s)

/-- SHOT_END (R32, R33, R104): the shot in flight ends, at the tick fixed at its start or once its engines are done. -/
def execShotEnd (run : W32) (s : State) : Out :=
  .next (match s.run? run with
  | none => s
  | some r =>
    match r.current with
    | none => s
    | some h =>
      match (match h.endTick with | some x => some x | none => s.pacedEnd r h) with
      | none => s
      | some E => if (s.now - E).toInt ≥ 0 then (s.endShot r h E none).settleRun run else s)

/-- SHOT_RECORD_CLOSE (R35, R36, R254, R463): once everything attached to the oldest ended shot has been judged, its record
enters the result buffer; the run's end record follows the last. -/
def execShotRecordClose (run : W32) (s : State) : Out :=
  .next (match s.run? run with
  | none => s
  | some r =>
    match r.shots with
    | [] => s
    | h :: _ =>
      match h.endTick with
      | none => s
      | some E =>
        if h.ended ∧ (s.now - E).toInt ≥ 0 ∧ s.shotJudged r E then
          let s := s.linkLost r h
          match (s.run? run).bind (fun r => (r.shots.head?).map (fun h => (r, h))) with
          | none => s
          | some (r, h) =>
            let last := r.noMore && (r.shots.length == 1)
            let clean := h.entries.all (fun x => statusOf x.mask == 0)
            let bytes := shotRecord r h last s.clock.sys
            let s := s.modRun run (fun r => { r with shots := r.shots.tail, clean := if clean then r.clean + 1 else r.clean })
            (s.addResult ⟨run, some h.index, bytes, none⟩).settleRun run
        else s)

/-- RUN_CANCEL (R34): no later shot starts; a queued run ends at once; a run with no shots left to cancel is left alone. -/
def execRunCancel (sid seq run : W32) (s : State) : Out :=
  .next (s.request sid seq 0x34 (some .operator) (fun _ s =>
    match s.run? run with
    | none => .refuse .notFound noDetail
    | some r =>
      if r.phase = .over ∨ r.noMore then .refuse .state noDetail
      else if r.phase = .queued ∧ !s.stopping then .done (s.finishRun run 0x01) []
      else .done ((s.modRun run (fun r => { r with cancel := true })).settleRun run) []))

/-- RUN_PURGE (R39): the unacknowledged records of a run that has ended are discarded, counted and logged. -/
def execRunPurge (sid seq run : W32) (s : State) : Out :=
  .next (s.request sid seq 0x35 (some .operator) (fun _ s =>
    match s.run? run with
    | none => .refuse .notFound noDetail
    | some r =>
      if r.phase ≠ .over then .refuse .state noDetail
      else
        let n := (s.results.filter (fun x => x.run == run)).length
        let s := { s with results := s.results.filter (fun (x : ResRec) => x.run != run) }
        .done (s.logEvent 0x0020 2 (leBytes 4 run.toNat ++ leBytes 4 n)) (leBytes 4 n)))

/-- RESULT_CLAIM (R324): the session takes the run's delivery over, from the first unacknowledged record. -/
def execResultClaim (sid seq run : W32) (s : State) : Out :=
  .next (s.request sid seq 0x36 (some .operator) (fun x s =>
    match s.run? run with
    | none => .refuse .notFound noDetail
    | some _ =>
      let s := s.modRun run (fun r => { r with owner := x.id })
      let s := { s with results := s.results.map (fun (y : ResRec) => if y.run == run then { y with sent := none } else y) }
      .done (s.offerResults run) []))

end Sys2Proof.Machine
end

