-- ==== Sys2Proof/Machine/Security.lean ====
section
/-! DEFINITION. Handshakes, credentials, NV records, firmware approval, attestation and the log (R329-R353). -/

namespace Sys2Proof.Machine

/-- A handshake is refused: nothing opens, the refusal is counted and logged (R340, R350). -/
def State.refuseHs (s : State) (hs : W64) (key : BitVec 256) (cause : Byte) : State :=
  let s := { s with handshakes := s.handshakes.filter (fun h => h.hs != hs) }
  ((s.count aFlkCnt 31 16 1).logOwn 0x0007 ([cause] ++ hashBytes key)).emit (.refuse hs cause)
def State.modHs (s : State) (hs : W64) (f : Handshake → Handshake) : State :=
  { s with handshakes := s.handshakes.map (fun h => if h.hs == hs then f h else h) }
def Handshake.challenge (h : Handshake) : Sent := .challenge h.hs h.moduleNonce h.cipher h.sid h.challengeSig

/-- The data of a HELLO (R338). -/
def HelloData (h : HelloMsg) : List Byte :=
  [h.role, h.profile, 0, 0] ++ hashBytes h.keyId ++ hashBytes h.hostNonce ++ h.encapsKey

/-- Why a HELLO is refused (R340): malformed, no such key, sessions or handshakes used up. -/
def State.helloRefusal (s : State) (h : HelloMsg) : Option Byte :=
  match roleOf h.role with
  | none => some 0x05
  | some r =>
    if 7 < h.profile.toNat ∨ h.encapsKey.length ≠ 1568 then some 0x05
    else if (s.slotOf r h.keyId).isNone then some 0x01
    else if 16 ≤ s.sessions.length then some 0x03
    else if 4 ≤ (s.handshakes.filter (fun x => x.st != .finished)).length then some 0x04
    else none

/-- HELLO (R338-R341): the module encapsulates and queues the identity signature; a repeated HELLO has its CHALLENGE resent. -/
def execHello (p : Fin 2) (h : HelloMsg) (s : State) : Out :=
  .next (if !s.netOpen p.val ∨ s.flaskState ≠ 1 then s
  else match s.handshakes.find? (fun x => x.hs == h.hs) with
    | some x => if x.st = .signing then s else s.emit x.challenge
    | none => match s.helloRefusal h with
      | some c => s.refuseHs h.hs h.keyId c
      | none =>
        let n := s.free
        let s := { s with free := n + 1 }
        let nonce := Config.nonce n
        let cipher := Config.kemCipher h.encapsKey n
        let t1 := Config.sha256 (HelloData h ++ hashBytes nonce ++ cipher ++ leBytes 4 s.nextSid.toNat)
        let role := (roleOf h.role).getD .operator
        let x : Handshake := ⟨h.hs, role, h.profile.toNat, h.keyId, .signing, s.nextSid, s.mono, t1, nonce, cipher, [], [], p.val,
          h.peerIp, h.peerPort, h.peerMac⟩
        { s with handshakes := s.handshakes ++ [x], nextSid := nextSeq s.nextSid })

/-- CHALLENGE_SIGNED (R341): the first handshake waiting for it has its identity signature, and its CHALLENGE leaves. -/
def execChallengeSigned (sig : List Byte) (s : State) : Out :=
  .next (match s.handshakes.find? (fun h => h.st == .signing) with
  | none => s
  | some h =>
    let h' := { h with st := .challenged, challengeSig := sig }
    (s.modHs h.hs (fun _ => h')).emit h'.challenge)

/-- AUTH (R338, R341): the credential signature goes to verification; after FINISHED it has FINISHED resent. -/
def execAuth (hs : W64) (sig : List Byte) (s : State) : Out :=
  .next (match s.handshakes.find? (fun h => h.hs == hs) with
  | none => s
  | some h => match h.st with
    | .challenged => s.modHs hs (fun h => { h with st := .verifying, authSig := sig })
    | .finished => s.emit (.finished hs h.sid)
    | _ => s)

/-- The session that a handshake opens (R314, R339). -/
def Handshake.session (h : Handshake) (slot : Nat) (now : W64) : Session :=
  ⟨h.sid, h.role, slot, h.keyId, h.profile, 0, [], 0, 0, [], [], [], [], 1, [], none, h.port, h.peerIp, h.peerPort, h.peerMac, now, [],
    none, 0⟩

/-- AUTH_VERIFIED (R333, R340, R341, R348): the slot still active and the signature good, the session-opened entry is committed
and the session opens with FINISHED. While no entry can be committed, nothing opens. -/
def execAuthVerified (hs : W64) (s : State) : Out :=
  .next (match s.handshakes.find? (fun h => h.hs == hs) with
  | none => s
  | some h =>
    if h.st ≠ .verifying then s
    else match s.slotOf h.role h.keyId with
      | none => s.refuseHs hs h.keyId 0x02
      | some i =>
        if !Config.sigOk (s.cred h.role i).key (Config.sha256 ([0x02] ++ hashBytes h.t1)) h.authSig then s.refuseHs hs h.keyId 0x02
        else if 16 ≤ s.sessions.length then s.refuseHs hs h.keyId 0x03
        else
          let x := h.session i s.mono
          let d := [h.role.code] ++ leBytes 1 h.profile ++ leBytes 1 h.port ++ leBytes 16 h.peerIp.toNat
          match s.logPriv x 0x0005 [d] with
          | .error _ => s
          | .ok s =>
            let s := s.modHs hs (fun h => { h with st := .finished })
            { s with sessions := s.sessions ++ [x] }.emit (.finished hs h.sid))

/-- HANDSHAKE_TIMEOUT (R340, R341): 10 s after HELLO a handshake not complete is refused, and its state goes. -/
def execHandshakeTimeout (hs : W64) (s : State) : Out :=
  .next (match s.handshakes.find? (fun h => h.hs == hs) with
  | none => s
  | some h =>
    if s.since h.begun < 10000000000 then s
    else if h.st = .finished then { s with handshakes := s.handshakes.filter (fun x => x.hs != hs) }
    else s.refuseHs hs h.keyId 0x06)

/-- LOG_READ (R310, R320). -/
def execLogRead (sid seq : W32) (first count : W32) (s : State) : Out :=
  .next (s.request sid seq 0x60 none (fun _ s =>
    if count = 0 ∨ 1024 < count.toNat then .refuse .range noDetail
    else
      let l := s.log.entries.filter (fun e => decide ((e.number - first).toNat < count.toNat))
      if l.isEmpty then .refuse .notFound noDetail else .done s (l.flatMap LogEntry.bytes)))

/-- NV_READ (R320, R330, R336). -/
def execNvRead (sid seq : W32) (cls idx : BitVec 16) (s : State) : Out :=
  .next (s.request sid seq 0x62 none (fun _ s =>
    match s.nvRead? cls.toNat idx.toNat with
    | none => .refuse .notFound noDetail
    | some r => .done s r))

/-- Writer of an NV class (R331, R336, R376); none for a class that no session writes. -/
def nvWriter (cls : Nat) : Option Role :=
  if cls = 0x0102 ∨ cls = 0x0103 then some .maker
  else if cls = 0x0101 ∨ cls = 0x0200 ∨ cls = 0x0201 ∨ (0x0300 ≤ cls ∧ cls ≤ 0x0306) then some .installer
  else none
/-- Classes that the manual defines. -/
def nvClasses : List Nat :=
  [0x0100, 0x0101, 0x0102, 0x0103, 0x0200, 0x0201, 0x0300, 0x0301, 0x0302, 0x0303, 0x0304, 0x0305, 0x0306, 0x0307]
/-- Class 0x0002 detail (R350). -/
def nvDetail (cls idx : Nat) (r : List Byte) : List Byte := leBytes 2 cls ++ leBytes 2 idx ++ hashBytes (Config.sha256 r)

/-- NV_WRITE (R241, R331-R336, R344, R348, R375, R376): the writer's role, the record's fields and the NV window are judged; the
write is logged before it is made. -/
def execNvWrite (sid seq : W32) (cls idx : BitVec 16) (rec' : List Byte) (s : State) : Out :=
  .next (s.request sid seq 0x61 none (fun x s =>
    let c := cls.toNat
    let i := idx.toNat
    let d := nvDetail c i rec'
    if !nvClasses.contains c then .refuse .notFound noDetail
    else if nvWriter c ≠ some x.role then s.refusePriv x 0x0002 d .roleDenied
    else if rec'.length ≠ 256 then s.refusePriv x 0x0002 d .range
    else if c = 0x0101 ∨ c = 0x0102 ∨ c = 0x0103 then s.writeCred x c i rec'
    else if c = 0x0200 then
      if s.fw.install.isSome then s.refusePriv x 0x0002 d .busy
      else s.privileged x 0x0002 [d] (fun s => .done { s with fw := { s.fw with staged := Tbl.put s.fw.staged i rec' [] } } [])
    else if c = 0x0201 then s.refusePriv x 0x0008 d .range
    else if c = 0x0304 then
      if eqRecOk i rec' then s.privileged x 0x0002 [d] (fun s => .done (s.nvPut c i (eqStamp (s.nvGet c i) rec')) [])
      else s.refusePriv x 0x0002 d .range
    else if savedOk c rec' then s.privileged x 0x0002 [d] (fun s => .done (s.nvPut c i rec') [])
    else s.refusePriv x 0x0002 d .range))

/-- The image that an install names: the staged bytes, or the previous image in the slot not in force (R344). -/
def State.candidate (s : State) (kind len : Nat) (sha : BitVec 256) : Option FwImage :=
  let b := s.stagedBytes len
  let prev := s.fwImage kind (1 - s.fwActive kind)
  if Config.sha256 b = sha then (if s.imageValid kind b then some ⟨sha, imageSvn b, true, b⟩ else none)
  else if prev.sha = sha ∧ prev.valid ∧ (s.arcOf (kind - 1)).toNat ≤ prev.svn.toNat then some prev
  else none

/-- IMAGE_INSTALL (R343, R344, R350): approval action 1. -/
def execImageInstall (sid seq : W32) (kind : BitVec 8) (len : W32) (sha : BitVec 256) (s : State) : Out :=
  .next (s.request sid seq 0x61 none (fun x s =>
    let k := kind.toNat
    let d := fun (svn : W32) (r : Status) => imageDetail 1 k svn sha r.code.toNat
    if x.role ≠ .installer then s.refusePriv x 0x0008 (d 0 .roleDenied) .roleDenied
    else if k = 0 ∨ 3 < k then s.refusePriv x 0x0008 (d 0 .range) .range
    else if s.fw.install.isSome then s.refusePriv x 0x0008 (d 0 .busy) .busy
    else match s.candidate k len.toNat sha with
      | none => (s.count aFlkCnt 7 0 1).refusePriv x 0x0008 (d 0 .imageFault) .imageFault
      | some i => s.privileged x 0x0008 [d i.svn .ok] (fun s =>
          let slot := 1 - s.fwActive k
          .done { s with fw := { s.fw with images := Tbl.insert s.fw.images (k * 2 + slot) i, install := some (kind, s.mono) } } [])))

/-- IMAGE_COMMIT (R345, R350): approval action 2 raises the anti-rollback counter to the svn of the image in force, once that has
completed a start or a handover. -/
def execImageCommit (sid seq : W32) (kind : BitVec 8) (s : State) : Out :=
  .next (s.request sid seq 0x61 none (fun x s =>
    let k := kind.toNat
    let i := s.fwImage k (s.fwActive k)
    let d := fun (r : Status) => imageDetail 2 k i.svn i.sha r.code.toNat
    if x.role ≠ .installer then s.refusePriv x 0x0008 (d .roleDenied) .roleDenied
    else if k = 0 ∨ 3 < k then s.refusePriv x 0x0008 (d .range) .range
    else if !Tbl.get s.fw.proven k false then s.refusePriv x 0x0008 (d .state) .state
    else
      let old := s.arcOf (k - 1)
      let new := if old.toNat < i.svn.toNat then i.svn else old
      s.privilegedL x [(0x0008, d .ok), (0x0009, leBytes 1 (k - 1) ++ leBytes 4 old.toNat ++ leBytes 4 new.toNat)] (fun s =>
        .done { s with arc := Tbl.put s.arc (k - 1) new 0 } [])))

/-- IMAGE_ABANDON (R344): approval action 3 discards a staged image that has not been installed. -/
def execImageAbandon (sid seq : W32) (kind : BitVec 8) (s : State) : Out :=
  .next (s.request sid seq 0x61 none (fun x s =>
    let k := kind.toNat
    let d := fun (r : Status) => imageDetail 3 k 0 0 r.code.toNat
    if x.role ≠ .installer then s.refusePriv x 0x0008 (d .roleDenied) .roleDenied
    else if k = 0 ∨ 3 < k then s.refusePriv x 0x0008 (d .range) .range
    else s.privileged x 0x0008 [d .ok] (fun s =>
      let stop := match s.fw.install with
        | none => false
        | some y => y.1 == kind
      .done { s with fw := { s.fw with staged := [], install := if stop then none else s.fw.install } } [])))

/-- ATTEST (R346, R347): the report's values are taken at once; its reply waits for the identity signature. -/
def execAttest (sid seq : W32) (challenge : BitVec 256) (s : State) : Out :=
  .next (match s.sess? sid with
  | none => s
  | some x => match x.inbox with
    | [] => s
    | q :: rest =>
      if q.seq = seq ∧ q.msgType = 0x63 then
        let s := s.modSess sid (fun x => { x with inbox := rest })
        if q.continued then s.reply sid seq 0x63 .range noDetail.bytes
        else { s with reports := s.reports ++ [⟨sid, seq, s.reportBytes challenge⟩] }
      else s)

/-- ATTEST_SIGNED (R341, R346): the first report waiting has its signature, and is sent. -/
def execAttestSigned (sig : List Byte) (s : State) : Out :=
  .next (match s.reports with
  | [] => s
  | r :: rest => { s with reports := rest }.reply r.sid r.seq 0x63 .ok (r.bytes ++ sig))

/-- LOG_ENTRY_COMMIT (R352, R375): the oldest entry handed over is written and becomes the chain head. -/
def execLogEntryCommit (s : State) : Out :=
  .next (match s.log.pend with
  | [] => s
  | p :: rest => if s.nv.holding ∨ !s.nvWindow then s else { s with log := { s.log with pend := rest }.commit p })

/-- LOG_RATE_SECOND_END (R351): events beyond the rate are merged into one class 0x000D entry at the end of their second. -/
def execLogRateSecondEnd (s : State) : Out :=
  .next (if s.log.merged.isEmpty ∨ s.log.sec = s.logSec then s
  else
    let d := s.log.merged.flatMap (fun m => leBytes 2 m.1.toNat ++ leBytes 4 m.2)
    { s with log := { s.log with merged := [] } }.logOwn 0x000D d)

end Sys2Proof.Machine
end

