-- ==== Sys2Proof/Machine/Sprue.lean ====
section
/-! DEFINITION. Sprue rounds, deferred flag notifications, timers and TRIG pins, and received fast-path blocks (R207-R222,
R244-R248). -/

namespace Sys2Proof.Machine

/-- SPRUE_ROUND (R208-R210): the oldest `n` events at the input, at most 7, close as one round. -/
def execSprueRound (i : TaskInput) (n : Fin 8) (s : State) : Out :=
  .next (
    let l := (s.atInput i).take n
    if l.isEmpty then s else ({ s with waiting := takeInput i n s.waiting }).present i (sortEvs l))

/-- FLAG_NOTIFY_DEFERRED (R212): at the end of the 1 ms. -/
def execFlagNotifyDeferred (ch : BitVec 8) (s : State) : Out :=
  .next (
    let x := s.flagNote ch.toNat
    match x.deferred, x.last with
    | some v, some t => if s.since t ≥ 1000000 then s.sendFlag v else s
    | _, _ => s)

/-- TIMER_PUBLISH (R215): 64 ticks before the stamp. -/
def execTimerPublish (i : Fin 16) (s : State) : Out :=
  .next (
    match (s.timer i).next with
    | none => s
    | some t =>
      if (t - s.now).toInt ≤ 64 then
        let c := s.reg (aSprTmrCfg i)
        let per := s.reg (aSprTmrPer i)
        let s := s.setTimer i ⟨if per = 0 then none else some (t + per.setWidth 64)⟩
        (s.count (aSprTmrCnt i) 31 0 1).publish
          (localEv (BitVec.ofNat 8 (fieldOf c 7 0)) t.stamp (BitVec.ofNat 16 (fieldOf c 23 8)) 1 (BitVec.ofNat 10 (0xA0 + i)))
      else s)

/-- TRIG_INPUT_EDGE (R216): an edge of the selected polarity, in the present tick. -/
def execTrigInputEdge (k : Fin 8) (rising : Bool) (s : State) : Out :=
  .next (
    let c := s.reg (aSprTrig k)
    if c.getLsbD 31 ∧ !c.getLsbD 30 ∧ rising = !c.getLsbD 29 then
      s.publish (localEv (c.setWidth 8) s.now.stamp (BitVec.ofNat 16 k) 1 (BitVec.ofNat 10 (0xF0 + k)))
    else s)

/-- Earliest tick of a list, and the others. -/
def takeTick (l : List Tick) : Option (Tick × List Tick) :=
  match l with
  | [] => none
  | t :: r =>
    match takeTick r with
    | none => some (t, [])
    | some (u, r') => if (u - t).toInt < 0 then some (u, t :: r') else some (t, r)

/-- TRIG_OUTPUT_PULSE (R216): at its tick a pulse of 8 ticks is driven; one within 16 ticks of the last merges into it. -/
def execTrigOutputPulse (k : Fin 8) (s : State) : Out :=
  .next (
    let x := Tbl.get s.pulses k TrigOut.init
    match takeTick x.due with
    | none => s
    | some (t, r) =>
      if (s.now - t).toInt ≥ 0 then
        let near : Bool := match x.last with | none => false | some u => decide ((t - u).toInt < 16)
        let put := fun (s : State) (y : TrigOut) => { s with pulses := Tbl.put s.pulses k y TrigOut.init }
        if near then put s { x with due := r } else (put s { due := r, last := some t }).emit (.pulse k t)
      else s)

/-- FAST_PATH_BLOCK_RECEIVE (R244, R246-R248): CRC-32C over bytes 0 to 18; each sequence number once. -/
def execFastPathBlockReceive (p : Fin 8) (b : BlockIn) (s : State) : Out :=
  .next (
    let bytes := b.bytes
    let s := if (s.port p).carries then s.seeLine p b.line else s
    if (s.port p).carries then
      if bytes.length ≠ 23 ∨ crc32c (bytes.take 19) ≠ leNat (slice bytes 19 4) then s.count (aRunPortRxcnt p) 31 16 1
      else
        let n := fun o k => leNat (slice bytes o k)
        let r := s.takeSeq p (BitVec.ofNat 16 (n 2 2))
        if r.2 then
          let src : BitVec 6 := BitVec.ofNat 6 (n 1 1)
          let v : Ev := ⟨BitVec.ofNat 8 (n 4 1), BitVec.ofNat 40 (n 5 5), BitVec.ofNat 16 (n 10 2), BitVec.ofNat 5 (n 14 1) + 1,
            BitVec.ofNat 10 (0x100 + src.toNat), true, false, BitVec.ofNat 16 (n 12 2)⟩
          r.1.routeBlock p (BitVec.ofNat 6 (n 0 1)) src v
        else r.1
    else s)

end Sys2Proof.Machine
end

