-- ==== Sys2Proof/Machine/Dispatch.lean ====
section
/-! DEFINITION. One arm per constructor of Instr: the command's meaning. -/

namespace Sys2Proof.Machine

def exec (i : Instr) (s : State) : Host.Outcome State Fault Refusal :=
  match i with
  | .eNop e => Sys2Proof.Machine.execENop e s
  | .eEnd e => Sys2Proof.Machine.execEEnd e s
  | .eJ e target => Sys2Proof.Machine.execEJ e target s
  | .eCall e target => Sys2Proof.Machine.execECall e target s
  | .eRet e => Sys2Proof.Machine.execERet e s
  | .eBc e ci sel target => Sys2Proof.Machine.execEBc e ci sel target s
  | .eDbnz e ra target => Sys2Proof.Machine.execEDbnz e ra target s
  | .eBeqi e ra sel imm target => Sys2Proof.Machine.execEBeqi e ra sel imm target s
  | .eAdd e rd ra rb => Sys2Proof.Machine.execEAdd e rd ra rb s
  | .eSub e rd ra rb => Sys2Proof.Machine.execESub e rd ra rb s
  | .eAnd e rd ra rb => Sys2Proof.Machine.execEAnd e rd ra rb s
  | .eOr e rd ra rb => Sys2Proof.Machine.execEOr e rd ra rb s
  | .eXor e rd ra rb => Sys2Proof.Machine.execEXor e rd ra rb s
  | .eShl e rd ra rb => Sys2Proof.Machine.execEShl e rd ra rb s
  | .eShr e rd ra rb => Sys2Proof.Machine.execEShr e rd ra rb s
  | .eSra e rd ra rb => Sys2Proof.Machine.execESra e rd ra rb s
  | .eMul e rd ra rb => Sys2Proof.Machine.execEMul e rd ra rb s
  | .eMin e rd ra rb => Sys2Proof.Machine.execEMin e rd ra rb s
  | .eMax e rd ra rb => Sys2Proof.Machine.execEMax e rd ra rb s
  | .eAddi e rd ra imm => Sys2Proof.Machine.execEAddi e rd ra imm s
  | .eSubi e rd ra imm => Sys2Proof.Machine.execESubi e rd ra imm s
  | .eAndi e rd ra imm => Sys2Proof.Machine.execEAndi e rd ra imm s
  | .eOri e rd ra imm => Sys2Proof.Machine.execEOri e rd ra imm s
  | .eXori e rd ra imm => Sys2Proof.Machine.execEXori e rd ra imm s
  | .eShli e rd ra imm => Sys2Proof.Machine.execEShli e rd ra imm s
  | .eShri e rd ra imm => Sys2Proof.Machine.execEShri e rd ra imm s
  | .eSrai e rd ra imm => Sys2Proof.Machine.execESrai e rd ra imm s
  | .eMuli e rd ra imm => Sys2Proof.Machine.execEMuli e rd ra imm s
  | .eMini e rd ra imm => Sys2Proof.Machine.execEMini e rd ra imm s
  | .eMaxi e rd ra imm => Sys2Proof.Machine.execEMaxi e rd ra imm s
  | .eCmpeq e ci ra rb => Sys2Proof.Machine.execECmpeq e ci ra rb s
  | .eCmplt e ci ra rb => Sys2Proof.Machine.execECmplt e ci ra rb s
  | .eCmpltu e ci ra rb => Sys2Proof.Machine.execECmpltu e ci ra rb s
  | .eCmpeqi e ci ra imm => Sys2Proof.Machine.execECmpeqi e ci ra imm s
  | .eCmplti e ci ra imm => Sys2Proof.Machine.execECmplti e ci ra imm s
  | .eCmpltui e ci ra imm => Sys2Proof.Machine.execECmpltui e ci ra imm s
  | .eGets e rd imm => Sys2Proof.Machine.execEGets e rd imm s
  | .eDelay e imm => Sys2Proof.Machine.execEDelay e imm s
  | .eDelayr e ra => Sys2Proof.Machine.execEDelayr e ra s
  | .eTsave e td => Sys2Proof.Machine.execETsave e td s
  | .eTload e ts imm => Sys2Proof.Machine.execETload e ts imm s
  | .eTadd e td ts imm => Sys2Proof.Machine.execETadd e td ts imm s
  | .eTnow e td => Sys2Proof.Machine.execETnow e td s
  | .eTcmp e ci ts => Sys2Proof.Machine.execETcmp e ci ts s
  | .eSetf e f imm => Sys2Proof.Machine.execESetf e f imm s
  | .eSetfr e f ra => Sys2Proof.Machine.execESetfr e f ra s
  | .eSetp e f imm => Sys2Proof.Machine.execESetp e f imm s
  | .eShiftp e f imm => Sys2Proof.Machine.execEShiftp e f imm s
  | .eShiftpr e f ra => Sys2Proof.Machine.execEShiftpr e f ra s
  | .eRstf e f => Sys2Proof.Machine.execERstf e f s
  | .ePlay e f sub seg dt amp => Sys2Proof.Machine.execEPlay e f sub seg dt amp s
  | .ePlayr e f sub ra rb dt => Sys2Proof.Machine.execEPlayr e f sub ra rb dt s
  | .eFlux e edge ue dt code => Sys2Proof.Machine.execEFlux e edge ue dt code s
  | .eFluxr e edge ue ra dt => Sys2Proof.Machine.execEFluxr e edge ue ra dt s
  | .eBias e sel dt code => Sys2Proof.Machine.execEBias e sel dt code s
  | .eBiasr e sel ra dt => Sys2Proof.Machine.execEBiasr e sel ra dt s
  | .eStrb e sel dt => Sys2Proof.Machine.execEStrb e sel dt s
  | .eAcq e mask ctx dt => Sys2Proof.Machine.execEAcq e mask ctx dt s
  | .ePub e ch dt payload => Sys2Proof.Machine.execEPub e ch dt payload s
  | .ePubr e ch ra dt => Sys2Proof.Machine.execEPubr e ch ra dt s
  | .eWaite e ci rd ch dt => Sys2Proof.Machine.execEWaite e ci rd ch dt s
  | .eRec e ra rb => Sys2Proof.Machine.execERec e ra rb s
  | .enqueueAfterFull e => Sys2Proof.Machine.execEnqueueAfterFull e s
  | .itemRelease e q => Sys2Proof.Machine.execItemRelease e q s
  | .watchdog e => Sys2Proof.Machine.execWatchdog e s
  | .handshakeFault e => Sys2Proof.Machine.execHandshakeFault e s
  | .programMemoryRewrite e addr => Sys2Proof.Machine.execProgramMemoryRewrite e addr s
  | .programRowRemap k space row => Sys2Proof.Machine.execProgramRowRemap k space row s
  | .runSubmit sid seq d => Sys2Proof.Machine.execRunSubmit sid seq d s
  | .runQueueHead run => Sys2Proof.Machine.execRunQueueHead run s
  | .runLoadComplete run => Sys2Proof.Machine.execRunLoadComplete run s
  | .resourceFault run => Sys2Proof.Machine.execResourceFault run s
  | .shotStart run => Sys2Proof.Machine.execShotStart run s
  | .shotEnd run => Sys2Proof.Machine.execShotEnd run s
  | .shotRecordClose run => Sys2Proof.Machine.execShotRecordClose run s
  | .resbufHighWaterClear sid seq => Sys2Proof.Machine.execResbufHighWaterClear sid seq s
  | .runCancel sid seq run => Sys2Proof.Machine.execRunCancel sid seq run s
  | .runPurge sid seq run => Sys2Proof.Machine.execRunPurge sid seq run s
  | .resultClaim sid seq run => Sys2Proof.Machine.execResultClaim sid seq run s
  | .engineSwapBegin e => Sys2Proof.Machine.execEngineSwapBegin e s
  | .engineSwapComplete e => Sys2Proof.Machine.execEngineSwapComplete e s
  | .patBegin sid seq seg desc => Sys2Proof.Machine.execPatBegin sid seq seg desc s
  | .patData sid seq seg off data => Sys2Proof.Machine.execPatData sid seq seg off data s
  | .patEnd sid seq seg check => Sys2Proof.Machine.execPatEnd sid seq seg check s
  | .patRelease sid seq seg => Sys2Proof.Machine.execPatRelease sid seq seg s
  | .patPin sid seq seg pin => Sys2Proof.Machine.execPatPin sid seq seg pin s
  | .patStatus sid seq seg count => Sys2Proof.Machine.execPatStatus sid seq seg count s
  | .uploadIdleTimeout seg => Sys2Proof.Machine.execUploadIdleTimeout seg s
  | .playBind tone => Sys2Proof.Machine.execPlayBind tone s
  | .commitPoint tone => Sys2Proof.Machine.execCommitPoint tone s
  | .segmentPassEnd tone => Sys2Proof.Machine.execSegmentPassEnd tone s
  | .jumpRequestDue tone => Sys2Proof.Machine.execJumpRequestDue tone s
  | .refillComplete k block => Sys2Proof.Machine.execRefillComplete k block s
  | .ncoCheck tone => Sys2Proof.Machine.execNcoCheck tone s
  | .sampleQueueFault ch => Sys2Proof.Machine.execSampleQueueFault ch s
  | .rfQueueFaultClear sid seq ch => Sys2Proof.Machine.execRfQueueFaultClear sid seq ch s
  | .settleEnd ch => Sys2Proof.Machine.execSettleEnd ch s
  | .waitQuietEnd ch => Sys2Proof.Machine.execWaitQuietEnd ch s
  | .rfCtrlWrite sid seq ch value => Sys2Proof.Machine.execRfCtrlWrite sid seq ch value s
  | .fsStepSwitchDone ch => Sys2Proof.Machine.execFsStepSwitchDone ch s
  | .bankShutdownComplete b => Sys2Proof.Machine.execBankShutdownComplete b s
  | .strobe g => Sys2Proof.Machine.execStrobe g s
  | .grpSw sid seq g value => Sys2Proof.Machine.execGrpSw sid seq g value s
  | .edgeEnd n => Sys2Proof.Machine.execEdgeEnd n s
  | .outclrFall => Sys2Proof.Machine.execOutclrFall s
  | .outclrRise => Sys2Proof.Machine.execOutclrRise s
  | .rangeWrite sid seq n value => Sys2Proof.Machine.execRangeWrite sid seq n value s
  | .rangeWindowEnd n => Sys2Proof.Machine.execRangeWindowEnd n s
  | .grpCtrlWrite sid seq g value => Sys2Proof.Machine.execGrpCtrlWrite sid seq g value s
  | .groupPowerUpComplete o => Sys2Proof.Machine.execGroupPowerUpComplete o s
  | .groupShutdownComplete g => Sys2Proof.Machine.execGroupShutdownComplete g s
  | .windowStartArrival ch => Sys2Proof.Machine.execWindowStartArrival ch s
  | .windowOpen ch t => Sys2Proof.Machine.execWindowOpen ch t s
  | .windowClose ch t => Sys2Proof.Machine.execWindowClose ch t s
  | .refbufEnable sid seq ch value => Sys2Proof.Machine.execRefbufEnable sid seq ch value s
  | .refbufDisable sid seq ch value => Sys2Proof.Machine.execRefbufDisable sid seq ch value s
  | .refbufReady ch => Sys2Proof.Machine.execRefbufReady ch s
  | .refbufShutdownComplete ch => Sys2Proof.Machine.execRefbufShutdownComplete ch s
  | .adcRangeWrite sid seq ch value => Sys2Proof.Machine.execAdcRangeWrite sid seq ch value s
  | .adcTrigEnable sid seq ch value => Sys2Proof.Machine.execAdcTrigEnable sid seq ch value s
  | .quietTick ch => Sys2Proof.Machine.execQuietTick ch s
  | .rangeSettled ch => Sys2Proof.Machine.execRangeSettled ch s
  | .beatWrite ch samples => Sys2Proof.Machine.execBeatWrite ch samples s
  | .cNop c => Sys2Proof.Machine.execCNop c s
  | .cMac c m => Sys2Proof.Machine.execCMac c m s
  | .cMacb c m => Sys2Proof.Machine.execCMacb c m s
  | .cTapm c m => Sys2Proof.Machine.execCTapm c m s
  | .cMsq c m => Sys2Proof.Machine.execCMsq c m s
  | .cLdx c m => Sys2Proof.Machine.execCLdx c m s
  | .cStx c m => Sys2Proof.Machine.execCStx c m s
  | .cMulx c m => Sys2Proof.Machine.execCMulx c m s
  | .cClra c m => Sys2Proof.Machine.execCClra c m s
  | .cAcx c m => Sys2Proof.Machine.execCAcx c m s
  | .cWaitb c m => Sys2Proof.Machine.execCWaitb c m s
  | .cSets c sd imm => Sys2Proof.Machine.execCSets c sd imm s
  | .cAdds c sd sa imm => Sys2Proof.Machine.execCAdds c sd sa imm s
  | .cJ c target => Sys2Proof.Machine.execCJ c target s
  | .cDbnz c sa target => Sys2Proof.Machine.execCDbnz c sa target s
  | .cRep c count => Sys2Proof.Machine.execCRep c count s
  | .decisionPublish ch t => Sys2Proof.Machine.execDecisionPublish ch t s
  | .classifierCommitGo sid seq c value => Sys2Proof.Machine.execClassifierCommitGo sid seq c value s
  | .cruDragAccess sid seq c value => Sys2Proof.Machine.execCruDragAccess sid seq c value s
  | .crucibleFault c code => Sys2Proof.Machine.execCrucibleFault c code s
  | .sequencerForcedStop c => Sys2Proof.Machine.execSequencerForcedStop c s
  | .crucibleSwapBegin n => Sys2Proof.Machine.execCrucibleSwapBegin n s
  | .crucibleSwapComplete n => Sys2Proof.Machine.execCrucibleSwapComplete n s
  | .sprueRound k n => Sys2Proof.Machine.execSprueRound k n s
  | .waiteTimeout e => Sys2Proof.Machine.execWaiteTimeout e s
  | .flagNotifyDeferred ch => Sys2Proof.Machine.execFlagNotifyDeferred ch s
  | .softwarePublish sid seq value => Sys2Proof.Machine.execSoftwarePublish sid seq value s
  | .timerEnable sid seq k value => Sys2Proof.Machine.execTimerEnable sid seq k value s
  | .timerDisable sid seq k value => Sys2Proof.Machine.execTimerDisable sid seq k value s
  | .timerPublish k => Sys2Proof.Machine.execTimerPublish k s
  | .trigInputEdge k rising => Sys2Proof.Machine.execTrigInputEdge k rising s
  | .trigOutputPulse k => Sys2Proof.Machine.execTrigOutputPulse k s
  | .portEnable sid seq p value => Sys2Proof.Machine.execPortEnable sid seq p value s
  | .portDisable sid seq p value => Sys2Proof.Machine.execPortDisable sid seq p value s
  | .portRetrain sid seq p value => Sys2Proof.Machine.execPortRetrain sid seq p value s
  | .laneSlip sid seq p l aligned => Sys2Proof.Machine.execLaneSlip sid seq p l aligned s
  | .autoSlipStep p l comma => Sys2Proof.Machine.execAutoSlipStep p l comma s
  | .bringupStagePass p obs => Sys2Proof.Machine.execBringupStagePass p obs s
  | .bringupStageTimeout p => Sys2Proof.Machine.execBringupStageTimeout p s
  | .bringupRestart p => Sys2Proof.Machine.execBringupRestart p s
  | .enableFrameReceive r => Sys2Proof.Machine.execEnableFrameReceive r s
  | .blockTransmit p => Sys2Proof.Machine.execBlockTransmit p s
  | .fastPathBlockReceive p b => Sys2Proof.Machine.execFastPathBlockReceive p b s
  | .runnerAckSend p => Sys2Proof.Machine.execRunnerAckSend p s
  | .runnerAckReceive p f => Sys2Proof.Machine.execRunnerAckReceive p f s
  | .ackOverdue p => Sys2Proof.Machine.execAckOverdue p s
  | .gapTimeout p => Sys2Proof.Machine.execGapTimeout p s
  | .lossFrameReceive p hdr body check => Sys2Proof.Machine.execLossFrameReceive p hdr body check s
  | .elasticBufferFault p => Sys2Proof.Machine.execElasticBufferFault p s
  | .measFrameReceive p f => Sys2Proof.Machine.execMeasFrameReceive p f s
  | .measUpdate p => Sys2Proof.Machine.execMeasUpdate p s
  | .timeRequestSend => Sys2Proof.Machine.execTimeRequestSend s
  | .timeRequestReceive p f t2 t3 => Sys2Proof.Machine.execTimeRequestReceive p f t2 t3 s
  | .timeReplyReceive p f t4 => Sys2Proof.Machine.execTimeReplyReceive p f t4 s
  | .castStep => Sys2Proof.Machine.execCastStep s
  | .castHoldoverEntry => Sys2Proof.Machine.execCastHoldoverEntry s
  | .refinLost => Sys2Proof.Machine.execRefinLost s
  | .pllUnlock => Sys2Proof.Machine.execPllUnlock s
  | .realign sid seq => Sys2Proof.Machine.execRealign sid seq s
  | .adoptionWindowEnd => Sys2Proof.Machine.execAdoptionWindowEnd s
  | .ptpSync p m frame => Sys2Proof.Machine.execPtpSync p m frame s
  | .ptpDelayResp p id t4 corr frame => Sys2Proof.Machine.execPtpDelayResp p id t4 corr frame s
  | .ptpAnnounce p m frame => Sys2Proof.Machine.execPtpAnnounce p m frame s
  | .announceReceiptTimeout => Sys2Proof.Machine.execAnnounceReceiptTimeout s
  | .delayReqSend p => Sys2Proof.Machine.execDelayReqSend p s
  | .stepArm sid seq => Sys2Proof.Machine.execStepArm sid seq s
  | .sysOffsetIn sid seq value => Sys2Proof.Machine.execSysOffsetIn sid seq value s
  | .txqIdRead sid seq p => Sys2Proof.Machine.execTxqIdRead sid seq p s
  | .taiSecondBoundary => Sys2Proof.Machine.execTaiSecondBoundary s
  | .chainForward p f => Sys2Proof.Machine.execChainForward p f s
  | .capArm sid seq => Sys2Proof.Machine.execCapArm sid seq s
  | .capSoftwareFire sid seq => Sys2Proof.Machine.execCapSoftwareFire sid seq s
  | .capAbort sid seq => Sys2Proof.Machine.execCapAbort sid seq s
  | .capReleaseWrite sid seq => Sys2Proof.Machine.execCapReleaseWrite sid seq s
  | .captureFire k obs => Sys2Proof.Machine.execCaptureFire k obs s
  | .triggerPointFix => Sys2Proof.Machine.execTriggerPointFix s
  | .captureClose stored => Sys2Proof.Machine.execCaptureClose stored s
  | .captureFifoRecheck percent elem src => Sys2Proof.Machine.execCaptureFifoRecheck percent elem src s
  | .captureGap k lost elem first resume tone => Sys2Proof.Machine.execCaptureGap k lost elem first resume tone s
  | .capRead sid seq off len => Sys2Proof.Machine.execCapRead sid seq off len s
  | .capRelease sid seq rec => Sys2Proof.Machine.execCapRelease sid seq rec s
  | .tiuStart sid seq u => Sys2Proof.Machine.execTiuStart sid seq u s
  | .tiuAbort sid seq u => Sys2Proof.Machine.execTiuAbort sid seq u s
  | .tiuEdge k tick charge => Sys2Proof.Machine.execTiuEdge k tick charge s
  | .tiuMeasurementTimeout u => Sys2Proof.Machine.execTiuMeasurementTimeout u s
  | .qsfpInsert p media powerClass => Sys2Proof.Machine.execQsfpInsert p media powerClass s
  | .arpRequest p ip src => Sys2Proof.Machine.execArpRequest p ip src s
  | .neighbourSolicitation p ip src => Sys2Proof.Machine.execNeighbourSolicitation p ip src s
  | .echoRequest p v6 src data => Sys2Proof.Machine.execEchoRequest p v6 src data s
  | .frameDiscard p => Sys2Proof.Machine.execFrameDiscard p s
  | .hello p h => Sys2Proof.Machine.execHello p h s
  | .challengeSigned sig => Sys2Proof.Machine.execChallengeSigned sig s
  | .auth hs sig => Sys2Proof.Machine.execAuth hs sig s
  | .authVerified hs => Sys2Proof.Machine.execAuthVerified hs s
  | .handshakeTimeout hs => Sys2Proof.Machine.execHandshakeTimeout hs s
  | .sealedPacketReceive p k => Sys2Proof.Machine.execSealedPacketReceive p k s
  | .ack sid seq => Sys2Proof.Machine.execAck sid seq s
  | .nak sid lost => Sys2Proof.Machine.execNak sid lost s
  | .keepalive sid seq => Sys2Proof.Machine.execKeepalive sid seq s
  | .close sid seq => Sys2Proof.Machine.execClose sid seq s
  | .regRead sid seq addrs => Sys2Proof.Machine.execRegRead sid seq addrs s
  | .regWrite sid seq entries => Sys2Proof.Machine.execRegWrite sid seq entries s
  | .imgBegin sid seq crucible len => Sys2Proof.Machine.execImgBegin sid seq crucible len s
  | .imgData sid seq handle off data => Sys2Proof.Machine.execImgData sid seq handle off data s
  | .imgEnd sid seq handle check => Sys2Proof.Machine.execImgEnd sid seq handle check s
  | .logRead sid seq first count => Sys2Proof.Machine.execLogRead sid seq first count s
  | .nvWrite sid seq cls idx rec => Sys2Proof.Machine.execNvWrite sid seq cls idx rec s
  | .imageInstall sid seq kind len sha => Sys2Proof.Machine.execImageInstall sid seq kind len sha s
  | .imageCommit sid seq kind => Sys2Proof.Machine.execImageCommit sid seq kind s
  | .imageAbandon sid seq kind => Sys2Proof.Machine.execImageAbandon sid seq kind s
  | .nvRead sid seq cls idx => Sys2Proof.Machine.execNvRead sid seq cls idx s
  | .attest sid seq challenge => Sys2Proof.Machine.execAttest sid seq challenge s
  | .rawTx sid seq port ts id frame => Sys2Proof.Machine.execRawTx sid seq port ts id frame s
  | .bareAckSend sid => Sys2Proof.Machine.execBareAckSend sid s
  | .transactionResend sid seq => Sys2Proof.Machine.execTransactionResend sid seq s
  | .sessionIdleTimeout sid => Sys2Proof.Machine.execSessionIdleTimeout sid s
  | .logEntryCommit => Sys2Proof.Machine.execLogEntryCommit s
  | .logRateSecondEnd => Sys2Proof.Machine.execLogRateSecondEnd s
  | .cmkReq sid seq value => Sys2Proof.Machine.execCmkReq sid seq value s
  | .routinePeriodicRequest r => Sys2Proof.Machine.execRoutinePeriodicRequest r s
  | .routineStart => Sys2Proof.Machine.execRoutineStart s
  | .cmkNone w => Sys2Proof.Machine.execCmkNone w s
  | .cmkWrite w => Sys2Proof.Machine.execCmkWrite w s
  | .cmkRead w => Sys2Proof.Machine.execCmkRead w s
  | .cmkAlu w => Sys2Proof.Machine.execCmkAlu w s
  | .cmkShadow w => Sys2Proof.Machine.execCmkShadow w s
  | .cmkCommit w => Sys2Proof.Machine.execCmkCommit w s
  | .cmkFuse w o => Sys2Proof.Machine.execCmkFuse w o s
  | .cmkNvwrite w => Sys2Proof.Machine.execCmkNvwrite w s
  | .cmkPublish w => Sys2Proof.Machine.execCmkPublish w s
  | .cmkSlip w => Sys2Proof.Machine.execCmkSlip w s
  | .cmkLoad w => Sys2Proof.Machine.execCmkLoad w s
  | .cmkWaitTimeout => Sys2Proof.Machine.execCmkWaitTimeout s
  | .forcedAbort => Sys2Proof.Machine.execForcedAbort s
  | .calAccept sid seq => Sys2Proof.Machine.execCalAccept sid seq s
  | .calDiscard sid seq => Sys2Proof.Machine.execCalDiscard sid seq s
  | .acceptanceTimeout => Sys2Proof.Machine.execAcceptanceTimeout s
  | .calCommitTick => Sys2Proof.Machine.execCalCommitTick s
  | .fuseProgGo sid seq value => Sys2Proof.Machine.execFuseProgGo sid seq value s
  | .cryCtrlWrite sid seq value => Sys2Proof.Machine.execCryCtrlWrite sid seq value s
  | .cryChannelWrite sid seq n exc value => Sys2Proof.Machine.execCryChannelWrite sid seq n exc value s
  | .cryRoutWrite sid seq k fs value => Sys2Proof.Machine.execCryRoutWrite sid seq k fs value s
  | .excitationReversal mean => Sys2Proof.Machine.execExcitationReversal mean s
  | .conversionComplete lastMean fullScale => Sys2Proof.Machine.execConversionComplete lastMean fullScale s
  | .openWireTrip => Sys2Proof.Machine.execOpenWireTrip s
  | .vrefLow mv => Sys2Proof.Machine.execVrefLow mv s
  | .housekeepingRound o => Sys2Proof.Machine.execHousekeepingRound o s
  | .thermalRestart => Sys2Proof.Machine.execThermalRestart s
  | .feedUndervoltage f mv => Sys2Proof.Machine.execFeedUndervoltage f mv s
  | .feedOvervoltage f mv us => Sys2Proof.Machine.execFeedOvervoltage f mv us s
  | .brownoutDecided => Sys2Proof.Machine.execBrownoutDecided s
  | .brownoutShotLimit => Sys2Proof.Machine.execBrownoutShotLimit s
  | .brownoutRestart => Sys2Proof.Machine.execBrownoutRestart s
  | .stageIsolate k => Sys2Proof.Machine.execStageIsolate k s
  | .slackServoStep r worst tenth alone => Sys2Proof.Machine.execSlackServoStep r worst tenth alone s
  | .moulderTakeover => Sys2Proof.Machine.execMoulderTakeover s
  | .dramRowRemap pc row => Sys2Proof.Machine.execDramRowRemap pc row s
  | .dramBankRemap pc bank => Sys2Proof.Machine.execDramBankRemap pc bank s
  | .hotCacheLineRetire k block => Sys2Proof.Machine.execHotCacheLineRetire k block s
  | .moulderUpdateHandover => Sys2Proof.Machine.execMoulderUpdateHandover s
  | .controlStoreSwitch => Sys2Proof.Machine.execControlStoreSwitch s
  | .controlStoreInstallTimeout => Sys2Proof.Machine.execControlStoreInstallTimeout s
  | .flaskPatchSwitch => Sys2Proof.Machine.execFlaskPatchSwitch s
  | .powerOn straps => Sys2Proof.Machine.execPowerOn straps s
  | .startStagePass o => Sys2Proof.Machine.execStartStagePass o s
  | .startStageTimeout cause => Sys2Proof.Machine.execStartStageTimeout cause s
  | .retryStart => Sys2Proof.Machine.execRetryStart s
  | .settlingComplete => Sys2Proof.Machine.execSettlingComplete s
  | .rstFall => Sys2Proof.Machine.execRstFall s
  | .rstRise straps => Sys2Proof.Machine.execRstRise straps s
  | .mldReset sid seq value => Sys2Proof.Machine.execMldReset sid seq value s
  | .fatalFault source => Sys2Proof.Machine.execFatalFault source s
  | .fatalRestart => Sys2Proof.Machine.execFatalRestart s
  | .supervisorWatchdog => Sys2Proof.Machine.execSupervisorWatchdog s
  | .laneSignalLost p l idle => Sys2Proof.Machine.execLaneSignalLost p l idle s
  | .refinReturn => Sys2Proof.Machine.execRefinReturn s
  | .classifierCommitTick c => Sys2Proof.Machine.execClassifierCommitTick c s
  | .feedReturn f mv => Sys2Proof.Machine.execFeedReturn f mv s
  | .riserBankSpent => Sys2Proof.Machine.execRiserBankSpent s
  | .holdLimitExceeded => Sys2Proof.Machine.execHoldLimitExceeded s
  | .granuleRead tone dramError => Sys2Proof.Machine.execGranuleRead tone dramError s
  | .attestSigned sig => Sys2Proof.Machine.execAttestSigned sig s
  | .cmkWaitSatisfied => Sys2Proof.Machine.execCmkWaitSatisfied s

end Sys2Proof.Machine
end

