-- ==== Sys2Proof/Machine/Taps.lean ====
section
/-! DEFINITION. The resampler's coefficient table (R119): phases 0 to 512 as rows, computed from the formula of R119; the window
and the sinc are even, so phase 1024 - mu is phase mu mirrored. -/

namespace Sys2Proof.Machine

/-- Phases 0 to 31: 32 taps of 18 bits a row, tap k = -15 in the lowest bits. -/
def tapRows0 : List Nat :=
  [0x73FFB50024FFF1C00457FF1A0000001FAFEAA40A3EFBD98180EF80302776F495431C67337031C6F49542776F8030180EFBD980A3EFEAA401FA00003FF1A00457FF1C0024FFFB5,
   0x73FFB500253FF1B0045FFF180000C01F6FEAB80A3AFBDA01810F8008278EF4888323F73370314DF4A1C275DF8058180CFBD8C0A43FEA9001FEFFFF7FF1C00453FF1D0024FFFB5,
   0x73FFB500253FF1B00463FF160001801F2FEACC0A35FBDAC1812F7FE027A6F47BC32B87336C30D4F4AE82745F8084180AFBD840A47FEA800202FFFEBFF1E0044FFF1D0024FFFB5,
   0x73FFB500253FF1A00467FF140002401EEFEADC0A31FBDB41813F7FB827BEF46F433317336C305BF4BB4272CF80AC1808FBD780A4BFEA6C0206FFFDFFF200044BFF1E0024FFFB5,
   0x73FFB400253FF1A0046BFF120003001EAFEAF00A2CFBDC01815F7F9027D6F462833AB733682FE3F4C802714F80D41806FBD700A50FEA58020BFFFD3FF2200447FF1E0024FFFB5,
   0x73FFB400257FF190046FFF100004001E5FEB040A28FBDC81817F7F6827EEF45603425733602F6AF4D4C26FBF81001803FBD680A54FEA44020FFFFC7FF240043FFF1F0024BFFB5,
   0x73FFB400257FF1800477FF0E0004C01E1FEB180A23FBDD41819F7F442806F4494349E7335C2EF2F4E1426E3F81281801FBD5C0A58FEA340213FFFB7FF260043BFF1F0024BFFB5,
   0x73FFB400257FF180047BFF0B0005801DDFEB2C0A1FFBDE0181AF7F1C281EF43CC3518733542E7AF4EE026CAF815017FFFBD540A5DFEA200217FFFABFF2800437FF200024BFFB5,
   0x73FFB400257FF170047FFF090006401D9FEB3C0A1AFBDEC181CF7EF42836F43003592733482E02F4FAC26B2F817C17FDFBD4C0A61FEA10021BFFF9FFF2A00433FF210024BFFB5,
   0x73FFB400257FF1700483FF070007001D5FEB500A15FBDF4181DF7ECC284EF4238360D733402D8AF50782699F81A817FAFBD440A65FE9FC021FFFF93FF2C0042FFF2100247FFB5,
   0x73FFB40025BFF1600487FF050007C01D1FEB640A11FBE00181FF7EA82865F41703687733342D13F51442680F81D017F8FBD380A69FE9E80223FFF87FF2E0042BFF2200247FFB5,
   0x73FFB40025BFF160048BFF030008801CCFEB780A0CFBE0C1820F7E80287DF40A43701733282C9BF52102667F81FC17F5FBD300A6DFE9D80227FFF7BFF3000423FF2200247FFB5,
   0x73FFB40025BFF1500493FF010009401C8FEB8C0A07FBE181822F7E5C2894F3FDC377C733182C24F52DC264EF822817F3FBD280A72FE9C4022BFFF6FFF320041FFF2300247FFB5,
   0x73FFB40025BFF1400497FEFF000A401C4FEBA00A03FBE241823F7E3828ACF3F1437F7733082BADF53A82635F825017F0FBD200A76FE9B4022FFFF63FF350041BFF2400243FFB6,
   0x73FFB40025FFF140049BFEFD000B001C0FEBB409FEFBE301824F7E1028C3F3E4C3872732F82B36F5478261CF827C17EEFBD180A7AFE9A00233FFF57FF3700417FF2400243FFB6,
   0x73FFB40025FFF130049FFEFB000BC01BCFEBC809F9FBE3C1826F7DEC28DBF3D8438ED732E82ABFF55442603F82A817EBFBD100A7EFE98C0237FFF4BFF3900413FF2500243FFB6,
   0x73FFB40025FFF13004A3FEF9000C801B7FEBDC09F4FBE481827F7DC828F2F3CB83968732D42A48F561025EAF82D417E9FBD080A82FE97C023BFFF3FFF3B0040BFF2500243FFB6,
   0x73FFB40025FFF12004A7FEF7000D401B3FEBF009F0FBE541828F7DA02909F3BF039E3732C029D2F56DC25D1F830017E6FBD000A86FE968023FFFF33FF3D00407FF2600243FFB6,
   0x73FFB40025FFF12004AFFEF5000E001AFFEC0409EBFBE601829F7D7C2921F3B283A5F732AC295BF57A825B7F832C17E3FBCF80A8AFE9580243FFF27FF3F00403FF270023FFFB6,
   0x73FFB400263FF11004B3FEF3000EC01ABFEC1809E6FBE6C182AF7D582938F3A603ADB7329428E5F5878259EF835817E0FBCF00A8EFE9440247FFF1BFF41003FFFF270023FFFB6,
   0x73FFB400263FF11004B7FEF1000F801A6FEC2C09E1FBE78182BF7D34294FF399C3B567327C286FF59442585F838817DEFBCEC0A92FE934024BFFF0BFF43003FBFF280023FFFB6,
   0x73FFB400263FF10004BBFEEF0010801A2FEC4009DCFBE84182CF7D102966F38D43BD27326427F9F5A10256BF83B417DBFBCE40A96FE924024FFFEFFFF45003F3FF280023FFFB6,
   0x73FFB400263FF0F004BFFEED00114019EFEC5409D7FBE94182DF7CEC297DF380C3C4E7324C2783F5AE02552F83E017D8FBCDC0A9AFE9100253FFEF3FF47003EFFF290023BFFB6,
   0x73FFB400263FF0F004C3FEEB00120019AFEC6809D2FBEA0182EF7CCC2994F37443CCA73230270DF5BAC2538F841017D5FBCD40A9EFE9000257FFEE7FF49003EBFF2A0023BFFB6,
   0x73FFB300267FF0E004CBFEE90012C0195FEC7C09CDFBEAC182FF7CA829ABF367C3D47732142698F5C7C251FF843C17D2FBCD00AA2FE8EC025BFFEDBFF4B003E7FF2A0023BFFB6,
   0x73FFB300267FF0E004CFFEE7001380191FEC9009C8FBEBC1830F7C8429C1F35B83DC3731F42622F5D482505F846817CFFBCC80AA6FE8DC025FFFECFFF4D003DFFF2B0023BFFB6,
   0x73FFB300267FF0D004D3FEE500144018DFECA409C3FBEC81831F7C6429D8F34F03E40731D825ADF5E1424EBF849817CCFBCC00AA9FE8C80263FFEC3FF4F003DBFF2B00237FFB6,
   0x73FFB300267FF0D004D7FEE3001540188FECB809BEFBED41831F7C4029EFF34283EBC731B82538F5EE424D2F84C817C8FBCBC0AADFE8B80267FFEB7FF51003D7FF2C00237FFB7,
   0x73FFB300267FF0C004DBFEE0001600184FECCC09B9FBEE41832F7C1C2A05F33643F397319424C3F5FB024B8F84F417C5FBCB40AB1FE8A8026BFFEABFF53003D3FF2D00237FFB7,
   0x73FFB30026BFF0C004DFFEDE0016C0180FECE009B4FBEF01833F7BFC2A1CF329C3FB673174244EF6080249EF852417C2FBCB00AB5FE894026FFFE9FFF55003CFFF2D00237FFB7,
   0x73FFB30026BFF0B004E3FEDC00178017CFECF409AFFBF001833F7BDC2A32F31D840337315023DAF61502484F855417BFFBCA80AB8FE8840273FFE93FF57003C7FF2E00233FFB7,
   0x73FFB30026BFF0B004EBFEDA001840177FED0809AAFBF0C1834F7BB82A49F311440B07312C2365F621C246AF858017BBFBCA40ABCFE8740276FFE87FF59003C3FF2E00233FFB7]
/-- Phases 32 to 63: 32 taps of 18 bits a row, tap k = -15 in the lowest bits. -/
def tapRows1 : List Nat :=
  [0x73FFB30026BFF0A004EFFED8001900173FED2009A5FBF1C1834F7B982A5FF304C412E7310422F1F62EC2450F85B017B8FBC9C0AC0FE864027AFFE7BFF5C003BFFF2F00233FFB7,
   0x73FFB30026BFF09004F3FED6001A0016FFED3409A0FBF281835F7B782A75F2F8841AB730DC227DF63B82436F85E017B4FBC980AC4FE850027EFFE6FFF5E003BBFF3000233FFB7,
   0x73FFB30026FFF09004F7FED4001AC016AFED48099AFBF381835F7B542A8BF2EC44229730B42209F6488241CF861017B1FBC940AC7FE8400282FFE63FF60003B7FF300022FFFB7,
   0x73FFB30026FFF08004FBFED2001B80166FED5C0995FBF481835F7B342AA1F2DFC42A67308C2195F65582402F864017ADFBC8C0ACBFE8300286FFE57FF62003AFFF310022FFFB7,
   0x73FFB30026FFF08004FFFED0001C40162FED700990FBF541836F7B142AB7F2D384324730602121F662423E8F867017AAFBC880ACEFE81C028AFFE4BFF64003ABFF320022FFFB7,
   0x73FFB30026FFF0700503FECE001D0015DFED88098BFBF641836F7AF42ACDF2C7443A27303420AEF66F423CDF86A017A6FBC840AD2FE80C028EFFE3FFF66003A7FF320022FFFB7,
   0x73FFB30026FFF070050BFECC001DC0159FED9C0985FBF741836F7AD42AE3F2BB0442073004203BF67C423B3F86D017A3FBC800AD6FE7FC0292FFE33FF68003A3FF330022BFFB7,
   0x73FFB300273FF060050FFECA001EC0154FEDB00980FBF841836F7AB82AF9F2AEC449F72FD81FC7F68942399F8700179FFBC7C0AD9FE7EC0295FFE27FF6A0039BFF330022BFFB7,
   0x73FFB300273FF0600513FEC8001F80150FEDC4097BFBF941836F7A982B0FF2A28451D72FA81F54F6960237EF8734179BFBC740ADDFE7DC0299FFE1BFF6C00397FF340022BFFB8,
   0x73FFB300273FF0500517FEC600204014CFEDDC0975FBFA01836F7A782B25F2964459B72F781EE2F6A302364F87641797FBC700AE0FE7CC029DFFE0FFF6E00393FF3500227FFB8,
   0x73FFB300273FF050051BFEC4002100147FEDF00970FBFB01836F7A582B3AF28A0461A72F441E6FF6B002349F87941794FBC6C0AE4FE7B802A1FFE03FF700038FFF3500227FFB8,
   0x73FFB300273FF040051FFEC20021C0143FEE04096BFBFC01836F7A3C2B50F27E0469972F101DFCF6BD0232FF87C81790FBC680AE7FE7A802A5FFDF7FF720038BFF3600227FFB8,
   0x73FFB300277FF0400523FEC000228013FFEE1C0965FBFD01836F7A1C2B65F271C471872EDC1D8AF6CA02314F87F8178CFBC640AEAFE79802A8FFDEBFF7400383FF3700227FFB8,
   0x73FFB300277FF030052BFEBE00238013AFEE300960FBFE01836F7A002B7BF2658479772EA81D18F6D7022FAF882C1788FBC600AEEFE78802ACFFDDFFF760037FFF3700223FFB8,
   0x73FFB300277FF030052FFEBC002440136FEE44095AFBFF01836F79E02B90F2594481672E701CA6F6E4022DFF885C1784FBC5C0AF1FE77802B0FFDD3FF780037BFF3800223FFB8,
   0x73FFB300277FF0200533FEBA002500131FEE5C0955FC0041836F79C42BA6F24D4489572E381C34F6F0C22C4F88901780FBC580AF4FE76802B4FFDC7FF7A00377FF3800223FFB8,
   0x73FFB300277FF0200537FEB80025C012DFEE70094FFC0141835F79A42BBBF2410491472E001BC2F6FDC22A9F88C0177CFBC580AF8FE75802B8FFDBBFF7C0036FFF3900223FFB8,
   0x73FFB200277FF010053BFEB6002680128FEE84094AFC0241835F79882BD0F2350499472DC41B51F70AC228FF88F41778FBC540AFBFE74802BBFFDAFFF7E0036BFF3A0021FFFB8,
   0x73FFB20027BFF010053FFEB4002780124FEE9C0944FC0341835F796C2BE5F228C4A1472D881ADFF717C2274F89281773FBC500AFEFE73802BFFFDA3FF8000367FF3A0021FFFB8,
   0x73FFB20027BFF0000543FEB2002840120FEEB0093FFC0441834F79502BFAF21CC4A9372D4C1A6EF724C2259F895C176FFBC4C0B02FE72802C3FFD97FF8200363FF3B0021FFFB8,
   0x73FFB20027BFF0000547FEB000290011BFEEC40939FC0541834F79342C0FF210C4B1372D0C19FDF731C223EF898C176BFBC480B05FE71802C7FFD8BFF840035FFF3C0021FFFB9,
   0x73FFB20027BFEFF0054BFEAE0029C0117FEEDC0934FC0681833F79182C24F204C4B9372CCC198CF73EC2223F89C01767FBC480B08FE70802CAFFD7FFF8600357FF3C0021BFFB9,
   0x73FFB20027BFEFE00553FEAC002A80112FEEF0092EFC0781833F78FC2C39F1F884C1372C8C191BF74BC2208F89F41762FBC440B0BFE6F802CEFFD77FF8800353FF3D0021BFFB9,
   0x73FFB20027BFEFE00557FEAA002B8010EFEF080928FC0881832F78E02C4DF1EC84C9372C4C18ABF758C21EDF8A28175EFBC400B0EFE6E802D2FFD6BFF8A0034FFF3D0021BFFB9,
   0x73FFB20027FFEFD0055BFEA8002C40109FEF1C0923FC09C1831F78C42C62F1E084D1472C08183AF765C21D2F8A5C1759FBC400B11FE6D802D5FFD5FFF8C0034BFF3E00217FFB9,
   0x73FFB20027FFEFD0055FFEA5002D00105FEF34091DFC0AC1831F78A82C77F1D484D9472BC417CAF772C21B6F8A901755FBC3C0B14FE6C802D9FFD53FF8E00343FF3F00217FFB9,
   0x73FFB20027FFEFC00563FEA3002DC0100FEF480917FC0C01830F78902C8BF1C884E1572B7C175AF7800219BF8AC81750FBC3C0B18FE6B802DDFFD47FF910033FFF3F00217FFB9,
   0x73FFB20027FFEFC00567FEA1002E800FCFEF600911FC0D0182FF78742CA0F1BC84E9672B3816EAF78D02180F8AFC174CFBC380B1BFE6A802E0FFD3BFF930033BFF4000217FFB9,
   0x73FFB20027FFEFB0056BFE9F002F800F8FEF74090CFC0E4182EF78582CB4F1B084F1672AF0167AF79A02164F8B301747FBC380B1EFE69802E4FFD2FFF9500337FF4100213FFB9,
   0x6FFFB20027FFEFB0056FFE9D0030400F3FEF8C0906FC0F4182DF78402CC8F1A4C4F9772AA8160BF7A702149F8B641743FBC340B21FE68802E8FFD23FF9700333FF4100213FFB9,
   0x6FFFB200283FEFA00573FE9B0031000EFFEFA00900FC108182CF78242CDDF198C501872A5C159BF7B40212EF8B9C173EFBC340B24FE67C02EBFFD17FF990032BFF4200213FFB9,
   0x6FFFB200283FEFA0057BFE990031C00EAFEFB808FAFC11C182BF780C2CF1F18CC509972A10152CF7C102112F8BD01739FBC340B27FE66C02EFFFD0BFF9B00327FF4300213FFBA]
/-- Phases 64 to 95: 32 taps of 18 bits a row, tap k = -15 in the lowest bits. -/
def tapRows2 : List Nat :=
  [0x6FFFB200283FEFA0057FFE970032800E6FEFCC08F4FC12C182AF77F42D05F1810511B729C414BDF7CE020F7F8C081734FBC300B29FE65C02F3FFCFFFF9D00323FF430020FFFBA,
   0x6FFFB200283FEF900583FE950033800E1FEFE408EFFC1401829F77D82D19F1750519C72978144EF7DB020DBF8C3C172FFBC300B2CFE64C02F6FFCF3FF9F0031FFF440020FFFBA,
   0x6FFFB200283FEF900587FE930034400DDFEFF808E9FC1541828F77C02D2DF1694521E7292813DFF7E8420BFF8C74172BFBC300B2FFE63C02FAFFCE7FFA100317FF450020FFFBA,
   0x6FFFB200283FEF80058BFE910035000D8FF01008E3FC1641827F77A82D41F15D4529F728D81371F7F5420A4F8CA81726FBC300B32FE63002FEFFCDFFFA300313FF450020BFFBA,
   0x6FFFB200287FEF80058FFE8F0035C00D3FF02808DDFC1781825F77902D55F15185321728841302F80242088F8CE01721FBC2C0B35FE6200301FFCD3FFA50030FFF460020BFFBA,
   0x6FFFB200287FEF700593FE8D0036800CFFF03C08D7FC18C1824F77782D68F145C53A3728341294F80F4206CF8D14171CFBC2C0B38FE6100305FFCC7FFA70030BFF460020BFFBA,
   0x6FFFB200287FEF700597FE8B0037800CAFF05408D1FC1A01823F77602D7CF139C5425727E01226F81C42051F8D4C1717FBC2C0B3BFE6000308FFCBBFFA900303FF470020BFFBA,
   0x6FFFB200287FEF60059BFE890038400C6FF06C08CBFC1B41821F77482D90F12E054A77278811B8F82982035F8D841712FBC2C0B3DFE5F4030CFFCAFFFAB002FFFF4800207FFBA,
   0x6FFFB200287FEF60059FFE870039000C1FF08008C5FC1C81820F77302DA3F1224552972734114AF83682019F8DBC170DFBC2C0B40FE5E40310FFCA3FFAD002FBFF4800207FFBA,
   0x6FFFB200287FEF5005A3FE850039C00BDFF09808BFFC1DC181EF77182DB7F116855AB726DC10DDF84381FFDF8DF41707FBC2C0B43FE5D40313FFC97FFAF002F7FF4900207FFBA,
   0x6FFFB20028BFEF5005A7FE83003AC00B8FF0AC08B9FC1F0181DF77042DCAF10AC562E72684106FF85081FE1F8E2C1702FBC2C0B45FE5C80317FFC8BFFB1002EFFF4A00203FFBB,
   0x6FFFB20028BFEF4005AFFE81003B800B4FF0C408B3FC204181BF76EC2DDDF0FF056B0726281002F85D81FC5F8E6016FDFBC2C0B48FE5B8031AFFC83FFB3002EBFF4A00203FFBB,
   0x6FFFB20028BFEF4005B3FE7F003C400AFFF0DC08ADFC218181AF76D42DF0F0F385733725D00F95F86AC1FA9F8E9816F8FBC2C0B4BFE5A8031EFFC77FFB5002E7FF4B00203FFBB,
   0x6FFFB20028BFEF3005B7FE7D003D000ABFF0F408A7FC22C1818F76C02E04F0E7C57B6725740F28F877C1F8DF8ED416F2FBC2C0B4DFE59C0321FFC6BFFB7002E3FF4C00203FFBB,
   0x6FFFB20028BFEF3005BBFE7B003DC00A6FF10808A0FC2401816F76AC2E17F0DC05838725140EBCF884C1F71F8F0C16EDFBC2C0B50FE58C0325FFC5FFFB9002DFFF4C001FFFFBB,
   0x6FFFB20028BFEF2005BFFE79003EC00A1FF120089AFC2541814F76942E2AF0D0458BB724B80E4FF891C1F55F8F4416E7FBC300B53FE57C0328FFC53FFBB002D7FF4D001FFFFBB,
   0x6FFFB20028BFEF2005C3FE77003F8009DFF1380894FC2681813F76802E3DF0C4C593F724580DE3F89F01F39F8F7C16E2FBC300B55FE570032CFFC47FFBD002D3FF4E001FFFFBB,
   0x6FFFB20028FFEF1005C7FE75004040098FF14C088EFC2801811F766C2E4FF0B9059C2723F40D77F8AC01F1CF8FB416DCFBC300B58FE560032FFFC3BFFBF002CFFF4E001FBFFBB,
   0x6FFFB20028FFEF1005CBFE73004100094FF1640888FC294180FF76542E62F0AD85A45723940D0BF8B901F00F8FEC16D7FBC300B5AFE5540333FFC33FFC1002CBFF4F001FBFFBB,
   0x6FFFB20028FFEF0005CFFE710041C008FFF17C0881FC2A8180DF76402E75F0A205AC8723300C9FF8C601EE4F902816D1FBC340B5DFE5440336FFC27FFC3002C3FF50001FBFFBB,
   0x6FFFB20028FFEF0005D3FE6F0042C008BFF194087BFC2C0180BF762C2E87F09645B4C722CC0C33F8D341EC8F906016CCFBC340B5FFE538033AFFC1BFFC5002BFFF50001FBFFBC,
   0x6FFFB20028FFEF0005D7FE6D004380086FF1AC0875FC2D41809F76182E9AF08AC5BCF722680BC8F8E041EABF909C16C6FBC340B61FE528033DFFC0FFFC7002BBFF51001F7FFBC,
   0x6FFFB20028FFEEF005DBFE6B004440081FF1C0086EFC2E81806F76042EACF07F45C53722000B5DF8ED41E8FF90D416C0FBC380B64FE51C0341FFC03FFC9002B7FF52001F7FFBC,
   0x6FFFB20028FFEEF005DFFE6900450007DFF1D80868FC3001804F75F02EBFF073C5CD7721980AF1F8FA81E72F911016BBFBC380B66FE50C0344FFBF7FFCB002AFFF52001F7FFBC,
   0x6FFFB200293FEEE005E3FE67004600078FF1F00862FC3141802F75E02ED1F06845D5B7212C0A87F90781E56F914816B5FBC3C0B69FE5000347FFBEFFFCD002ABFF53001F3FFBC,
   0x6FFFB200293FEEE005E7FE650046C0074FF208085BFC32C1800F75CC2EE3F05CC5DDF720C40A1CF91481E39F918416AFFBC3C0B6BFE4F0034BFFBE3FFCF002A7FF54001F3FFBC,
   0x6FFFB200293FEED005EBFE6300478006FFF2200855FC34017FDF75B82EF5F05145E637205809B1F92181E1DF91BC16A9FBC400B6DFE4E4034EFFBD7FFD1002A3FF54001F3FFBC,
   0x6FFFB200293FEED005EFFE6100484006AFF238084FFC35817FBF75A82F08F045C5EE771FEC0947F92EC1E00F91F816A3FBC400B6FFE4D80352FFBCBFFD30029BFF55001F3FFBC,
   0x6FFFB200293FEEC005F7FE5F004900066FF24C0848FC37017F9F75942F1AF03A85F6C71F7C08DDF93BC1DE4F9234169DFBC440B72FE4C80355FFBBFFFD500297FF56001EFFFBC,
   0x6FFFB200293FEEC005FBFE5E004A00061FF2640842FC38417F6F75842F2BF02F05FF071F0C0873F948C1DC7F92701697FBC480B74FE4BC0358FFBB7FFD700293FF56001EFFFBC,
   0x6FFFB200293FEEB005FFFE5C004AC005CFF27C083BFC39C17F4F75702F3DF023C607471E9C0809F95601DAAF92A81691FBC480B76FE4B0035CFFBABFFD90028FFF57001EFFFBD,
   0x6FFFB200293FEEB00603FE5A004B80058FF2940835FC3B417F1F75602F4FF018460F971E2C079FF96301D8DF92E4168BFBC4C0B78FE4A0035FFFB9FFFDB00287FF58001EBFFBD]
/-- Phases 96 to 127: 32 taps of 18 bits a row, tap k = -15 in the lowest bits. -/
def tapRows3 : List Nat :=
  [0x6FFFB200297FEEB00607FE58004C40053FF2AC082EFC3C817EEF75502F61F00D0617E71DB80735F97001D71F93201685FBC500B7BFE4940362FFB93FFDD00283FF58001EBFFBD,
   0x6FFFB200297FEEA0060BFE56004D4004EFF2C40828FC3E017ECF753C2F72F0018620371D4406CCF97D01D54F935C167FFBC540B7DFE4880366FFB8BFFDF0027FFF59001EBFFBD,
   0x6FFFB200297FEEA0060FFE54004E0004AFF2DC0821FC3F817E9F752C2F84EFF64628871CD00663F98A41D37F93981679FBC540B7FFE4780369FFB7FFFE10027BFF5A001E7FFBD,
   0x6FFFB200297FEE900613FE52004EC0045FF2F4081BFC41017E6F751C2F95EFEB0630D71C5805FAF99741D1AF93D41672FBC580B81FE46C036CFFB73FFE300277FF5A001E7FFBD,
   0x6FFFB200297FEE900617FE50004F80041FF30C0814FC42817E3F750C2FA7EFDFC639271BE00591F9A441CFDF9410166CFBC5C0B83FE4600370FFB67FFE50026FFF5B001E7FFBD,
   0x6FFFB200297FEE80061BFE4E00504003CFF324080DFC44017E1F74FC2FB8EFD48641771B680529F9B181CE0F944C1666FBC600B85FE4540373FFB5BFFE70026BFF5C001E7FFBD,
   0x6FFFB200297FEE80061FFE4C005140037FF33C0807FC45417DEF74EC2FC9EFC94649C71AF004C0F9BE81CC3F9488165FFBC640B87FE4440376FFB53FFE900267FF5C001E3FFBD,
   0x6FFFB200297FEE800623FE4A005200033FF3540800FC46C17DBF74DC2FDAEFBE0652271A740458F9CB81CA6F94C81659FBC680B89FE438037AFFB47FFEB00263FF5D001E3FFBD,
   0x6FFFB20029BFEE700627FE480052C002EFF36C07F9FC48417D8F74D02FEBEFB2C65A7719F803F0F9D881C89F95041653FBC6C0B8BFE42C037DFFB3BFFED0025BFF5E001E3FFBE,
   0x6FFFB20029BFEE70062BFE46005380029FF38407F3FC49C17D5F74C02FFCEFA78662D7197C0388F9E5C1C6CF9540164CFBC700B8DFE4200380FFB33FFEF00257FF5E001DFFFBE,
   0x6FFFB20029BFEE60062FFE44005480025FF39C07ECFC4B817D2F74B0300DEF9C866B3718FC0320F9F2C1C4FF95801646FBC740B8FFE4140384FFB27FFF100253FF5F001DFFFBE,
   0x6FFFB20029BFEE600633FE42005540020FF3B407E5FC4D017CEF74A4301EEF91467387187C02B9F9FFC1C32F95BC163FFBC780B91FE4040387FFB1BFFF30024FFF60001DFFFBE,
   0x6FFFB20029BFEE500637FE4000560001BFF3CC07DEFC4E817CBF7494302FEF86467BE717FC0251FA0CC1C14F95F81638FBC7C0B93FE3F8038AFFB0FFFF500247FF60001DBFFBE,
   0x6FFFB20029BFEE50063BFE3E0056C0016FF3E407D8FC50017C8F7488303FEF7B068447177801EAFA19C1BF7F96381632FBC800B94FE3EC038DFFB07FFF700243FF61001DBFFBE,
   0x6FFFB20029BFEE50063FFE3C005780012FF3FC07D1FC51817C5F74783050EF70068CA716F40183FA2701BDAF9674162BFBC880B96FE3E00390FFAFBFFF90023FFF62001DBFFBE,
   0x6FFFB20029BFEE400643FE3A00588000DFF41407CAFC53017C1F746C3060EF650695071670011DFA3401BBDF96B41624FBC8C0B98FE3D40394FFAEFFFFB0023BFF62001D7FFBE,
   0x6FFFB20029BFEE400647FE38005940008FF42C07C3FC54C17BEF74603071EF5A069D7715EC00B6FA4101B9FF96F0161EFBC900B9AFE3C80397FFAE3FFFD00233FF63001D7FFBE,
   0x6FFFB20029BFEE30064BFE36005A00004FF44407BCFC56417BAF74543081EF4F06A5D715640050FA4E01B82F97301617FBC940B9CFE3BC039AFFADBFFFE0022FFF64001D7FFBF,
   0x6FFFB20029FFEE30064FFE34005AFFFFFFF45C07B6FC57C17B7F74483091EF4406AE4714DFFFE9FA5B01B65F97701610FBC9C0B9DFE3B0039DFFACC00000022BFF64001D7FFBF,
   0x6FFFB20029FFEE300653FE33005BFFFFAFF47407AFFC59817B3F743C30A1EF3906B6A71457FF83FA6841B47F97B01609FBCA00B9FFE3A403A0FFAC0000200227FF65001D3FFBF,
   0x6FFFB20029FFEE200657FE31005CBFFF6FF48C07A8FC5B017B0F743030B1EF2E06BF1713CBFF1DFA7541B2AF97EC1602FBCA80BA1FE39803A4FFAB800040021FFF66001D3FFBF,
   0x6FFFB20029FFEE20065BFE2F005D7FFF1FF4A407A1FC5CC17ACF742430C1EF2306C777133FFEB8FA8241B0CF982C15FBFBCAC0BA2FE38C03A7FFAAC00060021BFF66001D3FFBF,
   0x6BFFB20029FFEE10065FFE2D005E3FFECFF4C0079AFC5E417A8F741830D1EF1846CFE712B3FE52FA8F41AEFF986C15F4FBCB00BA4FE38003AAFFAA0000800217FF67001CFFFBF,
   0x6BFFB20029FFEE100663FE2B005EFFFE7FF4D80793FC60017A5F740C30E1EF0D46D8571227FDEDFA9C41AD1F98AC15EDFBCB80BA6FE37403ADFFA98000A00213FF68001CFFFBF,
   0x6BFFB20029FFEE100667FE29005FFFFE3FF4F0078CFC61817A1F740430F1EF0246E0C71197FD88FAA941AB4F98EC15E6FBCC00BA7FE36803B0FFA8C000C0020BFF68001CFFFBF,
   0x6BFFB20029FFEE00066BFE270060BFFDEFF5080785FC634179DF73F83100EEF786E9371107FD23FAB641A96F992C15DFFBCC40BA9FE35C03B3FFA80000E00207FF69001CBFFBF,
   0x6BFFB20029FFEE00066FFE2500617FFD9FF520077EFC64C1799F73EC3110EEECC6F1A71077FCBEFAC381A78F996C15D8FBCCC0BAAFE35003B6FFA78001000203FF6A001CBFFC0,
   0x6BFFB20029FFEDF00673FE2300623FFD4FF5380777FC6681795F73E4311FEEE206FA270FE3FC5AFAD081A5BF99AC15D1FBCD00BACFE34403BAFFA6C0012001FFFF6A001CBFFC0,
   0x6BFFB2002A3FEDF00677FE2100633FFD0FF5540770FC6841791F73D8312FEED70702970F4FFBF5FADD81A3DF99EC15C9FBCD80BADFE33803BDFFA600014001FBFF6B001C7FFC0,
   0x6BFFB2002A3FEDF0067BFE1F0063FFFCBFF56C0769FC69C178DF73D0313EEECC470B070EBBFB91FAEA81A1FF9A2C15C2FBCE00BAFFE33003C0FFA580016001F3FF6C001C7FFC0,
   0x6BFFB2002A3FEDE0067FFE1D0064BFFC6FF5840761FC6B81789F73C8314DEEC18713870E23FB2DFAF781A02F9A6C15BBFBCE40BB0FE32403C3FFA4C0018001EFFF6D001C7FFC0,
   0x6BFFB2002A3FEDE00683FE1B00657FFC1FF59C075AFC6D41785F73C0315CEEB6C71BF70D8BFAC9FB04819E4F9AAC15B3FBCEC0BB2FE31803C6FFA40001A001EBFF6D001C3FFC0]
/-- Phases 128 to 159: 32 taps of 18 bits a row, tap k = -15 in the lowest bits. -/
def tapRows4 : List Nat :=
  [0x6BFFB2002A3FEDD00687FE1A00663FFBDFF5B40753FC6F01781F73B4316BEEAC4724770CF3FA66FB11819C6F9AEC15ACFBCF40BB3FE30C03C9FFA38001C001E7FF6E001C3FFC0,
   0x6BFFB2002A3FEDD0068BFE1800673FFB8FF5D0074CFC708177CF73AC317AEEA1872CF70C5BFA02FB1E819A8F9B3015A5FBCFC0BB4FE30003CCFFA2C001E001DFFF6F001C3FFC0,
   0x6BFFB2002A3FEDD0068FFE160067FFFB3FF5E80745FC7241778F73A43189EE96C735770BBFF99FFB2B8198AF9B70159DFBD040BB6FE2F803CFFFA240020001DBFF6F001C3FFC1,
   0x6BFFB2002A3FEDC00693FE140068BFFAEFF600073EFC7401774F739C3198EE8C473DF70B23F93CFB388196CF9BB01596FBD080BB7FE2EC03D2FFA180021001D7FF70001BFFFC1,
   0x6BFFB2002A3FEDC00693FE1200697FFAAFF6180736FC75C176FF739831A7EE818746770A87F8D9FB458194FF9BF4158EFBD100BB8FE2E003D5FFA0C0023001D3FF71001BFFFC1,
   0x6BFFB2002A3FEDC00697FE10006A3FFA5FF634072FFC778176BF739031B5EE77074EF709E7F876FB5281931F9C341587FBD180BB9FE2D403D8FFA040025001CBFF71001BFFFC1,
   0x6BFFB2002A3FEDB0069BFE0E006B3FFA0FF64C0728FC7941767F738831C4EE6C875777094BF814FB5F81913F9C78157FFBD200BBBFE2CC03DBFF9F80027001C7FF72001BBFFC1,
   0x6BFFB2002A7FEDB0069FFE0C006BFFF9BFF6640721FC7B01762F738031D2EE62075FF708A7F7B2FB6C818F5F9CB81577FBD280BBCFE2C003DEFF9F00029001C3FF73001BBFFC1,
   0x6BFFB2002A7FEDB006A3FE0A006CBFF97FF6800719FC7CC175DF737C31E1EE578768770807F750FB79818D7F9CFC1570FBD300BBDFE2B403E1FF9E4002B001BFFF73001BBFFC1,
   0x6BFFB2002A7FEDA006A7FE08006D7FF92FF6980712FC7E81759F737431EFEE4D0771070763F6EEFB86418B9F9D3C1568FBD380BBEFE2AC03E4FF9D8002D001B7FF74001B7FFC1,
   0x6BFFB2002A7FEDA006ABFE07006E3FF8DFF6B0070BFC8041754F737031FDEE4287798706BFF68CFB934189BF9D801560FBD440BBFFE2A003E7FF9D0002F001B3FF75001B7FFC1,
   0x6BFFB2002A7FED9006AFFE05006F3FF88FF6CC0703FC820174FF7368320BEE38078217061BF62AFBA04187CF9DC41558FBD4C0BC1FE29403EAFF9C40031001AFFF75001B7FFC2,
   0x6BFFB2002A7FED9006B3FE03006FFFF84FF6E406FCFC840174BF73643219EE2D878A970573F5C9FBAD4185EF9E041551FBD540BC2FE28C03EDFF9BC0033001ABFF76001B3FFC2,
   0x6BFFB2002A7FED9006B7FE010070BFF7FFF6FC06F5FC85C1746F73603227EE2307932704CFF568FBBA41840F9E481549FBD5C0BC3FE28003F0FF9B00035001A3FF77001B3FFC2,
   0x6BFFB2002A7FED8006BBFDFF00717FF7AFF71806EDFC8781741F73583235EE18C79BB70423F507FBC741822F9E8C1541FBD640BC4FE27403F3FF9A800370019FFF78001B3FFC2,
   0x6BFFB2002A7FED8006BFFDFD00723FF75FF73006E6FC894173CF73543243EE0E87A447037BF4A6FBD401804F9ECC1539FBD700BC5FE26C03F5FF99C00380019BFF78001AFFFC2,
   0x6BFFB2002A7FED8006C3FDFB00733FF70FF74806DEFC8B41737F73503251EE0407ACD702CFF446FBE1017E6F9F101531FBD780BC6FE26003F8FF990003A00197FF79001AFFFC2,
   0x6BFFB2002A7FED7006C7FDF90073FFF6CFF76406D7FC8D01732F734C325EEDF9C7B5670223F3E5FBEE017C7F9F541529FBD800BC7FE25803FBFF988003C00193FF7A001AFFFC2,
   0x6BFFB2002A7FED7006CBFDF80074BFF67FF77C06CFFC8EC172DF7348326CEDEF87BDF70177F385FBFAC17A9F9F981521FBD8C0BC8FE24C03FEFF97C003E0018BFF7A001ABFFC2,
   0x6BFFB2002A7FED7006CBFDF600757FF62FF79406C8FC90C1728F73483279EDE547C68700C7F325FC07C178BF9FDC1519FBD940BC9FE2440401FF974004000187FF7B001ABFFC3,
   0x6BFFB3002A7FED6006CFFDF400763FF5DFF7B006C0FC9281723F73443286EDDB07CF170017F2C5FC14C176DFA0201511FBD9C0BCAFE2380404FF968004200183FF7C001ABFFC3,
   0x6BFFB3002A7FED6006D3FDF200773FF58FF7C806B9FC948171DF73403294EDD0C7D7B6FF67F266FC21C174EFA0641508FBDA80BCBFE2300407FF96000440017FFF7C001A7FFC3,
   0x67FFB3002ABFED6006D7FDF00077FFF54FF7E406B1FC9641718F733C32A1EDC687E046FEB7F206FC2E81730FA0A81500FBDB00BCBFE224040AFF954004600177FF7D001A7FFC3,
   0x67FFB3002ABFED5006DBFDEE0078BFF4FFF7FC06AAFC9841713F733C32AEEDBC87E8D6FE03F1A7FC3B81711FA0EC14F8FBDBC0BCCFE21C040CFF94C004800173FF7E001A7FFC3,
   0x67FFB3002ABFED5006DFFDEC00797FF4AFF81806A2FC9A0170DF733832BBEDB247F176FD4FF148FC48416F3FA13014F0FBDC40BCDFE214040FFF940004A0016FFF7E001A3FFC3,
   0x67FFB3002ABFED5006E3FDEB007A3FF45FF830069AFC9C01708F733832C8EDA807FA06FC9BF0E9FC55416D5FA17414E7FBDD00BCEFE2080412FF938004B0016BFF7F001A3FFC3,
   0x67FFB3002ABFED4006E7FDE9007B3FF40FF8480693FC9E01703F733432D4ED9E0802A6FBE3F08BFC62016B6FA1BC14DFFBDDC0BCFFE2000415FF92C004D00163FF80001A3FFC3,
   0x67FFB3002ABFED4006EBFDE7007BFFF3CFF864068BFC9FC16FDF733432E1ED94080B46FB2BF02CFC6F01698FA20014D7FBDE40BCFFE1F40418FF924004F0015FFF810019FFFC4,
   0x67FFB3002ABFED4006EFFDE5007CBFF37FF87C0684FCA1C16F8F733432EEED8A0813E6FA73EFCEFC7BC1679FA24414CEFBDF00BD0FE1EC041AFF91800510015BFF810019FFFC4,
   0x67FFB3002ABFED3006F3FDE3007D7FF32FF898067CFCA3C16F2F733432FAED80081C86F9BBEF70FC88C165BFA28814C6FBDFC0BD1FE1E4041DFF910005300157FF820019FFFC4,
   0x67FFB3002ABFED3006F3FDE1007E3FF2DFF8B00674FCA5816ECF73343306ED76082516F8FFEF12FC958163CFA2D014BDFBE040BD1FE1D80420FF904005500153FF830019BFFC4,
   0x67FFB3002ABFED3006F7FDE0007EFFF28FF8CC066CFCA7816E7F73343313ED6C082DB6F843EEB5FCA28161EFA31414B5FBE100BD2FE1D00423FF8FC00570014BFF830019BFFC4]
/-- Phases 160 to 191: 32 taps of 18 bits a row, tap k = -15 in the lowest bits. -/
def tapRows5 : List Nat :=
  [0x67FFB3002ABFED2006FBFDDE007FFFF23FF8E40665FCA9816E1F7334331FED62083666F787EE57FCAF415FFFA35C14ACFBE1C0BD3FE1C80425FF8F0005900147FF840019BFFC4,
   0x67FFB3002ABFED2006FFFDDC0080BFF1FFF900065DFCAB816DBF7334332BED58083F06F6C7EDFAFCBC415E0FA3A014A4FBE280BD3FE1C00428FF8E8005A00143FF8500197FFC4,
   0x67FFB3002ABFED200703FDDA00817FF1AFF9180655FCAD816D5F73343337ED4E4847A6F607ED9DFCC9015C2FA3E4149BFBE340BD4FE1B4042BFF8DC005C0013FFF8500197FFC4,
   0x67FFB3002ABFED100707FDD800823FF15FF934064DFCAF816CFF73343343ED44485046F547ED40FCD5C15A3FA42C1492FBE3C0BD4FE1AC042DFF8D4005E00137FF8600197FFC5,
   0x67FFB3002ABFED10070BFDD60082FFF10FF94C0646FCB1816C9F7338334FED3A8858E6F483ECE4FCE281585FA474148AFBE480BD5FE1A40430FF8CC006000133FF8700193FFC5,
   0x67FFB3002ABFED10070FFDD50083BFF0BFF968063EFCB3816C3F7338335BED30C86196F3C3EC87FCEF81566FA4B81481FBE540BD5FE19C0433FF8C000620012FFF8700193FFC5,
   0x67FFB3002ABFED00070FFDD30084BFF06FF9800636FCB5816BDF73383367ED27086A36F2FFEC2BFCFC41547FA5001478FBE600BD6FE1940436FF8B800640012BFF8800193FFC5,
   0x67FFB3002ABFED000713FDD100857FF02FF99C062EFCB7816B7F733C3372ED1D0872E6F237EBCFFD0901529FA544146FFBE6C0BD6FE1880438FF8AC006600127FF890018FFFC5,
   0x67FFB3002ABFED000717FDCF00863FEFDFF9B80626FCB9816B1F7340337EED13487B86F173EB73FD15C150AFA58C1466FBE780BD7FE180043BFF8A400670011FFF8A0018FFFC5,
   0x67FFB3002ABFED00071BFDCD0086FFEF8FF9D0061EFCBB816ABF73403389ED09C88436F0ABEB17FD22814EBFA5D4145EFBE840BD7FE178043DFF89800690011BFF8A0018FFFC5,
   0x67FFB3002ABFECF0071FFDCC0087BFEF3FF9EC0616FCBD816A5F73443394ED00088CE6EFE3EABCFD2F814CCFA6181455FBE900BD8FE1700440FF890006B00117FF8B0018BFFC6,
   0x67FFB3002ABFECF00723FDCA00887FEEEFFA04060FFCBF8169EF734833A0ECF6489596EF17EA61FD3C414AEFA660144CFBEA00BD8FE1680443FF888006D00113FF8C0018BFFC6,
   0x67FFB4002ABFECF00727FDC800897FEE9FFA200607FCC181698F734C33ABECECC89E36EE4FEA06FD490148FFA6A81443FBEAC0BD8FE1600445FF87C006F0010BFF8C0018BFFC6,
   0x67FFB4002ABFECE00727FDC6008A3FEE5FFA3805FFFCC381692F735033B6ECE308A6E6ED83E9ABFD55C1470FA6F0143AFBEB80BD9FE1580448FF874007100107FF8D00187FFC6,
   0x67FFB4002AFFECE0072BFDC4008AFFEE0FFA5405F7FCC5C168BF735433C1ECD988AF96ECB3E950FD6281451FA7381431FBEC40BD9FE150044BFF868007200103FF8E00187FFC6,
   0x63FFB4002AFFECE0072FFDC3008BBFEDBFFA7005EFFCC7C1685F735833CCECD008B846EBE7E8F6FD6F41432FA7801428FBED00BD9FE148044DFF8600074000FFFF8E00187FFC6,
   0x63FFB4002AFFECE00733FDC1008C7FED6FFA8805E7FCC9C167EF735C33D6ECC688C0F6EB17E89BFD7C01413FA7C8141EFBEE00BD9FE1400450FF8580076000FBFF8F00183FFC6,
   0x63FFB4002AFFECD00737FDBF008D3FED1FFAA405DFFCCC01677F736033E1ECBD08C9A6EA47E841FD88C13F5FA80C1415FBEEC0BDAFE1380452FF84C0078000F3FF9000183FFC6,
   0x63FFB4002AFFECD0073BFDBD008DFFECCFFAC005D7FCCE01671F736433ECECB388D266E973E7E8FD95413D6FA854140CFBEF80BDAFE1300455FF844007A000EFFF9100183FFC7,
   0x63FFB4002AFFECD0073BFDBC008EFFEC8FFAD805CFFCD00166AF736C33F6ECAA08DB16E8A3E78EFDA2013B7FA89C1403FBF080BDAFE1280457FF83C007C000EBFF910017FFFC7,
   0x63FFB4002AFFECC0073FFDBA008FBFEC3FFAF405C6FCD241663F73703400ECA088E3C6E7CFE734FDAEC1398FA8E813FAFBF140BDAFE120045AFF830007D000E7FF920017FFFC7,
   0x63FFB4002AFFECC00743FDB800907FEBEFFB0C05BEFCD44165DF7378340BEC9748EC86E6FBE6DBFDBB81379FA93013F0FBF240BDAFE118045CFF828007F000E3FF930017FFFC7,
   0x63FFB4002AFFECC00747FDB600913FEB9FFB2805B6FCD681656F737C3415EC8DC8F536E623E682FDC84135AFA97813E7FBF300BDAFE110045FFF8200081000DBFF930017BFFC7,
   0x63FFB4002AFFECC0074BFDB50091FFEB4FFB4405AEFCD88164FF7384341FEC8488FDE6E54BE629FDD4C133BFA9C013DEFBF400BDAFE1080461FF8140083000D7FF940017BFFC7,
   0x63FFB4002AFFECB0074BFDB30092BFEAFFFB5C05A6FCDAC1648F738C3429EC7B4906A6E473E5D1FDE18131CFAA0813D4FBF4C0BDBFE1000464FF80C0085000D3FF950017BFFC7,
   0x63FFB4002AFFECB0074FFDB100937FEAAFFB78059EFCDCC1641F73903433EC72090F56E39BE578FDEE412FDFAA5013CBFBF5C0BDBFE0F80466FF8040086000CFFF9500177FFC7,
   0x63FFB4002AFFECB00753FDAF00947FEA6FFB940596FCDF0163AF7398343DEC68C91816E2BFE520FDFAC12DEFAA9C13C1FBF680BDBFE0F00469FF7F80088000C7FF9600177FFC8,
   0x63FFB4002AFFECB00757FDAE00953FEA1FFBB0058DFCE141633F73A03447EC5F8920D6E1E3E4C8FE07812BFFAAE413B8FBF780BDBFE0EC046BFF7F0008A000C3FF9700177FFC8,
   0x63FFB4002AFFECA0075BFDAC0095FFE9CFFBC80585FCE34162CF73A83450EC56492986E107E470FE14012A0FAB2C13AEFBF840BDAFE0E4046EFF7E8008C000BFFF9700173FFC8,
   0x63FFB4002AFFECA0075FFDAA0096BFE97FFBE4057DFCE581625F73B0345AEC4D093246E02BE419FE20C1281FAB7413A5FBF940BDAFE0DC0470FF7DC008E000BBFF9800173FFC8,
   0x63FFB5002AFFECA0075FFDA800977FE92FFC000575FCE7C161DF73BC3463EC44093B06DF4BE3C1FE2D41262FABC0139BFBFA40BDAFE0D40473FF7D4008F000B7FF9900173FFC8,
   0x63FFB5002AFFECA00763FDA700983FE8DFFC18056DFCEA01616F73C4346CEC3AC943C6DE6BE36AFE3A01243FAC081392FBFB40BDAFE0CC0475FF7CC0091000AFFF9A0016FFFC8]
/-- Phases 192 to 223: 32 taps of 18 bits a row, tap k = -15 in the lowest bits. -/
def tapRows6 : List Nat :=
  [0x63FFB5002AFFEC900767FDA50098FFE88FFC340564FCEC0160FF73CC3476EC31C94C86DD87E313FE4681224FAC541388FBFC00BDAFE0C80477FF7C00093000ABFF9A0016FFFC8,
   0x63FFB5002AFFEC90076BFDA30099BFE84FFC50055CFCEE41608F73D4347FEC28C95546DCA7E2BCFE5341205FAC9C137EFBFD00BDAFE0C0047AFF7B80095000A7FF9B0016FFFC9,
   0x63FFB5002AFFEC90076BFDA1009A7FE7FFFC6C0554FCF081600F73E03488EC1FC95E06DBC3E266FE5FC11E6FACE41375FBFE00BDAFE0B8047CFF7B00097000A3FF9C0016BFFC9,
   0x63FFB5002AFFEC90076FFDA0009B7FE7AFFC84054BFCF2C15F9F73E83491EC16C966C6DADFE20FFE6C411C6FAD30136BFBFF00BDAFE0B0047EFF7A800980009FFF9C0016BFFC9,
   0x5FFFB5002AFFEC800773FD9E009C3FE75FFCA00543FCF5015F1F73F4349AEC0DC96F86D9F7E1B9FE78C11A7FAD781361FC0000BD9FE0AC0481FF79C009A00097FF9D0016BFFC9,
   0x5FFFB5002AFFEC800777FD9C009CFFE70FFCBC053BFCF7415EAF740034A3EC04C97846D913E163FE8581188FADC41357FC0100BD9FE0A40483FF794009C00093FF9E00167FFC9,
   0x5FFFB5002AFFEC80077BFD9B009DBFE6BFFCD80532FCF9815E2F740834ABEBFBC98106D82BE10DFE9201169FAE10134DFC01C0BD9FE09C0486FF78C009E0008FFF9E00167FFC9,
   0x5FFFB5002AFFEC80077BFD99009E7FE66FFCF0052AFCFBC15DAF741434B4EBF30989D6D743E0B8FE9E8114AFAE581344FC02C0BD9FE0980488FF78400A00008BFF9F00167FFC9,
   0x5FFFB5002AFFEC70077FFD97009F3FE62FFD0C0522FCFE015D3F742034BCEBEA099296D657E063FEAB0112BFAEA4133AFC03C0BD8FE090048AFF77800A100087FFA000163FFCA,
   0x5FFFB5002AFFEC700783FD95009FFFE5DFFD280519FD00415CBF742C34C5EBE1499B56D56BE00DFEB78110CFAEF01330FC04C0BD8FE08C048CFF77000A30007FFFA100163FFCA,
   0x5FFFB5002AFFEC700787FD9400A0BFE58FFD440511FD02815C3F743834CDEBD889A426D47FDFB8FEC4010ECFAF381326FC05C0BD7FE084048FFF76800A50007BFFA100163FFCA,
   0x5FFFB5002AFFEC700787FD9200A17FE53FFD600508FD04C15BBF744434D5EBCFC9ACE6D393DF64FED0810CDFAF84131CFC0700BD7FE07C0491FF76000A700077FFA20015FFFCA,
   0x5FFFB6002AFFEC70078BFD9000A23FE4EFFD780500FD07015B3F745034DDEBC709B5B6D2A3DF0FFEDD010AEFAFD01312FC0800BD7FE0780493FF75800A800073FFA30015FFFCA,
   0x5FFFB6002AFFEC60078FFD8F00A2FFE49FFD9404F7FD09415ABF745C34E5EBBE49BE76D1B3DEBBFEE98108FFB0181308FC0900BD6FE0700496FF74C00AA0006FFFA30015FFFCA,
   0x5FFFB6002AFFEC600793FD8D00A3BFE44FFDB004EFFD0BC15A3F746834EDEBB589C746D0C3DE67FEF60106FFB06412FEFC0A00BD6FE06C0498FF74400AC00067FFA40015BFFCA,
   0x5FFFB6002AFFEC600793FD8B00A4BFE40FFDCC04E6FD0E0159BF747834F5EBAD09D006CFD3DE13FF0281050FB0B012F3FC0B00BD5FE064049AFF73C00AE00063FFA50015BFFCB,
   0x5FFFB6002AFFEC600797FD8A00A57FE3BFFDE804DEFD1041593F748434FDEBA449D8D6CEDFDDBFFF0EC1031FB0FC12E9FC0C00BD5FE060049CFF73400AF0005FFFA500157FFCB,
   0x5FFFB6002AFFEC50079BFD8800A63FE36FFE0004D5FD12C158BF74943504EB9BC9E1A6CDEBDD6CFF1B41012FB14812DFFC0D40BD4FE058049EFF72C00B10005BFFA600157FFCB,
   0x5FFFB6002AFFEC50079FFD8600A6FFE31FFE1C04CDFD1501583F74A0350CEB9349EA66CCF7DD18FF27C0FF2FB19412D5FC0E40BD4FE05404A1FF72000B300057FFA700157FFCB,
   0x5FFFB6002AFFEC50079FFD8500A7BFE2CFFE3804C4FD174157BF74B03513EB8AC9F336CBFFDCC5FF3440FD3FB1E012CBFC0F40BD3FE05004A3FF71800B500053FFA800153FFCB,
   0x5FFFB6002AFFEC5007A3FD8300A87FE27FFE5404BCFD19C1573F74C0351AEB8249FC06CB07DC72FF4080FB4FB22C12C0FC1080BD3FE04804A5FF71000B60004BFFA800153FFCB,
   0x5FFFB6002ABFEC5007A7FD8100A93FE22FFE7004B3FD1C0156AF74CC3522EB79CA04D6CA0FDC20FF4D00F95FB27812B6FC1180BD2FE04404A7FF70800B800047FFA900153FFCB,
   0x5FFFB6002ABFEC4007ABFD8000A9FFE1EFFE8C04AAFD1E41562F74DC3529EB714A0DA6C917DBCDFF5940F75FB2C412ACFC1280BD1FE03C04A9FF70000BA00043FFAA0014FFFCB,
   0x5BFFB6002ABFEC4007ABFD7E00AABFE19FFEA404A2FD20C1559F74EC3530EB68CA1666C81BDB7BFF65C0F56FB31012A1FC13C0BD1FE03804ACFF6F800BB0003FFFAA0014FFFCC,
   0x5BFFB6002ABFEC4007AFFD7C00AB7FE14FFEC00499FD2301551F74FC3537EB608A1F36C723DB29FF7200F37FB35C1297FC14C0BD0FE03404AEFF6EC00BD0003BFFAB0014FFFCC,
   0x5BFFB7002ABFEC4007B3FD7B00AC3FE0FFFEDC0491FD2581548F750C353EEB584A2806C623DAD7FF7E40F17FB3A8128CFC1600BCFFE02C04B0FF6E400BF00033FFAC0014BFFCC,
   0x5BFFB7002ABFEC4007B3FD7900ACFFE0AFFEF80488FD27C1540F751C3544EB4FCA30D6C527DA86FF8AC0EF8FB3F41282FC1700BCEFE02804B2FF6DC00C10002FFFAC0014BFFCC,
   0x5BFFB7002ABFEC3007B7FD7700ADBFE05FFF14047FFD2A41537F7530354BEB478A39A6C427DA34FF9700ED9FB4401277FC1840BCEFE02404B4FF6D400C20002BFFAD0014BFFCC,
   0x5BFFB7002ABFEC3007BBFD7600AE7FE00FFF300476FD2CC152FF75403551EB3F4A4276C327D9E3FFA340EBAFB48C126DFC1940BCDFE01C04B6FF6CC00C400027FFAE00147FFCC,
   0x5BFFB7002ABFEC3007BBFD7400AF3FDFCFFF4C046EFD2F01526F75503558EB370A4B56C227D992FFAFC0E9AFB4D81262FC1A80BCCFE01804B8FF6C400C600023FFAF00147FFCC,
   0x5BFFB7002ABFEC3007BFFD7300AFFFDF7FFF680465FD318151DF7564355EEB2F0A5426C127D941FFBC00E7BFB5281258FC1BC0BCBFE01404BAFF6BC00C70001FFFAF00147FFCD,
   0x5BFFB7002ABFEC3007C3FD7100B0BFDF2FFF84045CFD3401514F75743564EB26CA5CF6C023D8F1FFC840E5BFB574124DFC1CC0BCAFE01004BCFF6B400C900017FFB000143FFCD]
/-- Phases 224 to 255: 32 taps of 18 bits a row, tap k = -15 in the lowest bits. -/
def tapRows7 : List Nat :=
  [0x5BFFB7002ABFEC3007C7FD6F00B17FDEDFFF9C0454FD364150CF7588356AEB1E8A65C6BF1FD8A0FFD480E3CFB5C01243FC1E00BCAFE00804BEFF6AC00CB00013FFB100143FFCD,
   0x5BFFB7002ABFEC2007C7FD6E00B23FDE8FFFB8044BFD38C1503F75983570EB168A6E96BE1BD850FFE0C0E1DFB60C1238FC1F40BC9FE00404C1FF6A400CD0000FFFB100143FFCD,
   0x5BFFB7002ABFEC2007CBFD6C00B2FFDE3FFFD40442FD3B414FAF75AC3576EB0E8A7776BD13D800FFED00DFDFB65C122DFC2040BC8FE00004C3FF69800CE0000BFFB20013FFFCD,
   0x5BFFB7002ABFEC2007CFFD6A00B3BFDDEFFFF00439FD3DC14F1F75C0357CEB068A8046BC0BD7B1FFF940DDEFB6A81222FC2180BC7FDFFC04C5FF69000D000007FFB30013FFFCD,
   0x5BFFB7002ABFEC2007CFFD6900B47FDDA0000C0430FD40414E8F75D43582EAFE8A8916BB03D761000580DBFFB6F41218FC22C0BC6FDFF804C7FF68800D2FFFFFFFB30013BFFCD,
   0x5BFFB8002ABFEC2007D3FD6700B53FDD5000280428FD42814DFF75E83587EAF68A91E6B9FBD7120011C0D9FFB744120DFC2400BC5FDFF404C9FF68000D3FFFFBFFB40013BFFCE,
   0x5BFFB8002ABFEC2007D7FD6600B5FFDD000044041FFD45014D6F75FC358DEAEE8A9AC6B8EFD6C3001DC0D80FB7901202FC2500BC4FDFEC04CBFF67800D5FFFF7FFB50013BFFCE,
   0x5BFFB8002ABFEC1007D7FD6400B6BFDCB000600416FD47814CCF76103592EAE6CAA396B7E3D674002A00D61FB7E011F7FC2640BC3FDFE804CDFF67000D7FFFF3FFB500137FFCE,
   0x57FFB8002ABFEC1007DBFD6200B77FDC60007C040DFD4A014C3F76243598EADECAAC76B6D7D625003640D41FB82C11ECFC2780BC2FDFE404CFFF66800D8FFFEFFFB600137FFCE,
   0x57FFB8002ABFEC1007DFFD6100B83FDC1000980404FD4C814BAF7638359DEAD70AB546B5CBD5D7004240D22FB87C11E2FC28C0BC1FDFE004D0FF66000DAFFFEBFFB700137FFCE,
   0x57FFB8002ABFEC1007DFFD5F00B8FFDBD000B403FBFD4F014B1F764C35A2EACF0ABE26B4BBD589004E80D03FB8C811D7FC2A00BC0FDFDC04D2FF65800DCFFFE3FFB800133FFCE,
   0x57FFB8002ABFEC1007E3FD5E00B9BFDB8000D003F2FD51814A7F766435A7EAC74AC6F6B3ABD53B005A80CE3FB91811CCFC2B40BBEFDFD804D4FF65000DDFFFDFFFB800133FFCF,
   0x57FFB8002A7FEC1007E7FD5C00BA7FDB3000EC03E9FD540149EF767835ACEABF8ACFD6B29BD4ED0066C0CC4FB96411C1FC2C80BBDFDFD404D6FF64800DFFFFDBFFB900133FFCF,
   0x57FFB8002A7FEC0007E7FD5B00BB3FDAE0010803E1FD5681494F769035B1EAB80AD8A6B187D49F0072C0CA4FB9B411B6FC2DC0BBCFDFD004D8FF64000E1FFFD7FFBA0012FFFCF,
   0x57FFB8002A7FEC0007EBFD5900BBFFDA90012403D8FD590148BF76A435B5EAB04AE186B073D452007F00C85FBA0011ABFC2F00BBBFDFCC04DAFF63800E2FFFD3FFBA0012FFFCF,
   0x57FFB9002A7FEC0007EFFD5700BCBFDA40014003CFFD5BC1481F76BC35BAEAA88AEA56AF5FD405008B00C66FBA5011A0FC3040BBAFDFC804DCFF63000E4FFFCFFFBB0012FFFCF,
   0x57FFB9002A7FEC0007EFFD5600BD7FDA00015803C6FD5E41478F76D035BFEAA10AF336AE4BD3B8009700C46FBA9C1194FC3180BB9FDFC404DEFF62800E6FFFCBFFBC0012BFFCF,
   0x57FFB9002A7FEC0007F3FD5400BE3FD9B0017403BDFD60C146EF76E835C3EA998AFC16AD37D36B00A340C27FBAEC1189FC3300BB7FDFC004E0FF62000E7FFFC3FFBC0012BFFCF,
   0x57FFB9002A7FEC0007F3FD5300BEFFD960019003B4FD6341464F770035C7EA91CB04E6AC1FD31E00AF40C07FBB3C117EFC3440BB6FDFBC04E2FF61800E9FFFBFFFBD0012BFFD0,
   0x57FFB9002A7FEC0007F7FD5100BFBFD91001AC03ABFD65C145BF771835CBEA8A4B0DC6AB07D2D200BB40BE8FBB881173FC3580BB5FDFB804E3FF61000EAFFFBBFFBE00127FFD0,
   0x57FFB9002A7FEC0007FBFD5000C07FD8C001C803A2FD6881451F773035D0EA830B16A6A9EBD28600C740BC9FBBD81168FC36C0BB3FDFB804E5FF60800ECFFFB7FFBF00127FFD0,
   0x57FFB9002A7FEBF007FBFD4E00C13FD87001E40399FD6B01447F774835D4EA7B8B1F76A8D3D23A00D340BA9FBC28115CFC3800BB2FDFB404E7FF60000EEFFFB3FFBF00123FFD0,
   0x57FFB9002A7FEBF007FFFD4D00C1FFD83002000390FD6D8143DF776035D7EA740B2856A7B7D1EE00DF40B8AFBC781151FC3980BB1FDFB004E9FF5F800EFFFFAFFFC000123FFD0,
   0x57FFB9002A7FEBF00803FD4B00C2BFD7E0021C0387FD7041433F777835DBEA6CCB3136A69BD1A300EB40B6BFBCC41146FC3AC0BAFFDFAC04EBFF5F000F1FFFA7FFC100123FFD0,
   0x53FFB9002A7FEBF00803FD4A00C37FD7900238037DFD72C1429F779435DFEA654B3A16A57BD15800F740B4BFBD14113BFC3C00BAEFDFA804EDFF5E800F3FFFA3FFC10011FFFD0,
   0x53FFBA002A7FEBF00807FD4800C43FD74002540374FD754141FF77AC35E2EA5E0B42E6A45FD10D010340B2CFBD64112FFC3D80BACFDFA404EEFF5E400F4FFF9FFFC20011FFFD1,
   0x53FFBA002A3FEBF00807FD4700C4FFD6F00270036BFD7801415F77C835E6EA56CB4BC6A33FD0C2010F00B0CFBDB41124FC3EC0BABFDFA404F0FF5DC00F6FFF9BFFC30011FFFD1,
   0x53FFBA002A3FEBF0080BFD4500C5BFD6A0028C0362FD7A8140BF77E035E9EA4F8B54A6A21FD077011B00AEDFBE041119FC4000BA9FDFA004F2FF5D400F7FFF97FFC30011BFFD1,
   0x53FFBA002A3FEBF0080FFD4400C63FD66002A80359FD7D41401F77FC35EDEA484B5D86A0FBD02D012700ACEFBE54110DFC4180BA8FDF9C04F4FF5CC00F9FFF93FFC40011BFFD1,
   0x53FFBA002A3FEBF0080FFD4200C6FFD61002C40350FD7FC13F7F781435F0EA410B66669FDBCFE30132C0AAEFBEA01102FC42C0BA6FDF9804F5FF5C400FBFFF8FFFC50011BFFD1,
   0x53FFBA002A3FEBE00813FD4100C7BFD5C002E00347FD82813EDF783035F3EA3A0B6F469EB7CF99013EC0A8FFBEF010F6FC4440BA5FDF9804F7FF5BC00FCFFF8BFFC500117FFD1,
   0x53FFBA002A3FEBE00813FD3F00C87FD5700300033EFD85013E2F784C35F6EA330B78269D93CF4F014A80A70FBF4010EBFC4580BA3FDF9404F9FF5B400FEFFF83FFC600117FFD1]
/-- Phases 256 to 287: 32 taps of 18 bits a row, tap k = -15 in the lowest bits. -/
def tapRows8 : List Nat :=
  [0x53FFBA002A3FEBE00817FD3E00C93FD520031C0334FD87C13D8F786835F9EA2BCB80F69C6BCF05015680A50FBF9010DFFC4700BA2FDF9004FAFF5AC00FFFFF7FFFC700117FFD2,
   0x53FFBA002A3FEBE00817FD3C00C9FFD4E00338032BFD8A813CEF788435FBEA24CB89D69B43CEBC016240A31FBFE010D4FC4840BA0FDF9004FCFF5A40101FFF7BFFC800113FFD2,
   0x53FFBB002A3FEBE0081BFD3B00CABFD49003540322FD8D013C3F78A035FEEA1DCB92B69A1BCE73016E00A11FC03010C8FC49C0B9EFDF8C04FEFF59C0103FFF77FFC800113FFD2,
   0x53FFBB002A3FEBE0081FFD3900CB7FD44003700319FD8FC13B9F78BC3600EA16CB9B9698F3CE2A0179C09F2FC08010BCFC4B40B9DFDF8804FFFF5980104FFF73FFC900113FFD2,
   0x53FFBB002A3FEBE0081FFD3800CC3FD3F0038C0310FD92813AEF78D83603EA100BA47697CBCDE10185C09D3FC0D010B1FC4C80B9BFDF880501FF5900106FFF6FFFCA0010FFFD2,
   0x53FFBB0029FFEBE00823FD3600CCFFD3A003A80306FD95013A4F78F43605EA090BAD56969FCD990191809B3FC12010A5FC4E00B99FDF840503FF5880107FFF6BFFCA0010FFFD2,
   0x4FFFBB0029FFEBE00823FD3500CD7FD36003C402FDFD97C1399F79103607EA024BB6369573CD51019D40994FC1701099FC4F80B98FDF800504FF5800109FFF63FFCB0010BFFD2,
   0x4FFFBB0029FFEBE00827FD3300CE3FD31003E002F4FD9A8138EF7930360AE9FB4BBF169447CD0901A900975FC1C0108EFC50C0B96FDF800506FF578010BFFF5FFFCC0010BFFD3,
   0x4FFFBB0029FFEBE00827FD3200CEFFD2C003FC02EBFD9D41384F794C360CE9F48BC7F69317CCC101B4C0955FC2101082FC5240B94FDF7C0508FF570010CFFF5BFFCC0010BFFD3,
   0x4FFFBB0029FFEBD0082BFD3000CFBFD270041802E1FDA001379F796C360DE9EDCBD0D691EBCC7901C080936FC2601076FC53C0B92FDF7C0509FF56C010EFFF57FFCD00107FFD3,
   0x4FFFBC0029FFEBD0082BFD2F00D07FD220043402D8FDA28136EF7988360FE9E70BD9B690BBCC3201CC40917FC2B4106AFC5540B91FDF78050BFF564010FFFF53FFCE00107FFD3,
   0x4FFFBC0029FFEBD0082FFD2E00D13FD1E0045002CFFDA541363F79A83611E9E04BE2968F87CBEB01D7C08F7FC304105FFC5680B8FFDF78050CFF55C0111FFF4FFFCE00107FFD3,
   0x4FFFBC0029FFEBD00833FD2C00D1FFD190046C02C5FDA801358F79C43613E9D9CBEB768E57CBA401E3808D8FC3541053FC5800B8DFDF74050EFF5540112FFF4BFFCF00103FFD3,
   0x4FFFBC0029FFEBD00833FD2B00D27FD140048802BCFDAAC134EF79E43614E9D30BF4568D23CB5D01EF408B9FC3A41047FC5980B8BFDF740510FF54C0114FFF47FFD000103FFD4,
   0x4FFFBC0029FFEBD00837FD2900D33FD0F004A402B3FDAD81343F7A043615E9CC8BFD368BEFCB1701FAC089AFC3F4103BFC5B00B89FDF700511FF5480115FFF43FFD000103FFD4,
   0x4FFFBC0029BFEBD00837FD2800D3FFD0A004C002A9FDB041338F7A243617E9C60C06168ABBCAD002068087AFC444102FFC5C80B87FDF700513FF5400117FFF3BFFD1000FFFFD4,
   0x4FFFBC0029BFEBD0083BFD2600D4BFD06004DC02A0FDB30132DF7A443618E9BF8C0EF68983CA8A02120085BFC4981023FC5E00B85FDF700514FF5380119FFF37FFD2000FFFFD4,
   0x4FFFBC0029BFEBD0083BFD2500D57FD01004F80297FDB5C1321F7A643619E9B90C17D6884BCA45021DC083CFC4E81017FC5F80B83FDF6C0516FF530011AFFF33FFD2000FFFFD4,
   0x4FFFBC0029BFEBD0083FFD2400D63FCFC00518028DFDB881316F7A84361AE9B28C20B68713C9FF02294081CFC538100BFC6100B81FDF6C0517FF52C011CFFF2FFFD3000FBFFD4,
   0x4FFFBD0029BFEBD0083FFD2200D6BFCF7005340284FDBB4130BF7AA4361BE9AC4C299685DBC9B90234C07FDFC5880FFFFC6280B7FFDF680519FF524011DFFF2BFFD4000FBFFD4,
   0x4BFFBD0029BFEBD00843FD2100D77FCF300550027BFDBE01300F7AC8361CE9A5CC327684A3C9740240807DEFC5DC0FF3FC6400B7DFDF68051AFF51C011FFFF27FFD5000F7FFD5,
   0x4BFFBD0029BFEBD00843FD1F00D83FCEE0056C0271FDC1012F5F7AE8361CE99F8C3B568367C92F024C007BFFC62C0FE7FC6580B7BFDF68051CFF5140120FFF23FFD5000F7FFD5,
   0x4BFFBD0029BFEBD00847FD1E00D8FFCE9005880268FDC3C12E9F7B0C361DE9994C4436822BC8EB02578079FFC67C0FDBFC6700B79FDF64051DFF5100122FFF1FFFD6000F7FFD5,
   0x4BFFBD00297FEBD00847FD1D00D9BFCE4005A4025EFDC6812DEF7B2C361DE9930C4D1680EBC8A6026300780FC6D00FCFFC6880B77FDF64051FFF5080123FFF1BFFD7000F3FFD5,
   0x4BFFBD00297FEBD0084BFD1B00DA7FCE0005C00255FDC9412D2F7B50361DE98CCC55F67FAFC862026E80761FC7200FC3FC6A00B75FDF640520FF5000125FFF13FFD7000F3FFD5,
   0x4BFFBD00297FEBD0084BFD1A00DAFFCDB005DC024BFDCC012C7F7B70361EE9868C5ED67E6FC81E027A00742FC7700FB7FC6BC0B73FDF600521FF4F80126FFF0FFFD8000F3FFD5,
   0x4BFFBE00297FEBD0084FFD1800DBBFCD6005F80242FDCF012BBF7B94361EE9808C67B67D2FC7DA028580723FC7C40FABFC6D40B71FDF600523FF4F40128FFF0BFFD9000EFFFD6,
   0x4BFFBE00297FEBC0084FFD1700DC7FCD1006140238FDD1C12B0F7BB8361EE97A4C70967BEFC7960290C0703FC8140F9EFC6EC0B6FFDF600524FF4EC0129FFF07FFD9000EFFFD6,
   0x4BFFBE00297FEBC00853FD1600DD3FCCD00630022FFDD4812A4F7BDC361EE9744C79767AABC753029C406E4FC8640F92FC7040B6CFDF600526FF4E4012BFFF03FFDA000EFFFD6,
   0x4BFFBE00297FEBC00853FD1400DDBFCC80064C0225FDD741299F7C00361DE96E4C8256796BC70F02A7C06C5FC8B80F86FC71C0B6AFDF600527FF4E0012CFFEFFFFDB000EBFFD6,
   0x4BFFBE00297FEBC00857FD1300DE7FCC30066C021CFDDA4128DF7C24361DE9684C8B367823C6CC02B3006A6FC9080F7AFC7380B68FDF5C0528FF4D8012EFFEFBFFDB000EBFFD6,
   0x4BFFBE00293FEBC00857FD1200DF3FCBE006880212FDDD01281F7C48361DE9624C941676DFC68A02BE80687FC95C0F6DFC7500B66FDF5C052AFF4D0012FFFEF7FFDC000EBFFD6]
/-- Phases 288 to 319: 32 taps of 18 bits a row, tap k = -15 in the lowest bits. -/
def tapRows9 : List Nat :=
  [0x4BFFBE00293FEBC0085BFD1000DFFFCBA006A40209FDE001276F7C6C361CE95C8C9CF6759BC64702C9C0668FC9AC0F61FC7680B63FDF5C052BFF4CC0131FFEF3FFDD000E7FFD6,
   0x47FFBE00293FEBC0085BFD0F00E07FCB5006C001FFFDE2C126AF7C90361CE9568CA5D67453C60502D540648FCA000F55FC7840B61FDF5C052CFF4C40132FFEEFFFDD000E7FFD7,
   0x47FFBF00293FEBC0085BFD0E00E13FCB0006DC01F6FDE58125EF7CB4361BE950CCAEB6730BC5C202E080629FCA500F48FC79C0B5FFDF5C052EFF4BC0134FFEEBFFDE000E7FFD7,
   0x47FFBF00293FEBC0085FFD0C00E1FFCAC006F801ECFDE881252F7CDC361AE94ACCB79671C3C58102EBC060AFCAA40F3CFC7B80B5CFDF5C052FFF4B80135FFEE3FFDF000E3FFD7,
   0x47FFBF00293FEBC0085FFD0B00E2BFCA70071401E3FDEB41246F7D003619E9450CC0767077C53F02F7005EBFCAF40F30FC7D00B5AFDF5C0530FF4B00137FFEDFFFDF000E3FFD7,
   0x47FFBF00293FEBC00863FD0A00E33FCA20073001D9FDEE4123AF7D283618E93F4CC9566F2BC4FD0302805CCFCB480F23FC7E80B58FDF580532FF4A80138FFEDBFFE0000DFFFD7,
   0x47FFBF0028FFEBC00863FD0800E3FFC9D0074C01D0FDF10122EF7D4C3617E939CCD2366DDFC4BC030DC05ADFCB980F17FC8040B55FDF580533FF4A40139FFED7FFE1000DFFFD7,
   0x47FFBF0028FFEBC00867FD0700E4BFC990076C01C6FDF401222F7D743616E9340CDB166C93C47B03190058EFCBEC0F0AFC81C0B53FDF580534FF49C013BFFED3FFE1000DFFFD7,
   0x47FFBF0028FFEBC00867FD0600E57FC940078801BCFDF701216F7D9C3614E92E8CE3F66B47C43A03244056FFCC3C0EFEFC8380B50FDF580535FF498013CFFECFFFE2000DBFFD8,
   0x47FFC00028FFEBC0086BFD0500E5FFC8F007A401B3FDF9C120AF7DC03613E928CCECD669F7C3FA032F40550FCC900EF1FC8540B4EFDF580537FF490013EFFECBFFE3000DBFFD8,
   0x47FFC00028FFEBC0086BFD0300E6BFC8B007C001A9FDFCC11FDF7DE83611E9234CF5A668A7C3B9033A80531FCCE00EE5FC86C0B4BFDF580538FF488013FFFEC7FFE3000DBFFD8,
   0x47FFC00028FFEBC0086BFD0200E77FC86007DC019FFDFF811F1F7E10360FE91DCCFE866757C3790345C0512FCD340ED8FC8880B49FDF580539FF4840141FFEC3FFE4000D7FFD8,
   0x47FFC00028FFEBC0086FFD0100E7FFC81007F80196FE02811E5F7E38360DE9184D07666603C3390351004F3FCD880ECCFC8A00B46FDF58053AFF47C0142FFEBFFFE5000D7FFD8,
   0x43FFC00028BFEBC0086FFCFF00E8BFC7D00814018CFE05811D9F7E60360CE9130D104664B3C2F9035C004D4FCDD80EBFFC8BC0B44FDF58053BFF4780144FFEBBFFE5000D7FFD8,
   0x43FFC00028BFEBC00873FCFE00E97FC78008300182FE08811CCF7E88360AE90D8D1926635FC2BA0367404B5FCE2C0EB2FC8D80B41FDF5C053DFF4700145FFEB7FFE6000D3FFD9,
   0x43FFC00028BFEBC00873FCFD00EA3FC730084C0179FE0B411C0F7EB43607E9084D2206620BC27B037240496FCE7C0EA6FC8F00B3FFDF5C053EFF4680146FFEB3FFE7000D3FFD9,
   0x43FFC10028BFEBC00873FCFC00EABFC6F0086C016FFE0E411B3F7EDC3605E902CD2AD660B3C23C037D40477FCED00E99FC90C0B3CFDF5C053FFF4640148FFEAFFFE7000D3FFD9,
   0x43FFC10028BFEBC00877FCFA00EB7FC6A008880165FE11411A7F7F043603E8FD8D33B65F5FC1FD038880458FCF240E8CFC9280B39FDF5C0540FF45C0149FFEA7FFE8000CFFFD9,
   0x43FFC10028BFEBC00877FCF900EC3FC65008A4015CFE144119AF7F303600E8F84D3C965E07C1BE039380439FCF740E80FC9440B37FDF5C0541FF458014BFFEA3FFE9000CFFFD9,
   0x43FFC100287FEBD0087BFCF800ECBFC61008C00152FE174118EF7F5835FEE8F34D45765CAFC180039E8041AFCFC80E73FC95C0B34FDF5C0542FF450014CFFE9FFFE9000CBFFD9,
   0x43FFC100287FEBD0087BFCF700ED7FC5C008DC0148FE1A01181F7F8435FBE8EE0D4E565B53C14203A9803FBFD01C0E66FC9780B31FDF5C0544FF44C014DFFE9BFFEA000CBFFD9,
   0x43FFC100287FEBD0087BFCF500EE3FC57008F8013FFE1D01174F7FAC35F8E8E90D572659FBC10403B4803DCFD06C0E59FC9940B2FFDF5C0545FF444014FFFE97FFEB000CBFFDA,
   0x43FFC200287FEBD0087FFCF400EEBFC53009140135FE2001168F7FD835F5E8E3CD6006589FC0C603BF803BEFD0C00E4DFC9B00B2CFDF600546FF4400150FFE93FFEB000C7FFDA,
   0x43FFC200287FEBD0087FFCF300EF7FC4E00930012BFE230115BF800435F2E8DECD68E65743C08803CA8039FFD1140E40FC9CC0B29FDF600547FF4380152FFE8FFFEC000C7FFDA,
   0x3FFFC200287FEBD00883FCF200EFFFC490094C0121FE260114EF803035EFE8D9CD71B655E3C04B03D580380FD1680E33FC9E80B26FDF600548FF4340153FFE8BFFED000C7FFDA,
   0x3FFFC200283FEBD00883FCF000F0BFC450096C0118FE2901141F805C35ECE8D4CD7A965487C00E03E080361FD1B80E26FCA040B24FDF600549FF42C0154FFE87FFED000C3FFDA,
   0x3FFFC200283FEBD00883FCEF00F17FC4000988010EFE2C01134F808835E9E8D00D83765327BFD103EB40342FD20C0E19FCA1C0B21FDF64054AFF4280156FFE83FFEE000C3FFDA,
   0x3FFFC200283FEBD00887FCEE00F1FFC3B009A40104FE2F01127F80B435E5E8CB0D8C4651C7BF9403F640324FD2600E0CFCA380B1EFDF64054BFF4200157FFE7FFFEF000C3FFDB,
   0x3FFFC200283FEBD00887FCED00F2BFC37009C000FAFE320111AF80E035E2E8C64D95265067BF58040100305FD2B40DFFFCA540B1BFDF64054CFF41C0159FFE7BFFEF000BFFFDB,
   0x3FFFC300283FEBD00887FCEC00F37FC32009DC00F1FE350110DF810C35DEE8C18D9DF64F03BF1C040C002E6FD3040DF3FCA700B18FDF64054DFF414015AFFE77FFF0000BFFFDB,
   0x3FFFC300283FEBD0088BFCEA00F3FFC2E009F800E7FE3801100F813835DAE8BCCDA6D64DA3BEE00416C02C7FD3580DE6FCA8C0B15FDF68054EFF410015BFFE73FFF1000BFFFDB,
   0x3FFFC30027FFEBD0088BFCE900F4BFC2900A1400DDFE3B010F3F816835D6E8B80DAFA64C3FBEA40421802A9FD3AC0DD9FCAAC0B12FDF68054FFF408015DFFE6FFFF1000BBFFDB]
/-- Phases 320 to 351: 32 taps of 18 bits a row, tap k = -15 in the lowest bits. -/
def tapRows10 : List Nat :=
  [0x3FFFC30027FFEBD0088BFCE800F53FC2400A3000D3FE3E010E6F819435D2E8B34DB8864AD7BE69042C8028AFD4000DCCFCAC80B0FFDF680550FF404015EFFE6BFFF2000BBFFDB,
   0x3FFFC30027FFEBD0088FFCE700F5FFC2000A5000C9FE41410D9F81C035CEE8AE8DC1564973BE2D04374026BFD4540DBFFCAE40B0CFDF6C0551FF400015FFFE67FFF3000B7FFDC,
   0x3FFFC30027FFEBD0088FFCE600F67FC1B00A6C00BFFE44410CCF81F035CAE8AA0DCA36480BBDF204420024DFD4A40DB2FCB000B09FDF6C0552FF3F80161FFE63FFF3000B7FFDC,
   0x3FFFC40027FFEBD0088FFCE500F73FC1700A8800B6FE47410BEF822035C6E8A58DD30646A3BDB7044CC022EFD4F80DA5FCB1C0B06FDF700553FF3F40162FFE5FFFF4000B7FFDC,
   0x3BFFC40027BFEBD00893FCE300F7FFC1200AA400ACFE4A410B1F824C35C1E8A10DDBD6453BBD7D04578020FFD54C0D98FCB380B03FDF700554FF3EC0163FFE5BFFF5000B3FFDC,
   0x3BFFC40027BFEBE00893FCE200F87FC0D00AC000A2FE4D410A4F827C35BDE89C8DE4B643D3BD420462401F1FD5A00D8AFCB540B00FDF740555FF3E80165FFE57FFF5000B3FFDC,
   0x3BFFC40027BFEBE00893FCE100F93FC0900ADC0098FE5081096F82AC35B8E8980DED864267BD08046CC01D2FD5F40D7DFCB700AFDFDF740556FF3E40166FFE53FFF6000B3FFDC,
   0x3BFFC40027BFEBE00897FCE000F9BFC0400AF8008EFE5381089F82DC35B3E893CDF65640FBBCCE0477801B4FD6440D70FCB900AFAFDF740557FF3DC0167FFE4FFFF7000AFFFDC,
   0x3BFFC40027BFEBE00897FCDF00FA7FC0000B140084FE568107BF830C35AEE88F4DFF263F8FBC94048240195FD6980D63FCBAC0AF7FDF780557FF3D80169FFE4BFFF7000AFFFDD,
   0x3BFFC500277FEBE00897FCDE00FAFFBFB00B30007AFE59C106EF833C35A9E88B0E08063E23BC5B048CC0177FD6EC0D56FCBC80AF4FDF780558FF3D0016AFFE47FFF8000AFFFDD,
   0x3BFFC500277FEBE0089BFCDC00FBBFBF700B500071FE5CC1060F836C35A4E886CE10D63CB7BC22049780158FD7400D49FCBE80AF1FDF7C0559FF3CC016BFFE43FFF9000ABFFDD,
   0x3BFFC500277FEBE0089BFCDB00FC3FBF200B6C0067FE5FC1053F839C359FE8828E19A63B47BBE804A20013AFD7940D3CFCC040AEEFDF7C055AFF3C8016DFFE3FFFF9000ABFFDD,
   0x3BFFC500277FEBE0089BFCDA00FCFFBED00B88005DFE6301045F83CC359AE87E4E227639D7BBB004ACC011BFD7E80D2EFCC200AEBFDF80055BFF3C0016EFFE3BFFFA000ABFFDD,
   0x3BFFC500277FEBE0089BFCD900FD7FBE900BA40053FE6601037F84003594E87A4E2B463867BB7704B7400FDFD83C0D21FCC400AE7FDF84055CFF3BC016FFFE37FFFB000A7FFDD,
   0x37FFC500273FEBE0089FFCD800FE3FBE400BC00049FE690102AF8430358FE8760E341636F3BB3E04C1C00DEFD8900D14FCC5C0AE4FDF84055DFF3B80171FFE33FFFB000A7FFDE,
   0x37FFC600273FEBE0089FFCD700FEBFBE000BDC003FFE6C4101CF84643589E8720E3CE63583BB0604CC400C0FD8E00D07FCC780AE1FDF88055DFF3B00172FFE2FFFFC000A7FFDE,
   0x37FFC600273FEBF0089FFCD600FF7FBDB00BF80035FE6F4100EF84943583E86E0E45B6340FBACE04D6C00A2FD9340CF9FCC980ADEFDF88055EFF3AC0173FFE2BFFFD000A3FFDE,
   0x37FFC600273FEBF0089FFCD500FFFFBD700C14002BFE7281000F84C8357EE86A0E4E86329BBA9704E140083FD9880CECFCCB40ADAFDF8C055FFF3A80175FFE27FFFD000A3FFDE,
   0x37FFC600273FEBF008A3FCD40100BFBD200C300021FE7580FF2F84F83578E8660E57563123BA5F04EBC0065FD9DC0CDFFCCD40AD7FDF900560FF3A00176FFE23FFFE0009FFFDE,
   0x37FFC60026FFEBF008A3FCD301013FBCE00C500017FE78C0FE4F852C3571E8620E60262FAFBA2804F640047FDA300CD2FCCF00AD4FDF900561FF39C0177FFE1FFFFE0009FFFDE,
   0x37FFC60026FFEBF008A3FCD20101FFBC900C6C000DFE7BC0FD7F8560356BE85E4E68F62E37B9F1050080028FDA840CC4FCD100AD0FDF940561FF3980178FFE1BFFFF0009FFFDE,
   0x37FFC70026FFEBF008A7FCD001027FBC500C880003FE7F00FC9F85943565E85A8E71C62CBFB9BA050B0000AFDAD80CB7FCD2C0ACDFDF980562FF390017AFFE1400000009BFFDF,
   0x37FFC70026FFEBF008A7FCCF01033FBC000CA7FFF9FE8200FBAF85C8355FE856CE7A862B47B98305157FFECFDB2C0CA9FCD4C0ACAFDF980563FF38C017BFFE1000000009BFFDF,
   0x37FFC70026BFEBF008A7FCCE0103BFBBC00CC3FFEFFE8540FACF85FC3558E8530E835629CBB94D051FFFFCEFDB800C9CFCD680AC6FDF9C0564FF388017CFFE0C00010009BFFDF,
   0x37FFC70026BFEC0008A7FCCD01047FBB700CDFFFE5FE8880F9EF86303551E84F4E8C262853B916052A3FFAFFDBD40C8FFCD880AC3FDFA00564FF384017DFFE08000200097FFDF,
   0x33FFC70026BFEC0008ABFCCC0104FFBB300CFBFFDBFE8B80F90F8664354BE84B8E94E626D7B8E00534BFF91FDC280C81FCDA40ABFFDFA40565FF37C017FFFE04000200097FFDF,
   0x33FFC80026BFEC0008ABFCCB0105BFBAE00D17FFD1FE8EC0F82F86983544E8480E9DB62557B8AB053EFFF73FDC7C0C74FCDC40ABCFDFA40566FF3780180FFE00000300097FFDF,
   0x33FFC80026BFEC0008ABFCCA01063FBAA00D33FFC7FE9200F74F86D0353DE8448EA68623DBB87505493FF55FDCD00C66FCDE40AB9FDFA80566FF3740181FFDFC000400093FFE0,
   0x33FFC800267FEC0008ABFCC90106BFBA500D4FFFBDFE9500F65F87043536E8410EAF46225FB84005537FF37FDD240C59FCE000AB5FDFAC0567FF3700182FFDF8000400093FFE0,
   0x33FFC800267FEC0008ABFCC801077FBA100D6BFFB3FE9840F57F8738352FE83D8EB81620DFB80B055DBFF19FDD780C4BFCE200AB2FDFB00568FF3680184FFDF4000500093FFE0,
   0x33FFC800267FEC0008AFFCC70107FFB9C00D8BFFA9FE9B80F49F87703527E83A0EC0D61F5FB7D60567FFEFBFDDC80C3EFCE400AAEFDFB40568FF3640185FFDF000060008FFFE0,
   0x33FFC800267FEC0008AFFCC60108BFB9800DA7FF9FFE9EC0F3AF87A83520E8368EC9961DDFB7A105723FEDDFDE1C0C30FCE5C0AABFDFB40569FF3600186FFDEC00060008FFFE0]
/-- Phases 352 to 383: 32 taps of 18 bits a row, tap k = -15 in the lowest bits. -/
def tapRows11 : List Nat :=
  [0x33FFC900263FEC1008AFFCC501093FB9400DC3FF95FEA1C0F2CF87DC3518E8334ED2661C5BB76D057C3FEBFFDE700C23FCE7C0AA7FDFB8056AFF35C0187FFDE800070008FFFE0,
   0x33FFC900263FEC1008AFFCC40109BFB8F00DDFFF8BFEA500F1DF88143511E8300EDB261AD7B73905867FEA1FDEC40C15FCE9C0AA3FDFBC056AFF3580189FFDE400070008BFFE0,
   0x33FFC900263FEC1008AFFCC3010A7FB8B00DFBFF81FEA840F0FF884C3509E82CCEE3E61953B7050590BFE83FDF180C08FCEBC0AA0FDFC0056BFF350018AFFDE000080008BFFE1,
   0x2FFFC900263FEC1008B3FCC2010AFFB8600E17FF77FEAB80F00F88843501E8298EECB617CFB6D1059ABFE65FDF6C0BFAFCED80A9CFDFC4056BFF34C018BFFDDC00090008BFFE1,
   0x2FFFC90025FFEC1008B3FCC1010BBFB8200E33FF6DFEAEC0EF2F88B834F9E8264EF576164BB69D05A4FFE47FDFC00BEDFCEF80A99FDFC8056CFF348018CFFDD8000900087FFE1,
   0x2FFFCA0025FFEC1008B3FCC0010C3FB7D00E4FFF63FEB1C0EE3F88F034F1E8230EFE3614C3B66A05AEFFE29FE0140BDFFCF180A95FDFCC056CFF344018EFFDD4000A00087FFE1,
   0x2FFFCA0025FFEC2008B3FCBF010CBFB7900E6BFF59FEB500ED4F892834E9E8200F06F6133FB63705B8FFE0BFE0680BD1FCF380A91FDFD0056DFF340018FFFDD0000B00083FFE1,
   0x2FFFCA0025FFEC2008B3FCBE010D7FB7500E87FF4FFEB840EC6F896434E0E81D0F0FB611B7B60405C2FFDEDFE0BC0BC4FCF580A8DFDFD4056EFF33C0190FFDCC000B00083FFE1,
   0x2FFFCA0025FFEC2008B7FCBD010DFFB7000EA3FF45FEBB80EB7F899C34D8E81A0F1876102BB5D105CCFFDD0FE1100BB6FCF780A8AFDFD8056EFF3340191FFDC8000C00083FFE2,
   0x2FFFCA0025BFEC2008B7FCBC010E7FB6C00EBFFF3BFEBEC0EA8F89D434D0E8170F21360EA3B59F05D6FFDB2FE1640BA8FCF980A86FDFDC056FFF3300192FFDC4000D0007FFFE2,
   0x2FFFCA0025BFEC2008B7FCBB010F3FB6700EDBFF31FEC200E99F8A0C34C7E8140F29F60D17B56D05E0FFD94FE1B80B9BFCFB80A82FDFE0056FFF32C0193FFDC0000D0007FFFE2,
   0x2FFFCB0025BFEC2008B7FCBA010FBFB6300EF7FF27FEC540E8AF8A4834BEE8114F32A60B8FB53B05EAFFD76FE20C0B8DFCFD80A7FFDFE40570FF3280195FFDBC000E0007FFFE2,
   0x2FFFCB0025BFEC3008B7FCB901103FB5F00F13FF1DFEC880E7BF8A8034B5E80E4F3B6609FFB50905F4FFD59FE2600B7FFCFF80A7BFDFE80570FF3240196FFDB8000E0007BFFE2,
   0x2BFFCB00257FEC3008B7FCB80110FFB5A00F2FFF12FECBC0E6DF8ABC34ACE80B8F44260873B4D705FEBFD3BFE2B40B72FD0180A77FDFEC0571FF3200197FFDB4000F0007BFFE2,
   0x2BFFCB00257FEC3008BBFCB801117FB5600F4BFF08FECF00E5EF8AF434A3E808CF4CE606E7B4A60608BFD1DFE3080B64FD0380A73FDFF00571FF31C0198FFDB000100007BFFE3,
   0x2BFFCB00257FEC3008BBFCB70111FFB5200F6BFEFEFED240E4FF8B30349AE8060F55960557B47506127FD00FE35C0B56FD0580A6FFDFF40572FF3180199FFDAC001000077FFE3,
   0x2BFFCC00253FEC3008BBFCB601127FB4D00F87FEF4FED580E3FF8B6C3491E8038F5E5603C7B444061C7FCE2FE3B00B48FD0780A6BFDFF80572FF310019BFFDAC001100077FFE3,
   0x2BFFCC00253FEC4008BBFCB501133FB4900FA3FEEAFED8C0E30F8BA83487E800CF67060237B41306263FCC5FE4040B3AFD0980A68FDFFC0572FF30C019CFFDA8001200077FFE3,
   0x2BFFCC00253FEC4008BBFCB40113BFB4500FBFFEE0FEDC00E21F8BE0347EE7FE4F6FC600A7B3E3062FFFCA7FE4580B2DFD0B80A64FE0000573FF308019DFFDA4001200073FFE3,
   0x2BFFCC00253FEC4008BBFCB301143FB4000FDBFED6FEDF40E12F8C1C3474E7FBCF7875FF13B3B30639FFC8AFE4AC0B1FFD0D80A60FE0080573FF304019EFFDA0001300073FFE3,
   0x2BFFCC0024FFEC4008BBFCB20114FFB3C00FF7FECCFEE280E03F8C58346AE7F94F8125FD7FB3830643BFC6CFE5000B11FD0F80A5CFE00C0574FF300019FFFD9C001300073FFE3,
   0x2BFFCD0024FFEC4008BBFCB101157FB3801013FEC2FEE600DF4F8C983460E7F6CF89E5FBEBB353064D7FC4FFE5540B03FD1180A58FE0100574FF2FC01A0FFD9800140006FFFE4,
   0x27FFCD0024FFEC5008BFFCB00115FFB330102FFEB7FEE940DE4F8CD43456E7F44F9295FA57B3240656FFC31FE5A80AF5FD1380A54FE0140574FF2F801A1FFD9400150006FFFE4,
   0x27FFCD0024FFEC5008BFFCAF01167FB2F0104BFEADFEEC80DD5F8D10344CE7F20F9B45F8C3B2F40660BFC14FE5FC0AE7FD1580A50FE0180575FF2F401A3FFD9000150006FFFE4,
   0x27FFCD0024BFEC5008BFFCAF01173FB2B01067FEA3FEEFC0DC6F8D4C3442E7EFCFA3F5F72BB2C5066A7FBF6FE6500ADAFD17C0A4CFE0200575FF2F001A4FFD8C00160006BFFE4,
   0x27FFCD0024BFEC5008BFFCAE0117BFB2601083FE99FEF300DB6F8D8C3438E7ED8FACA5F593B29606743FBD9FE6A40ACCFD19C0A48FE0240575FF2EC01A5FFD8800160006BFFE4,
   0x27FFCE0024BFEC6008BFFCAD01183FB220109FFE8FFEF680DA7F8DC8342DE7EB4FB555F3FBB268067DBFBBCFE6F80ABEFD1BC0A44FE0280576FF2E801A6FFD8400170006BFFE4,
   0x27FFCE0024BFEC6008BFFCAC0118BFB1E010BBFE85FEF9C0D97F8E043423E7E90FBE05F263B23906877FB9FFE74C0AB0FD1DC0A40FE02C0576FF2E401A7FFD80001800067FFE5,
   0x27FFCE00247FEC6008BFFCAB01193FB1A010D7FE7BFEFD00D88F8E443418E7E70FC6B5F0C7B20B0690FFB81FE7A00AA2FD2000A3CFE0340576FF2E001A8FFD7C001800067FFE5,
   0x27FFCE00247FEC6008BFFCAA0119FFB15010F3FE70FF0040D78F8E84340DE7E4CFCF65EF2FB1DD069A7FB64FE7F40A94FD2200A38FE0380577FF2DC01A9FFD7C001900067FFE5,
   0x27FFCE00247FEC6008BFFCA9011A7FB110110FFE66FF03C0D69F8EC03403E7E2CFD805ED93B1AF06A3FFB47FE8480A86FD2400A34FE03C0577FF2D801AAFFD78001A00063FFE5,
   0x27FFCF00243FEC7008BFFCA9011AFFB0D0112BFE5CFF0700D59F8F0033F8E7E0CFE0B5EBF7B18206ADBFB2AFE89C0A78FD2600A2FFE0440577FF2D401ABFFD74001A00063FFE5]
/-- Phases 384 to 415: 32 taps of 18 bits a row, tap k = -15 in the lowest bits. -/
def tapRows12 : List Nat :=
  [0x23FFCF00243FEC7008BFFCA8011B7FB0901147FE52FF0A40D49F8F4033EDE7DECFE965EA5BB15406B73FB0DFE8F00A6AFD2840A2BFE0480578FF2D001ADFFD70001B0005FFFE5,
   0x23FFCF00243FEC7008C3FCA7011BFFB0401163FE48FF0DC0D3AF8F8033E1E7DD0FF205E8BBB12706C07FAF0FE9440A5CFD2A40A27FE04C0578FF2CC01AEFFD6C001B0005FFFE5,
   0x23FFCF00243FEC7008C3FCA6011C7FB000117FFE3EFF1100D2AF8FC033D6E7DB0FFAB5E71BB0FA06C9FFAD3FE9980A4EFD2C80A23FE0540578FF2C801AFFFD68001C0005FFFE6,
   0x23FFCF0023FFEC8008C3FCA5011D3FAFC0119BFE33FF1440D1AF900033CBE7D9500355E57FB0CE06D37FAB6FE9EC0A40FD2E80A1FFE0580578FF2C401B0FFD64001D0005BFFE6,
   0x23FFD00023FFEC8008C3FCA5011DBFAF8011B3FE29FF17C0D0AF904033BFE7D7900BF5E3DBB0A106DCFFA99FEA400A32FD3080A1AFE05C0578FF2C001B1FFD60001D0005BFFE6,
   0x23FFD00023FFEC8008C3FCA4011E3FAF4011CFFE1FFF1B00CFBF908033B3E7D5D014A5E23BB07506E63FA7CFEA940A24FD32C0A16FE0640579FF2BC01B2FFD5C001E0005BFFE6,
   0x23FFD00023BFEC8008C3FCA3011EBFAEF011EBFE15FF1E80CEBF90C033A8E7D4101D45E09BB04906EFBFA5FFEAE80A16FD34C0A12FE0680579FF2B801B3FFD58001E00057FFE6,
   0x23FFD00023BFEC9008C3FCA2011F3FAEB01207FE0BFF21C0CDBF9100339CE7D29025E5DEF7B01D06F8FFA42FEB3C0A08FD3700A0EFE0700579FF2B401B4FFD58001F00057FFE6,
   0x23FFD10023BFEC9008C3FCA1011FBFAE701223FE01FF2540CCBF91443390E7D1102E85DD53AFF207023FA25FEB9009FAFD3900A09FE0740579FF2B001B5FFD54002000057FFE7,
   0x1FFFD10023BFEC9008C3FCA101203FAE30123FFDF6FF2880CBBF91843384E7CF503725DBAFAFC6070BBFA08FEBE409ECFD3B40A05FE07C0579FF2B001B6FFD50002000053FFE7,
   0x1FFFD100237FEC9008C3FCA00120FFADF0125BFDECFF2BC0CABF91C83377E7CDD03FC5DA0BAF9B0714FF9EBFEC3809DEFD3D40A01FE080057AFF2AC01B7FFD4C002100053FFE7,
   0x1FFFD100237FECA008C3FC9F01217FADB01277FDE2FF2F40C9BF9208336BE7CC904865D863AF71071E3F9CFFEC8809D0FD3F809FDFE088057AFF2A801B8FFD48002100053FFE7,
   0x1FFFD100237FECA008C3FC9E0121FFAD601293FDD8FF3280C8BF924C335FE7CB105105D6BBAF4607277F9B2FECDC09C2FD41809F8FE08C057AFF2A401B9FFD4400220004FFFE7,
   0x1FFFD200233FECA008C3FC9E01227FAD2012AFFDCEFF3600C7BF92903352E7C9D05995D517AF1B0730BF995FED3009B3FD43C09F4FE094057AFF2A001BAFFD4000230004FFFE7,
   0x1FFFD200233FECA008C3FC9D0122FFACE012CBFDC3FF3980C6AF92D03345E7C8506235D36BAEF10739BF979FED8409A5FD45C09EFFE098057AFF29C01BBFFD3C00230004FFFE7,
   0x1FFFD200233FECB008C3FC9C01237FACA012E7FDB9FF3CC0C5AF93143339E7C7106AD5D1C3AEC70742FF95CFEDD80997FD48009EBFE0A0057AFF29801BCFFD3C00240004BFFE8,
   0x1FFFD20022FFECB008C3FC9C0123FFAC601303FDAFFF4040C4AF9358332CE7C5D07365D01BAE9D074C3F93FFEE2C0989FD4A009E7FE0A4057AFF29401BDFFD3800240004BFFE8,
   0x1FFFD20022FFECB008C3FC9B01247FAC20131FFDA5FF4380C3AF939C331FE7C4D07C05CE6FAE7407553F923FEE80097BFD4C409E2FE0AC057AFF29401BEFFD3400250004BFFE8,
   0x1BFFD30022FFECC008C3FC9A0124FFABE01337FD9BFF4700C2AF93E03312E7C3908495CCC3AE4B075E7F906FEED4096DFD4E809DEFE0B4057AFF29001C0FFD30002600047FFE8,
   0x1BFFD30022FFECC008C3FC9901257FAB901353FD90FF4A40C19F94243304E7C2908D25CB17AE2107677F8EAFEF28095FFD50809D9FE0B8057AFF28C01C1FFD2C002600047FFE8,
   0x1BFFD30022BFECC008C3FC990125FFAB50136FFD86FF4DC0C09F946832F7E7C19095B5C96BADF907707F8CDFEF7C0950FD52C09D5FE0C0057AFF28801C2FFD28002700047FFE8,
   0x1BFFD30022BFECC008C3FC9801267FAB10138BFD7CFF5140BF8F94AC32EAE7C0909E55C7BBADD007797F8B1FEFD00942FD55009D0FE0C4057BFF28401C3FFD24002700043FFE9,
   0x1BFFD40022BFECD008C3FC970126FFAAD013A7FD72FF5480BE8F94F432DCE7BF90A6E5C60FADA807827F895FF0240934FD57009CCFE0CC057BFF28001C4FFD24002800043FFE9,
   0x1BFFD400227FECD008C3FC9701277FAA9013C3FD67FF5800BD8F953832CEE7BE90AF75C45FAD7F078B7F878FF0740926FD59409C7FE0D4057BFF28001C5FFD20002900043FFE9,
   0x1BFFD400227FECD008C3FC960127FFAA5013DFFD5DFF5B80BC7F957C32C0E7BDD0B7F5C2AFAD5707947F85CFF0C80917FD5B809C3FE0DC057BFF27C01C6FFD1C00290003FFFE9,
   0x1BFFD400227FECE008C3FC9501287FAA1013FBFD53FF5EC0BB6F95C432B3E7BD10C085C0FBAD30079D7F840FF11C0909FD5DC09BEFE0E0057BFF27801C6FFD18002A0003FFFE9,
   0x17FFD400223FECE008C3FC950128FFA9D01413FD49FF6240BA6F960832A5E7BC50C915BF4BAD0807A63F823FF17008FBFD5FC09BAFE0E8057BFF27401C7FFD14002A0003FFFE9,
   0x17FFD500223FECE008C3FC9401297FA990142FFD3FFF65C0B95F96503296E7BB90D1A5BD97ACE107AF3F807FF1C408EDFD62009B5FE0F0057BFF27001C8FFD10002B0003BFFE9,
   0x17FFD500223FECF008C3FC930129FFA950144BFD34FF6940B85F96983288E7BAD0DA25BBE3ACBA07B7FF7EBFF21808DEFD64409B0FE0F4057AFF27001C9FFD0C002B0003BFFEA,
   0x17FFD50021FFECF008C3FC93012A7FA9101467FD2AFF6C80B74F96DC327AE7BA50E2B5BA2FAC9307C0FF7CFFF26C08D0FD66809ACFE0FC057AFF26C01CAFFD0C002C0003BFFEA,
   0x17FFD50021FFECF008C3FC92012AFFA8D01483FD20FF7000B63F9724326BE7B9D0EB35B87BAC6C07C9BF7B3FF2BC08C2FD68809A7FE104057AFF26801CBFFD08002D00037FFEA,
   0x17FFD60021FFED0008C3FC91012B7FA890149FFD16FF7380B53F976C325DE7B910F3C5B6C7AC4507D27F797FF31008B4FD6AC09A2FE10C057AFF26401CCFFD04002D00037FFEA]
/-- Phases 416 to 447: 32 taps of 18 bits a row, tap k = -15 in the lowest bits. -/
def tapRows13 : List Nat :=
  [0x17FFD60021BFED0008BFFC91012BFFA85014B7FD0BFF7700B42F97B4324EE7B8D0FC45B50FAC1F07DB3F77BFF36408A5FD6D0099EFE114057AFF26401CDFFD00002E00037FFEA,
   0x17FFD60021BFED0008BFFC90012C7FA81014D3FD01FF7A40B31F97FC323FE7B85104C5B357ABF907E3FF75FFF3B80897FD6F40999FE118057AFF26001CEFFCFC002E00033FFEA,
   0x17FFD60021BFED1008BFFC90012CFFA7D014EFFCF7FF7DC0B20F98443230E7B7D10D45B19FABD307ECBF743FF40C0889FD7180994FE120057AFF25C01CFFFCF8002F00033FFEB,
   0x13FFD700217FED1008BFFC8F012D7FA790150BFCEDFF8140B0FF988C3221E7B79115C5AFE7ABAE07F57F727FF45C087AFD73C0990FE128057AFF25C01D0FFCF8003000033FFEB,
   0x13FFD700217FED1008BFFC8E012DFFA7501527FCE3FF84C0AFEF98D43212E7B7511E45AE2FAB8907FE3F70BFF4B0086CFD760098BFE130057AFF25801D1FFCF400300002FFFEB,
   0x13FFD700217FED2008BFFC8E012E3FA7101543FCD8FF8840AEDF99203203E7B71126C5AC73AB630806BF6EFFF504085EFD7840986FE138057AFF25401D2FFCF000310002FFFEB,
   0x13FFD700213FED2008BFFC8D012EBFA6D0155BFCCEFF8BC0ADDF996831F4E7B6D12F45AABBAB3F080F7F6D3FF558084FFD7A80981FE1400579FF25001D3FFCEC00310002FFFEB,
   0x13FFD700213FED2008BFFC8D012F3FA6901577FCC4FF8F40ACCF99B031E4E7B6D137B5A8FFAB1A0817FF6B8FF5AC0841FD7C8097CFE1480579FF25001D4FFCE800320002BFFEB,
   0x13FFD800213FED3008BFFC8C012FBFA6501593FCBAFF9280ABAF99FC31D5E7B6914035A73FAAF50820BF69CFF5FC0833FD7EC0978FE1500579FF24C01D5FFCE800320002BFFEB,
   0x13FFD80020FFED3008BFFC8C01303FA61015AFFCAFFF9600AA9F9A4431C5E7B69148A5A583AAD108293F680FF6500824FD8100973FE1580579FF24801D6FFCE400330002BFFEC,
   0x13FFD80020FFED3008BFFC8B0130BFA5D015C7FCA5FF9980A98F9A9031B5E7B6915125A3C7AAAD0831BF665FF6A40816FD834096EFE15C0579FF24801D7FFCE0003400027FFEC,
   0xFFFD80020FFED4008BBFC8A01313FA59015E3FC9BFF9D00A87F9AD831A5E7B6915995A207AA89083A3F649FF6F80808FD8580969FE1640579FF24401D7FFCDC003400027FFEC,
   0xFFFD90020BFED4008BBFC8A01317FA56015FFFC91FFA080A76F9B243195E7B6D16205A047AA660842BF62EFF74807F9FD87C0964FE16C0578FF24001D8FFCD8003500027FFEC,
   0xFFFD90020BFED4008BBFC890131FFA520161BFC86FFA400A65F9B703185E7B6D16A759E87AA42084B3F612FF79C07EBFD8A0095FFE1740578FF24001D9FFCD8003500023FFEC,
   0xFFFD90020BFED5008BBFC8901327FA4E01633FC7CFFA780A54F9BBC3175E7B71172E59CC7AA1F0853BF5F7FF7F007DCFD8C8095AFE17C0578FF23C01DAFFCD4003600023FFEC,
   0xFFFD900207FED5008BBFC880132FFA4A0164FFC72FFAB00A42F9C043164E7B7517B559B07A9FC085BFF5DBFF84007CEFD8EC0956FE1840578FF23C01DBFFCD0003600023FFED,
   0xFFFDA00207FED5008BBFC8801337FA460166BFC68FFAE80A31F9C503154E7B79183C59943A9DA08647F5C0FF89407C0FD9100951FE18C0577FF23801DCFFCCC00370001FFFED,
   0xFFFDA00207FED6008BBFC870133FFA4201687FC5EFFB200A20F9C9C3143E7B7D18C35977FA9B7086CBF5A4FF8E807B1FD934094CFE1980577FF23401DDFFCC800370001FFFED,
   0xFFFDA00203FED6008B7FC8701343FA3E0169FFC53FFB580A0EF9CE83133E7B851949595BBA99508753F589FF93807A3FD9580947FE1A00577FF23401DEFFCC800380001FFFED,
   0xFFFDA00203FED7008B7FC860134BFA3B016BBFC49FFB9009FDF9D383122E7B8D19D0593F7A973087D7F56EFF98C0794FD97C0942FE1A80576FF23001DFFFCC400390001BFFED,
   0xBFFDB001FFFED7008B7FC8601353FA37016D7FC3FFFBC809ECF9D843111E7B951A5759233A9510885BF553FF9E00786FD9A0093DFE1B00576FF22C01DFFFCC000390001BFFED,
   0xBFFDB001FFFED7008B7FC850135BFA33016EFFC35FFC0009DAF9DD03100E7B9D1ADD5906BA92F088DFF537FFA300777FD9C40938FE1B80576FF22C01E0FFCBC003A0001BFFED,
   0xBFFDB001FFFED8008B7FC850135FFA2F0170BFC2AFFC3809C9F9E1C30EFE7BA51B6358EA7A90E08963F51CFFA840769FD9E80933FE1C00576FF22801E1FFCB8003A00017FFEE,
   0xBFFDB001FBFED8008B7FC8401367FA2B01727FC20FFC7009B7F9E6C30DDE7BB11BE958CDFA8ED089E7F501FFAD8075BFDA10092EFE1C80575FF22801E2FFCB8003B00017FFEE,
   0xBFFDC001FBFED9008B3FC840136FFA270173FFC16FFCA809A6F9EB830CCE7BB91C6F58B17A8CC08A6BF4E6FFB28074CFDA340929FE1D00575FF22401E3FFCB4003B00017FFEE,
   0xBFFDC001FBFED9008B3FC8301377FA240175BFC0CFFCE00994F9F0830BBE7BC51CF55894FA8AB08AEBF4CBFFB7C073EFDA580924FE1D80575FF22401E4FFCB0003C00017FFEE,
   0xBFFDC001F7FED9008B3FC830137BFA2001777FC02FFD180983F9F5430A9E7BD11D7B58783A88B08B6FF4B0FFBCC072FFDA7C091EFE1E40574FF22001E4FFCAC003C00013FFEE,
   0xBFFDC001F7FEDA008B3FC8201383FA1C0178FFBF7FFD500971F9FA43097E7BE11E01585BBA86A08BF3F495FFC200721FDAA00919FE1EC0574FF22001E5FFCAC003D00013FFEE,
   0x7FFDC001F7FEDA008B3FC820138BFA18017ABFBEDFFD8C095FF9FF03086E7BED1E87583EFA84A08C73F47AFFC700712FDAC80914FE1F40573FF21C01E6FFCA8003E00013FFEE,
   0x7FFDD001F3FEDB008AFFC820138FFA15017C7FBE3FFDC4094EFA0403074E7BFD1F0C58223A82A08CF3F45FFFCC40704FDAEC090FFE1FC0573FF21C01E7FFCA4003E0000FFFEF,
   0x7FFDD001F3FEDB008AFFC8101397FA11017DFFBD9FFDFC093CFA0903062E7C0D1F9258057A80B08D73F444FFD1806F5FDB10090AFE2040573FF21801E8FFCA0003F0000FFFEF,
   0x7FFDD001EFFEDB008AFFC810139FFA0D017FBFBCFFFE34092AFA0E0304FE7C1D201757E8BA7EB08DF7F42AFFD6806E7FDB340905FE2100572FF21401E9FFCA0003F0000FFFEF]
/-- Phases 448 to 479: 32 taps of 18 bits a row, tap k = -15 in the lowest bits. -/
def tapRows14 : List Nat :=
  [0x7FFDD001EFFEDC008AFFC80013A7FA0901813FBC4FFE6C0918FA130303DE7C2D209D57CBBA7CC08E77F40FFFDBC06D8FDB5C0900FE2180572FF21401E9FFC9C00400000BFFEF,
   0x7FFDE001EFFEDC008AFFC80013ABFA060182FFBBAFFEA40907FA180302BE7C41212257AEFA7AD08EF3F3F4FFE0C06CAFDB8008FAFE2200571FF21001EAFFC9800400000BFFEF,
   0x7FFDE001EBFEDD008ABFC80013B3FA020184BFBB0FFEDC08F5FA1D03018E7C5121A75791FA78E08F73F3DAFFE6006BBFDBA408F5FE2280571FF21001EBFFC9400410000BFFEF,
   0x7FFDE001EBFEDD008ABFC7F013B7F9FE01863FBA6FFF1808E3FA2203006E7C65222C5774FA77008FF3F3BFFFEB006ADFDBCC08F0FE2340570FF21001ECFFC94004100007FFF0,
   0x3FFDE001EBFEDD008ABFC7F013BFF9FB0187FFB9CFFF5008D1FA2702FF3E7C7922B15757FA7510906FF3A5FFF00069EFDBF008EBFE23C0570FF20C01EDFFC90004200007FFF0,
   0x3FFDF001E7FEDE008ABFC7E013C7F9F701897FB91FFF8808BFFA2C02FE0E7C8D2336573AFA733090EFF38AFFF540690FDC1408E6FE244056FFF20C01EDFFC8C004200007FFF0,
   0x3FFDF001E7FEDE008A7FC7E013CBF9F3018B3FB87FFFC008ADFA3142FCDE7CA523BA571DBA7150916BF370FFFA40681FDC3C08E0FE250056FFF20801EEFFC88004300003FFF0,
   0x3FFDF001E3FEDF008A7FC7E013D3F9F0018CBFB7DFFFF8089BFA3642FBAE7CB9243F5700BA6F8091EBF355FFFF80673FDC6008DBFE258056EFF20801EFFFC88004400003FFF0,
   0x3FFE0001E3FEDF008A7FC7D013DBF9EC018E7FB73000340889FA3B42FA7E7CD124C356E37A6DA09267F33B000480664FDC8408D6FE260056EFF20401F0FFC84004400003FFF0,
   0x3FFE0001E3FEE0008A7FC7D013DFF9E8018FFFB690006C0877FA4082F94E7CE9254856C63A6BD092E3F3200009C0656FDCAC08D0FE26C056DFF20401F0FFC800045FFFFFFFF0,
   0x3FFE0001DFFEE0008A3FC7D013E7F9E50191BFB5E000A40865FA4582F80E7D0525CC56A8FA6A00935FF306000EC0647FDCD008CBFE274056DFF20001F1FFC7C0045FFFFFFFF1,
   0x3FFE0001DFFEE0008A3FC7C013EBF9E101937FB54000DC0853FA4AC2F6DE7D1D2650568B7A683093DBF2EC0013C0638FDCF808C6FE27C056CFF20001F2FFC7C0046FFFFFFFF1,
   0xFFFFFFFE1001DBFEE1008A3FC7C013F3F9DE0194FFB4A001180841FA5002F59E7D3926D4566E3A66609457F2D200190062AFDD1C08C1FE288056CFF20001F3FFC780046FFFFBFFF1,
   0xFFFFFFFE1001DBFEE1008A3FC7C013F7F9DA0196BFB4000150082FFA5502F46E7D5527585650BA64A094CFF2B7001E0061BFDD4008BBFE290056BFF1FC01F3FFC740047FFFFBFFF1,
   0xFFFFFFFE1001DBFEE20089FFC7B013FFF9D601983FB3600188081DFA5A42F32E7D7127DC56333A62E0954BF29D00230060DFDD6808B6FE29C056BFF1FC01F4FFC740047FFFFBFFF1,
   0xFFFFFFFE1001D7FEE20089FFC7B01407F9D30199FFB2C001C0080AFA5F82F1EE7D8D285F5615BA612095C3F2830028405FEFDD8C08B0FE2A4056AFF1F801F5FFC700048FFFFBFFF1,
   0xFFFFFFFE2001D7FEE30089FFC7B0140BF9CF019B7FB21001FC07F8FA64C2F0AE7DA928E355F83A5F60963FF269002D405F0FDDB408ABFE2B00569FF1F801F6FFC6C0048FFFF7FFF1,
   0xFFFFFFFE2001D3FEE30089FFC7A01413F9CC019CFFB170023407E6FA6A02EF6E7DC9296655DABA5DB096B7F24F0032405E1FDDD808A6FE2B80569FF1F801F6FFC680049FFFF7FFF2,
   0xFFFFFFFE2001D3FEE40089BFC7A01417F9C8019EBFB0D0026C07D4FA6F42EE1E7DE929EA55BD3A5BF0972FF2350037405D3FDE0008A0FE2C40568FF1F401F7FFC680049FFFF7FFF2,
   0xFFFFBFFE2001D3FEE40089BFC7A0141FF9C501A03FB03002A807C1FA7482ECDE7E092A6D559F7A5A4097A7F21C003C805C4FDE24089BFE2CC0568FF1F401F8FFC64004AFFFF3FFF2,
   0xFFFFBFFE3001CFFEE50089BFC7901423F9C101A1FFAF9002E007AFFA79C2EB9E7E292AF05581BA58A0981FF2020041805B5FDE4C0895FE2D80567FF1F401F9FFC60004AFFFF3FFF2,
   0xFFFFBFFE3001CFFEE500897FC790142BF9BE01A37FAEF00318079DFA7F02EA4E7E4D2B735563FA56F09897F1E80046805A7FDE700890FE2E00566FF1F001F9FFC60004BFFFF3FFF2,
   0xFFFFBFFE3001CBFEE600897FC790142FF9BA01A53FAE400354078AFA8442E8FE7E6D2BF655463A5540990FF1CE004B80598FDE98088AFE2EC0566FF1F001FAFFC5C004BFFFEFFFF2,
   0xFFFFBFFE3001CBFEE600897FC7901437F9B701A6BFADA0038C0778FA89C2E7BE7E912C7955287A53A09987F1B40050C058AFDEBC0885FE2F40565FF1EC01FBFFC58004CFFFEFFFF3,
   0xFFFFBFFE4001CBFEE700893FC780143BF9B301A87FAD0003C40765FA8F02E66E7EB52CFC550A7A520099FBF19B0055C057BFDEE4087FFE3000564FF1EC01FBFFC54004CFFFEFFFF3,
   0xFFFFBFFE4001C7FEE700893FC780143FF9B001A9FFAC6004000753FA9482E51E7ED92D7E54ECBA50609A73F181005AC056DFDF0C087AFE3080564FF1EC01FCFFC54004DFFFEBFFF3,
   0xFFFFBFFE4001C7FEE700893FC7801447F9AC01AB7FABC004380740FA99C2E3BE7F012E0154CEBA4ED09AE7F168005FC055EFDF300874FE3140563FF1EC01FDFFC50004EFFFEBFFF3,
   0xFFFF7FFE4001C3FEE80088FFC780144BF9A901AD3FAB200470072EFA9F42E26E7F292E8354B0BA4D309B5BF14E0064C054FFDF58086FFE3200562FF1E801FEFFC4C004EFFFEBFFF3,
   0xFFFF7FFE5001C3FEE80088FFC7701453F9A501AEBFAA8004AC071BFAA482E11E7F4D2F055492BA4BA09BCFF1350069C0541FDF7C0869FE3280561FF1E801FEFFC4C004FFFFE7FFF3,
   0xFFFF7FFE5001C3FEE90088FFC7701457F9A201B03FA9E004E40709FAAA02DFBE7F752F875474BA4A109C43F11B006EC0532FDFA40864FE3340561FF1E801FFFFC48004FFFFE7FFF3,
   0xFFFF7FFE5001BFFEE90088BFC770145FF99E01B1FFA930052006F6FAAF42DE6E7FA1300954567A48909CB7F1020073C0524FDFCC085EFE33C0560FF1E40200FFC440050FFFE7FFF4,
   0xFFFF7FFE6001BFFEEA0088BFC7701463F99B01B37FA890055806E3FAB4C2DD0E7FC9308B54387A47009D2BF0E90078C0515FDFF00858FE348055FFF1E40200FFC440050FFFE7FFF4]
/-- Phases 480 to 511: 32 taps of 18 bits a row, tap k = -15 in the lowest bits. -/
def tapRows15 : List Nat :=
  [0xFFFF7FFE6001BBFEEA0088BFC7701467F99801B4FFA7F0059006D1FABA42DBAE7FF5310D541A3A45809D9FF0CF007DC0507FE0180853FE354055EFF1E40201FFC400051FFFE3FFF4,
   0xFFFF7FFE6001BBFEEB00887FC760146FF99401B6BFA75005CC06BEFABFC2DA4E8021318E53FBFA44009E13F0B60082C04F8FE03C084DFE35C055EFF1E40202FFC3C0051FFFE3FFF4,
   0xFFFF3FFE6001B7FEEB00887FC7601473F99101B83FA6B0060406ABFAC542D8EE804D321053DDBA42809E83F09D0088004E9FE0640848FE368055DFF1E00202FFC3C0052FFFE3FFF4,
   0xFFFF3FFE7001B7FEEC00883FC7601477F98D01B9BFA61006400699FACAC2D78E8079329153BF7A41009EF7F084008CC04DBFE08C0842FE374055CFF1E00203FFC380052FFFDFFFF4,
   0xFFFF3FFE7001B7FEEC00883FC760147FF98A01BB7FA57006780686FAD042D62E80A9331353A13A3F909F67F06B0091C04CCFE0B0083CFE37C055BFF1E00203FFC340053FFFDFFFF4,
   0xFFFF3FFE7001B3FEED00883FC7601483F98701BCFFA4D006B40673FAD5C2D4CE80D533945382BA3E209FD7F0520096C04BEFE0D80837FE388055BFF1E00204FFC340053FFFDFFFF5,
   0xFFFF3FFE7001B3FEED0087FFC760148BF98301BE7FA43006EC0660FADB42D35E8105341553643A3CB0A047F039009BC04AFFE1000831FE394055AFF1DC0205FFC300054FFFDBFFF5,
   0xFFFF3FFE8001AFFEEE0087FFC750148FF98001C03FA3900724064EFAE0C2D1FE813534965345FA3B40A0B7F02000A0C04A0FE128082BFE3A00559FF1DC0205FFC2C0054FFFDBFFF5,
   0xFFFF3FFE8001AFFEEF0087FFC7501493F97D01C1BFA2F00760063BFAE682D08E8169351653277A39D0A127F00700A5C0492FE14C0826FE3A80558FF1DC0206FFC2C0055FFFDBFFF5,
   0xFFFF3FFE8001ABFEEF0087BFC7501497F97901C33FA25007980628FAEC02CF1E819935975308FA3870A197EFEE00AAC0483FE1740820FE3B40557FF1DC0207FFC280055FFFDBFFF5,
   0xFFFEFFFE9001ABFEF00087BFC750149FF97601C4BFA1B007D40615FAF182CDAE81CD361752EA3A3710A207EFD500AFC0475FE19C081AFE3C00556FF1DC0207FFC240056FFFD7FFF5,
   0xFFFEFFFE9001ABFEF000877FC75014A3F97301C63FA100080C0602FAF742CC3E8201369852CBBA35B0A273EFBD00B4C0466FE1C00814FE3CC0555FF1D80208FFC240056FFFD7FFF5,
   0xFFFEFFFE9001A7FEF100877FC75014A7F96F01C7FFA060084805EFFAFCC2CACE8235371852ACFA3450A2E3EFA400B9C0458FE1E8080FFE3D80555FF1D80208FFC200057FFFD7FFF6,
   0xFFFEFFFE9001A7FEF100873FC75014AFF96C01C97F9FC0088005DCFB0282C95E82693798528E7A3300A34FEF8B00BE80449FE2100809FE3E00554FF1D80209FFC200057FFFD3FFF6,
   0xFFFEFFFEA001A3FEF200873FC75014B3F96901CAFF9F2008BC05C9FB0842C7EE82A13818526FBA31A0A3BBEF7300C38043AFE2380803FE3EC0553FF1D8020AFFC1C0058FFFD3FFF6,
   0xFFFEFFFEA001A3FEF200873FC75014B7F96601CC7F9E8008F405B6FB0DC2C66E82D938985250FA3050A42BEF5A00C88042CFE25C07FDFE3F80552FF1D8020AFFC180058FFFD3FFF6,
   0xFFFEFFFEA0019FFEF30086FFC74014BBF96201CDFF9DE0093005A3FB1382C4FE8311391852323A2F00A497EF4200CD8041DFE28407F7FE4040551FF1D8020BFFC180058FFFCFFFF6,
   0xFFFEBFFEA0019FFEF30086FFC74014C3F95F01CFBF9D4009680590FB1942C37E8349399752133A2DC0A503EF2900D24040FFE2AC07F2FE4100550FF1D4020BFFC140059FFFCFFFF6,
   0xFFFEBFFEB0019BFEF40086BFC74014C7F95C01D13F9CA009A4057DFB1F02C1FE83813A1751F47A2C70A56FEF1100D740400FE2D407ECFE41C054FFF1D4020CFFC100059FFFCFFFF6,
   0xFFFEBFFEB0019BFEF40086BFC74014CBF95901D2BF9C0009DC056AFB2482C08E83BD3A9651D57A2B30A5D7EEF900DC403F1FE2FC07E6FE428054EFF1D4020DFFC10005AFFFCFFFF7,
   0xFFFEBFFEB0019BFEF500867FC74014CFF95601D43F9B600A180557FB2A42BF0E83F93B1551B6BA29F0A643EEE000E1403E3FE32007E0FE430054DFF1D4020DFFC0C005AFFFCBFFF7,
   0xFFFEBFFEC00197FEF600867FC74014D3F95201D5BF9AC00A500543FB3002BD7E84353B945197BA28B0A6AFEEC800E6003D4FE34807DAFE43C054CFF1D4020EFFC08005BFFFCBFFF7,
   0xFFFEBFFEC00197FEF600863FC74014DBF94F01D73F9A200A8C0530FB3602BBFE84713C135178BA2780A717EEB000EB003C6FE37007D4FE448054BFF1D4020EFFC08005BFFFCBFFF7,
   0xFFFEBFFEC00193FEF700863FC74014DFF94C01D8BF99800AC4051DFB3BC2BA7E84AD3C9251597A2640A77FEE9800EFC03B7FE39807CEFE454054AFF1D4020FFFC04005CFFFC7FFF7,
   0xFFFE7FFEC00193FEF700863FC74014E3F94901DA7F98E00B00050AFB4182B8FE84ED3D11513A7A2510A7E7EE8000F4C03A9FE3C007C9FE4600549FF1D4020FFFC04005CFFFC7FFF7,
   0xFFFE7FFED0018FFEF80085FFC74014E7F94601DBFF98400B3804F6FB4742B76E852D3D8F511B7A23E0A853EE6800F9C039AFE3E807C3FE46C0548FF1D40210FFC00005DFFFC7FFF7,
   0xFFFE7FFED0018FFEF80085FFC74014EBF94301DD7F97A00B7404E3FB4D02B5DE856D3E0E50FC3A22B0A8BBEE5000FE8038BFE41007BDFE4780547FF1D00210FFBFC005DFFFC7FFF8,
   0xFFFE7FFED0018BFEF90085BFC74014EFF94001DEFF97100BAC04D0FB5302B45E85AD3E8C50DCFA2190A923EE3801038037DFE43407B7FE4840546FF1D00211FFBFC005EFFFC3FFF8,
   0xFFFE7FFEE0018BFEFA0085BFC74014F3F93D01E07F96700BE804BDFB58C2B2CE85ED3F0A50BDBA2060A987EE2001084036EFE45C07B1FE4900545FF1D00212FFBF8005EFFFC3FFF8,
   0xFFFE7FFEE00187FEFA00857FC74014FBF93901E1FF95D00C2004A9FB5E82B13E86313F88509E7A1F40A9EFEE08010D40360FE48407ABFE49C0544FF1D00212FFBF8005FFFFC3FFF8,
   0xFFFE7FFEE00187FEFB00857FC74014FFF93601E37F95300C5C0496FB6482AFAE86754006507F3A1E20AA57EDF0011200351FE4AC07A5FE4A80543FF1D00213FFBF4005FFFFBFFFF8,
   0xFFFE7FFEE00187FEFB00853FC7401503F93301E4FF94900C980482FB6A42AE1E86B94084505FFA1D10AABBEDD9011700343FE4D4079FFE4B40542FF1D00213FFBF00060FFFBFFFF8]
/-- Phases 512 to 512: 32 taps of 18 bits a row, tap k = -15 in the lowest bits. -/
def tapRows16 : List Nat :=
  [0xFFFE3FFEF00183FEFC00853FC7401507F93001E67F93F00CD0046FFB7042AC7E86FD410150407A1BF0AB1FEDC1011BC0334FE4FC0799FE4C00541FF1D00214FFBF00060FFFBFFFF8]

/-- The rows of phases 0 to 512. -/
def tapRows : List Nat :=
  tapRows0 ++ tapRows1 ++ tapRows2 ++ tapRows3 ++ tapRows4 ++ tapRows5 ++ tapRows6 ++ tapRows7 ++ tapRows8
    ++ tapRows9 ++ tapRows10 ++ tapRows11 ++ tapRows12 ++ tapRows13 ++ tapRows14 ++ tapRows15 ++ tapRows16
/-- Coefficient c[mu][k] in units of 2^-17 (R119), mu from 0 to 1023 and k from -15 to 16. -/
def resamplerCoef (mu : Nat) (k : Int) : Int :=
  let row := tapRows.getD (if mu ≤ 512 then mu else 1024 - mu) 0
  let j := if mu ≤ 512 then (k + 15).toNat else (16 - k).toNat
  signedCode 18 (row / 2 ^ (18 * j) % 2 ^ 18)

end Sys2Proof.Machine
end

