-- ==== Sys2Proof/Machine/Samples.lean ====
section
/-! DEFINITION. The samples of the RF channels: resampler, carrier and mixer, scale and sum, equaliser, saturation and the
sample queue (R117-R130). One tick makes 12 DAC samples. -/

namespace Sys2Proof.Machine

/-- Pattern sample `i` of a segment as stored: I and Q of 16 bits, in units of 2^-15 (R94). -/
def State.storedSample (s : State) (g : Seg) (i : Nat) : Int × Int :=
  let w := leNat (s.loadBytes (g.baseAddr + 4 * i) 4)
  (signedCode 16 (w % 65536), signedCode 16 (w / 65536))

/-- Pattern sample `j` that the filter reads in a walk (R112, R118): of the current segment; before it, of the one joined
before; after it, of the one chosen to follow, at the same rate; 0 in every other case and in fill. -/
def State.patSample (s : State) (p : Play) (j : Int) : Int × Int :=
  let g := s.seg p.seg.toNat
  if j < 0 then
    match p.prev with
    | none => (0, 0)
    | some (sg, fill, gone) =>
      let b := s.seg sg.toNat
      let i := (j + b.len).toNat
      if fill || gone.contains (i / 32) then (0, 0) else s.storedSample b i
  else if j < g.len then
    if p.fill || p.gone.contains (j.toNat / 32) then (0, 0) else s.storedSample g j.toNat
  else
    match p.chosen with
    | some (some c) =>
      let b := s.seg c.seg.toNat
      if g.sameRate b && !c.fill && p.pre != some true then s.storedSample b (j.toNat - g.len) else (0, 0)
    | _ => (0, 0)

/-- A filter sum in units of 2^-32 rounded to 18 bits, units of 2^-17 (R118): the manual does not say how it rounds. DESIGN CHOICE: the
LSB of the 18-bit envelope weighs 2^-17, and a sum beyond ±1 keeps its value. -/
def round18 (x : Int) : Int := ratio x (2 ^ 15)

/-- The envelope at DAC sample `m` of the current segment: 32 taps about pattern sample floor(m / D) (R118, R119). -/
def State.envelope (s : State) (p : Play) (m : Nat) : Int × Int :=
  let g := s.seg p.seg.toNat
  let x := m * 2 ^ g.rateShift
  let i := x / g.rateNum
  let mu := 1024 * (x % g.rateNum) / g.rateNum
  let v := (List.range 32).foldl (fun (a : Int × Int) (n : Nat) =>
    let k : Int := (n : Int) - 15
    let c := resamplerCoef mu k
    let e := s.patSample p (i + k)
    (a.1 + c * e.1, a.2 + c * e.2)) ((0, 0) : Int × Int)
  (round18 v.1, round18 v.2)

/-- The walk that makes DAC sample `n` of a tone, if one does: one that ended in this tick, else the running one (R105). -/
def Tone.walkAt (x : Tone) (n : Nat) : Option Play :=
  match x.past.find? (fun q => decide (q.1.segStart ≤ n) && decide (n < q.2)) with
  | some q => some q.1
  | none => x.play.filter (fun p => decide (p.segStart ≤ n))

/-- Phase of a tone at DAC sample `n` of the current tick: 20 bits of a turn (R121, R122). -/
def Tone.phaseAt (x : Tone) (now : Tick) (n : Nat) : BitVec 20 :=
  let a := x.accNow now + x.freq * BitVec.ofNat 48 (n % 12)
  let phi : W32 := (a >>> 16).setWidth 32 + x.phase
  (phi >>> 12).setWidth 20

/-- A tone's part of its channel's sum at DAC sample `n`, in units of 2^-65: play scale, tone gain, real part of the
envelope times the carrier (R121, R128); exactly 0 where no play runs (R117). -/
def State.toneSample (s : State) (t n : Nat) : Int :=
  let x := s.tone t
  match x.walkAt n with
  | none => 0
  | some p =>
    let e := s.envelope p (n - p.segStart)
    let cs := cosSin (x.phaseAt s.now n)
    p.amp.toInt * s.fld (aTgain (toneChan t) (toneIdx t)) 15 0 * (e.1 * cs.1 - e.2 * cs.2)

/-- A channel's sum over its tones (R128). -/
def State.chanSum (s : State) (ch n : Nat) : Int := ((chanTones ch).map (fun t => s.toneSample t n)).sum

/-- Equaliser tap `k`, signed Q1.17 (R370). -/
def State.eqTap (s : State) (ch k : Nat) : Int := signedCode 18 (s.fld (aEqTap ch k) 17 0)

/-- The equaliser over 16 sums, oldest first, in units of 2^-82: tap 0 weighs the newest (R128, R370). -/
def State.equalise (s : State) (ch : Nat) (l : List Int) : Int :=
  ((List.range 16).map (fun k => s.eqTap ch k * l.getD (15 - k) 0)).sum

/-- The rounded code of an equalised sample, 8192 to full scale, before saturation (R128). -/
def rawCode (y : Int) : Int := roundDiv y (2 ^ 69)

/-- A list that holds `n` entries, the empty one standing for all 0. -/
def padded (n : Nat) (l : List Int) : List Int := if l = [] then List.replicate n 0 else l
def settled (l : List Int) : List Int := if l.all (fun x => x == 0) then [] else l

/-- The datapath of a channel runs while its bank is ON (R131). -/
def State.rfRuns (s : State) (ch : Nat) : Bool := (s.bank (chanBank ch)).st == .on

/-- A channel has samples to make or to drain. -/
def State.rfBusy (s : State) (ch : Nat) : Bool :=
  let x := s.rfch ch
  x.line != [] || x.pipe != [] || x.queue != [] || (chanTones ch).any (fun t => (s.tone t).play.isSome || (s.tone t).past != [])

/-- Delay line and the current tick's 12 sums, 27 values, oldest first; all 0 in a channel whose datapath is stopped. -/
def State.rfLine (s : State) (ch : Nat) : List Int :=
  if s.rfRuns ch then
    padded 15 (s.rfch ch).line ++ (List.range 12).map (fun i => s.chanSum ch (12 * s.now.toNat + i))
  else List.replicate 27 0

/-- The 12 codes of the current tick before saturation. -/
def State.rfRaw (s : State) (ch : Nat) : List Int :=
  (List.range 12).map (fun i => rawCode (s.equalise ch ((s.rfLine ch).drop i)))

/-- The codes on their way to the sample queue with the current tick's at their end: the oldest 12 leave the equaliser in this tick, 17
ticks after the one that holds them (R117). -/
def State.rfPipe (s : State) (ch : Nat) : List Int := padded 204 (s.rfch ch).pipe ++ s.rfRaw ch
/-- Saturated samples among those that leave the equaliser in the current tick (R128). -/
def State.rfClips (s : State) (ch : Nat) : Nat :=
  (((s.rfPipe ch).take 12).filter (fun c => decide (c < -8192) || decide (8191 < c))).length

/-- One tick of a channel (R117, R128, R130): 12 codes enter the sample queue, the oldest 12 leave it; each saturated sample counts in
CLIP and sets STAT.clip. -/
def State.rfTick (s : State) (ch : Nat) : State :=
  if s.rfBusy ch then
    let x := s.rfch ch
    let codes := ((s.rfPipe ch).take 12).map (clampInt (-8192) 8191)
    let clips := s.rfClips ch
    let s := s.setRfch ch
      { x with line := settled ((s.rfLine ch).drop 12), pipe := settled ((s.rfPipe ch).drop 12), queue := settled ((padded 24 x.queue ++ codes).drop 12) }
    let s := s.each (chanTones ch) (fun s t => if (s.tone t).past = [] then s else s.setTone t { s.tone t with past := [] })
    if clips = 0 then s else (s.count (aRfClip ch) 31 0 clips).setBit (aRfStat ch) 16 true
  else s

/-- The 12 codes that the DAC of a channel reads in a tick: code 0 unless the channel is LIVE (R131, R133). Samples of DAC positions
before the tick at which the channel went LIVE, 19 ticks on their way, belong to plays that ran in the mute, of which no part is
played (DEDUCED from R133). -/
def State.rfOut (s : State) (ch : Nat) : List Int :=
  if (s.rfch ch).st = .live ∧ 19 ≤ s.ticksSince (s.rfch ch).since then (padded 24 (s.rfch ch).queue).take 12 else List.replicate 12 0

end Sys2Proof.Machine
end

