-- ==== Sys2Proof/Machine/Tick.lean ====
section
/-! DEFINITION. The passing of one tick of 500 ps with no command waiting (R257). -/

namespace Sys2Proof.Machine

/-- A free value read as an offset from `-n` to `n`, in units of 10^-7. -/
def offsetOf (u n : Nat) : Int := (u % (2 * n + 1) : Nat) - (n : Int)
/-- TB_MONO moves by 31.25 ns with each cycle of the watch oscillator, which runs on its own within 100 ppm of 32 MHz (R23, R257,
R279): half a ns of it passes in a tick, off by `e` tenths of a ppm. -/
def Clock.monoTick (c : Clock) (e : Int) : Clock :=
  let n := c.monoPhase + (2 * (10000000 + e)).toNat
  if n < 1250000000 then { c with monoPhase := n }
  else
    let q := c.monoFrac + 125
    { c with monoPhase := n - 1250000000, mono := c.mono + BitVec.ofNat 64 (q / 4), monoFrac := q % 4 }
/-- TB_LINK counts columns of 0.3125 ns of the module's own lane reference, within 200 ppm (R23, R257): eight fifths of a column in a
tick, off by `e` tenths of a ppm. -/
def Clock.linkTick (c : Clock) (e : Int) : Clock :=
  let n := c.linkFrac + (8 * (10000000 + e)).toNat
  { c with link := c.link + BitVec.ofNat 64 (n / 50000000), linkFrac := n % 50000000 }
/-- TB_SYS counts half a ns of the REFIN PLL in a tick (R257, R259): trimmed by its servo's rate, and taken ahead of the rate by which
the cast trim moves the tick itself, both in units of 2^-40. -/
def Clock.sysTick (c : Clock) (rate castRate : Int) : Clock := c.withSys (c.sysUnits + ratio (2 ^ 40 * (2 ^ 40 + rate)) (2 ^ 40 + castRate))
/-- Bit errors come to program memory on their own (R46): the manual says how each is met and not when one comes, so a free value
tells at each tick whether one comes, where, and whether it leaves one bit of the word wrong or two. -/
def upsetProg (u : W64) (p : Tbl ProgWord) : Tbl ProgWord :=
  if u.getLsbD 0 then
    let k := (u.toNat / 4) % 2 ^ 22
    let w := Tbl.get p k progWord0
    Tbl.put p k (if u.getLsbD 1 ∨ w.double then { w with single := false, double := true } else { w with single := true }) progWord0
  else p
/-- A running accumulator can be corrupted (R124): as for program memory, a free value tells whether one is, whose, and its error. -/
def upsetTone (u : W64) (l : Tbl Tone) : Tbl Tone :=
  if u.getLsbD 0 then
    let t := (u.toNat / 2) % 2 ^ 10
    let x := Tbl.get l t Tone.init
    Tbl.put l t { x with acc := x.acc ^^^ (u >>> 11).setWidth 48 } Tone.init
  else l
/-- One tick of all time bases that count: those of PD27 once the PLLs have locked (R257, R419). How the independent oscillators
stand to cast time is a free value (R23). With TB_CAST the RF channels make the tick's 12 samples (R117-R130). -/
def State.tick (s : State) : State :=
  if s.supply.unpowered then s
  else
    let s := s.closeSpent
    let u := s.draw.1.toNat
    let s := s.draw.2
    let c := s.clock.monoTick (offsetOf u 1001)
    if c.castRuns then
      let s := { s.draw.2.slideStarts with prog := upsetProg s.draw.1 s.prog }
      let s := { s.draw.2 with tones := upsetTone s.draw.1 s.tones }
      let c := (c.linkTick (offsetOf (u / 2 ^ 32) 2001)).sysTick s.sys.servo.rate s.cast.servo.rate
      let s := { s.each (List.range 96) State.rfTick with clock := { c with cast := c.cast + 1 } }
      let s := (s.each (s.rf.map (fun x => x.1)) State.ncoStep).adcTick
      s.draw.2.each (s.ports.map (fun x => x.1)) (fun t p => t.linkPort s.draw.1 p)
    else { s with clock := c }

end Sys2Proof.Machine
end

