-- ==== Sys2Proof/Safety.lean ====
section
/-! DEFINITION. What counts as a safe state and a safe run, and when a command's occasion holds, in the terms that the
statements use. -/

namespace Sys2Proof.Machine

/-- An outcome that goes on. -/
def goesOn (o : Out) : Bool :=
  match o with
  | .next _ => true
  | .fault _ => false
  | .refused _ => false

/-- A run of commands that goes on to its end. -/
def safeRun (s : State) (l : List Instr) : Bool :=
  match l with
  | [] => true
  | c :: r => match exec c s with
    | .next t => safeRun t r
    | .fault _ => false
    | .refused _ => false

/-- A quiet module: every flux and bias channel stands at its clear code (R146). -/
def State.fluxQuiet (s : State) : Bool := (List.range 384).all (fun n => (s.fbch n).atClear)

/-- Engine `e` is running in a shot whose end tick and watchdog tick have not come, and the word at its PC, free of bit errors, is
`code` (R46, R52, R66). -/
def State.executes (s : State) (e : Nat) (code : W64) : Bool :=
  let g := s.eng e
  g.ready && s.inTime e && decide (g.pc ≤ 32767) && decide (g.pc < g.codeCount) && s.progAt e g.pc == ⟨code, false, false⟩

/-- An item of engine `e` stamped at its cursor plus `dt` is issued on time into a queue with an entry free, behind nothing later
(R10, R13, R14, R33, R48). -/
def State.canIssue (s : State) (e : Nat) (q : Queue) (dt : Nat) (sub : BitVec 4) : Bool :=
  let g := s.eng e
  let t := g.tc + BitVec.ofNat 64 dt
  inCursor g.start t && (match s.periodicEnd g with | none => true | some x => decide ((t - x).toInt < 0))
    && decide ((g.queue q).items.length < queueDepth q) && decide (24 ≤ sdiff t.stamp s.now.stamp)
    && (match (g.queue q).last with | none => true | some u => !itemBefore t sub u)

/-- Crucible `c` is executing and the word at its PC is `code` (R182, R187). -/
def State.cruExecutes (s : State) (c : Nat) (code : W32) : Bool :=
  let u := s.cru c
  u.st == .executing && u.word u.pc == code && decide (u.pc < u.codeCount) && u.rep.isNone

/-- Crucible `c` is at a class D instruction `op m`, once or in a repetition (R182, R184, R186). -/
def State.cruDataTurn (s : State) (c op : Nat) (m : CruFields) : Bool :=
  let u := s.cru c
  (u.st == .executing || u.st == .repeating) && u.word u.pc == encM op m && decide (u.pc < u.codeCount)
/-- Which repetition runs; 0 where none is under way (R186). -/
def Cru.turn (u : Cru) : Nat := match u.rep with | none => 0 | some r => r.1
/-- The sequencer after a class D instruction: the next repetition, or the next instruction (R186). -/
def Cru.afterData (u : Cru) : Cru :=
  match u.rep with
  | some (i, n) => if i + 1 < n then { u with rep := some (i + 1, n) } else { u.advance with rep := none, st := .executing }
  | none => u.advance
/-- The lane after its part in an instruction with kinc (R184). -/
def Lane.kstep (l : Lane) (kinc : Bool) : Lane := if kinc && l.kc != 0 then { l with kp := l.kp + 1, kc := l.kc - 1 } else l

/-- Request `seq` of session `sid`, of a type open to the session's role, is the next to be served, and the module serves it
(R310, R311, R320, R326). -/
def State.asks (s : State) (x : Session) (sid seq : W32) (ty : Byte) (role : Option Role) : Bool :=
  s.sess? sid == some x && (match x.inbox with | [] => false | q :: _ => q.seq == seq && q.msgType == ty && !q.continued)
    && (!s.boot.ingot || ingotServes ty) && (match role with | none => true | some r => r == x.role)
/-- The state in which a request is acted on: it has left its session's inbox. -/
def State.taken (s : State) (x : Session) (sid : W32) : State := s.modSess sid (fun y => { y with inbox := x.inbox.tail })
/-- The NV window holds and the log has room this second (R348, R351, R375). -/
def State.mayLog (s : State) : Bool := s.nvWindow && decide (s.logTaken < 1000)
/-- A request for a routine stands: it is queued, running, yielded, or kept to be made again (R358, R359). -/
def State.routineWanted (s : State) (r : Byte) (target : Nat) : Bool :=
  let q : CmkReq := ⟨r, BitVec.ofNat 24 target⟩
  let same := fun (c : CmkCtx) => c.routine == r && c.target == q.target
  s.cmk.queue.contains q || s.cmk.asks.contains q || s.cmk.yielded.any same || s.cmk.running.any same
/-- The running routine stands, not waiting, at the word `w` with action `k`, and no interrupt is taken there (R355, R361). -/
def State.cmkAtWord (s : State) (c : CmkCtx) (w : MicroWord) (k : Nat) : Bool :=
  s.cmk.running == some c && c.waiting.isNone && s.microAt c.pc == MicroCode w k && !(w.safe && s.cmkInt)
/-- The routine's context at the next word, after an action that leaves `c` (R356). -/
def CmkCtx.goesTo (c : CmkCtx) (pc : BitVec 12) : CmkCtx := { c with pc := pc.toNat }

end Sys2Proof.Machine
end

