-- ==== Sys2Proof/Certificates/Slice0/Obligations.lean ====
section
/-! DEFINITION. The statements, from the numbered rules of the manual. -/

open Sys2Proof
open Sys2Proof.Machine

/-! ### Efaux (R44-R68) -/

/-- R51: each ALU instruction writes the result to v[rd] and goes on to the next instruction; nothing else changes. -/
def Obligations.EfauxArithmeticWritesItsResult : Prop :=
  ∀ (s : State) (e : Fin 128) (rd ra rb : BitVec 5) (imm : W32),
    let g := s.eng e
    let a := g.reg ra.toNat
    let b := g.reg rb.toNat
    let gives := fun (c : Instr) (code : W64) (x : W32) =>
      s.executes e code = true → exec c s = .next (s.setEng e (g.setReg rd.toNat x).advance)
    gives (.eAdd e rd ra rb) (encR 0x10 rd ra rb) (a + b)
    ∧ gives (.eSub e rd ra rb) (encR 0x11 rd ra rb) (a - b)
    ∧ gives (.eAnd e rd ra rb) (encR 0x12 rd ra rb) (a &&& b)
    ∧ gives (.eOr e rd ra rb) (encR 0x13 rd ra rb) (a ||| b)
    ∧ gives (.eXor e rd ra rb) (encR 0x14 rd ra rb) (a ^^^ b)
    ∧ gives (.eShl e rd ra rb) (encR 0x15 rd ra rb) (BitVec.ofNat 32 (a.toNat * 2 ^ (b.toNat % 32)))
    ∧ gives (.eShr e rd ra rb) (encR 0x16 rd ra rb) (BitVec.ofNat 32 (a.toNat / 2 ^ (b.toNat % 32)))
    ∧ gives (.eSra e rd ra rb) (encR 0x17 rd ra rb) (BitVec.ofInt 32 (a.toInt / 2 ^ (b.toNat % 32)))
    ∧ gives (.eMul e rd ra rb) (encR 0x18 rd ra rb) (BitVec.ofNat 32 (a.toNat * b.toNat))
    ∧ gives (.eMin e rd ra rb) (encR 0x19 rd ra rb) (if a.toInt < b.toInt then a else b)
    ∧ gives (.eMax e rd ra rb) (encR 0x1A rd ra rb) (if a.toInt < b.toInt then b else a)
    ∧ gives (.eAddi e rd ra imm) (encI 0x20 rd ra imm) (a + imm)
    ∧ gives (.eSubi e rd ra imm) (encI 0x21 rd ra imm) (a - imm)
    ∧ gives (.eAndi e rd ra imm) (encI 0x22 rd ra imm) (a &&& imm)
    ∧ gives (.eOri e rd ra imm) (encI 0x23 rd ra imm) (a ||| imm)
    ∧ gives (.eXori e rd ra imm) (encI 0x24 rd ra imm) (a ^^^ imm)
    ∧ gives (.eShli e rd ra imm) (encI 0x25 rd ra imm) (BitVec.ofNat 32 (a.toNat * 2 ^ (imm.toNat % 32)))
    ∧ gives (.eShri e rd ra imm) (encI 0x26 rd ra imm) (BitVec.ofNat 32 (a.toNat / 2 ^ (imm.toNat % 32)))
    ∧ gives (.eSrai e rd ra imm) (encI 0x27 rd ra imm) (BitVec.ofInt 32 (a.toInt / 2 ^ (imm.toNat % 32)))
    ∧ gives (.eMuli e rd ra imm) (encI 0x28 rd ra imm) (BitVec.ofNat 32 (a.toNat * imm.toNat))
    ∧ gives (.eMini e rd ra imm) (encI 0x29 rd ra imm) (if a.toInt < imm.toInt then a else imm)
    ∧ gives (.eMaxi e rd ra imm) (encI 0x2A rd ra imm) (if a.toInt < imm.toInt then imm else a)

/-- R51, R54, R62: comparisons write one condition bit, TSAVE, TADD and TNOW one tick register, GETS one register. -/
def Obligations.EfauxComparesAndTickRegisters : Prop :=
  ∀ (s : State) (e : Fin 128) (ci td ts : BitVec 3) (rd ra rb : BitVec 5) (imm : W32) (im40 : BitVec 40) (h : W32 × W32 × Tick),
    let g := s.eng e
    let a := g.reg ra.toNat
    let b := g.reg rb.toNat
    let gives := fun (c : Instr) (code : W64) (g' : Engine) =>
      s.executes e code = true → exec c s = .next (s.setEng e g'.advance)
    gives (.eCmpeq e ci ra rb) (encC 0x30 ci ra rb 0) (g.setCbit ci.toNat (decide (a = b)))
    ∧ gives (.eCmplt e ci ra rb) (encC 0x31 ci ra rb 0) (g.setCbit ci.toNat (decide (a.toInt < b.toInt)))
    ∧ gives (.eCmpltu e ci ra rb) (encC 0x32 ci ra rb 0) (g.setCbit ci.toNat (decide (a.toNat < b.toNat)))
    ∧ gives (.eCmpeqi e ci ra imm) (encC 0x33 ci ra 0 imm) (g.setCbit ci.toNat (decide (a = imm)))
    ∧ gives (.eCmplti e ci ra imm) (encC 0x34 ci ra 0 imm) (g.setCbit ci.toNat (decide (a.toInt < imm.toInt)))
    ∧ gives (.eCmpltui e ci ra imm) (encC 0x35 ci ra 0 imm) (g.setCbit ci.toNat (decide (a.toNat < imm.toNat)))
    ∧ gives (.eTsave e td) (encT 0x42 td 0 0 0) (g.setTreg td.toNat g.tc)
    ∧ gives (.eTadd e td ts im40) (encT 0x44 td ts 0 im40) (g.setTreg td.toNat (g.treg ts.toNat + BitVec.ofInt 64 im40.toInt))
    ∧ gives (.eTnow e td) (encT 0x45 td 0 0 0) (g.setTreg td.toNat s.now)
    ∧ gives (.eTcmp e ci ts) (encT 0x46 ci ts 0 0)
        (g.setCbit ci.toNat (decide (0 ≤ sdiff g.tc.stamp (g.treg ts.toNat).stamp)))
    ∧ (g.shot = some h → gives (.eGets e rd 0) (encI 0x38 rd 0 0) (g.setReg rd.toNat h.2.1))
    ∧ gives (.eGets e rd 1) (encI 0x38 rd 0 1) (g.setReg rd.toNat (BitVec.ofNat 32 e))
    ∧ gives (.eGets e rd 2) (encI 0x38 rd 0 2) (g.setReg rd.toNat (Config.moduleId.setWidth 32))
    ∧ (g.shot = some h → gives (.eGets e rd 3) (encI 0x38 rd 0 3) (g.setReg rd.toNat h.1))

/-- R48, R51-R54: where control goes, that a full or an empty return stack raises its exception, and that the time cursor moves within
its range or raises CURSOR_RANGE. -/
def Obligations.EfauxControlAndCursor : Prop :=
  (∀ (s : State) (e : Fin 128) (ci : BitVec 3) (sel : Bool) (ra : BitVec 5) (imm : W32) (target : BitVec 15),
    let g := s.eng e
    let a := g.reg ra.toNat
    let gives := fun (c : Instr) (code : W64) (t : State) => s.executes e code = true → exec c s = .next t
    let goto := fun (g : Engine) (b : Bool) => s.setEng e { g with pc := if b then target.toNat else g.pc + 1 }
    gives (.eNop e) (encB 0x00 0 false 0 0 0) (goto g false)
    ∧ gives (.eEnd e) (encB 0x01 0 false 0 0 0)
        (s.setEng e { g with pc := g.pc + 1, st := .ended, doneTick := some (g.doneTick.getD s.now) })
    ∧ gives (.eJ e target) (encB 0x02 0 false 0 target 0) (goto g true)
    ∧ gives (.eCall e target) (encB 0x03 0 false 0 target 0)
        (if 8 ≤ g.stack.length then s.raiseExc e 2 s.now else goto { g with stack := (g.pc + 1) :: g.stack } true)
    ∧ gives (.eRet e) (encB 0x04 0 false 0 0 0)
        (match g.stack with
          | [] => s.raiseExc e 3 s.now
          | x :: r => s.setEng e { g with stack := r, pc := x })
    ∧ gives (.eBc e ci sel target) (encB 0x05 ci sel 0 target 0) (goto g (g.cbit ci.toNat == sel))
    ∧ (ra ≠ 0 → (Tbl.wf (fun _ => (0 : W32)) g.v = true) →
        gives (.eDbnz e ra target) (encB 0x06 0 false ra target 0) (goto (g.setReg ra.toNat (a - 1)) (a != 1)))
    ∧ gives (.eBeqi e ra sel imm target) (encB 0x07 0 sel ra target imm) (goto g ((a == imm) != sel)))
  ∧ (∀ (s : State) (e : Fin 128) (ts : BitVec 3) (ra : BitVec 5) (imm : BitVec 40),
    let g := s.eng e
    let gives := fun (c : Instr) (code : W64) (t : Tick) =>
      s.executes e code = true → exec c s = .next (
        if (t - g.start).toNat < 2 ^ 32 then s.setEng e { g with tc := t, pc := g.pc + 1 } else s.raiseExc e 5 s.now)
    gives (.eDelay e imm) (encT 0x40 0 0 0 imm) (g.tc + BitVec.ofNat 64 imm.toNat)
    ∧ gives (.eDelayr e ra) (encT 0x41 0 0 ra 0) (g.tc + BitVec.ofNat 64 (g.reg ra.toNat).toNat)
    ∧ gives (.eTload e ts imm) (encT 0x43 0 ts 0 imm) (g.treg ts.toNat + BitVec.ofNat 64 imm.toNat))

/-- R10, R14, R47, R49, R55-R58: each item-issuing instruction puts its item, stamped at the cursor plus dt, at the end of its
queue, and the engine goes on. -/
def Obligations.EfauxItemsEnterTheirQueue : Prop :=
  ∀ (s : State) (e : Fin 128) (f : BitVec 3) (ra rb : BitVec 5) (imm : W32) (w : BitVec 48) (sub : BitVec 4) (seg : BitVec 20)
    (dt : BitVec 12) (amp : BitVec 16) (edge : BitVec 6) (ue sel : Bool) (bcode : BitVec 20),
    let g := s.eng e
    let fq : Queue := if f.toNat < 4 then .drive else .readout
    let puts := fun (c : Instr) (code : W64) (q : Queue) (d : Nat) (x : BitVec 4) (k : ItemKind) =>
      s.executes e code = true → s.canIssue e q d x = true → ∃ t, exec c s = .next t
        ∧ ((t.eng e).queue q).items = (g.queue q).items ++ [⟨g.tc + BitVec.ofNat 64 d, x, k⟩]
        ∧ (t.eng e).pc = g.pc + 1 ∧ (t.eng e).tc = g.tc ∧ (t.eng e).v = g.v
    puts (.eSetf e f w) (encF 0x50 f 0 w) fq 0 0 (.frame f (.setFreq w))
    ∧ puts (.eSetfr e f ra) (encF 0x51 f ra 0) fq 0 0
        (.frame f (.setFreq (((g.reg (ra.toNat + 1)).setWidth 16) ++ (g.reg ra.toNat))))
    ∧ puts (.eSetp e f imm) (encF 0x52 f 0 (imm.setWidth 48)) fq 0 0 (.frame f (.setPhase imm))
    ∧ puts (.eShiftp e f imm) (encF 0x53 f 0 (imm.setWidth 48)) fq 0 0 (.frame f (.shiftPhase imm))
    ∧ puts (.eShiftpr e f ra) (encF 0x54 f ra 0) fq 0 0 (.frame f (.shiftPhase (g.reg ra.toNat)))
    ∧ puts (.eRstf e f) (encF 0x55 f 0 0) fq 0 0 (.frame f .resetPhase)
    ∧ puts (.ePlay e f sub seg dt amp) (encP f sub seg dt amp) fq dt.toNat sub (.play f seg amp)
    ∧ ((g.reg ra.toNat).toNat < 2 ^ 20 → puts (.ePlayr e f sub ra rb dt) (encPR f sub ra rb dt) fq dt.toNat sub
        (.play f ((g.reg ra.toNat).setWidth 20) ((g.reg rb.toNat).setWidth 16)))
    ∧ puts (.eFlux e edge ue dt amp) (encL 0x68 false edge ue 0 dt (amp.setWidth 20)) .fluxBias dt.toNat 0 (.flux edge ue amp)
    ∧ puts (.eFluxr e edge ue ra dt) (encL 0x69 false edge ue ra dt 0) .fluxBias dt.toNat 0
        (.flux edge ue ((g.reg ra.toNat).setWidth 16))
    ∧ puts (.eBias e sel dt bcode) (encL 0x6A sel 0 false 0 dt bcode) .fluxBias dt.toNat 0 (.bias sel bcode)
    ∧ puts (.eBiasr e sel ra dt) (encL 0x6B sel 0 false ra dt 0) .fluxBias dt.toNat 0 (.bias sel ((g.reg ra.toNat).setWidth 20))
    ∧ puts (.eStrb e sel dt) (encL 0x6C sel 0 false 0 dt 0) .fluxBias dt.toNat 0 (.strobe sel)

/-- R59-R62: window starts, published events, the wait for an event, and record words. -/
def Obligations.EfauxEventsAndRecords : Prop :=
  ∀ (s : State) (e : Fin 128) (mask : BitVec 4) (ctx ch : BitVec 8) (dt : BitVec 12) (payload : BitVec 16) (ra rb rd : BitVec 5)
    (ci : BitVec 3) (d : BitVec 24) (h : W32 × W32 × Tick) (l : Latch) (r : Run),
    let g := s.eng e
    let t := g.tc + BitVec.ofNat 64 dt.toNat
    let a := s.adcch (e.val / 4)
    (s.executes e (encA mask ctx dt) = true → inCursor g.start t = true → g.shot = some h →
      exec (.eAcq e mask ctx dt) s = .next ((s.setAdcch (e.val / 4)
        { a with starts := a.starts ++ [⟨t, ctx, (mask.setWidth 16) <<< (4 * (e.val % 4)), 1, some (e.val, h.1)⟩] }).setEng e
          { g with pc := g.pc + 1 }))
    ∧ (s.executes e (encE 0x78 ch 0 dt payload) = true → inCursor g.start t = true →
      exec (.ePub e ch dt payload) s = .next ((s.setEng e { g with pc := g.pc + 1 }).publish
        ⟨ch, t.stamp, payload, 1, BitVec.ofNat 10 e, false, false, 0⟩))
    ∧ (s.executes e (encE 0x79 ch ra dt 0) = true → inCursor g.start t = true →
      exec (.ePubr e ch ra dt) s = .next ((s.setEng e { g with pc := g.pc + 1 }).publish
        ⟨ch, t.stamp, (g.reg ra.toNat).setWidth 16, 1, BitVec.ofNat 10 e, false, false, 0⟩))
    ∧ (s.executes e (encW ci rd ch d) = true → g.latches.find? (fun x => x.1 == ch) = some (ch, l) →
      ∃ u, exec (.eWaite e ci rd ch d) s = .next (s.setEng e u) ∧ u.pc = g.pc + 1 ∧ u.st = .running ∧ u.cbit ci.toNat = true
        ∧ u.latches = g.latches.filter (fun x => x.1 != ch))
    ∧ (s.executes e (encW ci rd ch 0) = true → g.latches.find? (fun x => x.1 == ch) = none →
      exec (.eWaite e ci rd ch 0) s = .next (s.setEng e { g with st := .waiting, wait := some ⟨ci, rd, ch, none⟩ }))
    ∧ (s.executes e (encR 0x7E 0 ra rb) = true → g.shot = some h → s.run? h.1 = some r →
      exec (.eRec e ra rb) s = .next ((s.setEng e { g with pc := g.pc + 1 }).modEntry h.1 h.2.1 e (fun x =>
        if x.words.length < r.desc.maxWords.toNat then { x with words := x.words ++ [(g.reg rb.toNat) ++ (g.reg ra.toNat)] }
        else { x with overflow := true })))

/-- R44, R64-R66: v0 reads 0 and its writes are discarded, another write changes one register; an exception is shown in PE_EXC with its
number and PC, and stops the engine with nothing left waiting and no other engine touched. -/
def Obligations.EfauxRegisterFileAndExceptions : Prop :=
  (∀ (g : Engine) (r q : Nat) (x : W32), Tbl.wf (fun _ => (0 : W32)) g.v = true →
    g.reg 0 = 0 ∧ g.setReg 0 x = g ∧ (r ≠ 0 → (g.setReg r x).reg r = x) ∧ (q ≠ r → (g.setReg r x).reg q = g.reg q)
    ∧ (g.setReg r x).pc = g.pc ∧ (g.setReg r x).c = g.c ∧ (g.setReg r x).t = g.t ∧ (g.setReg r x).tc = g.tc)
  ∧ (∀ (s : State) (e : Fin 128) (n : Nat) (tick : Tick), 1 ≤ n → n ≤ 9 → Tbl.wf resetWord s.regs = true →
    let t := s.raiseExc e n tick
    t.reg (aPeExc (s.pePhys e)) = BitVec.ofNat 32 (n * 2 ^ 24 + 2 ^ 15 + (s.eng e).pc % 2 ^ 15)
    ∧ (t.eng e).st = .stopped ∧ (t.eng e).wait = none ∧ (t.eng e).held = none ∧ (t.eng e).v = (s.eng e).v
    ∧ (∀ e', e' ≠ e.val → t.eng e' = s.eng e') ∧ t.dram = s.dram ∧ t.fb = s.fb ∧ t.rf = s.rf)

/-- R10, R14, R58, R61, R64, R67, R68, R75, R104: a waiting enqueue is judged when its queue has room, at its lead then, and the engine
goes on; a due item leaves its queue and acts on its target by its kind; the watchdog raises exception 7 and drops what waits; a handshake
fault raises exception 9 in a running engine and calls for a spare; a damaged instruction is rewritten from the retained image; a WAITE
gives up at its deadline. -/
def Obligations.EfauxEngineEvents : Prop :=
  ∀ (s : State) (e : Fin 128) (q : Queue) (i : Item) (r : List Item) (addr : BitVec 15) (w : WaitReq) (d : Tick)
    (h : W32 × W32 × Tick), Tbl.wf resetWord s.regs = true → Tbl.wf (fun _ => Tone.init) s.tones = true →
    Tbl.wf (fun _ => Engine.init) s.engines = true → Tbl.wf (fun _ => progWord0) s.prog = true →
    let g := s.eng e
    let p := s.pePhys e
    let rq := g.queue q
    let x := s.watchTick e
    let onTime := 24 ≤ sdiff i.tick.stamp s.now.stamp ∧ (∀ u, rq.last = some u → itemBefore i.tick i.sub u = false)
    let exc := fun (t : State) (n : Nat) => t.reg (aPeExc p) = BitVec.ofNat 32 (n * 2 ^ 24 + 2 ^ 15 + g.pc % 2 ^ 15)
      ∧ (t.eng e).st = .stopped ∧ (t.eng e).wait = none ∧ (t.eng e).held = none
    (g.held = some (q, i) → g.st = .queueFull → s.inTime e = true → rq.items.length < queueDepth q →
      ∃ t, exec (.enqueueAfterFull e) s = .next t ∧ (t.eng e).st = .running ∧ (t.eng e).held = none ∧ (t.eng e).pc = g.pc + 1
        ∧ (t.eng e).v = g.v ∧ (t.eng e).tc = g.tc
        ∧ (onTime → (t.eng e).queue q = ⟨rq.items ++ [i], some (i.tick, i.sub)⟩ ∧ t.runs = s.runs)
        ∧ (¬ onTime → (t.eng e).queue q = rq ∧ t.fld (aPeLate p) 15 0 = satAdd 16 (s.fld (aPeLate p) 15 0) 1
          ∧ (g.shot = some h → t.runs = (s.lateIn h e s.now).runs))
        ∧ t = { s with engines := t.engines, regs := t.regs, runs := t.runs, hots := t.hots })
    ∧ (rq.items = i :: r → sdiff i.tick.stamp s.now.stamp ≤ 0 →
      let u := s.setEng e (g.setQueue q { rq with items := r })
      exec (.itemRelease e q) s = .next (match i.kind with
        | .frame f op => u.setTone (toneOf e f.toNat) ((s.tone (toneOf e f.toNat)).apply op i.tick)
        | .play _ _ _ => u.applyItem e i
        | .flux edge ue code => u.setReg (aFlxHold e) (BitVec.ofNat 32 (ue.toNat * 2 ^ 22 + edge.toNat * 2 ^ 16 + code.toNat))
        | .bias sel code => u.setReg (aBiaHold (2 * e.val + sel.toNat)) (code.setWidth 32)
        | .strobe sel => u.setGrp (e.val / 16 + 8 * sel.toNat)
            ((s.grp (e.val / 16 + 8 * sel.toNat)).request i.tick (some e.val) false false)))
    ∧ (g.shot.isSome = true → 0 ≤ (s.now - x).toInt → (∀ y, s.periodicEnd g = some y → (x - y).toInt < 0) → s.watched e = true →
      ∃ t, exec (.watchdog e) s = .next t ∧ exc t 7 ∧ (∀ k : Queue, ((t.eng e).queue k).items = [])
        ∧ (∀ f, f < 8 → (t.tone (toneOf e f)).play = none ∧ (t.tone (toneOf e f)).nextPlays = [])
        ∧ (∀ e', e' ≠ e.val → t.eng e' = s.eng e')
        ∧ t = { s with engines := t.engines, regs := t.regs, runs := t.runs, tones := t.tones, sessions := t.sessions, sent := t.sent })
    ∧ (g.st ≠ .waiting → g.st ≠ .queueFull →
      ∃ t, exec (.handshakeFault e) s = .next t ∧ (t.eng e).hsFault = true ∧ t.bit (aMldPeMap e) 8 = true ∧ t.bit aMldAlert 4 = true
        ∧ t.fault = { s.fault with blocks := BitVec.ofNat 8 (satAdd 8 s.fault.blocks.toNat 1) }
        ∧ t.log = (s.logEvent 0x0010 0x0001 [BitVec.ofNat 8 e, BitVec.ofNat 8 p]).log
        ∧ (g.st = .running → s.inTime e = true → exc t 9)
        ∧ ((g.st ≠ .running ∨ s.inTime e = false) → t.eng e = { g with hsFault := true } ∧ t.runs = s.runs)
        ∧ t = { s with engines := t.engines, regs := t.regs, runs := t.runs, fault := t.fault, log := t.log })
    ∧ (g.memErr = some addr.toNat →
      ∃ t, exec (.programMemoryRewrite e addr) s = .next t
        ∧ t.progAt e addr.toNat = ⟨imgWord (Tbl.get s.clusterImg (e.val / 16) []) (e.val % 16) addr.toNat, false, false⟩
        ∧ (∀ e' a, progKey e' a ≠ progKey e addr.toNat → t.progAt e' a = s.progAt e' a)
        ∧ t.eng e = { g with memErr := none, memErrLast := some addr.toNat }
        ∧ t = { s with engines := t.engines, prog := t.prog })
    ∧ (g.wait = some w → w.deadline = some d → 0 ≤ sdiff s.now.stamp d.stamp → s.inTime e = true →
      ∃ u, exec (.waiteTimeout e) s = .next (s.setEng e u) ∧ u.pc = g.pc + 1 ∧ u.st = .running ∧ u.wait = none
        ∧ u.cbit w.ci.toNat = false ∧ u.latches = g.latches ∧ (w.rd ≠ 0 → u.reg w.rd.toNat = 0x00020003)
        ∧ (∀ k : Nat, k ≠ w.ci.toNat → u.cbit k = g.cbit k) ∧ (∀ n : Nat, n ≠ w.rd.toNat → u.reg n = g.reg n))

/-- R20, R21, R67, R87-R91, R199, R201, R411, R413: a program row that is due is written from the retained image into a spare row, and an
alert is raised where none is left; an engine swap begins in a gap and ends with the map naming the spare, which has the watchdog limit
and the held events, and the old engine retired; a Crucible swap stops the sequencer and ends with the map naming the spare, which has
the registers of the old Crucible and, unless a fault stopped it, its whole state. -/
def Obligations.SparesAreBroughtIn : Prop :=
  ∀ (s : State) (e : Fin 128) (n : Fin 32) (k : Fin 8) (space : Fin 16) (row : Fin 512) (w : SwapNow) (sp : Nat) (T : Tick),
    Tbl.wf resetWord s.regs = true → Tbl.wf (fun _ => Engine.init) s.engines = true → Tbl.wf (fun _ => progWord0) s.prog = true →
    Tbl.wf (fun _ => Cru.init) s.crus = true → Tbl.wf (fun _ => 0) s.spares.pmUsed = true →
    Tbl.wf (fun _ => ([] : List W64)) s.spares.pmHits = true → Tbl.wf (fun _ => ([] : List Byte)) s.cruImg = true →
    let g := s.eng e
    let old := s.pePhys e
    let new := 17 * (e.val / 16) + 16
    let o := 16 * k.val + space.val
    let key := pmRowKey o (64 * row.val)
    let used := Tbl.get s.spares.pmUsed k.val 0
    let img := Tbl.get s.clusterImg k.val []
    let c := s.cruPhys n
    let u := s.cru c
    let free := fun (cl : Nat) => ∀ r ∈ s.runs, r.holds = true → r.clusters.contains cl = true → s.gapLong r = true
    (s.rowDue o row.val = true → used < 32 → img ≠ [] →
      ∃ t, exec (.programRowRemap k space row) s = .next t
        ∧ (∀ i, i < 64 → 64 * row.val + i < leNat (slice img (64 + 32 * space.val + 4) 4) →
          t.progAt o (64 * row.val + i) = ⟨imgWord img space.val (64 * row.val + i), false, false⟩)
        ∧ (∀ i, i < 64 → leNat (slice img (64 + 32 * space.val + 4) 4) ≤ 64 * row.val + i →
          t.progAt o (64 * row.val + i) = ⟨(s.progAt o (64 * row.val + i)).code, false, false⟩)
        ∧ (∀ a, a / 64 ≠ row.val → a < 2 ^ 15 → t.progAt o a = s.progAt o a)
        ∧ ((s.eng o).memErr.map (fun a => a / 64) = some row.val → (t.eng o).memErr = none)
        ∧ t.spares = { s.spares with pmUsed := Tbl.put s.spares.pmUsed k.val (used + 1) 0, pmRows := key :: s.spares.pmRows,
                                     pmHits := Tbl.put s.spares.pmHits key [] [] }
        ∧ t.log = (s.logEvent 0x0012 0x0001 (leBytes 4 key)).log
        ∧ t = { s with prog := t.prog, engines := t.engines, spares := t.spares, log := t.log })
    ∧ (s.rowDue o row.val = true → 32 ≤ used →
      exec (.programRowRemap k space row) s = .next ((s.alert 5).logEvent 0x0012 0x0002 (leBytes 4 key)))
    ∧ (s.bit (aMldPeMap e) 8 = true → g.swap = none → s.spareFree (e.val / 16) = true → s.swapGap e = true →
      exec (.engineSwapBegin e) s = .next (s.setEng e { g with swap := some ⟨s.now, []⟩ }))
    ∧ (g.swap = some w →
      ∃ t, exec (.engineSwapComplete e) s = .next t ∧ t.pePhys e = new ∧ t.bit (aMldPeMap e) 8 = false
        ∧ t.reg (aPeWdog new) = s.reg (aPeWdog old) ∧ t.spares = { s.spares with retiredPe := old :: s.spares.retiredPe }
        ∧ t.eng e = (heldRounds w.held).foldl (fun g l => l.foldl (fun g v => g.deliver v (decide (1 < l.length))) g)
          { g with swap := none, hsFault := false }
        ∧ (∀ e', e' ≠ e.val → t.eng e' = s.eng e')
        ∧ t.log = (s.logEvent 0x0010 0x0002 [BitVec.ofNat 8 e, BitVec.ofNat 8 old, BitVec.ofNat 8 new]).log
        ∧ t = { s with regs := t.regs, engines := t.engines, spares := t.spares, log := t.log })
    ∧ (s.spareCru = some sp → s.bit (aMldCruMap n) 8 = true → u.swap = none → (s.adcch n).quiet s.now = true → u.beats = [] →
      (u.st = .waiting ∨ u.st = .fault) → (s.bit (aAdcCtrl n) 1 = false ∨ s.claimed (n.val / 4) = false) → free (n.val / 4) →
      exec (.crucibleSwapBegin n) s
        = .next (s.setCru c { u with swap := some (s.now, sp), st := if u.st = .waiting then .stopped else .fault }))
    ∧ (u.swap = some (T, sp) → (sp = 32 ∨ sp = 33) → c < 32 → u.ahead = [] → (s.adcch n).quiet s.now = true →
      ∃ t, exec (.crucibleSwapComplete n) s = .next t ∧ t.cruPhys n = sp ∧ t.bit (aMldCruMap n) 8 = false
        ∧ (∀ x, x < 16 → t.reg (aCruPub sp x) = s.reg (aCruPub c x)) ∧ (∀ x, x < 256 → t.reg (aCruCtx sp x) = s.reg (aCruCtx c x))
        ∧ (∀ x y z, x < 16 → y < 4 → z < 8 → t.reg (aCruCls sp x y z) = s.reg (aCruCls c x y z)
          ∧ t.reg (aCruClsIn sp x y z) = s.reg (aCruClsIn c x y z))
        ∧ (u.st = .fault → t.cru sp = { Cru.init with st := .executing, beatRule := u.beatRule, prog := u.prog,
                                                      codeCount := u.codeCount, drag := u.drag, pending := u.pending })
        ∧ (u.st ≠ .fault → t.cru sp
          = { u with swap := none, retired := false, stopReq := none, st := if s.loadNames n = true then .stopped else .executing })
        ∧ t.cru c = { u with swap := none, retired := true, ahead := [], aheadPending := none }
        ∧ t = { s with regs := t.regs, crus := t.crus, cruImg := t.cruImg, log := t.log })

/-- R96, R101-R104, R106, R107, R111, R112: a play binds its first segment 24 ticks before its release; at a commit point the player
takes a due jump, else its own loop, else next, else the end, and binds what it chose; a pass ends after its last sample, its fill is
counted, its notification sent, and the chosen segment or the end follows; a jump request becomes the pending jump or is dropped; a
refilled block is resident, in place of the least recently used line that no player locks; a granule that is not resident is fill. -/
def Obligations.PlayersWalkTheirSegments : Prop :=
  (∀ (s : State) (tone : Fin 1024) (p : Play) (k : Fin 8) (block v : Nat) (rel : Tick) (sub : BitVec 4) (seg : BitVec 20)
    (amp : BitVec 16) (e : Bool) (more : List (Tick × BitVec 4 × BitVec 20 × BitVec 16)) (b : Bound) (j : JumpReq) (rest : List JumpReq),
    Tbl.wf resetWord s.regs = true → Tbl.wf (fun _ => Tone.init) s.tones = true → Tbl.wf (fun _ => Hot.init) s.hots = true →
    let x := s.tone tone
    let g := s.seg p.seg.toNat
    let cl := toneCluster tone
    let cnt := aPlyCnt (toneChan tone) (toneIdx tone)
    let undr := aPlyUndr (toneChan tone) (toneIdx tone)
    let commit := p.segStart + g.commitAt
    let endAt := p.segStart + g.dacLen
    let counted := fun (t : State) (a hi lo n : Nat) => t.fld a hi lo = satAdd (hi - lo + 1) (s.fld a hi lo) n
    let wanted := fun (t : State) (l : List Nat) => ∀ y ∈ l, t.hotHas cl y = true ∨ (t.hot cl).req.contains y = true
    let others := fun (t : State) => ∀ n, n ≠ tone.val → t.tone n = s.tone n
    let passed := fun (t : State) => counted t undr 31 0 (p.fillPlayed g endAt) ∧ others t
      ∧ (g.notifies = true → p.freeFill = false → t.sent = (s.notify g.owner 2 (leBytes 4 p.seg.toNat ++ leBytes 4 g.version.toNat
          ++ leBytes 4 (if p.fillPlayed g endAt = 0 then 0 else 1) ++ leBytes 8 (sampleTick endAt).toNat)).sent)
      ∧ (g.notifies = false → t.sent = s.sent)
      ∧ t = { s with tones := t.tones, regs := t.regs, sessions := t.sessions, sent := t.sent, runs := t.runs, dues := t.dues }
    ((s.queuedPlays tone).drop x.nextPlays.length = (rel, sub, seg, amp) :: more → sdiff (rel - 24).stamp s.now.stamp ≤ 0 →
      ∃ t, exec (.playBind tone) s = .next t ∧ others t
        ∧ t.tone tone = { x with nextPlays := x.nextPlays ++ [⟨seg, amp, rel, sub, 0, true, (s.seg seg.toNat).st == .filling,
            (s.seg seg.toNat).st == .free, false, none, [], none, 0, none, [], none⟩] }
        ∧ ((s.seg seg.toNat).st = .ready → wanted t ((s.seg seg.toNat).blocks.take 4))
        ∧ ((s.seg seg.toNat).st ≠ .free → wanted t (s.linkBlocks (s.seg seg.toNat)))
        ∧ ((s.seg seg.toNat).bad = false → t.runs = s.runs ∧ t.dues = s.dues)
        ∧ t = { s with tones := t.tones, hots := t.hots, runs := t.runs, dues := t.dues })
    ∧ (x.play = some p → p.chosen = none → reached s.now commit = true → (∀ j ∈ x.jumps, commit ≤ 12 * j.e.toNat) →
      ∃ t q, exec (.commitPoint tone) s = .next t ∧ others t ∧ t.tone tone = { x with play := some q }
        ∧ q = { (p.choose g).1 with chosen := q.chosen, tailFill := q.tailFill }
        ∧ q.chosen = some (match (p.choose g).2.1 with
          | none => none
          | some n => match (s.seg n.toNat).st with
            | .free => none
            | .filling => some ⟨n, true⟩
            | .ready => some ⟨n, false⟩)
        ∧ ((p.choose g).2.1 = some seg → q.tailFill = ((s.seg seg.toNat).st == .free))
        ∧ ((p.choose g).2.1 = some seg → (s.seg seg.toNat).st = .ready → wanted t ((s.seg seg.toNat).blocks.take 4))
        ∧ (s.fld cnt 23 16 < 255 → t.fld cnt 23 16 = s.fld cnt 23 16 + (p.choose g).2.2.2.toNat)
        ∧ t = { s with tones := t.tones, regs := t.regs, hots := t.hots, runs := t.runs, dues := t.dues })
    ∧ (x.play = some p → p.chosen = some none → reached s.now endAt = true →
      ∃ t, exec (.segmentPassEnd tone) s = .next t ∧ passed t
        ∧ t.tone tone = { x with play := none, free := p.tailFill, ended := x.noteEnd p endAt, leaving := x.noteLeave s.now p endAt,
                                 past := x.past ++ [(p, endAt)] }
        ∧ (p.pending.isSome = true → counted t cnt 23 16 1) ∧ (p.tailFill = false → t.runs = s.runs ∧ t.dues = s.dues))
    ∧ (x.play = some p → p.chosen = some (some b) → reached s.now endAt = true →
      ∃ t q, exec (.segmentPassEnd tone) s = .next t ∧ passed t ∧ t.runs = s.runs ∧ t.dues = s.dues
        ∧ t.tone tone = { x with play := some q, leaving := x.noteLeave s.now p endAt, past := x.past ++ [(p, endAt)] }
        ∧ q.seg = b.seg ∧ q.fill = b.fill ∧ q.k = p.k + g.dacLen ∧ q.chosen = none ∧ q.first = false ∧ q.amp = p.amp ∧ q.rel = p.rel
        ∧ q.sub = p.sub ∧ q.stack = p.stack ∧ q.pending = p.pending.map (fun y => (y.1, false))
        ∧ q.granule = (if p.pre.isSome then 1 else 0) ∧ q.gone = (if p.pre = some true then [0] else []))
    ∧ (takeJump x.jumps = some (j, rest) → sdiff j.e.stamp s.now.stamp ≤ 0 → x.play = none →
      exec (.jumpRequestDue tone) s = .next ((s.setTone tone { x with jumps := rest }).count cnt 23 16 1))
    ∧ (x.play = some p → takeJump x.jumps = some (j, rest) → sdiff j.e.stamp s.now.stamp ≤ 0 → p.segStart ≤ 12 * j.e.toNat →
      12 * j.e.toNat < endAt →
      let late := decide (g.len - 16 ≤ g.sampleAt (12 * j.e.toNat - p.segStart))
      ∃ t, exec (.jumpRequestDue tone) s = .next t ∧ others t
        ∧ t.tone tone = { x with jumps := rest, play := some { p with pending := some (j.target, late) } }
        ∧ counted t cnt 15 8 p.pending.isSome.toNat ∧ counted t cnt 7 0 late.toNat ∧ t = { s with tones := t.tones, regs := t.regs })
    ∧ ((s.hot k).req.contains block = true → (s.hot k).lines.length < s.hotCap k →
      exec (.refillComplete k block) s = .next (s.setHot k { s.hot k with req := (s.hot k).req.filter (fun y => y != block),
                                                                          lines := (s.hot k).lines ++ [block] }))
    ∧ ((s.hot k).req.contains block = true → (s.hot k).lines.length = s.hotCap k → (s.hot k).lines.Nodup →
      (s.hot k).lines.find? (fun y => !s.hotLocked k y) = some v →
      exec (.refillComplete k block) s = .next (s.setHot k { s.hot k with req := (s.hot k).req.filter (fun y => y != block),
                                                                          lines := (s.hot k).lines.filter (fun y => y != v) ++ [block] }))
    ∧ (x.play = some p → p.granule < g.granules →
      reached s.now (p.segStart + (g.dacAt (32 * p.granule) - 16 * g.rateNum / 2 ^ g.rateShift)) = true →
      let y := g.block p.granule
      let gone := p.fill || !s.hotHas cl y || e
      let q := { p with granule := p.granule + 1, gone := if gone then p.granule :: p.gone else p.gone }
      ∃ t, exec (.granuleRead tone e) s = .next t ∧ others t ∧ t.tone tone = { x with play := some q }
        ∧ counted t aMldPatErr 31 16 (e && !p.fill && s.hotHas cl y).toNat ∧ (p.fill = false → wanted t (q.window g))
        ∧ (gone = false → t.runs = s.runs ∧ t.dues = s.dues)
        ∧ t = { s with tones := t.tones, regs := t.regs, hots := t.hots, runs := t.runs, dues := t.dues })
    ∧ (x.play = some p → g.granules ≤ p.granule → p.chosen = some (some b) → p.pre = none → g.sameRate (s.seg b.seg.toNat) = true →
      reached s.now commit = true →
      ∃ t, exec (.granuleRead tone e) s = .next t ∧ others t
        ∧ t.tone tone = { x with play := some { p with pre := some (b.fill || !s.hotHas cl ((s.seg b.seg.toNat).block 0) || e) } }
        ∧ t = { s with tones := t.tones, regs := t.regs, hots := t.hots, runs := t.runs, dues := t.dues }))
  ∧ (∀ (p : Play) (g : Seg) (target : BitVec 20) (c : BitVec 16) (r : List (BitVec 20 × BitVec 16)),
    let loops := g.hasLoop = true ∧ g.loopCount ≠ 0
    let then' := if g.hasNext = true then some g.next' else none
    (p.pending = some (target, false) → (p.choose g).2.1 = some target ∧ (p.choose g).1.stack = [] ∧ (p.choose g).1.pending = none)
    ∧ (p.pending = none → ¬ loops → (p.choose g).2.1 = then' ∧ (p.choose g).1.stack = p.stack)
    ∧ (p.pending = none → loops → p.stack.any (fun y => y.1 == p.seg) = false → p.stack.length < 2 →
      (p.choose g).2.1 = some g.loopTo
      ∧ (p.choose g).1.stack = (p.seg, if g.loopCount = 0xFFFF then g.loopCount else g.loopCount - 1) :: p.stack)
    ∧ (p.pending = none → loops → p.stack = (p.seg, c) :: r → c ≠ 0 → (p.choose g).2.1 = some g.loopTo
      ∧ (p.choose g).1.stack = (p.seg, if c = 0xFFFF then c else c - 1) :: r)
    ∧ (p.pending = none → loops → p.stack = (p.seg, 0) :: r → (p.choose g).2.1 = then' ∧ (p.choose g).1.stack = r))

/-- R97-R99, R111, R115, R316-R318: an upload from its begin to its end, and the release, pin and status of a segment: the bytes of a
data message go to the segment's place in the store and nowhere else; an end with the right check leaves the segment READY, one with
the wrong check, or 100 ms without data, leaves it FREE at its old version; a refused request changes nothing but a counter. -/
def Obligations.PatternUploadsChangeTheirSegment : Prop :=
  (∀ (s : State) (x : Session) (sid seq seg off count : W32) (desc : BitVec 256) (data : List Byte) (check : W64) (st : Status),
    let u := s.taken x sid
    let n := seg.toNat
    let g := u.seg n
    let filling : Seg := { Seg.init with desc := desc, version := g.version + 1, st := .filling, owner := x.id, oldOwner := g.owner,
                                         lastMsg := u.mono, uploading := true, bad := g.bad }
    let asked := fun (ty : Byte) => s.asks x sid seq ty (some .operator) = true ∧ n < 2 ^ 20
    let answers := fun (c : Instr) (ty : Byte) (v : State) => exec c s = .next (v.reply sid seq ty .ok [])
    let refused := fun (c : Instr) (ty : Byte) (v : State) (st : Status) (d : Detail) => exec c s = .next (v.reply sid seq ty st d.bytes)
    let mine := g.uploading = true ∧ g.owner = x.id
    let good := (u.profile (u.checkCtx n).profile).finish (u.checkCtx n).value.toNat = check.toNat
    let digest : KeptDigest := ⟨true, seg, g.version, Config.sha256 (u.loadBytes g.baseAddr g.bytesLen)⟩
    (asked 0x20 → u.beginRefusal n filling = none →
      answers (.patBegin sid seq seg desc) 0x20
        { u.setSeg n filling with rates := { u.ratesNow with begins := u.ratesNow.begins + 1 },
                                  checks := (n, ⟨x.profile, BitVec.ofNat 64 (u.profile x.profile).init, 0⟩)
                                    :: u.checks.filter (fun c => c.1 != n) })
    ∧ (asked 0x20 → u.beginRefusal n filling = some st →
      refused (.patBegin sid seq seg desc) 0x20 (u.count aMldPatErr 15 0 1) st (detailSeg seg))
    ∧ (asked 0x21 → mine → off.toNat = g.next → g.next + data.length ≤ g.bytesLen → Memory.wf s.dram = true →
      let v := ((u.storeBytes (g.baseAddr + g.next) data).runCheck n data).setSeg n { g with next := g.next + data.length, lastMsg := u.mono }
      answers (.patData sid seq seg off data) 0x21 v ∧ (∀ i, i < data.length → v.mem (g.baseAddr + g.next + i) = data.getD i 0)
      ∧ (∀ a, (a < g.baseAddr + g.next ∨ g.baseAddr + g.next + data.length ≤ a) → v.mem a = s.mem a))
    ∧ (asked 0x21 → mine → off.toNat ≠ g.next → refused (.patData sid seq seg off data) 0x21 u .range (detailNext seg g.next))
    ∧ (asked 0x21 → ¬ mine → refused (.patData sid seq seg off data) 0x21 u .state (detailSeg seg))
    ∧ (asked 0x22 → mine → g.bytesLen ≤ g.next → good →
      let v := u.setSeg n { g with st := .ready, uploading := false, pinned := g.pinBit, bad := false }
      let w := { v.dropDigest digest with checks := u.checks.filter (fun c => c.1 != n) }
      answers (.patEnd sid seq seg check) 0x22 (if g.pinBit then w.pinTrim else w))
    ∧ (asked 0x22 → mine → g.bytesLen ≤ g.next → ¬ good → Tbl.wf (fun _ => Seg.init) s.segs = true →
      let v := ((u.count aNetCntA 31 16 1).keepDigest digest).failUpload n true
      refused (.patEnd sid seq seg check) 0x22 v .check (detailSeg seg)
      ∧ v.seg n = { g with st := .free, version := g.version - 1, owner := g.oldOwner, uploading := false, pinned := false, bad := true }
      ∧ v.dram = s.dram)
    ∧ (asked 0x22 → mine → g.next < g.bytesLen → refused (.patEnd sid seq seg check) 0x22 u .range (detailNext seg g.next))
    ∧ (asked 0x23 → u.segActive (BitVec.ofNat 20 n) = false →
      match g.st with
      | .free => answers (.patRelease sid seq seg) 0x23 u
      | .filling => refused (.patRelease sid seq seg) 0x23 u .state (detailSeg seg)
      | .ready => answers (.patRelease sid seq seg) 0x23 (u.setSeg n { g with st := .free, pinned := false }))
    ∧ (asked 0x23 → u.segActive (BitVec.ofNat 20 n) = true → refused (.patRelease sid seq seg) 0x23 u .busy (detailSeg seg))
    ∧ (asked 0x24 → u.segActive (BitVec.ofNat 20 n) = false → g.st = .ready → u.pinExceeds n g = false →
      answers (.patPin sid seq seg 1) 0x24 ((u.setSeg n { g with pinned := true, desc := g.desc ||| (1#256 <<< 56) }).pinTrim))
    ∧ (asked 0x24 → u.segActive (BitVec.ofNat 20 n) = false → g.st = .ready →
      ∃ v, answers (.patPin sid seq seg 0) 0x24 v ∧ v.seg n = { g with pinned := false, desc := g.desc &&& ~~~(1#256 <<< 56) }
        ∧ (g.pinned = false → v.hots = u.hots) ∧ v = { u with segs := v.segs, hots := v.hots })
    ∧ (s.asks x sid seq 0x25 none = true → 1 ≤ count.toNat → count.toNat ≤ 256 → n + count.toNat ≤ 2 ^ 20 →
      exec (.patStatus sid seq seg count) s = .next (u.reply sid seq 0x25 .ok
        ((List.range count.toNat).flatMap (fun i => u.segStatus (n + i))))))
  ∧ (∀ (s : State) (seg : BitVec 20), (s.seg seg.toNat).uploading = true → 100000000 ≤ s.since (s.seg seg.toNat).lastMsg →
    Tbl.wf (fun _ => Seg.init) s.segs = true → Tbl.wf resetWord s.regs = true →
    let g := s.seg seg.toNat
    ∃ t, exec (.uploadIdleTimeout seg) s = .next t ∧ t.checks = s.checks.filter (fun c => c.1 != seg.toNat)
      ∧ t.seg seg.toNat = { g with st := .free, version := g.version - 1, owner := g.oldOwner, uploading := false, pinned := false,
                                   bad := false }
      ∧ (∀ n, n ≠ seg.toNat → t.seg n = s.seg n) ∧ t.fld aMldPatErr 15 0 = satAdd 16 (s.fld aMldPatErr 15 0) 1
      ∧ t = { s with segs := t.segs, checks := t.checks, regs := t.regs })

/-- R117, R122-R124, R128, R130, R133, R136, R146-R148, R207: a sample-queue fault mutes its channel; the release of a mute re-seeds the
channel's tones and leads through SETTLING and WAIT_QUIET to LIVE; an accumulator that differs from its value is corrected in a mute of
one tick; OUTCLR_N low clears every flux and bias output and mutes every RF channel, and its rise releases the mutes; in a tick 12 codes
enter a channel's pipe, the oldest 12 leave the equaliser, saturated and counted, and enter the sample queue. -/
def Obligations.RfChannelsMuteSettleAndClear : Prop :=
  (∀ (s : State) (ch : Fin 96) (tone : Fin 1024) (f : Tick) (ts : List Nat), Tbl.wf resetWord s.regs = true →
    Tbl.wf (fun _ => RfChan.init) s.rf = true → Tbl.wf (fun _ => Tone.init) s.tones = true →
    let x := s.rfch ch
    let y := s.tone tone
    let own := toneChan tone
    let u := s.setRfch ch { x with fsSwitch := false }
    let reseeded := fun (t : State) (n : Nat) (k : Tick) => (t.tone n).freq = (s.tone n).freq ∧ (t.tone n).seedTick = k
      ∧ (t.tone n).acc = accAt (s.tone n).freq k
    (∃ t, exec (.sampleQueueFault ch) s = .next t ∧ t.bit (aRfStat ch) 14 = true ∧ (t.rfch ch).st = .muted
      ∧ t.fld (aRfNcochk ch) 31 16 = satAdd 16 (s.fld (aRfNcochk ch) 31 16) 1 ∧ t.bit aMldAlert 4 = true
      ∧ t.fault = { s.fault with blocks := BitVec.ofNat 8 (satAdd 8 s.fault.blocks.toNat 1) }
      ∧ t.log = (s.logEvent 0x0011 0x0001 [BitVec.ofNat 8 ch]).log
      ∧ (x.st ≠ .muted → (t.rfch ch).since = s.now) ∧ (∀ c, c ≠ ch.val → t.rfch c = s.rfch c)
      ∧ t = { s with regs := t.regs, rf := t.rf, fault := t.fault, runs := t.runs, log := t.log })
    ∧ (x.st = .settling → 4000 ≤ s.ticksSince x.since →
      exec (.settleEnd ch) s = .next (s.setRfch ch { x with st := .waitQuiet, since := s.now }))
    ∧ (x.st = .waitQuiet → ((∀ t ∈ chanTones ch, (s.tone t).play = none) ∨ s.shotSince ch x.since = true) →
      exec (.waitQuietEnd ch) s = .next (s.setRfch ch { x with st := .live, since := s.now }))
    ∧ (x.fsSwitch = true → u.muted ch = true → x.st = .muted → exec (.fsStepSwitchDone ch) s = .next u)
    ∧ (x.fsSwitch = true → u.muted ch = false → x.st = .muted →
      ∃ t, exec (.fsStepSwitchDone ch) s = .next t ∧ t.rfch ch = { x with fsSwitch := false, st := .settling, since := s.now }
        ∧ (∀ n ∈ chanTones ch, reseeded t n s.now) ∧ t = { s with rf := t.rf, tones := t.tones })
    ∧ ((s.bank (chanBank own)).st = .on → s.now.toNat % 16 = 0 → y.accNow s.now ≠ accAt y.freq s.now →
      exec (.ncoCheck tone) s = .next (((s.setBit (aRfStat own) 15 true).count (aRfNcochk own) 15 0 1).setRfch own
        { s.rfch own with ncoFix := some (s.now + 1, (match (s.rfch own).ncoFix with | none => [] | some k => k.2) ++ [tone.val]) }))
    ∧ (x.ncoFix = some (s.now, ts) → (∀ n ∈ ts, reseeded (s.ncoStep ch) n s.now) ∧ ((s.ncoStep ch).rfch ch).st = .muted)
    ∧ (x.ncoFix = some (f, ts) → 0 < (s.now - f).toInt → (s.setRfch ch { x with ncoFix := none }).muted ch = false → x.st = .muted →
      (s.ncoStep ch).rfch ch = { x with ncoFix := none, st := .settling, since := s.now }
      ∧ ∀ n ∈ chanTones ch, reseeded (s.ncoStep ch) n s.now))
  ∧ (∀ (s : State), Tbl.wf (fun _ => FbChan.init) s.fb = true → Tbl.wf (fun _ => RfChan.init) s.rf = true →
    Tbl.wf resetWord s.regs = true →
    (s.fault.outclrLow = false → ∃ t, exec .outclrFall s = .next t
      ∧ t.fault = { s.fault with outclrLow := true, clearTick := some (s.fault.clearTick.getD s.now) }
      ∧ (∀ ch, ch < 96 → (t.rfch ch).st = .muted)
      ∧ (∀ n, n < 384 → (t.fbch n).atClear = true ∧ (t.fbch n).code = s.clrCode n
        ∧ (t.fbch n).moves.head? = some ⟨connTick n s.now, s.outCode n (connTick n s.now), s.clrCode n, 0, 0⟩)
      ∧ (TaskInput.flag 244, localEv 244 s.now.stamp 0x0002 1 0x0F9) ∈ t.waiting
      ∧ t = { s with fault := t.fault, fb := t.fb, rf := t.rf, runs := t.runs, dues := t.dues, regs := t.regs, waiting := t.waiting })
    ∧ (s.fault.outclrLow = true → s.fault.asserted = false → ∃ t, exec .outclrRise s = .next t
      ∧ t.fault = { s.fault with outclrLow := false, clearTick := none, releaseTick := some s.now }
      ∧ (∀ ch, ch < 96 → t.muted ch = false → (s.rfch ch).st = .muted → (t.rfch ch).st = .settling ∧ (t.rfch ch).since = s.now)
      ∧ (∀ ch, ch < 96 → t.muted ch = true → (t.rfch ch).st = .muted)
      ∧ (TaskInput.flag 244, localEv 244 s.now.stamp 0x8002 1 0x0F9) ∈ t.waiting
      ∧ t = { s with fault := t.fault, rf := t.rf, tones := t.tones, runs := t.runs, regs := t.regs, waiting := t.waiting })
    ∧ (s.fault.outclrLow = true → s.fault.asserted = true → ∃ t, exec .outclrRise s = .next t
      ∧ t.fault = { s.fault with outclrLow := false } ∧ (∀ ch, ch < 96 → (t.rfch ch).st = .muted) ∧ t.fb = s.fb))
  ∧ (∀ (s : State) (ch : Fin 96), Tbl.wf resetWord s.regs = true → Tbl.wf (fun _ => RfChan.init) s.rf = true →
    Tbl.wf (fun _ => Tone.init) s.tones = true → s.rfBusy ch = true →
    let x := s.rfch ch
    (x.line = [] ∨ x.line.length = 15) → (x.pipe = [] ∨ x.pipe.length = 204) → (x.queue = [] ∨ x.queue.length = 24) →
    let t := s.rfTick ch
    padded 24 (t.rfch ch).queue = (padded 24 x.queue ++ ((s.rfPipe ch).take 12).map (clampInt (-8192) 8191)).drop 12
    ∧ padded 204 (t.rfch ch).pipe = (padded 204 x.pipe ++ s.rfRaw ch).drop 12
    ∧ (s.rfRuns ch = true → padded 15 (t.rfch ch).line
      = (padded 15 x.line ++ (List.range 12).map (fun i => s.chanSum ch (12 * s.now.toNat + i))).drop 12)
    ∧ t.fld (aRfClip ch) 31 0 = min (s.fld (aRfClip ch) 31 0 + s.rfClips ch) (2 ^ 32 - 1)
    ∧ (s.rfClips ch ≠ 0 → t.bit (aRfStat ch) 16 = true) ∧ (t.rfch ch).st = x.st
    ∧ t = { s with rf := t.rf, tones := t.tones, regs := t.regs })

/-- R134, R140-R145, R147, R149, R150, R152, R161: a strobe moves each channel of an ON group to its holding code, except a channel held
clear or in a range window, and a bias strobe too soon is refused; a finished edge and a finished window end; a bank or a group reaches
OFF or ON, with its outputs at their clear codes and its routines asked for, and an enable that waited is then served. -/
def Obligations.StrobesBanksAndGroups : Prop :=
  (∀ (s : State) (g : Fin 16) (r : StrobeReq) (T : Tick) (m : Fin 384) (w : Tick × Tick) (i : Fin 128) (k : OutMove),
    Tbl.wf (fun _ => FbChan.init) s.fb = true → Tbl.wf (fun _ => Group.init) s.groups = true → Tbl.wf resetWord s.regs = true →
    let x := s.grp g
    let due := earliestReq x.reqs = some r ∧ (r.tick - s.now).toInt ≤ 0 ∧ s.itemsBefore g r.tick = false
    let fresh := ∀ b, x.judged ≠ some (r.tick, b)
    let rest := x.reqs.filter (fun q => q.tick != r.tick)
    let soon := 8 ≤ g.val ∧ x.lastStrobe = some T ∧ (r.tick - T).toInt < 2000000
    (due → x.st = .on → fresh → (g.val < 8 ∨ x.lastStrobe = none ∨ (x.lastStrobe = some T ∧ 2000000 ≤ (r.tick - T).toInt)) →
      ∃ t, exec (.strobe g) s = .next t
        ∧ t.grp g = { x with reqs := rest, lastStrobe := some r.tick, judged := some (r.tick, false) }
        ∧ (∀ n ∈ groupChans g, s.clearHeld = false → (s.fbch n).inWindow r.tick = false →
          (t.fbch n).code = s.holdCode n ∧ (t.fbch n).atClear = false
          ∧ (s.holdCode n = s.inForce n → (t.fbch n).moves = (s.fbch n).moves)
          ∧ (s.holdCode n ≠ s.inForce n → (t.fbch n).moves.head? = some ⟨connTick n r.tick, s.outCode n (connTick n r.tick), s.holdCode n,
              BitVec.ofNat 6 (s.holdEdge n).1, (s.holdEdge n).2⟩))
        ∧ (∀ n ∈ groupChans g, (s.clearHeld = true ∨ (s.fbch n).inWindow r.tick = true) → t.fbch n = s.fbch n)
        ∧ (∀ c, c ∉ groupChans g → t.fbch c = s.fbch c) ∧ t = { s with fb := t.fb, groups := t.groups })
    ∧ (due → x.st = .on → fresh → soon → ∃ t, exec (.strobe g) s = .next t
        ∧ t.grp g = { x with reqs := rest, judged := some (r.tick, true) }
        ∧ t.fld (aGrpStat g) 31 24 = satAdd 8 (s.fld (aGrpStat g) 31 24) 1
        ∧ t = { s with groups := t.groups, regs := t.regs, runs := t.runs, dues := t.dues })
    ∧ (due → x.st ≠ .on → exec (.strobe g) s = .next (s.setGrp g { x with reqs := rest }))
    ∧ (exec (.edgeEnd i) s = .next (s.setFbch i { s.fbch i with moves := (s.fbch i).moves.map (fun m => m.finish s.now) }))
    ∧ ((s.fbch i).moveAt s.now = some k → k.runs s.now = false → ∃ t, exec (.edgeEnd i) s = .next t
      ∧ (t.fbch i).moveAt s.now = some { k with old := k.new, entry := 0, len := 0 } ∧ t.outCode i s.now = k.new)
    ∧ ((s.fbch m).window = some w → w.2.toNat + 6000 ≤ s.now.toNat →
      exec (.rangeWindowEnd m) s
        = .next (s.setFbch m { s.fbch m with window := none, range := (s.fbch m).rangeAt s.now, switchAt := none })))
  ∧ (∀ (s : State) (b : Fin 6) (g : Fin 16) (o : GroupResult), Tbl.wf (fun _ => Bank.init) s.banks = true →
    Tbl.wf (fun _ => Group.init) s.groups = true → Tbl.wf (fun _ => FbChan.init) s.fb = true → Tbl.wf resetWord s.regs = true →
    o.group = g →
    ((s.bank b).st = .shuttingDown → (s.bank b).enPending = false → ∃ t, exec (.bankShutdownComplete b) s = .next t
      ∧ t.bank b = ⟨.off, s.now, false⟩ ∧ t.cmk = (s.routineDone 0x06 b).cmk ∧ (∀ c, c ≠ b.val → t.bank c = s.bank c)
      ∧ t.fb = s.fb ∧ t.rf = s.rf ∧ t.adc = s.adc)
    ∧ ((s.bank b).st = .shuttingDown → (s.bank b).enPending = true → s.cmk.abort = false → ∃ t, exec (.bankShutdownComplete b) s = .next t
      ∧ t.bank b = ⟨.poweringUp, s.now, false⟩ ∧ t.routineWanted (upRoutine b) b = true)
    ∧ ((s.grp g).st = .poweringUp → o.ok = true → ∃ t, exec (.groupPowerUpComplete o) s = .next t
      ∧ t.grp g = { s.grp g with st := .on, since := s.now, enPending := false }
      ∧ (∀ n ∈ groupChans g, t.holdCode n = s.clrCode n ∧ (t.fbch n).code = s.clrCode n ∧ (t.fbch n).atClear = true
        ∧ t.outCode n s.now = s.clrCode n)
      ∧ (∀ c, c ∉ groupChans g → t.fbch c = s.fbch c))
    ∧ ((s.grp g).st = .poweringUp → o.ok = false → ∃ t, exec (.groupPowerUpComplete o) s = .next t
      ∧ t.grp g = { s.grp g with st := .off, since := s.now, enPending := false }
      ∧ t.fault.blocks = BitVec.ofNat 8 (satAdd 8 s.fault.blocks.toNat 1) ∧ t.bit aMldAlert 4 = true ∧ t.fb = s.fb)
    ∧ ((s.grp g).st = .shuttingDown → (s.grp g).enPending = false → ∃ t, exec (.groupShutdownComplete g) s = .next t
      ∧ t.grp g = { s.grp g with st := .off, since := s.now, enPending := false } ∧ t.cmk = (s.routineDone 0x06 (16 + g.val)).cmk
      ∧ (∀ n ∈ groupChans g, t.outLevel n s.now = 0) ∧ t.fb = s.fb)
    ∧ ((s.grp g).st = .shuttingDown → (s.grp g).enPending = true → s.cmk.abort = false → ∃ t, exec (.groupShutdownComplete g) s = .next t
      ∧ t.grp g = { s.grp g with st := .poweringUp, since := s.now, enPending := false } ∧ t.routineWanted 0x05 g = true))

/-- R159, R160, R163-R168, R171: a window start that comes in time opens a window on each tone of its mask that has none in its way, a
late one opens none and is counted; a window opens with the range and the classifier records in force; a written-out window closes and
goes when nothing of it is left; reference buffers become READY and OFF; a pending range and a pending disable take effect at a quiet
tick. -/
def Obligations.AdcWindowsOpenAndClose : Prop :=
  ∀ (s : State) (ch : Fin 32) (t : Fin 16) (w : WinStart) (r : List WinStart) (x : Win) (q : BitVec 2),
    Tbl.wf (fun _ => AdcChan.init) s.adc = true → Tbl.wf resetWord s.regs = true →
    let a := s.adcch ch
    let o := w.stamp + BitVec.ofNat 64 (s.fld (aAdcWdly ch w.ctx.toNat) 19 0)
    let shot : Option (W32 × Tick) := match w.src with
      | none => none
      | some k => match s.run? k.2 with
        | none => none
        | some y => if y.desc.paced then some (k.2, 0xFFFFFFFFFFFFFFFF) else (y.periodicShot o).map (fun z => (k.2, z))
    let new := fun (n : Nat) => s.newWin ch n w o shot
    let inWay := fun (n : Nat) (y : Win) => y.tone = n ∧ y.closed = false ∧ y.meets (new n) = true
    let again := fun (n : Nat) (y : Win) => y.tone = n ∧ y.o = o ∧ y.ctx = w.ctx
    let spent := fun (y : Win) => y.tone = t.val ∧ y.opened = true ∧ y.bEnd ≤ y.nextB
    let sets := fun (c : Instr) (a' : AdcChan) => exec c s = .next (s.setAdcch ch a')
    (a.starts = w :: r → 24 ≤ (o - s.now).toInt →
      ∃ u, exec (.windowStartArrival ch) s = .next u ∧ (u.adcch ch).starts = r
        ∧ (∀ n, n < 16 → w.mask.getLsbD n = true → (∀ y ∈ a.wins, ¬ inWay n y ∧ ¬ again n y) → new n ∈ (u.adcch ch).wins)
        ∧ (∀ y ∈ (u.adcch ch).wins, y ∈ a.wins ∨ ∃ n, n < 16 ∧ w.mask.getLsbD n = true ∧ y = new n)
        ∧ (∀ y ∈ a.wins, y ∈ (u.adcch ch).wins)
        ∧ u = { s with adc := u.adc, regs := u.regs, runs := u.runs, dues := u.dues })
    ∧ ((new t.val).tone = t.val ∧ (new t.val).ctx = w.ctx ∧ (new t.val).o = o ∧ (new t.val).b0 = (12 * o.toNat + 63) / 64
      ∧ (new t.val).bEnd = (new t.val).b0 + s.fld (aAdcWcnt ch w.ctx.toNat) 15 0 ∧ (new t.val).nextB = (new t.val).b0
      ∧ (new t.val).opened = false ∧ (new t.val).shot = shot)
    ∧ (a.starts = w :: r → 24 ≤ (o - s.now).toInt → w.mask = 1#16 <<< t.val → (∀ y ∈ a.wins, ¬ again t.val y) →
      (∃ y ∈ a.wins, inWay t.val y) → exec (.windowStartArrival ch) s
        = .next (((s.setAdcch ch { a with starts := r }).count (aAdcCntB ch) 23 16 1).condAt (adcEng ch t) .acqOverflow o))
    ∧ (a.starts = w :: r → (o - s.now).toInt < 24 → exec (.windowStartArrival ch) s
        = .next (((s.setAdcch ch { a with starts := r }).count (aAdcCntB ch) 31 24 1).each (lanesOf w.mask)
            (fun s n => s.lateAt (adcEng ch n) o)))
    ∧ (a.wins.find? (fun y => y.tone == t.val && !y.opened && decide (y.o.toNat ≤ s.now.toNat)) = some x →
      let c := s.ctxWord ch x.ctx
      let y := { x with opened := true, range := a.range, classify := c.getLsbD 27, recs := s.recordsAt (s.cruPhys ch) t x.o,
                        spanEnd := min x.bEnd (x.b0 + kernelLen c) }
      let v := s.setAdcch ch { a with wins := a.wins.map (fun z => if z == x then y else z) }
      exec (.windowOpen ch t) s = .next (if a.refbuf = .ready then v
        else (v.count (aAdcCntB ch) 15 8 1).condAt (adcEng ch t) .refbufNotReady x.o))
    ∧ (∃ ws, sets (.windowClose ch t) { a with wins := ws }
      ∧ (∀ y ∈ a.wins, spent y → y.decided = false → y.classify = true → { y with closed := true } ∈ ws)
      ∧ (∀ y ∈ a.wins, ¬ spent y → y.closed = false → y ∈ ws)
      ∧ (∀ y ∈ ws, spent y → y.closed = true) ∧ (∀ y ∈ ws, s.winOver ch y = false)
      ∧ (∀ y ∈ ws, y ∈ a.wins ∨ ∃ z ∈ a.wins, spent z ∧ y = { z with closed := true }))
    ∧ (a.refbuf = .starting → 80000 ≤ s.ticksSince a.rOn → sets (.refbufReady ch) { a with refbuf := .ready })
    ∧ (a.refbuf = .shuttingDown → a.enPending = false → sets (.refbufShutdownComplete ch) { a with refbuf := .off })
    ∧ (a.refbuf = .shuttingDown → a.enPending = true →
      sets (.refbufShutdownComplete ch) { a with refbuf := .starting, rOn := s.now, enPending := false })
    ∧ (a.quiet s.now = true → a.rangePending = some q → q ≠ a.range → a.disPending = false →
      sets (.quietTick ch) { a with range := q, switched := some s.now })
    ∧ (a.quiet s.now = true → a.rangePending = some q → q ≠ a.range → a.disPending = true → sets (.quietTick ch)
      { a with range := q, switched := some s.now, disPending := false, refbuf := .shuttingDown, sdTick := s.now })
    ∧ (a.quiet s.now = true → (a.rangePending = none ∨ a.rangePending = some a.range) → a.disPending = true →
      sets (.quietTick ch) { a with disPending := false, refbuf := .shuttingDown, sdTick := s.now })
    ∧ (a.switched.isSome = true → a.rangePending = some a.range →
      sets (.rangeSettled ch) { a with switched := none, rangePending := none })
    ∧ (a.switched.isSome = true → a.rangePending ≠ some a.range → sets (.rangeSettled ch) { a with switched := none })

/-- R169-R172, R177-R181: the 64 samples of a block pass mixer and decimator to one beat of the ring, with a lane for each tone that has
a window sample, full-scale and saturated samples counted; a waiting sequencer takes the beat, and where the sequencer is stopped or 64
beats wait the beat is lost and counted, and its window damaged. -/
def Obligations.BlocksBecomeBeats : Prop :=
  ∀ (s : State) (ch : Fin 32) (raw : List (BitVec 12)) (b : Nat) (w : Win), Tbl.wf (fun _ => AdcChan.init) s.adc = true →
    Tbl.wf (fun _ => Cru.init) s.crus = true → Tbl.wf (fun _ => (0 : W32)) (s.cru (s.cruPhys ch)).ring = true →
    Tbl.wf resetWord s.regs = true → s.cruPhys ch < 34 →
    let c := s.cruPhys ch
    let u := s.cru c
    let l := (s.adcch ch).inBlock b
    let full := (raw.filter (fun x => x.toInt == 2047 || x.toInt == -2048)).length
    let counts := fun (t : State) => t.fld (aAdcCntA ch) 31 16 = satAdd 16 (s.fld (aAdcCntA ch) 31 16) full
      ∧ (full ≠ 0 → t.bit (aAdcStat ch) 16 = true)
    (s.adcch ch).nextBlock = some b → 64 * b + 63 + 560 ≤ 12 * s.now.toNat → u.wp < 512 →
    (u.beats.length < 64 → (u.st = .executing ∨ u.st = .repeating) →
      ∃ t k, exec (.beatWrite ch raw) s = .next t ∧ counts t
        ∧ t.cru c = { u with ring := (t.cru c).ring, beats := u.beats ++ [k], wp := (u.wp + 1) % 512 }
        ∧ k.block = b ∧ k.pos = u.wp ∧ (∀ n, n < 16 → k.v.getLsbD n = l.any (fun y => y.tone == n))
        ∧ k.opens = (l.filter (fun y => y.b0 == b)).map (fun y => ⟨y.tone, y.ctx, y.range, y.b0, y.o⟩)
        ∧ k.closes = (l.filter (fun y => y.bEnd == b + 1)).map (fun y => (y.tone, y.bEnd, y.trunc))
        ∧ (∀ n, n < 16 → (t.cru c).ringAt n u.wp = if k.v.getLsbD n then packCplx (bbSat (s.decimated ch n b raw).1)
            (bbSat (s.decimated ch n b raw).2) else 0)
        ∧ (∀ n p, n < 16 → p < 512 → p ≠ u.wp → (t.cru c).ringAt n p = u.ringAt n p)
        ∧ (∀ d, d ≠ c → t.cru d = s.cru d) ∧ t.fld (aCruRing c) 22 16 = max (s.fld (aCruRing c) 22 16) (u.beats.length + 1))
    ∧ (u.beats = [] → u.st = .waiting →
      ∃ t, exec (.beatWrite ch raw) s = .next t ∧ counts t ∧ (t.cru c).beats = [] ∧ (t.cru c).block = b ∧ (t.cru c).rp = u.wp
        ∧ (t.cru c).wp = (u.wp + 1) % 512 ∧ (t.cru c).st = .executing ∧ (t.cru c).pc = (u.pc + 1) % 1024 ∧ (t.cru c).prog = u.prog
        ∧ (∀ n, n < 16 → ((t.cru c).lane n).v = l.any (fun y => y.tone == n)))
    ∧ ((64 ≤ u.beats.length ∨ u.st = .stopped ∨ u.st = .fault ∨ u.st = .noProg) →
      ∃ t, exec (.beatWrite ch raw) s = .next t ∧ counts t ∧ t.crus = s.crus
        ∧ t.fld (aCruCnt c) 31 16 = satAdd 16 (s.fld (aCruCnt c) 31 16) 1
        ∧ (l = [w] → (∀ y ∈ (s.adcch ch).wins, y.tone = w.tone → y = w) → w.b0 ≤ b → b < w.spanEnd →
          ∃ y ∈ (t.adcch ch).wins, y.tone = w.tone ∧ y.b0 = w.b0 ∧ y.nextB = b + 1 ∧ y.damaged = true))

/-- R183-R186, R191: what each class D instruction does in each lane that takes part, with its operands as at the start; a lane whose
kernel count ends with it hands its accumulator to the decision unit; every other lane, and everything outside lanes, work memory and
the handed accumulators, is unchanged but for the sequencer's place. -/
def Obligations.CrucibleArithmetic : Prop :=
  ∀ (s : State) (c : Fin 34) (m : CruFields), Tbl.wf (fun _ => Cru.init) s.crus = true → Tbl.wf (fun _ => AdcChan.init) s.adc = true →
    Tbl.wf (fun _ => Lane.init) (s.cru c).lanes = true → Tbl.wf (fun _ => (0 : W32)) (s.cru c).work = true →
    let u := s.cru c
    let i := u.turn
    let a := s.adcch (s.cruChan c)
    let C := fun t => u.opC m i t
    let P := fun t => cmul (u.opD m i t) (u.opC m i t)
    let A := fun (l : Lane) (acc : Bool) => if acc then (l.a1i, l.a1q) else (l.a0i, l.a0q)
    let clear := fun (l : Lane) => if m.acc then { l with a1i := 0, a1q := 0 } else { l with a0i := 0, a0q := 0 }
    let acx := fun (x : Int) => sat16 (roundShift (resolve48 x) (m.n.toNat % 32))
    let on := fun t => laneOn m.cnd (u.lane t) = true
    let ends := fun t => on t ∧ m.kinc = true ∧ (u.lane t).kc = 1 ∧ (u.lane t).opened = true
    let gives := fun (k : Instr) (op : Nat) (f : Nat → Lane → Lane) (w : Nat → Option (Nat × W32)) =>
      s.cruDataTurn c op m = true → ∃ s' L W, exec k s = .next s' ∧ s'.cru c = { u.afterData with lanes := L, work := W }
        ∧ (∀ t, t < 16 → ¬ on t → Tbl.get L t Lane.init = u.lane t)
        ∧ (∀ t, t < 16 → on t → ¬ ends t → Tbl.get L t Lane.init = (f t (u.lane t)).kstep m.kinc)
        ∧ (∀ t, t < 16 → ends t → Tbl.get L t Lane.init = { (f t (u.lane t)).kstep m.kinc with opened := false })
        ∧ (∀ t a, t < 16 → a < 512 → Tbl.get W (t * 512 + a) 0 =
            match w t with
            | none => u.workAt t a
            | some x => if laneOn m.cnd (u.lane t) && x.1 % 512 == a then x.2 else u.workAt t a)
        ∧ ((∀ t, t < 16 → ¬ ends t) → s'.adc = s.adc)
        ∧ (∀ t x, t < 16 → ends t → a.wins.find? (fun w => w.tone == t && w.b0 == (u.lane t).b0) = some x → x.damaged = false →
          x.decided = false → ∃ j ∈ (s'.adcch (s.cruChan c)).integrals, j.tone = t ∧ j.b0 = (u.lane t).b0 ∧ j.bLast = u.block
            ∧ j.trunc = false ∧ j.cls = (u.lane t).cls ∧ (j.i, j.q) = A (f t (u.lane t)) (u.lane t).acc)
        ∧ (∀ d, d ≠ c.val → s'.cru d = s.cru d) ∧ (s'.adcch (s.cruChan c)).wins = a.wins
        ∧ s' = { s with crus := s'.crus, adc := s'.adc }
    gives (.cMac c m) 0x01 (fun t l => l.addA m.acc (P t)) (fun _ => none)
    ∧ gives (.cTapm c m) 0x03 (fun t l => l.addA m.acc (cmul (u.opD m i t) (cplx (u.workAt t (u.workAddr m i)))))
        (fun t => some (u.workAddr m i + 1, u.workAt t (u.workAddr m i)))
    ∧ gives (.cMsq c m) 0x04 (fun t l => l.addA m.acc ((C t).1 * (C t).1 + (C t).2 * (C t).2, 0)) (fun _ => none)
    ∧ gives (.cLdx c m) 0x05 (fun t l => { l with xi := (C t).1, xq := (C t).2 }) (fun _ => none)
    ∧ gives (.cStx c m) 0x06 (fun _ l => l) (fun t => some (u.workAddr m i, packCplx (u.lane t).xi (u.lane t).xq))
    ∧ gives (.cMulx c m) 0x07 (fun t l => { l with xi := sat16 (roundDiv (P t).1 (2 ^ 15)), xq := sat16 (roundDiv (P t).2 (2 ^ 15)) })
        (fun _ => none)
    ∧ gives (.cClra c m) 0x08 (fun _ l => clear l) (fun _ => none)
    ∧ gives (.cAcx c m) 0x09 (fun t l => { clear l with xi := acx (A (u.lane t) m.acc).1, xq := acx (A (u.lane t) m.acc).2 }) (fun _ => none)

/-- R179, R183-R187: sequencer registers, jumps and repetition; a beat-taking instruction takes the oldest beat, opening the lanes it
marks, and goes on; it waits where there is none, and stops where a stop was asked. -/
def Obligations.CrucibleControl : Prop :=
  ∀ (s : State) (c : Fin 34) (sd sa : BitVec 3) (imm : BitVec 16) (target : BitVec 10) (count : BitVec 8) (m : CruFields)
    (b : Beat) (r : List Beat) (k : Tick) (o : OpenMark), Tbl.wf (fun _ => Cru.init) s.crus = true →
    Tbl.wf (fun _ => (0 : BitVec 16)) (s.cru c).s = true → Tbl.wf (fun _ => (0 : W32)) (s.cru c).work = true →
    Tbl.wf (fun _ => Lane.init) (s.cru c).lanes = true →
    let u := s.cru c
    let x := u.sreg sa.toNat - 1
    let u1 := { u with beats := r, rp := b.pos, block := b.block, st := .executing }
    let gives := fun (i : Instr) (code : W32) (u' : Cru) => s.cruExecutes c code = true → exec i s = .next (s.setCru c u')
    let plain := (∀ n, n < 16 → (u.lane n).closing = false) ∧ u.stopReq = none
    let beat := plain ∧ u.beats = b :: r
    let lane := fun (n : Nat) => { u.lane n with v := b.v.getLsbD n }
    let takes := fun (i : Instr) (op : Nat) (f : Nat → Lane → Lane) (store : Nat → Bool) =>
      s.cruExecutes c (encM op m) = true → beat →
      ∃ t, exec i s = .next t ∧ t = { s with crus := t.crus, adc := t.adc } ∧ (∀ d, d ≠ c.val → t.cru d = s.cru d)
        ∧ t.cru c = { u1 with pc := (u.pc + 1) % 1024, lanes := (t.cru c).lanes, work := (t.cru c).work }
        ∧ (m.kinc = false → ∀ n, n < 16 → b.opens.find? (fun y => y.tone == n) = none → b.closes.find? (fun y => y.1 == n) = none →
          (t.cru c).lane n = f n (lane n))
        ∧ (∀ n a, n < 16 → a < 512 → (t.cru c).workAt n a = if store a then u.ringAt n b.pos else u.workAt n a)
    gives (.cNop c) (encCruB 0x00 0 0 0) { u with pc := (u.pc + 1) % 1024 }
    ∧ gives (.cSets c sd imm) (encS 0x20 sd 0 imm) { u.setSreg sd.toNat imm with pc := (u.pc + 1) % 1024 }
    ∧ gives (.cAdds c sd sa imm) (encS 0x21 sd sa imm) { u.setSreg sd.toNat (u.sreg sa.toNat + imm) with pc := (u.pc + 1) % 1024 }
    ∧ gives (.cJ c target) (encCruB 0x30 0 0 target) { u with pc := target.toNat }
    ∧ gives (.cDbnz c sa target) (encCruB 0x31 sa 0 target)
        { u.setSreg sa.toNat x with pc := if x = 0 then (u.pc + 1) % 1024 else target.toNat }
    ∧ gives (.cRep c count) (encCruB 0x34 0 count 0)
        { u with pc := (u.pc + 1) % 1024, rep := some (0, count.toNat + 1), st := .repeating }
    ∧ takes (.cMacb c m) 0x02
        (fun n l => if laneOn m.cnd l then l.addA m.acc (cmul (u1.opD m 0 n) (u1.opC m 0 n)) else l) (fun _ => false)
    ∧ takes (.cWaitb c m) 0x0A (fun _ l => l) (fun a => (m.cmode == 1 || m.cmode == 2) && u.workAddr m 0 == a)
    ∧ (s.cruExecutes c (encM 0x0A m) = true → beat → ∀ n, n < 16 → b.opens.find? (fun y => y.tone == n) = some o →
      b.closes.find? (fun y => y.1 == n) = none →
      let w := s.reg (aCruCtx c o.ctx.toNat)
      ∃ t, exec (.cWaitb c m) s = .next t ∧ ((t.cru c).lane n).opened = true ∧ ((t.cru c).lane n).b0 = o.b0
        ∧ ((t.cru c).lane n).a0i = 0 ∧ ((t.cru c).lane n).a0q = 0 ∧ ((t.cru c).lane n).a1i = 0 ∧ ((t.cru c).lane n).a1q = 0
        ∧ ((t.cru c).lane n).kp = kernelBase w ∧ ((t.cru c).lane n).kc = kernelLen w ∧ ((t.cru c).lane n).acc = w.getLsbD 24)
    ∧ (∀ i, (i = Instr.cWaitb c m ∧ s.cruExecutes c (encM 0x0A m) = true) ∨ (i = Instr.cMacb c m ∧ s.cruExecutes c (encM 0x02 m) = true) →
      (plain → u.beats = [] → exec i s = .next (s.setCru c { u with st := .waiting }))
      ∧ (u.stopReq = some k → (∀ n, n < 16 → (u.lane n).closing = false) → exec i s = .next (s.cruStopped c)))

/-- R180, R181, R186, R187, R192-R196, R199, R200: the integrals of a beat are decided together, each by its classifier record, with its
event, its entry and its count; a pending set comes into force at its tick; a fault stops a Crucible, damages its open windows and calls
for a spare; a sequencer that did not stop in time is stopped where it is, but not within a repetition, and its beats are lost. -/
def Obligations.DecisionsAndCrucibleStops : Prop :=
  ∀ (s : State) (ch : Fin 32) (tn : Fin 16) (c : Fin 34) (code : BitVec 4) (i : Integral) (y : Win) (k : Tick) (l : List (Nat × W32)),
    Tbl.wf (fun _ => Cru.init) s.crus = true → Tbl.wf (fun _ => AdcChan.init) s.adc = true → Tbl.wf resetWord s.regs = true →
    s.cruPhys ch < 34 →
    let a := s.adcch ch
    let p := s.cruPhys ch
    let x := integralOf i.cls i.i i.q
    let w := s.reg (aCruPub p tn)
    let st := if i.trunc then 3 else classifyState i.cls x.1 x.2
    let L := blockTick i.bLast
    let u := s.cru c
    let alone := a.integrals.filter (fun j => j.beat == i.beat) = [i] ∧ a.wins.find? (fun z => z.tone == i.tone && z.b0 == i.b0) = some y
    let quietly := fun (t : State) => t.regs = s.regs ∧ t.waiting = s.waiting ∧ t.runs = s.runs ∧ t.cap = s.cap
    (a.integrals.find? (fun i => i.tone == tn.val) = some i →
      ∃ t, exec (.decisionPublish ch tn) s = .next t ∧ (t.adcch ch).integrals = a.integrals.filter (fun j => j.beat != i.beat)
        ∧ (∀ d, d ≠ ch.val → t.adcch d = s.adcch d)
        ∧ t = { s with adc := t.adc, regs := t.regs, waiting := t.waiting, runs := t.runs, cap := t.cap, dues := t.dues })
    ∧ (a.integrals.find? (fun i => i.tone == tn.val) = some i → alone → i.classify = true → y.damaged = false → y.decided = false →
      y.tone = tn.val → y.hop.toNat < 16 →
      ∃ t, exec (.decisionPublish ch tn) s = .next t ∧ t.runs = (s.recordDecision ch tn L st).runs
        ∧ t.cap.times = s.cap.times ++ [(ch.val, L)]
        ∧ (w.getLsbD 8 = true → t.fld (aCruDec p) 31 16 = satAdd 16 (s.fld (aCruDec p) 31 16) 1
          ∧ t.fld (aCruDec p) 15 0 = satAdd 16 (s.fld (aCruDec p) 15 0) (if st = 3 then 1 else 0)
          ∧ (TaskInput.flag (w.setWidth 8), localEv (w.setWidth 8) L.stamp
            (BitVec.ofNat 16 (st + (if w.getLsbD 9 then 4 * tn.val else 0) + (if i.trunc then 128 else 0))) (y.hop + 1)
            (BitVec.ofNat 10 (0x80 + ch.val))) ∈ t.waiting)
        ∧ (w.getLsbD 8 = false → t.waiting = s.waiting ∧ t.regs = s.regs))
    ∧ (a.integrals.find? (fun i => i.tone == tn.val) = some i → alone → (i.classify = false ∨ y.damaged = true ∨ y.decided = true) →
      ∃ t, exec (.decisionPublish ch tn) s = .next t ∧ quietly t)
    ∧ (u.pending = some (k, l) → (k - s.now).toInt ≤ 0 → u.aheadPending = none → (l.map Prod.fst).Nodup → (∀ z ∈ l, z.1 < 512) →
      ∃ t, exec (.classifierCommitTick c) s = .next t ∧ t.cru c = { u with pending := none }
        ∧ (∀ z ∈ l, t.reg (aCruClsIn c (z.1 / 32) (z.1 / 8 % 4) (z.1 % 8)) = z.2) ∧ t = { s with crus := t.crus, regs := t.regs })
    ∧ (u.aheadPending = some (k, l) → (k - s.now).toInt ≤ 0 → u.pending = none →
      exec (.classifierCommitTick c) s = .next (s.setCru c
        { u with ahead := u.ahead ++ l.map (fun z => .write (0x2000 + 4 * z.1) z.2), aheadPending := none }))
    ∧ (s.cruLogical c = some ch.val → u.st ≠ .fault → 1 ≤ code.toNat → code.toNat ≤ 4 →
      (code = 1 → u.st = .executing ∨ u.st = .repeating) →
      ∃ t, exec (.crucibleFault c code) s = .next t
        ∧ t.cru c = { u with st := .fault, faultCode := code, rep := none, stopReq := none, beats := [] }
        ∧ (t.adcch ch).integrals = [] ∧ t.bit (aMldCruMap ch) 8 = true ∧ t.bit aMldAlert 4 = true
        ∧ t.fault = { s.fault with blocks := BitVec.ofNat 8 (satAdd 8 s.fault.blocks.toNat 1) }
        ∧ t.log = (s.logEvent 0x0013 code.toNat [BitVec.ofNat 8 ch, BitVec.ofNat 8 c]).log
        ∧ (u.beats = [] → ∀ z ∈ s.openWins c ch, z.closed = false →
          ∃ q ∈ (t.adcch ch).wins, q.tone = z.tone ∧ q.b0 = z.b0 ∧ q.damaged = true))
    ∧ (u.stopReq = some k → 20000 ≤ s.ticksSince k → u.st ≠ .repeating → s.cruLogical c = some ch.val →
      ∃ t, exec (.sequencerForcedStop c) s = .next t ∧ t.cru c = { u with st := .stopped, rep := none, stopReq := none, beats := [] }
        ∧ t.fld (aCruCnt c) 31 16 = satAdd 16 (s.fld (aCruCnt c) 31 16) u.beats.length ∧ (∀ d, d ≠ c.val → t.cru d = s.cru d))
    ∧ (u.stopReq = some k → u.st = .repeating → exec (.sequencerForcedStop c) s = .next s)

/-- R210: a round presents its events in ascending stamp, ties by ascending producer: the events are those of the round, each pair
of neighbours in order. -/
def Obligations.RoundsArePresentedInOrder : Prop :=
  ∀ (l : List Ev), (sortEvs l).Perm l
    ∧ ∀ (n : Nat) (a b : Ev), (sortEvs l)[n]? = some a → (sortEvs l)[n + 1]? = some b →
      sdiff a.stamp b.stamp < 0 ∨ (a.stamp = b.stamp ∧ a.producer.toNat ≤ b.producer.toNat)

/-- R61, R82, R89, R106, R141, R162, R208-R216: a round leaves its input with at most 7 of its oldest events and is presented to its
consumer: an engine's latch, a player, an ADC channel, a group, a relay, a flag, a TRIG output, the capture unit, the way to other
modules; a deferred notification, a timer, a TRIG input and a TRIG output act at their times. -/
def Obligations.SprueEventsReachTheirConsumers : Prop :=
  ∀ (s : State) (i : TaskInput) (n : Fin 8) (ch : BitVec 8) (k : Fin 16) (g : Fin 8) (rising : Bool) (v : Ev) (w : W64) (d : Tick)
    (r : List Tick) (e : Fin 128) (sw : SwapNow) (tone : Fin 1024) (c : Fin 32) (gr : Fin 16) (rl : Fin 64),
    Tbl.wf resetWord s.regs = true → Tbl.wf (fun _ => (⟨none⟩ : TimerRun)) s.timers = true →
    Tbl.wf (fun _ => TrigOut.init) s.pulses = true → Tbl.wf (fun _ => Engine.init) s.engines = true →
    let l := (s.atInput i).take n
    let u : State := { s with waiting := takeInput i n s.waiting }
    let cfg := s.reg (aSprTmrCfg k)
    let per := s.reg (aSprTmrPer k)
    let tick := localEv (cfg.setWidth 8) d.stamp (BitVec.ofNat 16 (fieldOf cfg 23 8)) 1 (BitVec.ofNat 10 (0xA0 + k.val))
    let q := s.reg (aSprTrig g)
    let p := Tbl.get s.pulses g TrigOut.init
    let gives := fun (j : TaskInput) (t : State) => i = j → l = [v] → exec (.sprueRound i n) s = .next t
    let x := s.tone tone
    let tgt := s.reg (aPlyJtgt (toneChan tone) (toneIdx tone) (v.payload.toNat % 4))
    let E := Tick.ofStamp s.now v.stamp + BitVec.ofNat 64 (s.fld (aPlyJcfg (toneChan tone) (toneIdx tone)) 31 16)
    let a := s.adcch c
    let at' := s.reg (aAdcTrig c)
    let T := Tick.ofStamp s.now v.stamp + BitVec.ofNat 64 (s.fld (aGrpStrb gr) 31 16)
    let rc := s.reg (aSprRlyCfg rl)
    let rd := s.reg (aSprRlyDly rl)
    let P := Tick.ofStamp s.now v.stamp + BitVec.ofNat 64 (fieldOf q 23 8)
    (l ≠ [] → exec (.sprueRound i n) s = .next (u.present i (sortEvs l)))
    ∧ (u.atInput i = (s.atInput i).drop n ∧ ∀ j, j ≠ i → u.atInput j = s.atInput j)
    ∧ ((s.eng e).swap = none → (s.eng e).wait = none → gives (.latch e ch) (u.setEng e ((s.eng e).deliver v false)))
    ∧ ((s.eng e).swap = some sw → gives (.latch e ch)
        ((u.setEng e { s.eng e with swap := some { sw with held := sw.held ++ [v] } }).count aSprCntB 15 8 1))
    ∧ (tgt.getLsbD 31 = true → 24 ≤ (E - s.now).toInt → x.jumps.length < 8 →
      gives (.player tone) (u.setTone tone { x with jumps := x.jumps ++ [⟨E, tgt.setWidth 20⟩] }))
    ∧ (tgt.getLsbD 31 = false → gives (.player tone) u)
    ∧ gives (.adcTrig c) (u.setAdcch c { a with starts := a.starts ++ [⟨Tick.ofStamp s.now v.stamp, BitVec.ofNat 8 (fieldOf at' 15 8),
        BitVec.ofNat 16 (fieldOf at' 31 16), v.hop, none⟩] })
    ∧ (24 ≤ (T - s.now).toInt → gives (.grpStrobe gr) (u.setGrp gr ((s.grp gr).request T none true false)))
    ∧ (rc.getLsbD 31 = true → gives (.relay rl) (u.publish (localEv (BitVec.ofNat 8 (fieldOf rc 15 8))
        (v.stamp + BitVec.ofNat 40 (fieldOf rd 15 0)) (if rc.getLsbD 30 then BitVec.ofNat 16 (fieldOf rd 31 16) else v.payload)
        (v.hop + 1) (BitVec.ofNat 10 (0xB0 + rl.val)))))
    ∧ (24 ≤ (P - s.now).toInt → gives (.trigOut g) { u with pulses := Tbl.put s.pulses g { p with due := p.due ++ [P] } TrigOut.init })
    ∧ gives (.flag ch) (u.raiseFlag v) ∧ gives .capTrig (u.capProposal v) ∧ gives (.sendOut ch) (u.exportEv v)
    ∧ (i = .flag ch → l ≠ [] → (∀ y ∈ l, y.ch = ch) →
      ∃ t, exec (.sprueRound i n) s = .next t ∧ t.bit (aSprFlag (ch.toNat / 32)) (ch.toNat % 32) = true)
    ∧ ((s.flagNote ch.toNat).deferred = some v → (s.flagNote ch.toNat).last = some w → 1000000 ≤ s.since w →
      exec (.flagNotifyDeferred ch) s = .next ((s.setFlagNote v.ch.toNat ⟨some s.mono, none⟩).notifyRole (s.chOwner v.ch.toNat) 3
        ([v.ch] ++ leBytes 5 v.stamp.toNat ++ leBytes 2 v.payload.toNat ++ leBytes 2 v.producer.toNat)))
    ∧ ((s.timer k).next = some d → (d - s.now).toInt ≤ 64 →
      ∃ t, exec (.timerPublish k) s = .next t ∧ (t.timer k).next = (if per = 0 then none else some (d + per.setWidth 64))
        ∧ t.fld (aSprTmrCnt k) 31 0 = satAdd 32 (s.fld (aSprTmrCnt k) 31 0) 1 ∧ (TaskInput.flag (cfg.setWidth 8), tick) ∈ t.waiting
        ∧ t = { s with timers := t.timers, regs := t.regs, waiting := t.waiting })
    ∧ (q.getLsbD 31 = true → q.getLsbD 30 = false → rising = !q.getLsbD 29 →
      exec (.trigInputEdge g rising) s = .next (s.publish (localEv (q.setWidth 8) s.now.stamp (BitVec.ofNat 16 g.val) 1
        (BitVec.ofNat 10 (0xF0 + g.val)))))
    ∧ (takeTick p.due = some (d, r) → 0 ≤ (s.now - d).toInt →
      (p.last = none ∨ ∃ u, p.last = some u ∧ 16 ≤ (d - u).toInt) →
      exec (.trigOutputPulse g) s = .next ({ s with pulses := Tbl.put s.pulses g { due := r, last := some d } TrigOut.init }.emit (.pulse g d)))
    ∧ (takeTick p.due = some (d, r) → 0 ≤ (s.now - d).toInt → (∃ u, p.last = some u ∧ (d - u).toInt < 16) →
      exec (.trigOutputPulse g) s = .next { s with pulses := Tbl.put s.pulses g { p with due := r } TrigOut.init })

/-- R228, R233, R235-R240, R250: a bring-up and a RESYNC go stage by stage on at least 8 of 9 lanes: a lane that fails is excluded and L8
takes its place, fewer than 8 lanes or the timeout put the port in FAILED, where it waits and starts again; MEASURE shows the delay
and sends ENABLE, and the port is ENABLED once the far end's has come. -/
def Obligations.RunnerBringUp : Prop :=
  ∀ (s : State) (p : Fin 8) (l : Fin 9) (o : StageObs) (n : Nat) (f : FrameIn), Tbl.wf resetWord s.regs = true →
    Tbl.wf (fun _ => Port.init) s.ports = true → Tbl.wf (fun _ => (0 : Nat)) (s.port p).search = true → s.cmk.abort = false →
    let x := s.port p
    let a := fun (l : Nat) => aRunLaneStat p l
    let st := aRunPortStat p
    let put := fun (y : Port) => s.setPort p y
    let tries := x.searching = true ∧ s.bit (aRunPortCtrl p) 2 = false ∧ s.bit (a l) 2 = false ∧ x.out.getLsbD l = false
    let slips := Tbl.get x.search l 0
    let outs := fun (m : BitVec 9) => (lanes9 (x.out ||| ~~~m)).length
    let step := fun (g : PortSt) (m : BitVec 9) (t : State) => exec (.bringupStagePass p o) s = .next t ∧ (t.port p).st = g
      ∧ (t.port p).out = x.out ||| ~~~m ∧ (t.port p).since = (if x.st = .resync then x.since else s.clock.link)
      ∧ (∀ k, k < 9 → x.out.getLsbD k = true ∨ m.getLsbD k = false → t.fld (a k) 11 8 = 0xF)
      ∧ (∀ q, q ≠ p.val → t.port q = s.port q)
      ∧ t = { s with regs := t.regs, ports := t.ports, waiting := t.waiting, cmk := t.cmk, sent := t.sent }
    let turn := fun (k : Nat) => laneInverted (o.bits.getD k 0)
    let turned := maskOf (fun k => (turn k).isSome)
    let deskewed := maskOf (fun k => decide (o.skew.getD k 33 ≤ 32))
    let good := ownIds (~~~x.out) o
    let ordered := maskOf (fun k => good.contains k)
    let far := match lanes9 (~~~x.out) with
      | [] => []
      | k :: _ => o.train.getD k []
    let fails := fun (c : Instr) => ∃ t, exec c s = .next t ∧ (t.port p).st = .failed ∧ (t.port p).fails = x.fails + 1
      ∧ (t.port p).since = s.clock.link ∧ (t.port p).queue = [] ∧ (t.port p).unacked = []
      ∧ t = { s with regs := t.regs, ports := t.ports, waiting := t.waiting, cmk := t.cmk, log := t.log, losses := t.losses, cap := t.cap }
    let measured := x.st = .measure ∧ 4096 ≤ x.measN ∧ x.sentEnable = false ∧ x.measMax.toNat < 2 ^ 24
    let ups := fun (t : State) => (t.port p).st = .enabled ∧ (t.port p).wasUp = true ∧ (t.port p).fails = 0
      ∧ (t.port p).since = s.clock.link
    let v := s.seeLine p f.line
    let hear := fun (t : State) => exec (.enableFrameReceive ⟨p, f⟩) s = .next t
    (tries → exec (.autoSlipStep p l true) s = .next (s.setBit (a l) 2 true))
    ∧ (tries → slips < 9 → exec (.autoSlipStep p l false) s
        = .next ((put { x with search := Tbl.put x.search l (slips + 1) 0 }).setFld (a l) 15 12 (min (s.fld (a l) 15 12 + 1) 15)))
    ∧ (tries → 9 ≤ slips → x.out = 0 → ∃ t, exec (.autoSlipStep p l false) s = .next t ∧ (t.port p).out.getLsbD l = true
        ∧ t.fld (a l) 11 8 = 0xF ∧ (t.port p).st = x.st ∧ t = { s with regs := t.regs, ports := t.ports })
    ∧ (tries → 9 ≤ slips → x.out ≠ 0 → fails (.autoSlipStep p l false))
    ∧ (x.st = .signal → outs o.signal ≤ 1 →
      ∃ t, step .polarity o.signal t ∧ ∀ k, k < 9 → t.bit (a k) 0 = o.signal.getLsbD k)
    ∧ (x.st = .signal → 2 ≤ outs o.signal → fails (.bringupStagePass p o))
    ∧ (x.st = .polarity → outs turned ≤ 1 → ∃ t, step .align turned t ∧ (∀ k, k < 9 → t.bit (a k) 1 = (turn k == some true))
        ∧ ∃ w, t.sent = .training p w :: s.sent ∧ w.length = 9)
    ∧ (x.st = .polarity → 2 ≤ outs turned → fails (.bringupStagePass p o))
    ∧ (x.st = .align → 8 ≤ (lanes9 (s.alignedLanes p)).length → ∃ t, step .laneOrder (s.alignedLanes p) t)
    ∧ ((x.st = .align ∨ (x.st = .resync ∧ x.resyncStage = 3)) → (lanes9 (s.alignedLanes p)).length < 8 →
      exec (.bringupStagePass p o) s = .next s)
    ∧ ((x.st = .laneOrder ∨ (x.st = .resync ∧ x.resyncStage = 4)) → orderFound good o = true →
      ∃ t, step (if x.st = .resync then .resync else .deskew) ordered t ∧ (x.st = .resync → (t.port p).resyncStage = 5)
        ∧ (∀ k ∈ good, trainId o k < 8 → t.fld (a k) 11 8 = trainId o k ∧ t.bit (a k) 3 = false)
        ∧ (∀ j, j < 8 → (∀ k ∈ good, trainId o k ≠ j) → t.bit st 15 = true ∧ t.fld st 18 16 = j
          ∧ ∀ k ∈ good, trainId o k = 8 → t.fld (a k) 11 8 = j)
        ∧ t.bit st 19 = (List.range 8).all (fun k => trainId o k == 7 - k)
        ∧ t.fld st 31 26 = (far.getD 2 0).toNat % 64 ∧ t.fld st 25 23 = (far.getD 3 0).toNat % 8
        ∧ t.bit st 11 = decide ((far.getD 4 0xFF).toNat < 8))
    ∧ ((x.st = .laneOrder ∨ (x.st = .resync ∧ x.resyncStage = 4)) → orderFound good o = false → fails (.bringupStagePass p o))
    ∧ (x.st = .deskew → outs deskewed ≤ 1 → ∃ t, step .measure deskewed t ∧ (t.port p).measN = 0 ∧ (t.port p).measBusy = true
        ∧ (∀ k, k < 9 → (x.out ||| ~~~deskewed).getLsbD k = false → t.fld (a k) 21 16 = o.skew.getD k 0)
        ∧ t.sent = .frame p (frameBytes 2 0 (Config.measBytes false 0 (s.portLatency p))) :: s.sent)
    ∧ ((x.st = .deskew ∨ (x.st = .resync ∧ 5 ≤ x.resyncStage)) → 2 ≤ outs deskewed → fails (.bringupStagePass p o))
    ∧ (x.st = .resync → x.resyncStage = 3 → 8 ≤ (lanes9 (s.alignedLanes p)).length →
      ∃ t, step .resync (s.alignedLanes p) t ∧ (t.port p).resyncStage = 4)
    ∧ (x.st = .resync → 5 ≤ x.resyncStage → outs deskewed ≤ 1 → x.wasUp = true →
      ∃ t, exec (.bringupStagePass p o) s = .next t
        ∧ (x.unacked = [] → ups t)
        ∧ (x.unacked ≠ [] → (t.port p).st = .stalled ∧ (t.port p).resentAfterResync = true
          ∧ (t.port p).unacked = x.unacked.map (fun i => { i with sent := s.clock.link, resends := i.resends + 1 })))
    ∧ (measured → ∃ t, exec (.bringupStagePass p o) s = .next t ∧ (t.port p).sentEnable = true ∧ (t.port p).measN = 0
        ∧ t.fld (aRunPortMeas p) 23 0 = x.measMax.toNat ∧ t.bit (aRunPortMeas p) 31 = true
        ∧ t.sent = .frame p (frameBytes 5 0 []) :: s.sent ∧ (x.gotEnable = false → (t.port p).st = .measure)
        ∧ (x.gotEnable = true → ups t))
    ∧ (x.st = .measure → (x.measN < 4096 ∨ x.sentEnable = true) → exec (.bringupStagePass p o) s = .next s)
    ∧ (x.hears = true → (v.port p).hears = true → frameKind f = some 5 → (v.port p).st = .measure → (v.port p).sentEnable = true →
      ∃ t, hear t ∧ (t.port p).st = .enabled ∧ (t.port p).gotEnable = true)
    ∧ (x.hears = true → (v.port p).hears = true → frameKind f = some 5 → ((v.port p).st = .measure → (v.port p).sentEnable = false) →
      hear (v.setPort p { v.port p with gotEnable := true }))
    ∧ (x.hears = true → (v.port p).hears = true → frameKind f ≠ some 5 → hear (v.count (aRunPortRxcnt p) 31 16 1))
    ∧ (x.hears = true → (v.port p).hears = false → hear v)
    ∧ (x.hears = false → hear s)
    ∧ (s.stageLimit p = some n → n ≤ (s.clock.link - x.since).toNat → fails (.bringupStageTimeout p))
    ∧ (x.st = .failed → s.bit (aRunPortCtrl p) 0 = true →
      (if x.fails ≤ 1 then 3200000 else if x.fails = 2 then 32000000 else 3200000000) ≤ (s.clock.link - x.since).toNat →
      ∃ t, exec (.bringupRestart p) s = .next t ∧ (t.port p).st = .signal ∧ (t.port p).fails = x.fails ∧ (t.port p).out = 0
        ∧ (t.port p).txSeq = 0 ∧ (t.port p).rxTop = 0 ∧ (t.port p).since = s.clock.link
        ∧ (∀ k, k < 9 → t.reg (a k) = 0xF00) ∧ t.sent = .rawPattern p rawPattern :: s.sent
        ∧ t = { s with regs := t.regs, ports := t.ports, waiting := t.waiting, cmk := t.cmk, sent := t.sent })

/-- R219, R222, R243-R248, R251, R252: blocks go ahead of waiting LOSS frames, in order, each with the next sequence number, and are held
until acknowledged; a block 2000 ticks past its use tick is a loss instead; what arrives damaged is counted and goes no further, a
number is taken once, a gap is known from a higher number, and a block goes on to another port or is delivered as a remote event; an
ACK says what has come and what is confirmed, a gap open for 10 µs and a LOSS frame are losses. -/
def Obligations.RunnerItemsAreSequenced : Prop :=
  ∀ (s : State) (p o : Fin 8) (d src : BitVec 6) (e : Ev) (via : Option Nat) (r r' : List TxBody) (q : BitVec 16) (c : Stamp) (b : BlockIn)
    (f : FrameIn) (hdr body check : List Byte) (g : Gap) (l : List Gap) (w64 : W64),
    Tbl.wf resetWord s.regs = true → Tbl.wf (fun _ => Port.init) s.ports = true → (∀ w, via = some w → w < 8) →
    let x := s.port p
    let send := fun (t : State) => exec (.blockTransmit p) s = .next t
    let isLoss := fun (y : TxBody) => ∃ c w, y = .loss c w
    let item : TxBody := .block d src e via
    let queued := x.queue = r ++ item :: r' ∧ ∀ y ∈ r, isLoss y
    let ready := x.st = .enabled ∧ x.unacked.length < 8192
    let sent := fun (y : TxBody) (left : List TxBody) => s.setPort p { x with
      queue := left
      txSeq := x.txSeq + 1
      unacked := x.unacked ++ [⟨x.txSeq, y, s.clock.link, s.clock.link, 0⟩] }
    let lost := fun (on : Nat) (C : Stamp) (past : Bool) (t : State) => t.fld (aRunPortCnt on) 7 0 = satAdd 8 (s.fld (aRunPortCnt on) 7 0) 1
      ∧ (∀ j, j < 8 → j ≠ on → (s.port j).st = .enabled → ∃ z, (t.port j).queue = z ++ [.loss C Config.moduleId])
      ∧ t.losses = s.losses ++ (if s.importEn on then [⟨on, C, past, none⟩] else [])
    let v := s.seeLine p b.line
    let y := v.port p
    let get := fun (t : State) => exec (.fastPathBlockReceive p b) s = .next t
    let hears := x.carries = true ∧ y.carries = true
    let come : Ev := ⟨e.ch, e.stamp, e.payload, e.hop + 1, 0x100 + src.setWidth 10, true, false, e.useLat⟩
    let is := b.bytes = blockBytes d src q e
    let passed := v.setPort p { y with rxTop := q + 1 }
    let inOrder := hears ∧ is ∧ q = y.rxTop
    let fv := s.seeLine p f.line
    let fy := fv.port p
    let a := ackOf f.body
    let acked := fy.unacked.filter (fun i => decide (seqDiff i.seq a.ackSeq > 0))
    let hearsAck := x.hears = true ∧ fy.carries = true ∧ frameKind f = some 1 ∧ 8 ≤ a.swapReq.toNat
    let lf : FrameIn := ⟨hdr, body, check, ⟨none, []⟩⟩
    let lv := s.seeLine p ⟨none, []⟩
    let ly := lv.port p
    let hearsLoss := x.hears = true ∧ ly.hears = true
    (ready → queued → sdiff s.now.stamp e.use ≤ 2000 →
      send ((sent item (r ++ r')).emit (.block p (blockBytes d src x.txSeq e))))
    ∧ (ready → x.queue = .loss c d :: r → (∀ y ∈ r, isLoss y) →
      send ((sent (.loss c d) r).emit (.frame p (frameBytes 4 x.txSeq (Config.lossBytes c d)))))
    ∧ (ready → queued → 2000 < sdiff s.now.stamp e.use → ∃ t, send t ∧ lost (via.getD p) (e.use - 1) true t
        ∧ (via = none → (t.port p).queue = r ++ r') ∧ (t.port p).unacked = x.unacked ∧ (t.port p).txSeq = x.txSeq ∧ t.sent = s.sent)
    ∧ ((¬ ready ∨ x.queue = []) → send s)
    ∧ (hears → (b.bytes.length ≠ 23 ∨ crc32c (b.bytes.take 19) ≠ leNat (slice b.bytes 19 4)) →
      get (v.count (aRunPortRxcnt p) 31 16 1))
    ∧ (hears → is → seqDiff q y.rxTop < 0 → (∀ g ∈ y.gaps, seqDiff q g.first < 0 ∨ 0 ≤ seqDiff q g.past) →
      get (v.count (aRunPortRxcnt p) 15 0 1))
    ∧ (inOrder → d = Config.moduleId → s.bit (aRunPortCtrl p) 1 = false → get (passed.count aRunFwd 15 0 1))
    ∧ (inOrder → d = Config.moduleId → s.bit (aRunPortCtrl p) 1 = true → e.ch.toNat < 240 → passed.bit (aSprCh e.ch.toNat) 31 = false →
      get (passed.count aSprRemote 7 0 1))
    ∧ (inOrder → d = Config.moduleId → s.bit (aRunPortCtrl p) 1 = true → e.ch.toNat < 240 → passed.bit (aSprCh e.ch.toNat) 31 = true →
      e.hop.toNat < 16 → ∃ t, get t ∧ (TaskInput.flag e.ch, { come with late := decide (sdiff e.use s.now.stamp < 0) }) ∈ t.waiting
        ∧ (t.port p).rxTop = q + 1)
    ∧ (inOrder → d ≠ Config.moduleId → passed.route d.toNat = some o.val → o ≠ p → e.hop.toNat < 16 →
      (passed.port o).carries = true → sdiff s.now.stamp e.use ≤ 2000 → ∃ t, get t ∧ (t.port p).forwards = true
        ∧ (t.port o).queue = (passed.port o).queue ++ [.block d src come (some p.val)] ∧ t.waiting = v.waiting)
    ∧ (inOrder → d ≠ Config.moduleId → (passed.route d.toNat = none ∨ passed.route d.toNat = some p.val) →
      get ((passed.count aRunFwd 31 16 1).lossOf (some p.val) come))
    ∧ (hears → is → 0 < seqDiff q y.rxTop → ∃ t, get t ∧ (t.port p).gaps = y.gaps ++ [⟨y.rxTop, q, s.clock.link, .unfilled⟩]
        ∧ (t.port p).rxTop = q + 1 ∧ (y.gaps = [] → (t.port p).rxNext = y.rxTop))
    ∧ (hears → is → seqDiff q y.rxTop < 0 → y.gaps = ⟨q, q + 1, w64, .lost⟩ :: l → (∀ g ∈ l, g.st ≠ .lost) →
      ∃ t, get t ∧ (t.port p).gaps = l ∧ ∀ z ∈ t.losses, z.port = p.val → z.done = true)
    ∧ (x.carries = false → get s)
    ∧ (x.carries = true → ∃ t w, exec (.runnerAckSend p) s = .next t ∧ t.sent = .frame p (frameBytes 1 0 (AckFrame.body w)) :: s.sent
        ∧ ackOf w.body = w ∧ w.ackSeq = x.rxNext - 1 ∧ w.txNext = x.txSeq
        ∧ w.swapReq = (match x.swapReq with | none => 0xFF | some k => k.setWidth 8)
        ∧ ((∀ j, j < 8 → (s.port j).st ≠ .enabled ∨ (s.importEn j = false ∧ (s.port j).forwards = false)) →
          w.conf = (s.now - 2000).stamp)
        ∧ (∀ j, j < 8 → fieldOf w.laneErr (4 * j + 3) (4 * j) = min 15 (((x.errs.filter (fun e => e.logical == j
            && decide ((s.clock.link - e.t).toNat < (s.clock.link - x.lastAck).toNat))).map (fun e => e.n)).sum))
        ∧ (t.port p).lastAck = s.clock.link ∧ (t.port p).swapReq = none ∧ (t.port p).unacked = x.unacked
        ∧ t = { s with ports := t.ports, sent := t.sent })
    ∧ (hearsAck → fy.st ≠ .stalled → seqDiff a.txNext fy.rxTop ≤ 0 → fy.gapHolds = false →
      ∃ t, exec (.runnerAckReceive p f) s = .next t ∧ (t.port p).unacked = acked ∧ (t.port p).conf = a.conf ∧ (t.port p).st = fy.st
        ∧ t = { fv with ports := t.ports, losses := t.losses })
    ∧ (hearsAck → fy.st ≠ .stalled → (0 < seqDiff a.txNext fy.rxTop ∨ fy.gapHolds = true) →
      ∃ t, exec (.runnerAckReceive p f) s = .next t ∧ (t.port p).unacked = acked ∧ (t.port p).conf = fy.conf
        ∧ (t.port p).gaps = fy.gaps ++ (if 0 < seqDiff a.txNext fy.rxTop then [⟨fy.rxTop, a.txNext, s.clock.link, .unfilled⟩] else []))
    ∧ (hearsAck → fy.st = .stalled → acked = [] → ∃ t, exec (.runnerAckReceive p f) s = .next t ∧ (t.port p).st = .enabled
        ∧ (t.port p).unacked = [])
    ∧ (x.hears = true → fy.hears = true → frameKind f ≠ some 1 →
      exec (.runnerAckReceive p f) s = .next (fv.count (aRunPortRxcnt p) 31 16 1))
    ∧ (x.carries = true → x.gaps = g :: l → g.st = .unfilled → 32000 ≤ (s.clock.link - g.known).toNat →
      (∀ h ∈ l, h.known ≠ g.known) →
      ∃ t, exec (.gapTimeout p) s = .next t ∧ (t.port p).gaps = { g with st := .lost } :: l ∧ lost p x.conf false t
        ∧ (t.port p).conf = x.conf ∧ t.log = (s.logEvent 0x0020 0x0001 (leBytes 1 p ++ leBytes 5 x.conf.toNat)).log
        ∧ t = { s with ports := t.ports, regs := t.regs, log := t.log, losses := t.losses, cap := t.cap })
    ∧ (x.carries = true → (∀ h ∈ x.gaps, h.st = .unfilled → (s.clock.link - h.known).toNat < 32000) → exec (.gapTimeout p) s = .next s)
    ∧ (hearsLoss → frameKind lf = some 4 → frameSeq lf = ly.rxTop →
      ∃ t, exec (.lossFrameReceive p hdr body check) s = .next t ∧ (t.port p).rxTop = ly.rxTop + 1
        ∧ t.fld (aRunPortCnt p) 7 0 = satAdd 8 (lv.fld (aRunPortCnt p) 7 0) 1
        ∧ (∀ j, j < 8 → j ≠ p.val → (lv.port j).st = .enabled →
          (t.port j).queue = (lv.port j).queue ++ [.loss (stampMin (Config.lossOf body).1 ly.conf) Config.moduleId])
        ∧ t = { lv with ports := t.ports, regs := t.regs, log := t.log, losses := t.losses, cap := t.cap })
    ∧ (hearsLoss → frameKind lf ≠ some 4 →
      exec (.lossFrameReceive p hdr body check) s = .next (lv.count (aRunPortRxcnt p) 31 16 1))

/-- R228-R231, R233, R238, R239, R245, R249, R250, R411: an item overdue for 2 µs moves the worst lane to L8 or resynchronises and has all
resent, and after that fails the port; elastic buffers that run empty or full resynchronise it; a lost lane, or 8 code errors in 1 µs,
asks for L8 or fails, and a lane with more than 1 code error per 10^11 symbols over 1 h asks for it; code errors are counted and a lane seen on L8 is taken from there; round trips give the delay, shown each second. -/
def Obligations.RunnerLinkFaults : Prop :=
  ∀ (s : State) (p : Fin 8) (l : Fin 9) (i : TxItem) (r : List TxItem) (o : LineObs) (n m k N : Nat) (id : Byte) (f : FrameIn) (g : MeasIn)
    (w : W64), Tbl.wf resetWord s.regs = true → Tbl.wf (fun _ => Port.init) s.ports = true → s.cmk.abort = false →
    let x := s.port p
    let st := aRunPortStat p
    let a := fun (l : Nat) => aRunLaneStat p l
    let cnt := fun (t : State) (hi lo d : Nat) => t.fld (aRunPortCnt p) hi lo = satAdd 8 (s.fld (aRunPortCnt p) hi lo) d
    let overdue := x.unacked = i :: r ∧ ∃ j ∈ x.unacked, 6400 ≤ (s.clock.link - j.sent).toNat
    let swapped := ∃ w, x.swapAt = some w ∧ 0 ≤ (w - i.first).toInt
    let late := fun (t : State) => exec (.ackOverdue p) s = .next t
    let resent := fun (t : State) => (t.port p).st = .stalled
      ∧ (t.port p).unacked = x.unacked.map (fun i => { i with sent := s.clock.link, resends := i.resends + 1 }) ∧ cnt t 31 24 1
    let resyncs := fun (t : State) => (t.port p).st = .resync ∧ (t.port p).resyncStage = 3 ∧ (t.port p).unacked = x.unacked
      ∧ (t.port p).since = s.clock.link ∧ cnt t 15 8 1 ∧ ∀ j, j < 9 → t.bit (a j) 2 = false
    let failed := fun (t : State) => (t.port p).st = .failed ∧ (t.port p).unacked = [] ∧ (t.port p).fails = x.fails + 1
      ∧ (s.cmk.running = none → s.importEn p = true → ⟨p, x.conf, false, none⟩ ∈ t.losses)
    let damaged := fun (t : State) => exec (.fastPathBlockReceive p ⟨[], o⟩) s = .next t
    let K := s.laneLogical p l
    let onlyErr := x.carries = true ∧ x.errs = [] ∧ x.hour = [] ∧ o.l8 = none ∧ o.errs = [(l, n, m)]
    let worn := x.carries = true ∧ x.errs = [] ∧ o.l8 = none ∧ o.errs = [(l, n, m)] ∧ n + m < 8 ∧ x.hour = [(w, l.val, N)]
      ∧ s.since w ≤ 3600000000000 ∧ 115 < N + (n + m) ∧ K < 8
    let asksL8 := fun (t : State) => (t.port p).st = x.st ∧ t.bit (a l) 3 = true
      ∧ (t.port p).swapReq = some (BitVec.ofNat 3 K) ∧ (t.port p).swapWant = some K
    let lost := fun (t : State) => exec (.laneSignalLost p l false) s = .next t
    let fv := s.seeLine p f.line
    let ack := fun (t : State) => exec (.runnerAckReceive p f) s = .next t
    let moves := x.hears = true ∧ fv = s ∧ frameKind f = some 1 ∧ x.carries = true ∧ (ackOf f.body).swapReq.toNat = k ∧ k < 8
      ∧ (x.st ≠ .stalled ∨ x.unacked ≠ [] ∧ ∀ j ∈ x.unacked, 0 < seqDiff j.seq (ackOf f.body).ackSeq)
    let gv := s.seeLine p g.frame.line
    let gx := gv.port p
    let M := Config.measOf g.frame.body
    let meas := fun (t : State) => exec (.measFrameReceive p g) s = .next t
    let heard := x.hears = true ∧ gx.hears = true ∧ frameKind g.frame = some 2
    let sample := ratio (g.trip - M.2.1 + M.2.2) 2
    let D := x.measMax.toNat
    let acc := s.fld (aRunPortDacc p) 23 0
    let changed := acc ≠ 0 ∧ 5000 < ((D : Int) - acc).natAbs
    (overdue → x.st = .enabled → ¬ swapped → x.worstLane s.clock.link = none → ∃ t, late t ∧ resyncs t ∧ cnt t 31 24 1)
    ∧ (overdue → x.st = .enabled → ¬ swapped → x.worstLane s.clock.link = some k → s.bit st 11 = false →
      ∃ t, late t ∧ resent t ∧ t.bit st 11 = true ∧ t.fld st 14 12 = k ∧ t.bit st 21 = true ∧ cnt t 23 16 1
        ∧ ∃ q, t.sent = q ++ .filler p (t.fillerSeq p) :: s.sent)
    ∧ (overdue → x.st = .enabled → ¬ swapped → x.worstLane s.clock.link = some k → s.bit st 11 = true → ∃ t, late t ∧ failed t)
    ∧ (overdue → x.st = .enabled → swapped → ∃ t, late t ∧ resent t ∧ t.fld (aRunPortCnt p) 23 16 = s.fld (aRunPortCnt p) 23 16)
    ∧ (overdue → x.st = .stalled → x.resentAfterResync = false → ∃ t, late t ∧ resyncs t)
    ∧ (overdue → x.st = .stalled → x.resentAfterResync = true → ∃ t, late t ∧ failed t)
    ∧ ((∀ j ∈ x.unacked, (s.clock.link - j.sent).toNat < 6400) → late s)
    ∧ (x.worstLane s.clock.link = some k → k < 8 ∧ 0 < x.errSum s.clock.link k
        ∧ ∀ j, j < 8 → x.errSum s.clock.link j ≤ x.errSum s.clock.link k)
    ∧ (x.buffers = true → (x.fill = 0 ∨ 32 ≤ x.fill) → ∃ t, exec (.elasticBufferFault p) s = .next t ∧ resyncs t
        ∧ (t.port p).fill = 16 ∧ ∀ j, j < 9 → t.fld (aRunLaneErr p j) 31 16 = satAdd 16 (s.fld (aRunLaneErr p j) 31 16) 1)
    ∧ (x.buffers = true → 0 < x.fill → x.fill < 32 → exec (.elasticBufferFault p) s = .next s)
    ∧ (onlyErr → n + m < 8 → ∃ t, damaged t ∧ (t.port p).st = x.st ∧ (t.port p).errs = [⟨s.clock.link, l, K, n + m⟩]
        ∧ t.fld (aRunLaneErr p l) 31 16 = satAdd 16 (s.fld (aRunLaneErr p l) 31 16) n
        ∧ t.fld (aRunLaneErr p l) 15 0 = satAdd 16 (s.fld (aRunLaneErr p l) 15 0) m
        ∧ t.fld (aRunPortRxcnt p) 31 16 = satAdd 16 (s.fld (aRunPortRxcnt p) 31 16) 1 ∧ t = { s with ports := t.ports, regs := t.regs })
    ∧ (onlyErr → 8 ≤ n + m → s.bit (a l) 3 = false → K < 8 → s.rxSpareFree p = true → ∃ t, damaged t ∧ asksL8 t)
    ∧ (onlyErr → 8 ≤ n + m → s.bit (a l) 3 = false → K < 8 → s.rxSpareFree p = false → x.swapWant ≠ some K →
      ∃ t, damaged t ∧ failed t)
    ∧ (worn → s.rxSpareFree p = true → ∃ t, damaged t ∧ (t.port p).st = x.st ∧ t.bit (a l) 3 = s.bit (a l) 3
        ∧ (t.port p).swapReq = some (BitVec.ofNat 3 K) ∧ (t.port p).swapWant = some K)
    ∧ (worn → s.rxSpareFree p = false → x.swapWant ≠ some K → ∃ t, damaged t ∧ (t.port p).st = x.st ∧ (t.port p).swapWant = x.swapWant
        ∧ t.bit aMldAlert 5 = true)
    ∧ (x.carries = true → o.errs = [] → x.errs = [] → o.l8 = some id → id.toNat = 0xA0 + k → k < 8 → s.laneLogical p 8 = 8 →
      ∃ t, damaged t ∧ t.laneLogical p 8 = k ∧ (∀ j, j < 8 → s.laneLogical p j = k → t.laneLogical p j = 0xF)
        ∧ (t.port p).swapWant = none
        ∧ t.bit st 15 = true ∧ t.fld st 18 16 = k ∧ t.bit st 21 = true ∧ cnt t 23 16 1)
    ∧ ((x.st = .off ∨ x.st = .failed) → exec (.laneSignalLost p l true) s = .next s ∧ lost s)
    ∧ (x.st ≠ .off → x.st ≠ .failed → ∃ t, exec (.laneSignalLost p l true) s = .next t ∧ (t.port p).st = .signal
        ∧ (t.port p).fails = x.fails + (if x.carries then 1 else 0)
        ∧ (s.cmk.running = none → ∀ j, j < 9 → t.reg (a j) = 0xF00))
    ∧ (x.carries = true → K < 8 → s.rxSpareFree p = true → ∃ t, lost t ∧ asksL8 t ∧ t.bit (a l) 0 = false)
    ∧ (x.carries = true → K < 8 → s.rxSpareFree p = false → x.swapWant ≠ some K → ∃ t, lost t ∧ failed t)
    ∧ (x.carries = false → x.st ≠ .off → x.st ≠ .failed → (x.out = 0 ∨ x.out = 1#9 <<< l.val) →
      ∃ t, lost t ∧ (t.port p).st = x.st ∧ (t.port p).out = 1#9 <<< l.val ∧ t.fld (a l) 11 8 = 0xF)
    ∧ (x.carries = false → x.st ≠ .off → x.st ≠ .failed → x.out ≠ 0 → x.out.getLsbD l = false →
      ∃ t, lost t ∧ (t.port p).st = .failed)
    ∧ (moves → s.bit st 11 = false → ∃ t, ack t ∧ t.bit st 11 = true ∧ t.fld st 14 12 = k ∧ cnt t 23 16 1 ∧ (t.port p).st = x.st
        ∧ t.sent = .filler p (t.fillerSeq p) :: s.sent)
    ∧ (moves → s.bit st 11 = true → s.fld st 14 12 ≠ k → ∃ t, ack t ∧ (t.port p).st = .failed)
    ∧ (moves → s.bit st 11 = true → s.fld st 14 12 = k → ∃ t, ack t ∧ (t.port p).st = x.st ∧ t.sent = s.sent)
    ∧ (heard → M.1 = false → meas (gv.emit (.frame p (frameBytes 2 0 (Config.measBytes true (Config.turnaround p)
        (if Config.ownLess then gv.portLatency p - M.2.2 else M.2.2 - gv.portLatency p))))))
    ∧ (heard → M.1 = true → gx.measBusy = true → ∃ t, meas t ∧ (t.port p).measN = gx.measN + 1
        ∧ (t.port p).measMax = (if gx.measN = 0 then sample else max gx.measMax sample) ∧ (t.port p).measBusy = decide (gx.measN + 1 < 4096)
        ∧ t.sent = (if gx.measN + 1 < 4096 then [.frame p (frameBytes 2 0 (Config.measBytes false 0 (s.portLatency p)))] else []) ++ gv.sent
        ∧ t = { gv with ports := t.ports, sent := t.sent })
    ∧ (heard → M.1 = true → gx.measBusy = false → meas gv)
    ∧ (x.hears = true → gx.hears = true → frameKind g.frame ≠ some 2 → meas (gv.count (aRunPortRxcnt p) 31 16 1))
    ∧ (x.st = .enabled → 4096 ≤ x.measN → 3200000000 ≤ (s.clock.link - x.measAt).toNat → D < 2 ^ 24 →
      ∃ t, exec (.measUpdate p) s = .next t ∧ t.fld (aRunPortMeas p) 23 0 = D ∧ t.bit (aRunPortMeas p) 31 = true ∧ (t.port p).measN = 0
        ∧ (t.port p).measBusy = true ∧ (t.port p).st = .enabled
        ∧ (changed → t.bit st 22 = true ∧ t.bit aMldAlert 7 = true)
        ∧ (¬ changed → t.bit st 22 = s.bit st 22 ∧ t.reg aMldAlert = s.reg aMldAlert ∧ t.log = s.log)
        ∧ t = { s with ports := t.ports, regs := t.regs, sent := t.sent, log := t.log })
    ∧ ((x.st ≠ .enabled ∨ x.measN < 4096 ∨ (s.clock.link - x.measAt).toNat < 3200000000) → exec (.measUpdate p) s = .next s)

/-- R123, R258-R268: a follower asks on its upstream port and an adopting root on every ENABLED one; root and follower answer with
their own times; a reply in time gives offset and delay, and the offset acquires, slews, locks or makes a step due, which R258 allows
once; the step moves the counter by whole ticks and the phase by the rest, re-seeds every tone and publishes; a lost upstream, REFIN or
PLL puts a follower on its backup or in HOLDOVER; adoption and the hold limit end. -/
def Obligations.CastTimeFollowsItsUpstream : Prop :=
  ∀ (s : State) (p : Fin 8) (f : FrameIn) (t2 t4 : BitVec 16) (t3 : FineTick) (rq : Nat × Byte × FineTick × W64) (m : Int) (w : W64),
    Tbl.wf resetWord s.regs = true → Tbl.wf (fun _ => Tone.init) s.tones = true → Tbl.wf (fun _ => peer0) s.cast.peers = true →
    let c := s.cast
    let role := s.castRole
    let asked := fun (q : Nat) (g : TimeFrame) => g.reply = false ∧ g.depth = s.castDepth ∧ g.unlocked = s.castUnlocked
      ∧ g.holdover = (c.st == .holdover) ∧ g.t1 = s.now.stamp ∧ g.t1fine.toNat < 64000 ∧ q < 8
    let request := fun (t : State) => exec .timeRequestSend s = .next t
    let v := s.seeLine p f.line
    let F := timeOf f.body
    let heard := (s.port p).hears = true ∧ frameKind f = some 3 ∧ (v.port p).st = .enabled
    let n := v.noteTime p F
    let answers := n.castRole = 1 ∨ (n.castRole = 2 ∧ p.val ≠ n.castPort)
    let receive := fun (t : State) => exec (.timeRequestReceive p f t2 t3) s = .next t
    let reply := fun (t : State) => exec (.timeReplyReceive p f t4) s = .next t
    let now4 : FineTick := ⟨s.now, t4⟩
    let theta := n.thetaOf p F now4
    let match' := n.cast.reqs.find? (fun r => r.1 == p.val && r.2.1 == F.seq && r.2.2.1.tick.stamp == F.t1) = some rq ∧ s.since rq.2.2.2 ≤ 1000000
    let used := heard ∧ F.reply = true ∧ match'
    let c0 : CastSync := { n.cast with
      reqs := n.cast.reqs.filter (fun r => !(r.1 == p.val && r.2.1 == F.seq))
      lastReply := s.mono
      delay := delayOf F now4 }
    let c1 : CastSync := { c0 with samples := (theta :: n.cast.samples).take 64 }
    let gives := fun (c' : CastSync) => ∃ t, reply t ∧ t.cast = c' ∧ t = { n with cast := c', runs := t.runs, dues := t.dues }
    let follows := used ∧ n.castRole = 2 ∧ p.val = n.castPort
    let med := medianInt (theta :: n.cast.acq)
    let deciding := follows ∧ n.cast.st = .acquiring ∧ n.cast.stepDue = none ∧ 64 ≤ n.cast.acq.length + 1
    let returning := follows ∧ n.cast.st = .holdover ∧ n.cast.cause ≠ 2 ∧ n.cast.refinOk = true ∧ n.cast.pllLock = true
    let c2 : CastSync := { c1 with servo := n.cast.servo.sample (n.reg aTimSrvCast) (2 ^ 40) 10000000 theta }
    let mean := c1.samples.sum
    let whole := c1.samples.length = 64
    let adopts := used ∧ n.castRole = 1 ∧ F.unlocked = false ∧ n.cast.st = .adopting ∧ n.cast.stepDue = none
    let noted := fun (c : Instr) (c' : CastSync) => ∃ t, exec c s = .next t ∧ t.cast = c'
      ∧ t = { s with cast := c', runs := t.runs, dues := t.dues, log := t.log }
    let lostUp := role = 2 ∧ (c.st = .locked ∨ c.st = .slewing ∨ c.st = .acquiring)
      ∧ (s.portUp s.castPort = false ∨ 10000000 < s.since c.lastReply)
    let since := some (c.holdSince.getD s.mono)
    let base : BitVec 4 := if c.refinOk then (if c.pllLock then 0 else 4) else 3
    let held := fun (k : BitVec 4) (c : CastSync) =>
      { c with st := .holdover, cause := k, holdSince := since, acq := [], stepDue := none }
    (role = 2 → (c.st ≠ .holdover ∨ c.onBackup = false) → s.portUp s.castPort = true → ∃ t g, request t ∧ asked s.castPort g ∧ g.seq = c.reqSeq
        ∧ t.sent = .frame s.castPort (frameBytes 3 0 g.body) :: s.sent ∧ timeOf g.body = g ∧ t.cast.reqSeq = c.reqSeq + 1
        ∧ (s.castPort, c.reqSeq, ⟨s.now, g.t1fine⟩, s.mono) ∈ t.cast.reqs ∧ t = { s with cast := t.cast, sent := t.sent, free := t.free })
    ∧ (role = 2 → c.st = .holdover → c.onBackup = true → s.portUp (s.fld aTimCastCfg 10 8) = true → ∃ t g, request t ∧ t.cast.onBackup = false
        ∧ t.cast.acq = [] ∧ t.sent = .frame (s.fld aTimCastCfg 10 8) (frameBytes 3 0 (TimeFrame.body g)) :: s.sent)
    ∧ (role = 2 → c.st ≠ .holdover → s.portUp s.castPort = false → request s)
    ∧ (role = 1 → c.st = .adopting → ∃ t, request t ∧ (∀ q, q < 8 → s.portUp q = true → ∃ g, asked q g
          ∧ .frame q (frameBytes 3 0 (TimeFrame.body g)) ∈ t.sent) ∧ t = { s with cast := t.cast, sent := t.sent, free := t.free })
    ∧ (role ≠ 2 → (role ≠ 1 ∨ c.st ≠ .adopting) → request s)
    ∧ (heard → F.reply = false → answers → ∃ g, receive (n.emit (.frame p (frameBytes 3 0 (TimeFrame.body g)))) ∧ timeOf g.body = g
        ∧ g.reply = true ∧ g.seq = F.seq ∧ g.t1 = F.t1 ∧ g.t1fine = F.t1fine ∧ g.t2 = s.now.stamp ∧ g.t2fine = t2
        ∧ g.t3 = s.now + t3.tick ∧ g.t3fine = t3.fine ∧ g.depth = n.castDepth ∧ g.unlocked = n.castUnlocked ∧ (n.castRole = 1 → g.depth = 0))
    ∧ (heard → F.reply = false → ¬ answers → receive n)
    ∧ (heard → F.reply = true → receive v)
    ∧ (n.peer p = (F.unlocked, F.depth) ∧ (∀ q, q ≠ p.val → n.peer q = v.peer q)
        ∧ (v.castRole = 2 → p.val = v.castPort → n.cast.upUnlocked = F.unlocked ∧ (F.depth ≠ 0x3F → n.castDepth = F.depth + 1)))
    ∧ ((s.port p).hears = true → (v.port p).hears = true → frameKind f ≠ some 3 →
      receive (v.count (aRunPortRxcnt p) 31 16 1) ∧ reply (v.count (aRunPortRxcnt p) 31 16 1))
    ∧ (heard → F.reply = true → (∀ r ∈ n.cast.reqs, ¬ (r.1 = p.val ∧ r.2.1 = F.seq ∧ r.2.2.1.tick.stamp = F.t1)) → reply n)
    ∧ (heard → F.reply = true → n.cast.reqs.find? (fun r => r.1 == p.val && r.2.1 == F.seq && r.2.2.1.tick.stamp == F.t1) = some rq →
      1000000 < s.since rq.2.2.2 → reply n)
    ∧ (follows → n.cast.st = .acquiring → n.cast.stepDue = none → n.cast.acq.length + 1 < 64 →
      gives { c1 with acq := theta :: n.cast.acq })
    ∧ (returning → n.cast.acq.length + 1 < 64 → gives { c1 with acq := theta :: n.cast.acq })
    ∧ (follows → n.cast.st = .holdover → (n.cast.cause = 2 ∨ n.cast.refinOk = false ∨ n.cast.pllLock = false) → gives c1)
    ∧ (deciding → med.natAbs ≤ 100 → gives { c1 with st := .slewing, acq := [] })
    ∧ (deciding → 100 < med.natAbs → n.cast.moved = false ∨ n.cast.mayStep = true → gives { c1 with acq := [], stepDue := some med })
    ∧ (deciding → 100 < med.natAbs → n.cast.moved = true → n.cast.mayStep = false →
      gives { c1 with st := .holdover, acq := [], cause := 2 })
    ∧ (follows → n.cast.st = .slewing → whole → mean.natAbs ≤ 20 * 64 → gives { c2 with st := .locked })
    ∧ (follows → n.cast.st = .slewing → ¬ (whole ∧ mean.natAbs ≤ 20 * 64) → gives c2)
    ∧ (follows → n.cast.st = .locked → whole → 100 * 64 < mean.natAbs → gives { c2 with st := .slewing })
    ∧ (follows → n.cast.st = .locked → ¬ (whole ∧ 100 * 64 < mean.natAbs) → gives c2)
    ∧ (returning → 64 ≤ n.cast.acq.length + 1 → med.natAbs ≤ 1000000 →
      gives { c1 with st := .slewing, acq := [], cause := 0, holdSince := none })
    ∧ (returning → 64 ≤ n.cast.acq.length + 1 → 1000000 < med.natAbs → gives { c1 with acq := [], cause := 2 })
    ∧ (adopts → theta.natAbs ≤ 100 → gives { c0 with st := .locked })
    ∧ (adopts → 100 < theta.natAbs → n.cast.moved = false ∨ n.cast.mayStep = true → gives { c0 with stepDue := some theta })
    ∧ (c.stepDue = some m → s.runningRuns = 0 →
      ∃ t, exec .castStep s = .next t ∧ t.clock.cast = s.clock.cast + BitVec.ofInt 64 ((-m).tdiv 500)
        ∧ t.clock.castPhase = s.clock.castPhase + (-m).tmod 500 ∧ t.clock.mono = s.clock.mono ∧ t.clock.sys = s.clock.sys
        ∧ t.clock.link = s.clock.link ∧ t.cast.stepDue = none ∧ t.cast.moved = true ∧ t.cast.mayStep = false
        ∧ t.bit aTimCastStat 21 = true ∧ t.cast.st = (if role = 1 then .locked else .slewing)
        ∧ (∀ k, k < 1024 → (t.tone k).seedTick = t.clock.cast)
        ∧ (TaskInput.flag 245, localEv 245 t.clock.cast.stamp 0 1 0x0F9) ∈ t.waiting)
    ∧ ((c.stepDue = none ∨ s.runningRuns ≠ 0) → exec .castStep s = .next s)
    ∧ (lostUp → c.onBackup = false → s.backupUsable = true → noted .castHoldoverEntry { c with
        onBackup := true
        st := .slewing
        acq := []
        stepDue := none
        lastReply := s.mono
        upUnlocked := false })
    ∧ (lostUp → (c.onBackup = true ∨ s.backupUsable = false) → noted .castHoldoverEntry (held (if base = 0 then 1 else base) c))
    ∧ (role = 2 → s.portUp s.castPort = true → s.since c.lastReply ≤ 10000000 → exec .castHoldoverEntry s = .next s)
    ∧ (c.refinOk = true → role = 2 → noted .refinLost (held 3 { c with refinOk := false }))
    ∧ (c.refinOk = true → role ≠ 2 → noted .refinLost { c with refinOk := false, cause := 3 })
    ∧ (c.pllLock = true → role = 2 → noted .pllUnlock (held 4 { c with pllLock := false }))
    ∧ (c.pllLock = true → role ≠ 2 → noted .pllUnlock { c with pllLock := false, cause := 4 })
    ∧ ((c.refinOk = false → exec .refinLost s = .next s) ∧ (c.pllLock = false → exec .pllUnlock s = .next s))
    ∧ (role = 1 → c.st = .adopting → c.stepDue = none → 50000000 ≤ s.since c.adoptSince →
      noted .adoptionWindowEnd { c with st := .locked })
    ∧ (c.st = .holdover → c.holdSince = some w → s.fld aTimCastHold 15 0 * 1000000 < s.since w →
      exec .holdLimitExceeded s = .next (s.condInFlight .timeUnlocked) ∧ s.castUnlocked = true)

/-- R207, R258, R259, R270-R275, R304: a Sync on the SLAVE port steps TB_SYS once and then drives its servo, or is a discontinuity after
a holdover; Delay_Req and Delay_Resp give the path delay, Announce the best master, whose loss or change is a holdover; timestamps
queue; each TAI second is marked at its tick; the chain forwards what is addressed to neither port; in host mode PTP frames go to
host software. -/
def Obligations.TaiTimeFollowsItsMaster : Prop :=
  ∀ (s : State) (p : Fin 2) (m : PtpSync) (frame : List Byte) (id : BitVec 16) (t4 corr t1 t2 c d k : Int) (n o : Announce) (f : EthFrame)
    (w : W64) (r : Int), Tbl.wf resetWord s.regs = true → Tbl.wf (fun _ => (none : Option (Announce × W64))) s.sys.masters = true →
    let y := s.sys
    let on := fun (dom : Nat) => s.ptpOn p dom = true
    let mine := s.fld aTimSysCfg 31 24
    let slave := y.slavePort = some p.val ∧ s.hostMode = false
    let theta := m.t2 - m.t1 - m.corr - d
    let synced := on m.domain.toNat ∧ slave ∧ y.pathDelay = some d
    let sets := fun (c : Instr) (y' : SysSync) => exec c s = .next { s with sys := y' }
    let y1 : SysSync := { y with sync := some (m.t1, m.t2, m.corr), ofs := theta }
    let recent := (theta :: y.recent).take 16
    let settled := recent.length = 16 ∧ ∀ x ∈ recent, x.natAbs ≤ 50000
    let lost := fun (y : SysSync) (cause : BitVec 4) => { y with
      st := .holdover
      cause := cause
      holdSince := some (y.holdSince.getD s.mono)
      recent := []
      sync := none
      dreq := none
      pathDelay := none }
    let interval := if 0 ≤ n.logInterval then 3000000000 * 2 ^ n.logInterval.toNat else 3000000000 / 2 ^ (-n.logInterval).toNat
    let heard := on n.domain.toNat ∧ s.hostMode = false ∧ n.steps.toNat < 255
    let before := fun (a b : Announce) => lexLt (announceOrder a) (announceOrder b) = true
    let queue := Tbl.get s.txq p.val []
    let asks := on mine ∧ slave
    let sec := s.clock.sys.toNat / 1000000000
    let ago := (s.clock.sysFrac ++ s.clock.sysLow).toNat * 1000 / 2 ^ 41
    let forwards := s.bit aTimSysCfg 14 = true ∧ 8 ≤ s.boot.stage ∧ s.boot.ingot = false ∧ f.dst ≠ s.portMac 0 ∧ f.dst ≠ s.portMac 1
    (synced → (y.stepped = false ∨ y.stepArmed = true) →
      ∃ t, exec (.ptpSync p m frame) s = .next t ∧ t.sys.stepped = true ∧ t.sys.stepArmed = false ∧ t.sys.ofs = theta
        ∧ t.clock.sysUnits % 2 ^ 105 = (s.clock.sysUnits - theta * 2 ^ 41 / 1000) % 2 ^ 105
        ∧ t.clock = { s.clock with sys := t.clock.sys, sysFrac := t.clock.sysFrac, sysLow := t.clock.sysLow }
        ∧ t.sys.st = .uncalibrated ∧ t.sys.steps.toNat = satAdd 16 y.steps.toNat 1
        ∧ (s.logTaken < 1000 → t.log.pend = s.log.pend ++ [⟨0x000B, 3, 0, t.clock.sys, s.mono, 0, 0,
          leBytes 2 3 ++ leBytes 2 2 ++ leBytes 8 (BitVec.ofInt 64 theta).toNat⟩])
        ∧ t = { s with sys := t.sys, clock := t.clock, log := t.log })
    ∧ (synced → y.stepped = true → y.stepArmed = false → y.st = .holdover → 1000000000 < theta.natAbs →
      sets (.ptpSync p m frame) { y1 with cause := 3 })
    ∧ (synced → y.stepped = true → y.stepArmed = false → (y.st = .holdover → theta.natAbs ≤ 1000000000) →
      ∃ st, sets (.ptpSync p m frame) { y1 with
        servo := y.servo.sample (s.reg aTimSrvSys) (5 * 2 ^ 40) 10000 theta
        recent := recent
        st := st
        cause := 0
        holdSince := none } ∧ (settled → st = .locked) ∧ (¬ settled → st = .uncalibrated))
    ∧ (on m.domain.toNat → slave → y.pathDelay = none → sets (.ptpSync p m frame) { y with sync := some (m.t1, m.t2, m.corr) })
    ∧ (on mine → slave → y.dreq = some (id, k) → y.sync = some (t1, t2, c) → sets (.ptpDelayResp p id t4 corr frame) { y with
        dreq := none
        pathDelay := some (ratio ((t2 - t1 - c) + (t4 - k - corr)) 2) })
    ∧ (on mine → slave → (∀ x, y.dreq = some x → x.1 ≠ id) → exec (.ptpDelayResp p id t4 corr frame) s = .next s)
    ∧ (s.hostMode = true → (on m.domain.toNat → exec (.ptpSync p m frame) s = .next (s.rawRx p frame))
        ∧ (on n.domain.toNat → exec (.ptpAnnounce p n frame) s = .next (s.rawRx p frame))
        ∧ (on mine → exec (.ptpDelayResp p id t4 corr frame) s = .next (s.rawRx p frame)))
    ∧ (heard → y.masters = [] → y.slavePort = none →
      ∃ t, exec (.ptpAnnounce p n frame) s = .next t ∧ t.sys.slavePort = some p.val ∧ t.master p = some (n, s.mono)
        ∧ (y.st = .listening → t.sys.st = .uncalibrated) ∧ (y.st ≠ .listening → t.sys.st = y.st) ∧ t = { s with sys := t.sys })
    ∧ (heard → s.master p = some (o, w) → o.identity ≠ n.identity → ¬ before n o → exec (.ptpAnnounce p n frame) s = .next s)
    ∧ (heard → s.master p = some (o, w) → s.master (1 - p.val) = none → y.slavePort = some p.val → o.identity ≠ n.identity →
      before n o → ∃ t, exec (.ptpAnnounce p n frame) s = .next t ∧ t.sys.slavePort = some p.val ∧ t.master p = some (n, s.mono)
        ∧ t.sys.st = .holdover ∧ t.sys.cause = 2 ∧ t.sys.pathDelay = none ∧ t = { s with sys := t.sys })
    ∧ (heard → s.master p = some (o, w) → s.master (1 - p.val) = none → y.slavePort = some p.val → o.identity = n.identity →
      ∃ t, exec (.ptpAnnounce p n frame) s = .next t ∧ t.master p = some (n, s.mono) ∧ t.sys = { y with masters := t.sys.masters }
        ∧ t = { s with sys := t.sys })
    ∧ (y.slavePort = some p.val → s.master p = some (n, w) → interval ≤ s.since w →
      ∃ t, exec .announceReceiptTimeout s = .next t ∧ t.master p = none
        ∧ t.sys = { lost y 1 with masters := t.sys.masters, slavePort := if s.master (1 - p.val) = none then none else some (1 - p.val) }
        ∧ t = { s with sys := t.sys })
    ∧ ((y.slavePort = none ∨ y.slavePort = some p.val ∧ s.master p = some (n, w) ∧ s.since w < interval) →
      exec .announceReceiptTimeout s = .next s)
    ∧ (asks → queue.length < 16 →
      ∃ t, exec (.delayReqSend p) s = .next t ∧ t.sent = .delayReq p y.dreqId :: s.sent ∧ t.txq = s.txq
        ∧ t.sys = { y with dreqId := y.dreqId + 1, dreq := some (y.dreqId, s.clock.sysPs) } ∧ t = { s with sys := t.sys, sent := t.sent })
    ∧ (asks → 16 ≤ queue.length →
      ∃ t, exec (.delayReqSend p) s = .next t ∧ t.sent = .delayReq p y.dreqId :: s.sent ∧ t.txq = s.txq
        ∧ t.fld (aTimTxqStat p) 31 16 = satAdd 16 (s.fld (aTimTxqStat p) 31 16) 1 ∧ t.bit (aTimTxqStat p) 15 = true
        ∧ t.sys = { y with dreqId := y.dreqId + 1, dreq := none } ∧ t = { s with sys := t.sys, sent := t.sent, regs := t.regs })
    ∧ (s.clock.sys.toNat % 1000000000 = 0 → 0 < sec → BitVec.ofNat 32 sec ≠ s.reg aTimCorrSec →
      ∃ t tick fine, exec .taiSecondBoundary s = .next t ∧ fine < 500 ∧ (s.now - tick).toNat * 500 = ago + fine
        ∧ t.reg aTimCorrSec = BitVec.ofNat 32 sec ∧ t.reg aTimCorrTlo = tick.setWidth 32 ∧ t.reg aTimCorrThi = (tick >>> 32).setWidth 32
        ∧ t.fld aTimCorrFine 8 0 = fine ∧ t.bit aTimCorrFine 31 = (y.st == .locked)
        ∧ (TaskInput.flag 246, localEv 246 (if fine < 250 then tick else tick + 1).stamp (BitVec.ofNat 16 sec) 1 0x0F9) ∈ t.waiting
        ∧ t = { s with regs := t.regs, waiting := t.waiting })
    ∧ ((s.clock.sys.toNat % 1000000000 ≠ 0 ∨ sec = 0 ∨ BitVec.ofNat 32 sec = s.reg aTimCorrSec) → exec .taiSecondBoundary s = .next s)
    ∧ (forwards → f.ptpEvent = none → exec (.chainForward p f) s = .next (s.emit (.forward (1 - p.val) f.bytes none)))
    ∧ (forwards → f.ptpEvent = some r → f.v6 = true → f.padded = false →
      exec (.chainForward p f) s = .next ((s.count aTimTcStat 15 0 1).emit (.forward (1 - p.val) f.bytes none)))
    ∧ (forwards → f.ptpEvent = some r → (f.v6 = false ∨ f.padded = true) →
      exec (.chainForward p f) s = .next ((s.count aTimTcStat 31 16 1).emit (.forward (1 - p.val) f.bytes
        (some (ratio (r * (2 ^ 40 + y.servo.rate)) (2 ^ 40))))))
    ∧ (¬ forwards → exec (.chainForward p f) s = .next s)

/-! ### Capture, interval units, runs, sessions and the Flask (R27-R43, R280-R353) -/

/-- R281-R286, R288-R293, R295, R320: a probe's fire condition publishes the first fire of an arming, a kept proposal becomes the trigger
point, a record closes at its end with its header, the values of its probes and a notification, a probe steps above 75 % fill or an MK3
record stops, a gap is counted and marked, and an operator reads and releases the record. -/
def Obligations.CaptureRecordsAroundItsTrigger : Prop :=
  ∀ (s : State) (k : Fin 4) (prev cur : Int) (tick : Tick) (b : Proposal) (src : List (List SrcVal)) (p n a e : Nat) (x : Session)
    (sid seq len rc : W32) (off : W64) (lost el first resume : Nat) (tone : BitVec 4) (ctx : Byte) (q : BitVec 2),
    Tbl.wf (fun _ => (0 : Nat)) s.cap.gaps = true → Tbl.wf (fun _ => (0 : Nat)) s.cap.k = true →
    Tbl.wf (fun _ => ([] : List CapElem)) s.cap.decs = true → Memory.wf s.dram = true → Tbl.wf resetWord s.regs = true →
    (∀ j, (s.cap.marks.filter (fun y => y.probe == j)).length ≤ 32) →
    let u := s.taken x sid
    let c := s.cap
    let w := s.reg (aCapFire k)
    let kind := fieldOf w 31 30
    let l := sfieldOf w 15 0
    let armed := c.st = .armed ∧ c.fired = false ∧ s.probeOn k = true
    let met := if w.getLsbD 29 then l ≤ prev ∧ cur < l else prev < l ∧ l ≤ cur
    let fires := fun (o : FireObs) (F : Tick) (i : BitVec 16) => ∃ t, exec (.captureFire k o) s = .next t ∧ t.cap.fired = true
      ∧ t.cap.st = .armed ∧ t.cap.best = c.best
      ∧ (TaskInput.capTrig, localEv 240 F.stamp (Config.moduleId.setWidth 16 ||| 64 * i) 1 0x0F9) ∈ t.waiting
      ∧ t = { s with cap := t.cap, waiting := t.waiting, regs := t.regs, ports := t.ports, log := t.log, losses := t.losses }
    let still := fun (o : FireObs) => exec (.captureFire k o) s = .next s
    let post := BitVec.ofNat 64 (s.reg aCapPost).toNat
    let on := c.st = .armed ∨ c.st = .triggered
    let close := fun (t : State) => exec (.captureClose src) s = .next t
    let closes := fun (t : State) => close t ∧ t.cap.st = .closed ∧ t.cap.flags.getLsbD 0 = true
      ∧ t.loadBytes s.capBase 4 = leBytes 4 (0x0105 + s.probesOn.foldl (fun a p => a + 2 ^ p) 0 * 2 ^ 16)
      ∧ t.loadBytes (s.capBase + 4) 4 = leBytes 4 (s.reg aCapRec).toNat ∧ t.loadBytes (s.capBase + 16) 8 = leBytes 8 c.armTick.toNat
      ∧ (∀ j, j < 4 → s.probeOn j = true →
        let ring := ((s.probeElems j (src.getD j [])).map (elemBytes (s.probeKind j))).flatten
        (ring.length ≤ s.capShare → t.loadBytes (s.capBase + s.shareOff j) ring.length = ring))
      ∧ (∀ i, i < s.capBase → t.mem i = s.mem i)
    let checks := on ∧ 1000 ≤ s.since c.lastCheck
    let recheck := fun (t : State) => exec (.captureFifoRecheck n a e) s = .next t
    let steps := fun (p k : Nat) => k = (if c.kOf p = 0 then 2 else c.kOf p + 1)
    let bound := fun (k : Nat) => (e + 2 ^ k - 1) / 2 ^ k * 2 ^ k
    let gapEngines := if s.probeKind k = 1 then (List.range 4).map (fun i => 4 * s.probeCh k + i)
      else [adcEng (s.probeCh k) (if s.probeKind k = 2 then s.probeTone k else tone.toNat)]
    let read := fun (r : State) => exec (.capRead sid seq off len) s = .next r
    (armed → kind = 1 → met → fires (.level prev cur tick) tick 1)
    ∧ (armed → kind = 2 → ctx.toNat = fieldOf w 23 16 → s.sawMarker k ctx tick = true → fires (.marker ctx tick) tick 2)
    ∧ (armed → kind = 3 → tone.toNat = fieldOf w 19 16 → q.toNat = fieldOf w 21 20 → s.sawDecision k tone q tick = true →
      fires (.decision tone q tick) tick 3)
    ∧ ((s.probeOn k = false ∨ c.st ≠ .armed ∨ c.fired = true) → still (.level prev cur tick) ∧ still (.marker ctx tick)
        ∧ still (.decision tone q tick))
    ∧ ((kind ≠ 1 ∨ ¬ met) → still (.level prev cur tick))
    ∧ (c.st = .armed → c.best = some b → 0 ≤ (s.now - b.t).toInt →
      exec .triggerPointFix s = .next { s with cap := { c with st := .triggered } })
    ∧ ((c.st ≠ .armed ∨ c.best = none ∨ c.best = some b ∧ (s.now - b.t).toInt < 0) → exec .triggerPointFix s = .next s)
    ∧ (c.st = .triggered → c.best = some b → 0 ≤ (s.now - (b.t + post)).toInt →
      ∃ t, closes t ∧ t.cap.endTick = some (b.t + post - 1) ∧ t.cap.closeTai = s.clock.sys
        ∧ t.loadBytes (s.capBase + 24) 16 = leBytes 8 b.f.toNat ++ leBytes 8 b.t.toNat)
    ∧ (c.st = .closed → c.flags.getLsbD 0 = false → ∃ t, closes t ∧ t.cap.endTick = c.endTick ∧ t.cap.closeTai = c.closeTai)
    ∧ ((c.st = .closed → c.flags.getLsbD 0 = true) → (c.st = .triggered → c.best = some b ∧ (s.now - (b.t + post)).toInt < 0) → close s)
    ∧ (checks → n ≤ 75 ∨ s.stepProbe = none → recheck { s with cap := { c with lastCheck := s.mono } })
    ∧ (checks → 75 < n → s.stepProbe = some p → s.bit aCapCfg 31 = false → c.marks = [] →
      ∃ j, steps p j ∧ recheck { s with cap := { c with
        lastCheck := s.mono
        k := Tbl.put c.k p j 0
        flags := c.flags ||| 8
        marks := [⟨p, a, bound j, j, 0⟩] } })
    ∧ (checks → 75 < n → s.stepProbe = some p → s.bit aCapCfg 31 = true →
      ∃ t j, steps p j ∧ recheck t ∧ t.cap.st = .closed ∧ t.cap.closeTai = s.clock.sys ∧ t.cap.flags = c.flags ||| 0x10 ∧ t.cap.k = c.k
        ∧ t.cap.endTick = some (BitVec.ofNat 64 (srcTick (s.probeKind p) (bound j))) ∧ t = { s with cap := t.cap, free := t.free })
    ∧ (¬ checks → recheck s)
    ∧ (on → s.probeOn k = true → c.marks = [] → ∃ t, exec (.captureGap k lost el first resume tone) s = .next t
        ∧ t.cap = { c with
            gaps := Tbl.put c.gaps k (Tbl.get c.gaps k.val 0 + lost) 0
            flags := c.flags ||| 0x100
            marks := [⟨k, el, resume, c.kOf k, 1⟩]
            decs := t.cap.decs }
        ∧ (∀ y ∈ Tbl.get t.cap.decs k.val [], y ∈ Tbl.get c.decs k.val [] ∧ (elemIdx y < first ∨ resume ≤ elemIdx y))
        ∧ (∀ r ∈ t.runs, ∀ h ∈ r.shots, ∀ y ∈ h.entries, y.engine ∉ gapEngines →
          ∃ r' ∈ s.runs, ∃ h' ∈ r'.shots, y ∈ h'.entries)
        ∧ t = { s with cap := t.cap, runs := t.runs, dues := t.dues })
    ∧ ((¬ on ∨ s.probeOn k = false) → exec (.captureGap k lost el first resume tone) s = .next s)
    ∧ (s.asks x sid seq 0x70 (some .operator) = true → 1 ≤ len.toNat → len.toNat ≤ 2 ^ 20 → off.toNat + len.toNat ≤ s.capBytes →
      read (u.reply sid seq 0x70 .ok (u.loadBytes (u.capBase + off.toNat) len.toNat)))
    ∧ (s.asks x sid seq 0x71 (some .operator) = true → rc = s.reg aCapRec → (c.st = .closed →
        exec (.capRelease sid seq rc) s = .next (State.reply { u with cap := { c with st := .idle } } sid seq 0x71 .ok []))
      ∧ (on → ∃ t : State, exec (.capRelease sid seq rc) s = .next (t.reply sid seq 0x71 .ok []) ∧ t.cap = { c with
          st := .closed
          flags := c.flags ||| 0x20
          endTick := some s.now
          closeTai := s.clock.sys } ∧ t = { u with cap := t.cap }))

/-- R297-R299: an edge is stamped at its tick less the charge time unless it comes within 4 ns of the last, which is counted; every running
unit that uses its input takes it as a first edge, counts it or ends a measurement of its mode; a measurement that takes too long is
counted and the next begins, and after the last the unit reads done. -/
def Obligations.IntervalUnitsMeasure : Prop :=
  ∀ (s : State) (k : Fin 8) (u : Fin 4) (tick : Tick) (charge : Nat) (t0 : Int), Tbl.wf (fun _ => Tiu.init) s.tiu = true →
    Tbl.wf (fun _ => (none : Option Int)) s.tiuLast = true →
    let x := s.tiuUnit u
    let now : Int := (tick.toNat * 500000 : Nat) - charge
    let last := Tbl.get s.tiuLast k.val none
    let on := s.bit (aTiuIn k) 4 = true
    let stamped := on ∧ ∀ y, last = some y → 4000000 ≤ now - y
    let unit := aTiuUcfg u
    let inA := s.fld unit 6 4
    let inB := s.fld unit 10 8
    let mode := s.fld unit 13 12
    let m := s.fld (aTiuUn u) 31 16
    let count : Int := (m * 2 ^ s.fld (aTiuIn inA) 3 0 : Nat)
    let value := if mode = 0 then now - t0 else if mode = 1 then ratio (now - t0) count else ratio (count * 10 ^ 18) (now - t0)
    let goes := fun (y : Tiu) => ∃ t, exec (.tiuEdge k tick charge) s = .next t ∧ t.tiuUnit u = y ∧ Tbl.get t.tiuLast k.val none = some now
      ∧ t = { s with tiu := t.tiu, tiuLast := t.tiuLast }
    let ended : Tiu := { x with
      vals := x.vals ++ [value]
      left := x.left - 1
      t0 := none
      edges := 0
      begun := tick
      running := decide (1 < x.left)
      done := decide (x.left ≤ 1) }
    (¬ on → exec (.tiuEdge k tick charge) s = .next s)
    ∧ (on → (∃ y, last = some y ∧ now - y < 4000000) → exec (.tiuEdge k tick charge) s = .next (s.count (aTiuIn k) 31 16 1))
    ∧ (stamped → x.running = false → goes x)
    ∧ (stamped → x.running = true → x.t0 = none → k.val = inA → goes { x with t0 := some now, edges := 0 })
    ∧ (stamped → x.running = true → x.t0 = none → k.val ≠ inA → goes x)
    ∧ (stamped → x.running = true → x.t0 = some t0 → mode = 0 → k.val = inB → goes ended)
    ∧ (stamped → x.running = true → x.t0 = some t0 → mode = 0 → k.val ≠ inB → goes x)
    ∧ (stamped → x.running = true → x.t0 = some t0 → mode ≠ 0 → k.val = inA → x.edges + 1 = m → goes ended)
    ∧ (stamped → x.running = true → x.t0 = some t0 → mode ≠ 0 → k.val = inA → x.edges + 1 ≠ m → goes { x with edges := x.edges + 1 })
    ∧ (stamped → x.running = true → x.t0 = some t0 → mode ≠ 0 → k.val ≠ inA → goes x)
    ∧ (x.running = true → s.fld unit 31 16 * 1024 ≤ s.ticksSince x.begun →
      exec (.tiuMeasurementTimeout u) s = .next (s.setTiu u { x with
        timeouts := x.timeouts + 1
        left := x.left - 1
        t0 := none
        edges := 0
        begun := s.now
        running := decide (1 < x.left)
        done := decide (x.left ≤ 1) }))
    ∧ ((x.running = false ∨ s.ticksSince x.begun < s.fld unit 31 16 * 1024) → exec (.tiuMeasurementTimeout u) s = .next s)

/-- R27, R28, R30, R31, R34, R36, R39, R45, R149, R150, R322, R324: a run is accepted with the next run_id or refused whole; in its turn,
with its banks and groups ON, it loads, or misses its start; a load sets programs and engines and fixes the first start; a bank or group
not ON 10 ms after the turn, or a cancel, ends it with an end record; a purge discards what is unacknowledged, a claim takes delivery. -/
def Obligations.RunsLoadInTurn : Prop :=
  ∀ (s : State) (x : Session) (sid seq run : W32) (d : RunDesc) (r : Run) (t0 : Tick) (st : Status) (dt : Detail) (k : Nat) (j : Fin 16)
    (img : List Byte), Tbl.wf (fun _ => Cru.init) s.crus = true → Tbl.wf (fun _ => Bank.init) s.banks = true →
    Tbl.wf (fun _ => Engine.init) s.engines = true → s.cmk.abort = false →
    let u := s.taken x sid
    let settled := s.bankSettle (r.clusters.flatMap clusterBanks)
    let ready := r.clusters.all settled.clusterReady = true
    let turn := s.run? run = some r ∧ r.shots = [] ∧ s.turnOf r = true
    let reachable := r.desc.paced = true ∨ 200000 ≤ (r.desc.startTick - s.now).toInt
    let asked := fun (ty : Byte) => s.asks x sid seq ty (some .operator) = true
    let answers := fun (c : Instr) (ty : Byte) (v : State) (b : List Byte) => exec c s = .next (v.reply sid seq ty .ok b)
    let refused := fun (c : Instr) (ty : Byte) (st : Status) => exec c s = .next (u.reply sid seq ty st noDetail.bytes)
    let ended := fun (b v : State) (cause : Byte) => (∃ q, v.run? run = some q ∧ q.phase = .over ∧ q.executed = r.executed
        ∧ q.nextStart = none)
      ∧ (∃ y ∈ v.results, y.run = run ∧ y.shot = none ∧ y.bytes = runEndRecord run cause r.desc.shotCount.toNat r.executed.toNat
          r.clean.toNat 0 0xFFFFFFFF s.clock.sys (if r.executed = 0 then 0 else r.endTick))
      ∧ v = { b with runs := v.runs, engines := v.engines, crus := v.crus, results := v.results, regs := v.regs, sessions := v.sessions,
                     sent := v.sent }
    let loading := s.run? run = some r ∧ r.shots = [] ∧ r.phase = .loading ∧ s.swapBusy r = false ∧ ∀ y ∈ s.namedCrucibles r, s.cruReady y.1 = true
    let first := if r.desc.paced then s.now else r.desc.startTick
    let e := 16 * k + j.val
    let overdue := s.run? run = some r ∧ r.phase = .queued ∧ r.turnTick = some t0 ∧ 20000000 ≤ s.ticksSince t0
    let cancels := asked 0x34 ∧ s.run? run = some r ∧ r.phase ≠ .over ∧ r.noMore = false ∧ (r.phase ≠ .queued ∨ s.stopping = true)
    let unacked := s.results.filter (fun y => y.run == run)
    (asked 0x33 → u.submitRefusal x (newRun x u.nextRun d) = none →
      ∃ v, answers (.runSubmit sid seq d) 0x33 v (leBytes 4 s.nextRun.toNat) ∧ v.run? s.nextRun = some (newRun x s.nextRun d)
        ∧ v.nextRun = s.nextRun + 1 ∧ (∀ q ∈ s.runs, q.id ≠ s.nextRun → q ∈ v.runs)
        ∧ (∀ b ∈ (newRun x s.nextRun d).clusters.flatMap clusterBanks,
          (v.bank b).st ≠ .off ∧ ((s.bank b).st = .on → (v.bank b).st = .on))
        ∧ v = { u with runs := v.runs, nextRun := v.nextRun, rates := v.rates, banks := v.banks, cmk := v.cmk, regs := v.regs })
    ∧ (asked 0x33 → u.submitRefusal x (newRun x u.nextRun d) = some (st, dt) →
      exec (.runSubmit sid seq d) s = .next (u.reply sid seq 0x33 st dt.bytes))
    ∧ (runDescOk d = false → u.submitRefusal x (newRun x u.nextRun d) = some (.range, noDetail))
    ∧ (turn → ready → reachable →
      ∃ t, exec (.runQueueHead run) s = .next t ∧ t.run? run = some { r with phase := .loading, loadTick := s.now, turnTick := none }
        ∧ (s.namedCrucibles r = [] → t = settled.modRun run (fun r => { r with phase := .loading, loadTick := s.now, turnTick := none }))
        ∧ ∀ y ∈ s.namedCrucibles r, (t.cru (s.cruPhys y.1)).st ≠ .waiting
          ∧ ((t.cru (s.cruPhys y.1)).stopReq = none → (t.cru (s.cruPhys y.1)).st ≠ .executing ∧ (t.cru (s.cruPhys y.1)).st ≠ .repeating))
    ∧ (turn → ready → ¬ reachable → ∃ t, exec (.runQueueHead run) s = .next t ∧ ended settled t 0x02)
    ∧ (turn → ¬ ready → exec (.runQueueHead run) s
        = .next (settled.modRun run (fun r => { r with turnTick := some (r.turnTick.getD s.now) })))
    ∧ (s.run? run = some r → s.turnOf r = false → exec (.runQueueHead run) s = .next s)
    ∧ (loading → r.noMore = false → ∃ t, exec (.runLoadComplete run) s = .next t
        ∧ t.run? run = some { r with phase := .active, nextStart := some first })
    ∧ (loading → r.noMore = false → r.clusters = [k] → r.has e = true → imgHas img j = true →
      (∀ i, i < 16 → secCount img i ≤ 32768) →
      (r.desc.clusterImages.find? (fun y => y.1.val == k)).bind (fun y => (s.imageOf y.2).map (fun i => i.bytes)) = some img →
      ∃ t, exec (.runLoadComplete run) s = .next t ∧ (t.eng e).st = .idle ∧ (t.eng e).entry = secEntry img j
        ∧ (t.eng e).codeCount = secCount img j ∧ (t.eng e).subs = (secSubs img j).map (fun c => BitVec.ofNat 8 c)
        ∧ ∀ a, a < secCount img j → (t.progAt e a).code = BitVec.ofNat 64 (leNat (slice img (secCode img j + 8 * a) 8)))
    ∧ (s.run? run = some r → (r.phase ≠ .loading ∨ s.swapBusy r = true ∨ ∃ y ∈ s.namedCrucibles r, s.cruReady y.1 = false) →
      exec (.runLoadComplete run) s = .next s)
    ∧ (overdue → settled.notOn r ≠ [] → ∃ t b, exec (.resourceFault run) s = .next t ∧ ended b t 0x08
        ∧ b = { settled with log := b.log })
    ∧ (overdue → settled.notOn r = [] → exec (.resourceFault run) s = .next settled)
    ∧ (asked 0x34 → s.run? run = some r → r.phase = .queued → r.noMore = false → s.stopping = false →
      ∃ v, answers (.runCancel sid seq run) 0x34 v [] ∧ ended u v 0x01)
    ∧ (cancels → r.inFlight = true → answers (.runCancel sid seq run) 0x34 (u.modRun run (fun r => { r with cancel := true })) [])
    ∧ (cancels → r.inFlight = false → (r.shots ≠ [] ∨ s.stopping = true) →
      answers (.runCancel sid seq run) 0x34 (u.modRun run (fun r => { r with cancel := true, nextStart := none })) [])
    ∧ (cancels → r.shots = [] → s.stopping = false → ∃ v, answers (.runCancel sid seq run) 0x34 v [] ∧ ended u v 0x01)
    ∧ (asked 0x34 → s.run? run = some r → (r.phase = .over ∨ r.noMore = true) → refused (.runCancel sid seq run) 0x34 .state)
    ∧ (asked 0x35 → s.run? run = some r → r.phase = .over → answers (.runPurge sid seq run) 0x35
        (State.logEvent { u with results := s.results.filter (fun y => y.run != run) } 0x0020 2 (leBytes 4 run.toNat ++ leBytes 4 unacked.length))
        (leBytes 4 unacked.length))
    ∧ (asked 0x35 → s.run? run = some r → r.phase ≠ .over → refused (.runPurge sid seq run) 0x35 .state)
    ∧ (asked 0x36 → s.run? run = some r →
      ∃ v, answers (.resultClaim sid seq run) 0x36 v [] ∧ v.run? run = some { r with owner := x.id }
        ∧ v.results.map (fun y => (y.run, y.shot, y.bytes)) = s.results.map (fun y => (y.run, y.shot, y.bytes))
        ∧ (x.id = sid → ∀ y ∈ v.results, y.run = run → ∃ n, y.sent = some (sid, n))
        ∧ v = { u with runs := v.runs, results := v.results, sessions := v.sessions, sent := v.sent })
    ∧ (s.run? run = none → (asked 0x34 → refused (.runCancel sid seq run) 0x34 .notFound)
        ∧ (asked 0x35 → refused (.runPurge sid seq run) 0x35 .notFound) ∧ (asked 0x36 → refused (.resultClaim sid seq run) 0x36 .notFound))

/-- R32-R36, R40, R45, R65, R148, R207, R268, R334, R409, R463: a shot starts at its tick where the result buffer has room, with one entry
for each engine, which starts at its entry with the cursor at the start tick unless it is denied or has a handshake fault; it ends at
its end tick, an engine still busy overrunning; once everything is judged its record enters the buffer, and the run's end record after
the last; a held or roomless PERIODIC start ends the run. -/
def Obligations.ShotsStartEndAndClose : Prop :=
  ∀ (s : State) (run : W32) (r r' : Run) (n E : Tick) (e : Fin 128) (h h' : Shot) (rest : List Shot),
    Tbl.wf (fun _ => Engine.init) s.engines = true → s.run? run = some r →
    let due := r.nextStart = some n ∧ r.phase = .active ∧ 0 ≤ (s.now - n).toInt ∧ r.inFlight = false ∧ r.noMore = false
      ∧ s.stopping = false
    let held := r.executed = 0 ∧ s.holdRuns = true
    let room := s.resReserved + r.maxRecord ≤ resSize
    let starts := due ∧ ¬ held ∧ s.swapBusy r = false ∧ room
    let start := fun (t : State) => exec (.shotStart run) s = .next t
    let marked := fun (l : List Entry) (c : Cond) => ∀ y ∈ l, y.engine = e.val → y.mask.getLsbD c.code = true
    let stopped := fun (t : State) (cause : Byte) =>
      (r.shots ≠ [] → t = s.modRun run (fun r =>
        { r with stop := if r.phase = .over ∨ r.stop.isSome then r.stop else some cause, nextStart := none }))
      ∧ (r.shots = [] → (∃ q, t.run? run = some q ∧ q.phase = .over ∧ q.executed = r.executed)
        ∧ ∃ y ∈ t.results, y.run = run ∧ y.shot = none ∧ y.bytes = runEndRecord run cause r.desc.shotCount.toNat r.executed.toNat
            r.clean.toNat 0 0xFFFFFFFF s.clock.sys (if r.executed = 0 then 0 else r.endTick))
    let g := s.eng e
    let busy := g.st = .running ∨ g.st = .waiting ∨ g.st = .queueFull
    let ends := r.current = some h ∧ (h.endTick = some E ∨ h.endTick = none ∧ s.pacedEnd r h = some E) ∧ 0 ≤ (s.now - E).toInt
    let judged := r.shots = h :: rest ∧ h.endTick = some E ∧ h.ended = true ∧ 0 ≤ (s.now - E).toInt ∧ s.shotJudged r E = true
    let v := s.linkLost r h
    let close := fun (t : State) => exec (.shotRecordClose run) s = .next t
    let last := r'.noMore && rest.isEmpty
    let clean := if h'.entries.all (fun x => statusOf x.mask == 0) then r'.clean + 1 else r'.clean
    (starts → ∃ t q sh, start t ∧ t.run? run = some q ∧ q.executed = r.executed + 1 ∧ q.nextStart = none ∧ sh ∈ q.shots
        ∧ sh.index = r.executed ∧ sh.start = n ∧ sh.ended = false ∧ sh.entries.map (fun y => y.engine) = r.engs
        ∧ sh.endTick = (if r.desc.paced then none else some (n + r.desc.period.setWidth 64))
        ∧ (TaskInput.flag 241, localEv 241 n.stamp (run.setWidth 16) 1 0x0F9) ∈ t.waiting
        ∧ (s.fault.clearTick ≠ none → r.has e = true → marked sh.entries .outputCleared)
        ∧ (s.castUnlocked = true → r.has e = true → marked sh.entries .timeUnlocked)
        ∧ (r.has e = true → r.deniedAt e n = true → marked sh.entries .roleDenied ∧ (t.eng e).st = g.st ∧ (t.eng e).shot = g.shot)
        ∧ (r.has e = true → r.deniedAt e n = false → g.hsFault = true → marked sh.entries .engineFault ∧ (t.eng e).shot = g.shot)
        ∧ (r.has e = true → r.deniedAt e n = false → g.hsFault = false → (t.eng e).st = .running ∧ (t.eng e).pc = g.entry ∧ (t.eng e).tc = n
          ∧ (t.eng e).shot = some (run, r.executed, n) ∧ (t.eng e).stack = [] ∧ (t.eng e).c = 0 ∧ (t.eng e).v = g.v)
        ∧ (∀ k, r.has k = false → t.eng k = s.eng k)
        ∧ t = { s with runs := t.runs, engines := t.engines, tones := t.tones, prog := t.prog, waiting := t.waiting, regs := t.regs })
    ∧ ((r.nextStart = none ∨ (r.nextStart = some n ∧ ¬ due)) → start s)
    ∧ (due → held → r.desc.paced = true → start s)
    ∧ (due → held → r.desc.paced = false → ∃ t, start t ∧ stopped t 0x02)
    ∧ (due → ¬ held → s.swapBusy r = true → start s)
    ∧ (due → ¬ held → s.swapBusy r = false → ¬ room → r.desc.paced = true → start s)
    ∧ (due → ¬ held → s.swapBusy r = false → ¬ room → r.desc.paced = false → ∃ t, start t ∧ stopped t 0x03)
    ∧ (ends → ∃ t q, exec (.shotEnd run) s = .next t ∧ t.run? run = some q ∧ q.endTick = E
        ∧ q.nextStart = (if r.noMore then none else some (if r.desc.paced then E + r.desc.gap.setWidth 64 else E))
        ∧ (∀ y ∈ q.shots, y.index = h.index → y.ended = true ∧ y.endTick = some E)
        ∧ (r.has e = true → g.shot = some (run, h.index, h.start) → (t.eng e).shot = none
          ∧ (busy → (t.eng e).st = .stopped ∧ ∀ y ∈ q.shots, y.index = h.index → marked y.entries .engineFault)
          ∧ (¬ busy → (t.eng e).st = g.st))
        ∧ (TaskInput.flag 242, localEv 242 E.stamp (run.setWidth 16) 1 0x0F9) ∈ t.waiting)
    ∧ ((r.current = none ∨ r.current = some h ∧ (h.endTick = none ∧ s.pacedEnd r h = none ∨ h.endTick = some E ∧ (s.now - E).toInt < 0)) →
      exec (.shotEnd run) s = .next s)
    ∧ (judged → v.run? run = some r' → r'.shots = h' :: rest →
      ∃ t q, close t ∧ t.run? run = some q ∧ q.executed = r'.executed ∧ q.clean = clean ∧ q.shots = rest
        ∧ (∃ y ∈ t.results, y.run = run ∧ y.shot = some h'.index ∧ y.bytes = shotRecord r' h' last s.clock.sys)
        ∧ (last = true → r'.phase ≠ .over → s.stopping = false → q.phase = .over
          ∧ ∃ y ∈ t.results, y.run = run ∧ y.shot = none ∧ y.bytes = runEndRecord run r'.cause r'.desc.shotCount.toNat r'.executed.toNat
              clean.toNat 0 0xFFFFFFFF s.clock.sys (if r'.executed = 0 then 0 else r'.endTick))
        ∧ (last = false → q.phase = r'.phase)
        ∧ t = { v with runs := t.runs, results := t.results, regs := t.regs, sessions := t.sessions, sent := t.sent,
                       engines := t.engines, crus := t.crus })
    ∧ (r.shots = h :: rest → h.endTick = some E → (h.ended = false ∨ (s.now - E).toInt < 0 ∨ s.shotJudged r E = false) → close s)

/-- R302-R304, R338-R341, R348: a NET port identifies its plug, answers ARP, neighbour solicitation and echo, and counts frames it does
not act on; a handshake goes from HELLO over CHALLENGE and AUTH to FINISHED, and its session opens once its entry is committed; a bad
HELLO, a bad signature, a used-up limit and 10 s end it with a counted, logged refusal. -/
def Obligations.NetPortsAndHandshakes : Prop :=
  ∀ (s : State) (p : Fin 2) (media : BitVec 3) (cls i : Nat) (ip : W32) (ip6 : BitVec 128) (src : BitVec 48) (v6 : Bool) (data sig : List Byte)
    (h : HelloMsg) (x : Handshake) (hs : W64) (cause : Byte), Tbl.wf resetWord s.regs = true →
    Tbl.wf (fun _ => ([] : List W64)) s.echoes = true →
    let st := aNetPortStat p
    let m := if media.toNat ≤ 4 then media.toNat else 0
    let discarded := if s.bit aTimSysCfg 14 = true ∧ s.boot.ingot = false then s else s.count (aNetPortCnt p) 31 16 1
    let mine6 := (s.bit (aNetPortCfg p) 3 = true ∧ ip6 = s.ipv6 p) ∨ ip6 = linkLocal (s.portMac p)
    let open' := s.netOpen p = true
    let recent := (Tbl.get s.echoes p.val []).filter (fun t => decide (s.since t < 1000000000))
    let found := fun (hs : W64) (x : Handshake) => s.handshakes.find? (fun y => y.hs == hs) = some x
    let refused := fun (c : Instr) (hs : W64) (key : BitVec 256) (cause : Byte) => ∃ t, exec c s = .next t
      ∧ t.handshakes = s.handshakes.filter (fun y => y.hs != hs) ∧ t.fld aFlkCnt 31 16 = satAdd 16 (s.fld aFlkCnt 31 16) 1
      ∧ (s.logTaken < 1000 → t.log.pend = s.log.pend ++ [⟨0x0007, 3, 0, s.clock.sys, s.mono, 0, 0, [cause] ++ hashBytes key⟩])
      ∧ t.sent = .refuse hs cause :: s.sent ∧ t = { s with handshakes := t.handshakes, regs := t.regs, log := t.log, sent := t.sent }
    let ready := open' ∧ s.flaskState = 1
    let verifies := found hs x ∧ x.st = .verifying
    let good := Config.sigOk (s.cred x.role i).key (Config.sha256 ([0x02] ++ hashBytes x.t1)) x.authSig = true
    ((s.boot.ingot = true → p.val = 0) → ∃ t, exec (.qsfpInsert p media cls) s = .next t ∧ t.fld st 7 5 = m
        ∧ (cls ≤ 4 → m ≠ 0 → t.bit st 0 = s.bit st 0 ∧ t.bit st 4 = s.bit st 4)
        ∧ ((4 < cls ∨ m = 0) → t.bit st 0 = false ∧ t.bit st 4 = false) ∧ t = { s with regs := t.regs })
    ∧ (s.boot.ingot = true → p.val ≠ 0 → exec (.qsfpInsert p media cls) s = .next s)
    ∧ (open' → s.bit (aNetPortCfg p) 2 = true → ip = s.reg (aNetIpv4 p) →
      exec (.arpRequest p ip src) s = .next (s.emit (.arp p src (s.portMac p) ip)))
    ∧ (open' → (s.bit (aNetPortCfg p) 2 = false ∨ ip ≠ s.reg (aNetIpv4 p)) → exec (.arpRequest p ip src) s = .next discarded)
    ∧ (open' → mine6 → exec (.neighbourSolicitation p ip6 src) s = .next (s.emit (.neighbour p src (s.portMac p) ip6)))
    ∧ (open' → ¬ mine6 → exec (.neighbourSolicitation p ip6 src) s = .next discarded)
    ∧ (open' → recent.length < 100 → ∃ t, exec (.echoRequest p v6 src data) s = .next t ∧ t.sent = .echo p v6 src data :: s.sent
        ∧ Tbl.get t.echoes p.val [] = s.mono :: recent ∧ t = { s with echoes := t.echoes, sent := t.sent })
    ∧ (open' → 100 ≤ recent.length → exec (.echoRequest p v6 src data) s = .next s)
    ∧ (open' → exec (.frameDiscard p) s = .next (s.count (aNetPortCnt p) 31 16 1))
    ∧ (s.netOpen p = false → exec (.arpRequest p ip src) s = .next s ∧ exec (.neighbourSolicitation p ip6 src) s = .next s
        ∧ exec (.echoRequest p v6 src data) s = .next s ∧ exec (.frameDiscard p) s = .next s ∧ exec (.hello p h) s = .next s)
    ∧ (ready → (∀ y ∈ s.handshakes, y.hs ≠ h.hs) → s.helloRefusal h = none →
      ∃ t y, exec (.hello p h) s = .next t ∧ t.handshakes = s.handshakes ++ [y] ∧ y.hs = h.hs ∧ y.st = .signing ∧ y.sid = s.nextSid
        ∧ some y.role = roleOf h.role ∧ y.profile = h.profile.toNat ∧ y.keyId = h.keyId ∧ y.begun = s.mono ∧ y.port = p.val
        ∧ y.t1 = Config.sha256 (HelloData h ++ hashBytes y.moduleNonce ++ y.cipher ++ leBytes 4 s.nextSid.toNat)
        ∧ t.nextSid = nextSeq s.nextSid ∧ t = { s with handshakes := t.handshakes, nextSid := t.nextSid, free := t.free })
    ∧ (ready → (∀ y ∈ s.handshakes, y.hs ≠ h.hs) → s.helloRefusal h = some cause → refused (.hello p h) h.hs h.keyId cause)
    ∧ ((s.helloRefusal h = none ↔ (∃ r, roleOf h.role = some r ∧ (s.slotOf r h.keyId).isSome = true) ∧ h.profile.toNat ≤ 7
        ∧ h.encapsKey.length = 1568 ∧ s.sessions.length < 16 ∧ (s.handshakes.filter (fun y => y.st != .finished)).length < 4))
    ∧ (ready → found h.hs x → x.st ≠ .signing →
      exec (.hello p h) s = .next (s.emit (.challenge x.hs x.moduleNonce x.cipher x.sid x.challengeSig)))
    ∧ (s.handshakes.find? (fun y => y.st == .signing) = some x → ∃ t, exec (.challengeSigned sig) s = .next t
        ∧ t.sent = .challenge x.hs x.moduleNonce x.cipher x.sid sig :: s.sent
        ∧ t.handshakes = s.handshakes.map (fun y => if y.hs = x.hs then { x with st := .challenged, challengeSig := sig } else y)
        ∧ t = { s with handshakes := t.handshakes, sent := t.sent })
    ∧ ((∀ y ∈ s.handshakes, y.st ≠ .signing) → exec (.challengeSigned sig) s = .next s)
    ∧ (found hs x → x.st = .challenged → exec (.auth hs sig) s
        = .next { s with handshakes := s.handshakes.map (fun y => if y.hs == hs then { y with st := .verifying, authSig := sig } else y) })
    ∧ (found hs x → x.st = .finished → exec (.auth hs sig) s = .next (s.emit (.finished hs x.sid)))
    ∧ ((∀ y ∈ s.handshakes, y.hs ≠ hs) → exec (.auth hs sig) s = .next s ∧ exec (.authVerified hs) s = .next s
        ∧ exec (.handshakeTimeout hs) s = .next s)
    ∧ (verifies → s.slotOf x.role x.keyId = some i → good → s.sessions.length < 16 → s.mayLog = true →
      ∃ t y, exec (.authVerified hs) s = .next t ∧ t.sessions = s.sessions ++ [y] ∧ y.id = x.sid ∧ y.role = x.role ∧ y.slot = i
        ∧ y.keyId = x.keyId ∧ y.profile = x.profile ∧ y.txSeq = 1 ∧ y.ack = 0 ∧ y.lastRx = s.mono ∧ y.port = x.port
        ∧ t.sent = .finished hs x.sid :: s.sent
        ∧ t.handshakes = s.handshakes.map (fun y => if y.hs == hs then { y with st := .finished } else y)
        ∧ (s.nv.holding = false → t.log.pend = []) ∧ (∃ e ∈ t.log.entries, e.number = t.log.num ∧ e.cls = 0x0005 ∧ e.session = x.sid)
        ∧ t = { s with handshakes := t.handshakes, sessions := t.sessions, log := t.log, sent := t.sent })
    ∧ (verifies → s.slotOf x.role x.keyId = some i → good → s.sessions.length < 16 → s.mayLog = false →
      exec (.authVerified hs) s = .next s)
    ∧ (verifies → s.slotOf x.role x.keyId = none → refused (.authVerified hs) hs x.keyId 0x02)
    ∧ (verifies → s.slotOf x.role x.keyId = some i → ¬ good → refused (.authVerified hs) hs x.keyId 0x02)
    ∧ (verifies → s.slotOf x.role x.keyId = some i → good → 16 ≤ s.sessions.length → refused (.authVerified hs) hs x.keyId 0x03)
    ∧ (found hs x → x.st ≠ .finished → 10000000000 ≤ s.since x.begun → refused (.handshakeTimeout hs) hs x.keyId 0x06)
    ∧ (found hs x → x.st = .finished → 10000000000 ≤ s.since x.begun →
      exec (.handshakeTimeout hs) s = .next { s with handshakes := s.handshakes.filter (fun y => y.hs != hs) })
    ∧ (found hs x → s.since x.begun < 10000000000 → exec (.handshakeTimeout hs) s = .next s)

/-- R306-R316: a sealed packet is judged by its tag, its number, its header code and its body check; what it acknowledges leaves the
sender's list; a transaction is delivered once and in order, one ahead is held, one again has its reply again; a NAK and a missing
acknowledgement have it resent with the same number; a session silent, exhausted or unanswered is lost. -/
def Obligations.SessionsDeliverInOrder : Prop :=
  ∀ (s : State) (p : Fin 2) (k : SealedPacket) (x z : Session) (seq : W32) (tr : TxTr) (t0 : W64) (r : Reply),
    Tbl.wf resetWord s.regs = true →
    let sid := k.sid
    let n := k.counter.toNat
    let has := s.sess? sid = some x
    let get := fun (t : State) => exec (.sealedPacketReceive p k) s = .next t
    let genuine := s.netOpen p = true ∧ has ∧ n < 2 ^ 63 ∧ Config.tagOk sid k.counter k.bytes k.tag = true
    let fresh := genuine ∧ x.replayed n = false ∧ n < 2 ^ 40 ∧ x.txPkt < 2 ^ 40
    let a := s.modSess sid (fun y => y.accept p k n s.mono)
    let h := if k.hdr = .corrected then a.count aNetCntB 15 8 1 else a
    let v := h.ackUpTo sid k.ack k.sack
    let read := fresh ∧ k.hdr ≠ .uncorrectable ∧ v.sess? sid = some z
    let good := k.content.length ≤ v.contentLimit z.port
      ∧ (k.content = [] ∨ (s.profile z.profile).check k.content = k.check.toNat)
    let d := v.dropDigest ⟨false, sid, k.seq, Config.sha256 k.content⟩
    let item : RxTr := ⟨k.seq, k.msgType, k.continued, k.content⟩
    let request := read ∧ good ∧ requestTypes.contains k.msgType = true
    let next := k.seq = nextSeq z.ack ∧ z.heldTr = []
    let ahead := seqLe k.seq z.ack = false ∧ (k.seq - z.ack).toNat ≤ 1024
    let gone := fun (c : Instr) => ∃ t, exec c s = .next t ∧ t.sess? sid = none ∧ t.runs = s.runs ∧ t.engines = s.engines
    let waits := x.unacked.find? (fun y => y.seq == seq) = some tr
    let due := has ∧ waits ∧ tr.sacked = false ∧ tr.interval ≤ s.since tr.sentAt
    let resent := fun (c : Instr) => ∃ t w, exec c s = .next t ∧ t.sent = .trans sid w :: s.sent ∧ w = { tr with
        sentAt := s.mono
        interval := min (2 * tr.interval) 100000000
        resends := tr.resends + 1 }
      ∧ t.sessions = s.sessions.map (fun y => if y.id == sid then { y with
        txPkt := y.txPkt + 1
        ackDue := none
        unacked := y.unacked.map (fun q => if q.seq == seq then w else q) } else y)
    (s.netOpen p = false → get s)
    ∧ (s.netOpen p = true → s.sess? sid = none → get { s with strayPackets := s.strayPackets + 1 })
    ∧ (s.netOpen p = true → has → (2 ^ 63 ≤ n ∨ Config.tagOk sid k.counter k.bytes k.tag = false) → get (s.count aNetCntB 31 24 1))
    ∧ (genuine → x.replayed n = true → get (s.count aNetCntB 23 16 1))
    ∧ (x.replayed n = true ↔ n ∈ x.rxSeen ∨ n + 4096 ≤ x.rxTop)
    ∧ (genuine → x.replayed n = false → (2 ^ 40 ≤ n ∨ 2 ^ 40 ≤ x.txPkt) → gone (.sealedPacketReceive p k))
    ∧ (fresh → ∃ y, a.sess? sid = some y ∧ y.replayed n = true ∧ y.rxTop = max n x.rxTop ∧ y.lastRx = s.mono ∧ y.port = p.val
        ∧ y.peerMac = k.peerMac ∧ y.inbox = x.inbox ∧ y.ack = x.ack)
    ∧ (fresh → k.hdr = .uncorrectable → get (a.count aNetCntB 7 0 1))
    ∧ (read → ¬ good → ∃ t, get t ∧ t.sent = .nak sid k.seq :: v.sent ∧ t.fld aNetCntA 31 16 = satAdd 16 (v.fld aNetCntA 31 16) 1
        ∧ t.kept = ((⟨false, sid, k.seq, Config.sha256 k.content⟩ : KeptDigest) :: v.kept).take 256
        ∧ t = { v with sent := t.sent, regs := t.regs, kept := t.kept, sessions := t.sessions })
    ∧ (read → good → k.msgType = 0x01 → get d)
    ∧ (read → good → k.msgType = 0x02 → get (d.resendOne sid (BitVec.ofNat 32 (leNat (slice k.content 0 4)))))
    ∧ (request → next → z.parts = [] → k.continued = false → (∀ q ∈ z.inbox, requestTypes.contains q.msgType = true) →
      ∃ t y, get t ∧ t.sess? sid = some y ∧ y.ack = k.seq ∧ y.inbox = z.inbox ++ [item] ∧ y.ackDue ≠ none ∧ y.heldTr = []
        ∧ t = { d with sessions := t.sessions })
    ∧ (request → next → k.continued = true → ∃ t y, get t ∧ t.sess? sid = some y ∧ y.ack = k.seq ∧ y.parts = z.parts ++ [item])
    ∧ (request → ahead → k.seq ≠ nextSeq z.ack → (∀ q ∈ z.heldTr, q.seq ≠ k.seq ∧ q.seq ≠ nextSeq z.ack) →
      ∃ t y, get t ∧ t.sess? sid = some y ∧ y.ack = z.ack ∧ y.heldTr = z.heldTr ++ [item] ∧ y.parts = z.parts)
    ∧ (request → seqLe k.seq z.ack = false → 1024 < (k.seq - z.ack).toNat → get { d with lateArrivals := d.lateArrivals + 1 })
    ∧ (request → seqLe k.seq z.ack = true → z.replies.find? (fun y => y.ref == k.seq) = some r →
      r.content.length ≤ v.contentLimit z.port → ∃ t w, get t ∧ t.sent = .trans sid w :: v.sent ∧ w.reply = true
        ∧ w.ref = r.ref ∧ w.status = r.status ∧ w.content = r.content ∧ w.msgType = r.msgType)
    ∧ (request → seqLe k.seq z.ack = true → z.replies.find? (fun y => y.ref == k.seq) = none →
      ∃ t y, get t ∧ t.sess? sid = some y ∧ y.inbox = z.inbox ∧ y.ack = z.ack ∧ y.ackDue ≠ none ∧ t.sent = v.sent)
    ∧ (has → seqLe x.txSeq seq = false → ∃ t y, exec (.ack sid seq) s = .next t ∧ t.sess? sid = some y
        ∧ (∀ q ∈ y.unacked, seqLe q.seq seq = false) ∧ (∀ q ∈ x.unacked, seqLe q.seq seq = false → ∃ w ∈ y.unacked, w.seq = q.seq)
        ∧ (∀ q ∈ t.results, q ∈ s.results ∧ ∀ m, q.sent = some (sid, m) → seqLe m seq = false)
        ∧ (∀ q ∈ s.results, (∀ m, q.sent = some (sid, m) → seqLe m seq = false) → q ∈ t.results)
        ∧ t = { s with sessions := t.sessions, results := t.results, runs := t.runs })
    ∧ (has → seqLe x.txSeq seq = true → exec (.ack sid seq) s = .next s)
    ∧ (has → waits → resent (.nak sid seq))
    ∧ (has → (∀ q ∈ x.unacked, q.seq ≠ seq) → exec (.nak sid seq) s = .next s ∧ exec (.transactionResend sid seq) s = .next s)
    ∧ (due → tr.resends < 20 → resent (.transactionResend sid seq))
    ∧ (due → 20 ≤ tr.resends → gone (.transactionResend sid seq))
    ∧ (has → waits → (tr.sacked = true ∨ s.since tr.sentAt < tr.interval) → exec (.transactionResend sid seq) s = .next s)
    ∧ (has → x.ackDue = some t0 → ∃ t y, exec (.bareAckSend sid) s = .next t ∧ t.sent = .ack sid x.ack x.sack :: s.sent
        ∧ t.sess? sid = some y ∧ y = { x with ackDue := none, txPkt := x.txPkt + 1 } ∧ t = { s with sent := t.sent, sessions := t.sessions })
    ∧ (has → x.ackDue = none → exec (.bareAckSend sid) s = .next s)
    ∧ (has → s.fld aNetSessCfg 15 0 * 1000000000 ≤ s.since x.lastRx → gone (.sessionIdleTimeout sid))
    ∧ (has → s.since x.lastRx < s.fld aNetSessCfg 15 0 * 1000000000 → exec (.sessionIdleTimeout sid) s = .next s)

/-- R273, R310, R317, R318, R320, R322, R348: a session is kept alive or closed after its reply; an image upload takes a handle where the
store has room, its data in order and its check at the end, which decides; a failed image is gone; in host mode a raw frame leaves as it
stands, its timestamp queued where asked; a request that cannot be served answers why and changes nothing else. -/
def Obligations.HostRequestsAreServed : Prop :=
  ∀ (s : State) (x : Session) (sid seq len handle off : W32) (cr ts : Bool) (data frame : List Byte) (check : W64) (i : Image) (p : Fin 2)
    (id : BitVec 16) (st : Status), Tbl.wf (fun _ => (⟨false, 0, 0, false, []⟩ : Image)) s.images = true →
    Tbl.wf (fun _ => ([] : List TxTs)) s.txq = true →
    let u := s.taken x sid
    let asked := fun (ty : Byte) (role : Option Role) => s.asks x sid seq ty role = true
    let answers := fun (c : Instr) (ty : Byte) (v : State) (b : List Byte) => exec c s = .next (v.reply sid seq ty .ok b)
    let refused := fun (c : Instr) (ty : Byte) (v : State) (st : Status) (d : Detail) => exec c s = .next (v.reply sid seq ty st d.bytes)
    let operator := some Role.operator
    let stored := (s.images.map (fun i => i.2.len)).sum
    let upload := s.image? handle = some i ∧ i.done = false ∧ i.owner = x.id
    let got : Detail := { noDetail with instr := BitVec.ofNat 32 i.bytes.length }
    let key := 2 ^ 20 + handle.toNat
    let ctx := s.checkCtx key
    let good := (s.profile ctx.profile).finish ctx.value.toNat = check.toNat
    let queue := Tbl.get s.txq p.val []
    (asked 0x03 none → answers (.keepalive sid seq) 0x03 u [])
    ∧ (asked 0x04 none → s.mayLog = true →
      ∃ t, exec (.close sid seq) s = .next t ∧ t.sess? sid = none
        ∧ (∃ w, .trans sid w ∈ t.sent ∧ w.reply = true ∧ w.ref = seq ∧ w.status = 0)
        ∧ (∃ e ∈ t.log.entries, e.number = t.log.num ∧ e.cls = 0x0006 ∧ e.session = x.id) ∧ t.runs = s.runs)
    ∧ (asked 0x04 none → s.nvWindow = false → refused (.close sid seq) 0x04 u .state noDetail)
    ∧ (asked 0x30 operator → 1 ≤ len.toNat → len.toNat ≤ 2 ^ 30 → u.uploads < 256 → stored + len.toNat ≤ 2 ^ 30 →
      ∃ v, answers (.imgBegin sid seq cr len) 0x30 v (leBytes 4 s.nextHandle.toNat)
        ∧ v.image? s.nextHandle = some ⟨cr, len.toNat, x.id, false, []⟩ ∧ v.nextHandle = s.nextHandle + 1
        ∧ (∀ h, h ≠ s.nextHandle → v.image? h = s.image? h)
        ∧ (v.checkCtx (2 ^ 20 + s.nextHandle.toNat)).profile = x.profile
        ∧ v = { u with images := v.images, nextHandle := v.nextHandle, checks := v.checks })
    ∧ (asked 0x30 operator → (len = 0 ∨ 2 ^ 30 < len.toNat) → refused (.imgBegin sid seq cr len) 0x30 u .range noDetail)
    ∧ (asked 0x30 operator → 1 ≤ len.toNat → len.toNat ≤ 2 ^ 30 → 256 ≤ u.uploads →
      refused (.imgBegin sid seq cr len) 0x30 u .queueFull noDetail)
    ∧ (asked 0x30 operator → 1 ≤ len.toNat → len.toNat ≤ 2 ^ 30 → u.uploads < 256 → 2 ^ 30 < stored + len.toNat →
      (∀ y ∈ s.images, u.evictable y.1 y.2 = false) → refused (.imgBegin sid seq cr len) 0x30 u .busy noDetail)
    ∧ (asked 0x31 operator → upload → off.toNat = i.bytes.length → i.bytes.length + data.length ≤ i.len →
      ∃ v, answers (.imgData sid seq handle off data) 0x31 v [] ∧ v.image? handle = some { i with bytes := i.bytes ++ data }
        ∧ (∀ h, h ≠ handle → v.image? h = s.image? h) ∧ v = { u with images := v.images, checks := v.checks })
    ∧ (asked 0x31 operator → upload → (off.toNat ≠ i.bytes.length ∨ i.len < i.bytes.length + data.length) →
      refused (.imgData sid seq handle off data) 0x31 u .range got)
    ∧ (asked 0x32 operator → upload → i.len ≤ i.bytes.length → good →
      ∃ v, answers (.imgEnd sid seq handle check) 0x32 v [] ∧ v.image? handle = some { i with done := true }
        ∧ (∀ h, h ≠ handle → v.image? h = s.image? h) ∧ v = { u with images := v.images, checks := v.checks })
    ∧ (asked 0x32 operator → upload → i.len ≤ i.bytes.length → ¬ good →
      ∃ v, refused (.imgEnd sid seq handle check) 0x32 v .check noDetail ∧ v.image? handle = none
        ∧ (∀ h, h ≠ handle → v.image? h = s.image? h)
        ∧ v = { u with images := v.images, checks := v.checks, kept := v.kept, regs := v.regs })
    ∧ (asked 0x32 operator → upload → i.bytes.length < i.len → refused (.imgEnd sid seq handle check) 0x32 u .range got)
    ∧ ((s.image? handle = none ∧ st = .notFound ∨ s.image? handle = some i ∧ (i.done = true ∨ i.owner ≠ x.id) ∧ st = .state) →
      (asked 0x31 operator → refused (.imgData sid seq handle off data) 0x31 u st noDetail)
        ∧ (asked 0x32 operator → refused (.imgEnd sid seq handle check) 0x32 u st noDetail))
    ∧ (asked 0x78 (some .installer) → s.hostMode = true →
      ∃ v, answers (.rawTx sid seq p ts id frame) 0x78 v [] ∧ v.rawSid = some x.id ∧ v.sent = .raw p frame :: s.sent
        ∧ Tbl.get v.txq p.val [] = (if ts = true ∧ queue.length < 16 then queue ++ [⟨id, ptpKind frame, s.clock.sys⟩] else queue)
        ∧ v = { u with rawSid := v.rawSid, sent := v.sent, txq := v.txq, regs := v.regs })
    ∧ (asked 0x78 (some .installer) → s.hostMode = false → refused (.rawTx sid seq p ts id frame) 0x78 u .state noDetail)

/-- R320, R331, R332, R333, R334, R336, R343, R344, R345, R346, R351, R352: the Flask's requests. Log entries and records are read; a
record that its role may write and whose fields stand is logged first and then written, with what the write of a credential withdraws; an
image is installed, committed or abandoned; a report waits for its signature; entries are chained and pruned; each other request answers why. -/
def Obligations.FlaskRequestsAreServed : Prop :=
  ∀ (s : State) (x : Session) (sid seq first count len : W32) (cls idx : BitVec 16) (r : List Byte) (kind : BitVec 8) (sha : BitVec 256)
    (i : FwImage) (ch : BitVec 256) (sig : List Byte) (p : Report) (rest : List Report) (q : LogPend) (ql : List LogPend),
    let u := s.taken x sid
    let k := kind.toNat
    let asked := s.asks x sid seq 0x61 none = true
    let answers := fun (cmd : Instr) (ty : Byte) (v : State) (b : List Byte) => exec cmd s = .next (v.reply sid seq ty .ok b)
    let refused := fun (cmd : Instr) (ty : Byte) (v : State) (st : Status) => exec cmd s = .next (v.reply sid seq ty st noDetail.bytes)
    let found := s.log.entries.filter (fun e => decide ((e.number - first).toNat < count.toNat))
    let writes := asked ∧ s.mayLog = true ∧ r.length = 256
    let d := nvDetail cls.toNat idx.toNat r
    let logged := u.logNow x 0x0002 0 d
    let saved := 0x0300 ≤ cls.toNat ∧ cls.toNat ≤ 0x0306 ∧ cls.toNat ≠ 0x0304
    let nvw := fun (v : State) => answers (.nvWrite sid seq cls idx r) 0x61 v []
    let no := fun (v : State) (st : Status) => refused (.nvWrite sid seq cls idx r) 0x61 v st
    let role := credRole cls.toNat
    let c := credOfRec r
    let old := s.cred role idx.toNat
    let key := role.code.toNat * 64 + idx.toNat
    let put := fun (v : State) => { v with creds := Tbl.put v.creds key c Cred.init }.nvPut cls.toNat idx.toNat r
    let elsewhere := fun (z : Role) (j : Nat) =>
      j < z.slots ∧ (z ≠ role ∨ j ≠ idx.toNat) ∧ (s.cred z j).active = true ∧ (s.cred z j).key = c.key
    let cred := asked ∧ s.nvWindow = true ∧ s.logTaken + 2 ≤ 1000 ∧ r.length = 256
      ∧ (cls.toNat = 0x0101 ∧ x.role = .installer ∨ (cls.toNat = 0x0102 ∨ cls.toNat = 0x0103) ∧ x.role = .maker)
    let stands := idx.toNat < role.slots ∧ credRecOk r = true ∧ (c.active = true → ∀ z j, ¬ elsewhere z j)
      ∧ 0 < (put s).activeKeys .maker
    let gone := u.logNow x 0x0004 0 (credDetail cls.toNat idx.toNat old)
    let new := fun (v : State) => v.logNow x 0x0003 0 (credDetail cls.toNat idx.toNat c)
    let inst := asked ∧ x.role = .installer ∧ 1 ≤ k ∧ k ≤ 3
    let image := s.fwImage k (s.fwActive k)
    let arc := s.arcOf (k - 1)
    let top := if arc.toNat < image.svn.toNat then image.svn else arc
    let detail := fun (a : Nat) (svn : W32) (h : BitVec 256) (st : Status) => imageDetail a k svn h st.code.toNat
    let install := Instr.imageInstall sid seq kind len sha
    let tells := fun (cmd : Instr) (a : Nat) (svn : W32) (h : BitVec 256) (v : State) (st : Status) =>
      refused cmd 0x61 (v.logRefused x 0x0008 (detail a svn h st)) st
    (s.asks x sid seq 0x60 none = true → 1 ≤ count.toNat → count.toNat ≤ 1024 → found ≠ [] →
      answers (.logRead sid seq first count) 0x60 u (found.flatMap LogEntry.bytes))
    ∧ (s.asks x sid seq 0x60 none = true → 1 ≤ count.toNat → count.toNat ≤ 1024 → found = [] →
      refused (.logRead sid seq first count) 0x60 u .notFound)
    ∧ (s.asks x sid seq 0x60 none = true → (count = 0 ∨ 1024 < count.toNat) → refused (.logRead sid seq first count) 0x60 u .range)
    ∧ (s.asks x sid seq 0x62 none = true → s.nvRead? cls.toNat idx.toNat = some r → answers (.nvRead sid seq cls idx) 0x62 u r)
    ∧ (s.asks x sid seq 0x62 none = true → s.nvRead? cls.toNat idx.toNat = none → refused (.nvRead sid seq cls idx) 0x62 u .notFound)
    ∧ (writes → x.role = .installer → saved → savedOk cls.toNat r = true → nvw (logged.nvPut cls.toNat idx.toNat r))
    ∧ (writes → x.role = .installer → cls = 0x0304 → eqRecOk idx.toNat r = true →
      nvw (logged.nvPut 0x0304 idx.toNat (eqStamp (s.nvGet 0x0304 idx.toNat) r)))
    ∧ (writes → x.role = .installer → cls = 0x0200 → s.fw.install = none →
      nvw { logged with fw := { s.fw with staged := Tbl.put s.fw.staged idx.toNat r [] } })
    ∧ (asked → r.length = 256 → x.role = .installer → cls = 0x0200 → s.fw.install ≠ none → no (u.logRefused x 0x0002 d) .busy)
    ∧ (asked → r.length = 256 → x.role = .installer →
      (saved ∧ savedOk cls.toNat r = false ∨ cls = 0x0304 ∧ eqRecOk idx.toNat r = false) → no (u.logRefused x 0x0002 d) .range)
    ∧ (asked → x.role = .installer → cls = 0x0201 → r.length = 256 → no (u.logRefused x 0x0008 d) .range)
    ∧ (asked → cls.toNat ∈ nvClasses → nvWriter cls.toNat ≠ some x.role → no (u.logRefused x 0x0002 d) .roleDenied)
    ∧ (asked → cls.toNat ∈ nvClasses → nvWriter cls.toNat = some x.role → r.length ≠ 256 → no (u.logRefused x 0x0002 d) .range)
    ∧ (asked → cls.toNat ∉ nvClasses → no u .notFound)
    ∧ (asked → r.length = 256 → x.role = .installer → saved → savedOk cls.toNat r = true →
      (s.nvWindow = false → no u .state) ∧ (s.nvWindow = true → 1000 ≤ s.logTaken → no (u.count aFlkCnt 15 8 1) .rate))
    ∧ (cred → ¬ stands → no (u.logRefused x 0x0003 (credDetail cls.toNat idx.toNat c)) .range)
    ∧ (cred → stands → old.active = false → c.active = true → nvw (put (new u)))
    ∧ (cred → stands → old.active = true → c.active = false → nvw ((put gone).withdraw old.keyId))
    ∧ (cred → stands → old.active = true → c.active = true → c.key ≠ old.key → nvw ((put (new gone)).withdraw old.keyId))
    ∧ (cred → stands → old.active = true → c.active = true → c.key = old.key →
      nvw (if role = .operator then (put logged).denyClusters old.keyId old.mask c.mask else put logged))
    ∧ (cred → stands → old.active = false → c.active = false → nvw (put logged))
    ∧ (∀ y ∈ (s.withdraw old.keyId).sessions, y.keyId ≠ old.keyId)
    ∧ (inst → s.mayLog = true → s.fw.install = none → s.candidate k len.toNat sha = some i →
      answers install 0x61 { u.logNow x 0x0008 0 (detail 1 i.svn sha .ok) with
        fw := { s.fw with images := Tbl.insert s.fw.images (k * 2 + (1 - s.fwActive k)) i, install := some (kind, s.mono) } } [])
    ∧ (inst → s.fw.install = none → s.candidate k len.toNat sha = none → tells install 1 0 sha (u.count aFlkCnt 7 0 1) .imageFault)
    ∧ (inst → s.fw.install ≠ none → tells install 1 0 sha u .busy)
    ∧ (inst → s.nvWindow = true → s.logTaken + 2 ≤ 1000 → Tbl.get s.fw.proven k false = true →
      answers (.imageCommit sid seq kind) 0x61 { (u.logNow x 0x0008 0 (detail 2 image.svn image.sha .ok)).logNow x 0x0009 0
        (leBytes 1 (k - 1) ++ leBytes 4 arc.toNat ++ leBytes 4 top.toNat) with arc := Tbl.put s.arc (k - 1) top 0 } [])
    ∧ (inst → Tbl.get s.fw.proven k false = false → tells (.imageCommit sid seq kind) 2 image.svn image.sha u .state)
    ∧ (inst → s.mayLog = true → answers (.imageAbandon sid seq kind) 0x61 { u.logNow x 0x0008 0 (detail 3 0 0 .ok) with
        fw := { s.fw with staged := [], install := if s.fw.install.map (fun y => y.1) = some kind then none else s.fw.install } } [])
    ∧ (asked → (x.role ≠ .installer → tells install 1 0 sha u .roleDenied ∧ tells (.imageAbandon sid seq kind) 3 0 0 u .roleDenied
        ∧ tells (.imageCommit sid seq kind) 2 image.svn image.sha u .roleDenied)
      ∧ (x.role = .installer → (k = 0 ∨ 3 < k) → tells install 1 0 sha u .range ∧ tells (.imageAbandon sid seq kind) 3 0 0 u .range
        ∧ tells (.imageCommit sid seq kind) 2 image.svn image.sha u .range))
    ∧ (s.asks x sid seq 0x63 none = true →
      exec (.attest sid seq ch) s = .next { u with reports := s.reports ++ [⟨sid, seq, u.reportBytes ch⟩] })
    ∧ (s.reports = p :: rest →
      exec (.attestSigned sig) s = .next (State.reply { s with reports := rest } p.sid p.seq 0x63 .ok (p.bytes ++ sig)))
    ∧ (s.reports = [] → exec (.attestSigned sig) s = .next s)
    ∧ (s.log.pend = q :: ql → s.nv.holding = false → s.nvWindow = true → ∃ t, exec .logEntryCommit s = .next t
      ∧ t = { s with log := t.log } ∧ t.log.pend = ql ∧ t.log.merged = s.log.merged
      ∧ (∃ e, t.log.entries.getLast? = some e ∧ e.number = t.log.num ∧ e.hash = t.log.head
        ∧ e.hash = Config.sha256 (hashBytes e.prev ++ logBytes e.number q)
        ∧ (s.log.entries.length < 65535 → t.log.entries = s.log.entries ++ [e] ∧ t.log.num = s.log.num + 1 ∧ e.prev = s.log.head)
        ∧ (65535 ≤ s.log.entries.length → ∃ f, t.log.entries = s.log.entries.drop 4096 ++ [f, e] ∧ f.cls = 0x000C ∧ f.prev = s.log.head
          ∧ f.number = s.log.num + 1 ∧ e.prev = f.hash ∧ t.log.num = s.log.num + 2)))
    ∧ ((s.log.pend = [] ∨ s.nv.holding = true ∨ s.nvWindow = false) → exec .logEntryCommit s = .next s)
    ∧ (s.log.merged ≠ [] → s.log.sec ≠ s.logSec → exec .logRateSecondEnd s = .next { s with log := { s.log with
        merged := [], inSec := 1, sec := s.logSec, pend := s.log.pend ++ [⟨0x000D, 3, 0, s.clock.sys, s.mono, 0, 0,
          s.log.merged.flatMap (fun m => leBytes 2 m.1.toNat ++ leBytes 4 m.2)⟩] } })
    ∧ ((s.log.merged = [] ∨ s.log.sec = s.logSec) → exec .logRateSecondEnd s = .next s)

/-! ### Registers (R2, R3, R5, R321, R348) -/

/-- R5, R40, R130, R136, R141, R152, R196, R215, R218, R240, R321, R348: each command that writes registers, accepted, stores the word by the
fields that a write sets and then does what that register's write does, and answers OK; a write of an /I or /M register is logged first with
its old and new words, and answers STATE outside the NV window or RATE with the second's entries used; a write that fails a check is refused. -/
def Obligations.RegisterWritesAreAppliedAndAnswered : Prop :=
  ∀ (s : State) (x : Session) (sid seq v : W32) (l : List (W32 × W32)),
    let u := s.taken x sid
    let asked := s.asks x sid seq 0x11 none = true
    let ok := fun (c : Instr) (w : State) => exec c s = .next (w.reply sid seq 0x11 .ok [])
    let refused := fun (c : Instr) (w : State) (st : Status) (d : Detail) => exec c s = .next (w.reply sid seq 0x11 st d.bytes)
    let priv := fun (a : Nat) => (findReg a).any (fun f => f.row.role == some .installer || f.row.role == some .maker)
    let line := fun (w : State) (a : Nat) (v : W32) => leBytes 4 1 ++ (leBytes 4 a ++ leBytes 4 (w.liveAt a).toNat ++ leBytes 4 v.toNat)
    let writes := fun (c : Instr) (a : Nat) (v : W32) (E : State → State) => asked →
      (u.checkEntry x.role a v = none →
        (priv a = false → ok c (E u)) ∧ (priv a = true → s.mayLog = true → ok c (E (u.logNow x 0x0001 0 (line u a v))))
        ∧ (priv a = true → s.nvWindow = false → refused c u .state noDetail)
        ∧ (priv a = true → s.nvWindow = true → 1000 ≤ s.logTaken → refused c (u.count aFlkCnt 15 8 1) .rate noDetail))
      ∧ (∀ b, u.checkEntry x.role a v = some b →
        let w := if b.loop then u.count aSprCntB 31 24 1 else u
        refused c (if priv a = true then w.logRefused x 0x0001 (line w a v) else w) b.st { detailAddr a with index := 0 })
    let keep := fun (w : State) (a : Nat) (v : W32) => w.setReg a (((findReg a).map (fun f => f.stored (s.reg a) v)).getD 0)
    let acts := fun (c : Instr) (a : Nat) (v : W32) (E : State → State) => writes c a v (fun w => E (keep w a v))
    let pairs := l.map (fun e => (e.1.toNat, e.2))
    let lines := writeDetails (u.privWrites x pairs)
    (∀ (ch : Fin 96), acts (.rfQueueFaultClear sid seq ch) (aRfStat ch) 0x4000 (fun w => w.judgeMute ch s.now)
      ∧ acts (.rfCtrlWrite sid seq ch v) (aRfCtrl ch) v (fun w => w.rfCtrlEffect ch (s.reg (aRfCtrl ch))))
    ∧ (∀ (g : Fin 16), acts (.grpSw sid seq g v) (aGrpSw g) v (fun w => if v.getLsbD 0 = true then w.grpSwEffect g else w)
      ∧ acts (.grpCtrlWrite sid seq g v) (aGrpCtrl g) v (fun w => if w.bit (aGrpCtrl g) 0 = true then w.groupUp g else w.groupDown g))
    ∧ (∀ (n : Fin 384), let a := if n.val < 128 then aFlxCfg n else aBiaCfg (n.val - 128)
      acts (.rangeWrite sid seq n v) a v (fun w => if s.fbRange n = w.fbRange n then w else w.openWindow n))
    ∧ (∀ (ch : Fin 32), let a := aAdcCtrl ch
      let E := fun (w : State) => w.adcCtrlEffect ch
      acts (.refbufEnable sid seq ch v) a (withBit v 0 true) E ∧ acts (.refbufDisable sid seq ch v) a (withBit v 0 false) E
      ∧ acts (.adcRangeWrite sid seq ch v) a v E ∧ acts (.adcTrigEnable sid seq ch v) a (withBit v 1 true) E)
    ∧ (∀ (c : Fin 34), let m := s.reg (aCruDragAddr c)
      acts (.classifierCommitGo sid seq c v) (aCruClsThi c) (withBit v 31 true) (fun w => w.classifierGo c)
      ∧ writes (.cruDragAccess sid seq c (some v)) (aCruDragData c) v (fun w =>
        ((w.setCru c ((s.cru c).setDrag (fieldOf m 15 12) (fieldOf m 11 0) v)).copyWrite c (65536 + fieldOf m 15 0) v).dragNext c))
    ∧ (∀ (i : Fin 16), let a := aSprTmrCfg i
      let E := fun (w : State) => w.timerCfgEffect i (s.reg a)
      acts (.timerEnable sid seq i v) a (withBit v 31 true) E ∧ acts (.timerDisable sid seq i v) a (withBit v 31 false) E
      ∧ acts (.cryChannelWrite sid seq i true v) (aCryExc i) v (fun w => w.cryChannelEffect i)
      ∧ acts (.cryChannelWrite sid seq i false v) (aCryPins i) v (fun w => w.cryChannelEffect i))
    ∧ (∀ (p : Fin 8), let a := aRunPortCtrl p
      let on := withBit v 0 true
      let up := fun (z : W32) (w : State) =>
        if (s.port p).st = .off then w.bringUp p
        else if z.getLsbD 3 = true ∧ (s.port p).st = .enabled then w.enterResync p else w
      acts (.portEnable sid seq p v) a on (up on) ∧ acts (.portRetrain sid seq p v) a (withBit on 3 true) (up (withBit on 3 true))
      ∧ acts (.portDisable sid seq p v) a (withBit v 0 false) (fun w => if (s.port p).st = .off then w else w.portDown p .off))
    ∧ (∀ (k : Fin 4), acts (.tiuStart sid seq k) (aTiuUctrl k) 1 (fun w => w.tiuStartUnit k)
      ∧ acts (.tiuAbort sid seq k) (aTiuUctrl k) 2 (fun w => w.tiuAbortUnit k)
      ∧ acts (.cryRoutWrite sid seq k true v) (aCryRoutFs k) v (fun w => w)
      ∧ acts (.cryRoutWrite sid seq k false v) (aCryRoutCfg k) v (fun w => w.cryRoutEffect k (s.reg (aCryRoutCfg k))))
    ∧ acts (.resbufHighWaterClear sid seq) aMldResbufStat 0x100000 (fun w => w.highWater)
    ∧ acts (.softwarePublish sid seq v) aSprSwpub v (fun w =>
      w.publish (localEv (v.setWidth 8) (s.now + 24).stamp (BitVec.ofNat 16 (fieldOf v 31 16)) 1 0x0F8))
    ∧ acts (.realign sid seq) aTimCastCtrl 1 (fun w => w.realignEffect)
    ∧ acts (.stepArm sid seq) aTimSysCtrl 1 (fun w => { w with sys := { s.sys with stepArmed := true } })
    ∧ acts (.sysOffsetIn sid seq v) aTimSysOfsIn v (fun w => w.sysOffset v.toInt)
    ∧ acts (.capArm sid seq) aCapCtrl 1 (fun w => w.capArmUnit (some x.id))
    ∧ acts (.capSoftwareFire sid seq) aCapCtrl 2 (fun w => w.capFireUnit (s.now + 24) 0)
    ∧ acts (.capAbort sid seq) aCapCtrl 4 (fun w => w.capAbortUnit) ∧ acts (.capReleaseWrite sid seq) aCapCtrl 8 (fun w => w.capReleaseUnit)
    ∧ acts (.cmkReq sid seq v) aCmkReq v (fun w => (w.cmkRequest (BitVec.ofNat 8 (fieldOf v 31 24)) (v.setWidth 24)).getD w)
    ∧ acts (.fuseProgGo sid seq v) aFusProgHi (withBit v 31 true) (fun w => (w.cmkRequest 0x20 0).getD w)
    ∧ acts (.calAccept sid seq) aCalAccept 1 (fun w => w.calAcceptEffect 1)
    ∧ acts (.calDiscard sid seq) aCalAccept 2 (fun w => w.calAcceptEffect 2)
    ∧ acts (.cryCtrlWrite sid seq v) aCryCtrl v (fun w => w.cryCtrlEffect (s.reg aCryCtrl))
    ∧ acts (.mldReset sid seq v) aMldReset v (fun w => if v.getLsbD 0 = true then w.commandReset else w)
    ∧ (asked → 1 ≤ l.length → l.length ≤ 256 → u.writeFault x 0 pairs = none →
      (lines = [] → ok (.regWrite sid seq l) (u.applyAll x.id pairs))
      ∧ (lines ≠ [] → s.nvWindow = true → s.logTaken + lines.length ≤ 1000 →
        ok (.regWrite sid seq l) ((u.each lines (fun w b => w.logNow x 0x0001 0 b)).applyAll x.id pairs)))
    ∧ (asked → (l = [] ∨ 256 < l.length) → refused (.regWrite sid seq l) u .range noDetail)
    ∧ (∀ a, u.applyAll x.id [(a, v)] = u.applyWrite x.id a v)

/-- R2, R5, R68, R202, R236, R273, R321, R439, R440, R442, R444: a read of registers answers their words in the order named, and does to
each what its read does; a read that names no register, or one that ingot mode does not serve, is refused in whole. A write is checked for
its address, the role, the unit, the range and what stands against it, in that order. A bit-slip moves the boundary by one. A RW bit takes
the bit written, a W1C bit is cleared by a 1, and any other keeps its value; PE_WDOG takes 1 for a limit of 0. -/
def Obligations.RegisterReadsRefusalsAndWritableBits : Prop :=
  (∀ (s : State) (x : Session) (sid seq v a : W32) (al : Bool) (l m : List W32) (p : Fin 8) (n : Fin 9) (f : RegRef) (st : Status),
    let u := s.taken x sid
    let asked := s.asks x sid seq 0x10 none = true
    let gives := fun (c : Instr) (a : Nat) =>
      exec c s = .next ((u.readReg sid a).2.reply sid seq 0x10 .ok (leBytes 4 (u.readReg sid a).1.toNat))
    let refused := fun (c : Instr) (ty : Byte) (st : Status) (d : Detail) => exec c s = .next (u.reply sid seq ty st d.bytes)
    let named := fun (l : List W32) => ∀ a ∈ l, (findReg a.toNat).isSome = true
    let served := fun (l : List W32) => s.boot.ingot = false ∨ ∀ a ∈ l, ingotReads a.toNat = true
    let at' : Detail := { noDetail with addr := a, index := BitVec.ofNat 32 l.length }
    let old := s.reg (aRunLaneCtrl p n)
    let acts := (s.port p).searching = true ∧ s.bit (aRunPortCtrl p) 2 = true
    let w := f.stored (s.reg a.toNat) v
    (asked → l ≠ [] → l.length ≤ 256 → named l → served l → exec (.regRead sid seq l) s
      = .next ((u.readAll sid l).2.reply sid seq 0x10 .ok ((u.readAll sid l).1.flatMap (fun v => leBytes 4 v.toNat))))
    ∧ (asked → named [a] → served [a] → gives (.regRead sid seq [a]) a.toNat)
    ∧ (asked → (l = [] ∨ 256 < l.length) → refused (.regRead sid seq l) 0x10 .range noDetail)
    ∧ (asked → (l ++ a :: m).length ≤ 256 → named l → findReg a.toNat = none → refused (.regRead sid seq (l ++ a :: m)) 0x10 .address at')
    ∧ (asked → (l ++ a :: m).length ≤ 256 → named (l ++ a :: m) → s.boot.ingot = true → served l → ingotReads a.toNat = false →
      refused (.regRead sid seq (l ++ a :: m)) 0x10 .ingot at')
    ∧ (asked → s.boot.ingot = false → ∀ (q : Fin 2), gives (.txqIdRead sid seq q) (aTimTxqId q))
    ∧ (asked → s.boot.ingot = false → ∀ (c : Fin 34), gives (.cruDragAccess sid seq c none) (aCruDragData c))
    ∧ (s.asks x sid seq 0x11 none = true → u.checkEntry x.role (aRunLaneCtrl p n) 1 = none → s.mayLog = true →
      ∃ t, exec (.laneSlip sid seq p n al) s = .next t
        ∧ (Tbl.wf resetWord s.regs = true → acts → t.bit (aRunLaneStat p n) 2 = al
          ∧ t.fld (aRunLaneStat p n) 15 12 = min (s.fld (aRunLaneStat p n) 15 12 + 1) 15)
        ∧ (¬ acts → t.regs = (s.setReg (aRunLaneCtrl p n) (((findReg (aRunLaneCtrl p n)).map (fun f => f.stored old 1)).getD 0)).regs)
        ∧ t = { s with sessions := t.sessions, sent := t.sent, log := t.log, regs := t.regs, free := t.free })
    ∧ (findReg a.toNat = none → s.checkEntry x.role a.toNat v = some ⟨.address, false⟩)
    ∧ (findReg a.toNat = some f → (∃ r, f.row.role = some r ∧ r ≠ x.role) → s.checkEntry x.role a.toNat v = some ⟨.roleDenied, false⟩)
    ∧ (findReg a.toNat = some f → (∀ r, f.row.role = some r → r = x.role) →
      (s.servesNone f = true → s.checkEntry x.role a.toNat v = some ⟨.state, false⟩)
      ∧ (s.servesNone f = false → s.rangeFault x.role f v w = some st → s.checkEntry x.role a.toNat v = some ⟨st, false⟩)
      ∧ (s.servesNone f = false → s.rangeFault x.role f v w = none → s.busyFault f (s.reg a.toNat) v w = some st →
        s.checkEntry x.role a.toNat v = some ⟨st, false⟩)
      ∧ (s.servesNone f = false → s.rangeFault x.role f v w = none → s.busyFault f (s.reg a.toNat) v w = none →
        s.checkEntry x.role a.toNat v
          = if loopJudged f.row.id = true ∧ s.loopRefused (s.setReg a.toNat w) = true then some ⟨.loop, true⟩ else none)))
  ∧ (∀ (f : RegRef) (old v : W32) (k : Fin 32), f.row.id ≠ .peWdog →
    (f.rwMask.getLsbD k = false → f.row.w1c.getLsbD k = false → (f.stored old v).getLsbD k = old.getLsbD k)
    ∧ (f.rwMask.getLsbD k = true → f.row.w1c.getLsbD k = false → (f.stored old v).getLsbD k = v.getLsbD k)
    ∧ (f.rwMask.getLsbD k = false → f.row.w1c.getLsbD k = true → (f.stored old v).getLsbD k = (old.getLsbD k && !v.getLsbD k)))
  ∧ (∀ (e : Fin 136) (old v : W32), ∃ f, findReg (aPeWdog e) = some f
    ∧ fieldOf (f.stored old v) 23 0 = if fieldOf v 23 0 = 0 then 1 else fieldOf v 23 0)

/-- R132, R133, R141, R149, R152, R159, R168, R202, R213, R215, R240, R250: what the accepted writes of output, acquisition, feedback and link
registers do. A mute cause mutes a channel, and the last one gone settles it; a group powers up or clears and shuts down, or has its strobe
asked for; a changed range opens a window at the clear code; a reference buffer starts, or its stop or range change waits; a Drag word is
stored and the address moves on; a software event is published; a timer starts or stops; a port comes up, trains again or goes down. -/
def Obligations.OutputRegisterWritesAct : Prop :=
  ∀ (s : State) (x : Session) (sid seq v : W32) (g i : Fin 16) (n : Fin 384) (ch : Fin 32) (rf : Fin 96) (c : Fin 34) (p : Fin 8),
    Tbl.wf resetWord s.regs = true → Tbl.wf (fun _ => Group.init) s.groups = true → Tbl.wf (fun _ => FbChan.init) s.fb = true →
    Tbl.wf (fun _ => AdcChan.init) s.adc = true → Tbl.wf (fun _ => (⟨none⟩ : TimerRun)) s.timers = true →
    Tbl.wf (fun _ => Port.init) s.ports = true → Tbl.wf (fun _ => Cru.init) s.crus = true → Tbl.wf (fun _ => RfChan.init) s.rf = true →
    Tbl.wf (fun _ => (0 : W32)) (s.cru c).drag = true → s.cmk.abort = false → s.mayLog = true → s.asks x sid seq 0x11 none = true →
    let on := fun (w : W32) (k : Nat) => w.getLsbD k = true
    let off := fun (w : W32) (k : Nat) => w.getLsbD k = false
    let does := fun (cmd : Instr) (a : Nat) (w : W32) (P : State → Prop) =>
      (s.taken x sid).checkEntry x.role a w = none → ∃ t, exec cmd s = .next t ∧ P t
    let served := fun (t : State) => { s with sessions := t.sessions, sent := t.sent, log := t.log, regs := t.regs }
    let muting := fun (t : State) =>
      (t.muted rf = true → (t.rfch rf).st = .muted)
      ∧ (t.muted rf = false → (s.rfch rf).st = .muted → (t.rfch rf).st = .settling ∧ (t.rfch rf).since = s.now)
      ∧ (t.muted rf = false → (s.rfch rf).st ≠ .muted → (t.rfch rf).st = (s.rfch rf).st)
      ∧ (∀ k : Fin 96, k ≠ rf → t.rfch k = s.rfch k) ∧ t = { served t with rf := t.rf, tones := t.tones, runs := t.runs }
    let y := s.grp g
    let a := s.adcch ch
    let start : AdcChan := if (s.bank 5).st = .on then a.refStart s.now else a
    let enabled : AdcChan := match a.refbuf with
      | .off => start
      | .shuttingDown => { a with enPending := true }
      | _ => { a with disPending := false }
    let disabled : AdcChan := match a.refbuf with
      | .off => a
      | .shuttingDown => { a with enPending := false }
      | _ => { a with disPending := true }
    let adc := fun (cmd : Instr) (w : W32) => does cmd (aAdcCtrl ch) w (fun t =>
      let r := BitVec.ofNat 2 (fieldOf w 9 8)
      let b : AdcChan := if w.getLsbD 0 = true then enabled else disabled
      t.adcch ch = { b with rangePending := if r = a.rangePending.getD a.range then a.rangePending else if r = a.range then none else some r }
      ∧ t.bit (aAdcCtrl ch) 1 = w.getLsbD 1 ∧ (∀ k : Fin 32, k ≠ ch → t.adcch k = s.adcch k) ∧ t = { served t with adc := t.adc })
    let w0 := s.reg (aCruDragAddr c)
    let timer := fun (cmd : Instr) (w : W32) (T : TimerRun) => does cmd (aSprTmrCfg i) w (fun t =>
      t.timer i = T ∧ (∀ k : Fin 16, k ≠ i → t.timer k = s.timer k) ∧ t = { served t with timers := t.timers })
    let port := fun (cmd : Instr) (w : W32) (P : State → Prop) => does cmd (aRunPortCtrl p) w (fun t =>
      P t ∧ ∀ q : Fin 8, q ≠ p → (t.port q).st = (s.port q).st)
    let event := localEv (v.setWidth 8) (s.now + 24).stamp (BitVec.ofNat 16 (fieldOf v 31 16)) 1 0x0F8
    does (.rfCtrlWrite sid seq rf v) (aRfCtrl rf) v (fun t => muting t
        ∧ ((off v 0 ∨ on v 1 ∨ fieldOf v 7 4 ≠ s.fld (aRfCtrl rf) 7 4) → (t.rfch rf).st = .muted))
    ∧ does (.rfQueueFaultClear sid seq rf) (aRfStat rf) 0x4000 (fun t => muting t ∧ t.bit (aRfStat rf) 14 = false)
    ∧ does (.grpSw sid seq g v) (aGrpSw g) v (fun t =>
        t.grp g = (if v.getLsbD 0 = true then y.request (s.now + 24) none false true else y)
        ∧ (on v 0 → ∃ q ∈ (t.grp g).reqs, q.tick = s.now + 24 ∧ q.sw = true)
        ∧ (∀ h : Fin 16, h ≠ g → t.grp h = s.grp h) ∧ t = { served t with groups := t.groups })
    ∧ does (.grpCtrlWrite sid seq g v) (aGrpCtrl g) v (fun t =>
        (on v 0 → y.st = .off → t.grp g = { y with st := .poweringUp, since := s.now, enPending := false } ∧ t.routineWanted 0x05 g = true)
        ∧ (on v 0 → y.st = .shuttingDown → t.grp g = { y with enPending := true })
        ∧ (on v 0 → (y.st = .on ∨ y.st = .poweringUp) → t.grp g = y)
        ∧ (off v 0 → y.st = .off → t.grp g = y)
        ∧ (off v 0 → y.st = .shuttingDown → t.grp g = { y with enPending := false })
        ∧ (off v 0 → (y.st = .on ∨ y.st = .poweringUp) → t.grp g = { y with st := .shuttingDown, since := s.now, enPending := false }
          ∧ t.routineWanted 0x06 (16 + g) = true ∧ ∀ m ∈ groupChans g, (t.fbch m).code = s.clrCode m ∧ (t.fbch m).atClear = true)
        ∧ (∀ h : Fin 16, h ≠ g → t.grp h = s.grp h) ∧ t.runs = s.runs ∧ t.tones = s.tones ∧ t.rf = s.rf)
    ∧ does (.rangeWrite sid seq n v) (if n.val < 128 then aFlxCfg n else aBiaCfg (n.val - 128)) v (fun t =>
        (t.fbRange n ≠ s.fbRange n → (t.fbch n).code = s.clrCode n ∧ (t.fbch n).atClear = true
          ∧ (t.fbch n).window.map (fun w => w.2) = some s.now ∧ (t.fbch n).range = (s.fbch n).rangeAt s.now
          ∧ ∃ d, d < 6000 ∧ (t.fbch n).switchAt = some (s.now + BitVec.ofNat 64 d, t.fbRange n))
        ∧ (t.fbRange n = s.fbRange n → t.fbch n = s.fbch n)
        ∧ t.fbRange n = BitVec.ofNat 2 (if n.val < 128 then fieldOf v 1 0 else fieldOf v 0 0)
        ∧ (∀ m : Fin 384, m ≠ n → t.fbch m = s.fbch m) ∧ t = { served t with fb := t.fb, free := t.free, runs := t.runs })
    ∧ adc (.refbufEnable sid seq ch v) (withBit v 0 true) ∧ adc (.refbufDisable sid seq ch v) (withBit v 0 false)
    ∧ adc (.adcRangeWrite sid seq ch v) v ∧ adc (.adcTrigEnable sid seq ch v) (withBit v 1 true)
    ∧ does (.cruDragAccess sid seq c (some v)) (aCruDragData c) v (fun t =>
        (t.cru c).dragAt (fieldOf w0 15 12) (fieldOf w0 11 0) = v
        ∧ t.fld (aCruDragAddr c) 11 0 = (if w0.getLsbD 16 = true then (fieldOf w0 11 0 + 1) % 4096 else fieldOf w0 11 0)
        ∧ (∀ k : Fin 34, k ≠ c → t.cru k = s.cru k) ∧ t = { served t with crus := t.crus })
    ∧ does (.softwarePublish sid seq v) aSprSwpub v (fun t =>
        t.waiting = s.waiting ++ (s.inputsOf event.ch false).map (fun j => (j, event)) ∧ t = { served t with waiting := t.waiting })
    ∧ timer (.timerEnable sid seq i v) (withBit v 31 true) (if s.bit (aSprTmrCfg i) 31 = true then s.timer i else ⟨s.timerFirst i⟩)
    ∧ timer (.timerDisable sid seq i v) (withBit v 31 false) ⟨none⟩
    ∧ port (.portEnable sid seq p v) (withBit v 0 true) (fun t => (s.port p).st = .off → (t.port p).st = .signal
        ∧ (t.port p).since = s.clock.link ∧ (t.port p).conf = (s.port p).conf ∧ .rawPattern p rawPattern ∈ t.sent)
    ∧ port (.portRetrain sid seq p v) (withBit (withBit v 0 true) 3 true) (fun t =>
        ((s.port p).st = .enabled → (t.port p).st = .resync ∧ (t.port p).resyncStage = 3
          ∧ (t.port p).queue = (s.port p).queue ∧ (t.port p).unacked = (s.port p).unacked)
        ∧ ((s.port p).st = .off → (t.port p).st = .signal)
        ∧ ((s.port p).st ≠ .enabled → (s.port p).st ≠ .off → t.port p = s.port p))
    ∧ port (.portDisable sid seq p v) (withBit v 0 false) (fun t =>
        ((s.port p).st ≠ .off → (t.port p).st = .off ∧ (t.port p).queue = [] ∧ (t.port p).unacked = [])
        ∧ ((s.port p).st = .off → t.port p = s.port p))

/-- R40, R196, R258, R265, R271, R281, R288, R292, R299, R359, R367, R388: what the accepted writes of control registers do. A shadow set
is pending; a realign acquires; a step is armed or an offset taken; the capture unit and a time-interval unit start and stop; a routine is
queued; a set is accepted or discarded; the scan starts, stops or takes a channel's change; an output follows its channel; a reset stops. -/
def Obligations.ControlRegisterWritesAct : Prop :=
  ∀ (s : State) (x : Session) (sid seq v : W32) (c : Fin 34) (k : Fin 4) (n : Fin 16),
    Tbl.wf resetWord s.regs = true → Tbl.wf (fun _ => Cru.init) s.crus = true → Tbl.wf (fun _ => Tiu.init) s.tiu = true →
    s.cmk.abort = false → s.mayLog = true → s.asks x sid seq 0x11 none = true →
    let on := fun (w : W32) (k : Nat) => w.getLsbD k = true
    let does := fun (cmd : Instr) (a : Nat) (w : W32) (P : State → Prop) =>
      (s.taken x sid).checkEntry x.role a w = none → ∃ t, exec cmd s = .next t ∧ P t
    let served := fun (t : State) => { s with sessions := t.sessions, sent := t.sent, log := t.log, regs := t.regs }
    let T := Tick.ofStamp s.now (BitVec.ofNat 40 (fieldOf v 7 0 * 2 ^ 32 + (s.reg (aCruClsTlo c)).toNat))
    let late := (T - s.now).toInt < 24
    let shadow := (List.range 512).map (fun n => (n, s.reg (aCruCls c (n / 32) (n / 8 % 4) (n % 8))))
    let capture := fun (t : State) => t = { served t with cap := t.cap }
    let queued := fun (r : Byte) (target : BitVec 24) (t : State) => t.routineWanted r target.toNat = true
      ∧ (s.routineWanted r target.toNat = false → s.cmk.running = none → t.cmk = { s.cmk with queue := s.cmk.queue ++ [⟨r, target⟩] })
      ∧ (s.cmk.queue.contains ⟨r, target⟩ = true → t.cmk = s.cmk ∧ t.fld aCmkCnt 7 0 = min (s.fld aCmkCnt 7 0 + 1) 255)
    let waits := s.cmk.setSt = .awaitAccept
    let y := s.sys
    let arms := !y.stepped || y.stepArmed
    let far := y.st = .holdover ∧ 1000000000 < v.toInt.natAbs
    let seen := (v.toInt :: y.recent).take 16
    let inLock := seen.length == 16 && seen.all (fun o => decide (o.natAbs ≤ 50000))
    let fresh := { y with stepped := true, stepArmed := false, recent := [], st := .uncalibrated, cause := 0, holdSince := none }
    let sampled := { y with recent := seen, cause := 0, holdSince := none, st := if inLock then .locked else .uncalibrated }
    let channel := fun (cmd : Instr) (a : Nat) => does cmd a v (fun t =>
      t.cryStatus n = (if s.cryScan = true ∧ t.cryEnabled n = true then 1 else 0)
      ∧ (∀ m : Fin 16, m ≠ n → t.cryStatus m = s.cryStatus m)
      ∧ (s.cryo.active = some n.val → t.cryo.active = t.cryAfter n ∧ t.fld aCryCnt 15 0 = min (s.fld aCryCnt 15 0 + 1) 65535)
      ∧ (s.cryo.active = none → t.cryo.active = if s.cryScan = true then t.cryAfter 15 else none)
      ∧ (s.cryo.active ≠ some n.val → s.cryo.active ≠ none → t.cryo = s.cryo) ∧ t = { served t with cryo := t.cryo })
    let code := min (65536 * (s.reg (aCryRes (fieldOf v 19 16))).toNat / (1000 * (s.reg (aCryRoutFs k)).toNat)) 65535
    does (.classifierCommitGo sid seq c v) (aCruClsThi c) (withBit v 31 true) (fun t =>
        (t.cru c).pending = some (if late then s.now + 24 else T, shadow) ∧ (late → t.bit (aCruClsThi c) 30 = true)
        ∧ (¬ late → t.bit (aCruClsThi c) 30 = false) ∧ (∀ d : Fin 34, d ≠ c → t.cru d = s.cru d)
        ∧ t = { served t with crus := t.crus })
    ∧ does (.realign sid seq) aTimCastCtrl 1 (fun t =>
        (s.portUp s.castPort = false → t.cast = { s.cast with realign := true })
        ∧ (s.portUp s.castPort = true → t.cast.st = .acquiring ∧ t.cast.acq = [] ∧ t.cast.mayStep = true ∧ t.cast.realign = false))
    ∧ does (.stepArm sid seq) aTimSysCtrl 1 (fun t => t = { served t with sys := { y with stepArmed := true } })
    ∧ does (.sysOffsetIn sid seq v) aTimSysOfsIn v (fun t =>
        (arms = true → t.clock = s.clock.sysStep v.toInt
          ∧ t.sys = { fresh with ofs := v.toInt, steps := BitVec.ofNat 16 (min (y.steps.toNat + 1) 65535) })
        ∧ (arms = false → far → t.sys = { y with ofs := v.toInt, cause := 3 })
        ∧ (arms = false → ¬ far →
          t.sys = { sampled with ofs := v.toInt, servo := y.servo.sample (s.reg aTimSrvSys) (5 * 2 ^ 40) 10000 v.toInt })
        ∧ (arms = false → t.clock = s.clock) ∧ t = { served t with sys := t.sys, clock := t.clock })
    ∧ does (.capArm sid seq) aCapCtrl 1 (fun t => t.cap.st = .armed ∧ t.cap.armTick = s.now ∧ t.cap.session = some x.id
        ∧ t.cap.fired = false ∧ t.reg aCapRec = s.reg aCapRec + 1)
    ∧ does (.capSoftwareFire sid seq) aCapCtrl 2 (fun t =>
        (s.cap.st = .armed → s.cap.fired = false → t.cap.fired = true ∧ t.cap.st = .armed
          ∧ ∃ e, (TaskInput.capTrig, e) ∈ t.waiting ∧ e.ch = 240 ∧ e.stamp = (s.now + 24).stamp)
        ∧ ((s.cap.st ≠ .armed ∨ s.cap.fired = true) → t.cap = s.cap ∧ t.waiting = s.waiting))
    ∧ does (.capAbort sid seq) aCapCtrl 4 (fun t => capture t
        ∧ ((s.cap.st = .armed ∨ s.cap.st = .triggered) →
          t.cap.st = .closed ∧ t.cap.endTick = some s.now ∧ t.cap.flags = s.cap.flags ||| 0x20)
        ∧ (s.cap.st ≠ .armed → s.cap.st ≠ .triggered → t.cap = s.cap))
    ∧ does (.capReleaseWrite sid seq) aCapCtrl 8 (fun t => capture t
        ∧ (s.cap.st = .closed → t.cap = { s.cap with st := .idle }) ∧ (s.cap.st = .idle → t.cap = s.cap)
        ∧ (s.cap.st ≠ .closed → s.cap.st ≠ .idle → t.cap.st = .closed ∧ t.cap.endTick = some s.now))
    ∧ does (.tiuStart sid seq k) (aTiuUctrl k) 1 (fun t =>
        t.tiuUnit k = { Tiu.init with running := true, left := 2 ^ s.fld (aTiuUn k) 15 0, begun := s.now }
        ∧ (∀ j : Fin 4, j ≠ k → t.tiuUnit j = s.tiuUnit j) ∧ t = { served t with tiu := t.tiu })
    ∧ does (.tiuAbort sid seq k) (aTiuUctrl k) 2 (fun t =>
        t.tiuUnit k = (if (s.tiuUnit k).running = true then
          { s.tiuUnit k with running := false, left := 0, t0 := none, edges := 0 } else s.tiuUnit k)
        ∧ (∀ j : Fin 4, j ≠ k → t.tiuUnit j = s.tiuUnit j) ∧ t = { served t with tiu := t.tiu })
    ∧ does (.cmkReq sid seq v) aCmkReq v (queued (BitVec.ofNat 8 (fieldOf v 31 24)) (v.setWidth 24))
    ∧ does (.fuseProgGo sid seq v) aFusProgHi (withBit v 31 true) (queued 0x20 0)
    ∧ does (.calAccept sid seq) aCalAccept 1 (fun t =>
        let l := s.cmk.sub.map (fun z => (z.1, z.2.1, z.2.2.1, s.now + 2000))
        waits → t = { served t with cmk := { s.cmk with setSt := .awaitTick, sub := l } })
    ∧ does (.calDiscard sid seq) aCalAccept 2 (fun t => (waits → t = { served t with cmk := { s.cmk with setSt := .none, sub := none } })
        ∧ (¬ waits → t = served t))
    ∧ does (.cryCtrlWrite sid seq v) aCryCtrl v (fun t =>
        (on v 0 → s.cryScan = false → (∀ m : Fin 16, t.cryStatus m = if s.cryEnabled m = true then 1 else s.cryStatus m)
          ∧ t.cryo.active = (List.range 16).find? s.cryEnabled)
        ∧ (¬ on v 0 → s.cryScan = true → (∀ m : Fin 16, t.cryStatus m = if s.cryEnabled m = true then 0 else s.cryStatus m)
          ∧ t.cryo.active = none)
        ∧ ((on v 0 ↔ s.cryScan = true) → t.cryo = s.cryo ∧ ∀ m : Fin 16, t.cryStatus m = s.cryStatus m)
        ∧ t.cryScan = v.getLsbD 0 ∧ t = { served t with cryo := t.cryo })
    ∧ channel (.cryChannelWrite sid seq n true v) (aCryExc n) ∧ channel (.cryChannelWrite sid seq n false v) (aCryPins n)
    ∧ does (.cryRoutWrite sid seq k true v) (aCryRoutFs k) v (fun t => t.reg (aCryRoutFs k) = v ∧ t = served t)
    ∧ does (.cryRoutWrite sid seq k false v) (aCryRoutCfg k) v (fun t =>
        t.reg (aCryRoutOut k) = (if on v 31 ∧ fieldOf v 19 16 = s.fld (aCryRoutCfg k) 19 16 then s.reg (aCryRoutOut k)
          else if on v 31 ∧ s.cryStatus (fieldOf v 19 16) = 2 then BitVec.ofNat 32 code
          else BitVec.ofNat 32 (0x10000 + fieldOf v 15 0)) ∧ t = served t)
    ∧ does (.mldReset sid seq v) aMldReset v (fun t =>
        (on v 0 → s.boot.stop = none → t.boot.stop = some (.command, s.now, false) ∧ t.cmk.queue = [] ∧ t.cmk.running = none
          ∧ ∀ q ∈ t.runs, q.phase ≠ .over → q.stop ≠ none ∧ q.nextStart = none)
        ∧ (¬ on v 0 ∨ s.boot.stop ≠ none → t = served t))
    ∧ does (.resbufHighWaterClear sid seq) aMldResbufStat 0x100000 (fun t =>
        t.bit aMldResbufStat 20 = decide (201326592 < s.resUsed) ∧ t = served t)

/-! ### The Coremaker (R355-R377) -/

/-- R355, R356, R357, R361, R365: a microword's command acts only where the running routine stands at that word, not waiting; NONE goes from
word to word as SEQ says, its log entry made first; a WAIT keeps its start; END ends the routine with result 0; a failing word, a full or
empty stack, and a reserved code end it with their result. An interrupt waiting at a safe word ends the routine or lets it yield. -/
def Obligations.CoremakerSequencing : Prop :=
  ∀ (s u : State) (c d : CmkCtx) (w : MicroWord) (o : FuseObs) (p n : Nat) (r : List Nat) (cmd : Instr),
    let words := [(0, Instr.cmkNone w), (1, .cmkWrite w), (2, .cmkRead w), (3, .cmkAlu w), (4, .cmkShadow w), (5, .cmkCommit w),
      (6, .cmkFuse w o), (7, .cmkNvwrite w), (8, .cmkPublish w), (9, .cmkSlip w), (10, .cmkLoad w)]
    let note := fun (v : State) => if w.log = true then v.logEvent 0x0007 2 (leBytes 1 c.routine.toNat ++ leBytes 2 c.pc ++ leBytes 1 0) else v
    let k := w.seqk.toNat
    let seq := u.cmkSeq d w
    let fails := fun (x : Byte) => seq = (u.cmkCtx d).cmkEnd false x
    let less := d.setM w.dst (d.mreg w.dst - 1)
    let wait := u.cmkCtx { d with waiting := some u.mono }
    let ended := { u.cmk with running := none, journal := [], abort := false, intSince := none, set := [], result := 0 }
    let stands := s.cmk.running = some c ∧ c.waiting = none
    (s.cmkAtWord c w 0 = true → exec (.cmkNone w) s = .next ((note s).cmkSeq c w))
    ∧ (11 ≤ n → n < 16 → s.cmkAtWord c w n = true → exec (.cmkNone w) s = .next (s.cmkEnd false 0xFF))
    ∧ ((n, cmd) ∈ words → n ≠ 0 →
      (s.cmk.running = none ∨ s.cmk.running = some c ∧ (c.waiting ≠ none ∨ s.microAt c.pc ≠ MicroCode w n)) → exec cmd s = .next s)
    ∧ ((s.cmk.running = none ∨ s.cmk.running = some c ∧ microAction (s.microAt c.pc) < 11 ∧ s.microAt c.pc ≠ MicroCode w 0
      ∨ s.cmk.running = some c ∧ c.waiting ≠ none) → exec (.cmkNone w) s = .next s)
    ∧ ((n, cmd) ∈ words → stands → s.microAt c.pc = MicroCode w n → w.safe = true → s.cmkInt = true →
      (s.cmk.abort = true → exec cmd s = .next (s.cmkEnd false 0xFD))
      ∧ (s.cmk.abort = false → s.cmk.yielded.length < 3 → ∃ t, exec cmd s = .next t ∧ t.cmk.running = none
        ∧ t.cmk.yielded = s.cmk.yielded ++ [{ c with set := s.cmk.set }] ∧ t.cmk.journal = [] ∧ t.cmk.set = []
        ∧ t = { s with cmk := t.cmk, regs := t.regs }))
    ∧ (stands → s.microAt c.pc = MicroCode w 0 → w.safe = true → s.cmkInt = true → s.cmk.abort = false →
      3 ≤ s.cmk.yielded.length →
      exec (.cmkNone w) s = .next ((note { s with cmk := { s.cmk with intSince := some s.mono } }).cmkSeq c w))
    ∧ (k = 0 → seq = u.cmkCtx (d.goesTo w.next))
    ∧ (k = 1 → seq = u.cmkCtx (d.goesTo (if u.cmkCond d w = true then w.alt else w.next)))
    ∧ (k = 2 → u.cmkCond d w = true → seq = u.cmkCtx (d.goesTo w.next))
    ∧ (k = 2 → u.cmkCond d w = false → (wait.cmkInt = false → seq = wait) ∧ (wait.cmkInt = true → seq = wait.cmkNotice))
    ∧ (k = 3 → d.stack.length < 4 → seq = u.cmkCtx { d.goesTo w.alt with stack := w.next.toNat :: d.stack })
    ∧ (k = 4 → d.stack = p :: r → seq = u.cmkCtx { d with pc := p, stack := r })
    ∧ (k = 5 → seq = u.cmkCtx (less.goesTo (if less.mreg w.dst = 0 then w.next else w.alt)))
    ∧ (k = 6 → d.routine ≠ 0x09 → seq = { u with cmk := ended })
    ∧ (k = 6 → d.routine = 0x09 → seq = State.retireSub { u with cmk := ended } (d.target.toNat / 64 % 32) (d.target.toNat % 64))
    ∧ (k = 7 → fails (w.imm.setWidth 8))
    ∧ (((k = 3 ∧ 4 ≤ d.stack.length) ∨ (k = 4 ∧ d.stack = []) ∨ 8 ≤ k) → fails 0xFF)
    ∧ (∀ x : Byte, let t := (u.cmkCtx d).cmkEnd false x
      t.cmk.running = none ∧ t.cmk.result = x ∧ t.cmk.journal = [] ∧ t.cmk.set = [] ∧ t.cmk.abort = false)

/-- R355, R356, R360, R365, R373: the ALU's operations on a scratch register and the immediate (m0 reads 0 and is not written; a reserved
operation ends the routine with 0xFF; a shift by 32 or more leaves its result open); WRITE keeps the old word in the journal and stores
the new one, a full journal ending the routine with 0xFE; READ takes the word at an address, SHADOW adds a pair to the set, and LOAD takes
the fuse record in force. After each the log entry is made where asked, and the sequencing of CoremakerSequencing follows. -/
def Obligations.CoremakerAluAndData : Prop :=
  ∀ (s : State) (c : CmkCtx) (w : MicroWord) (i j : BitVec 5) (f : RegRef) (x y : W32),
    let note := fun (v : State) (k : Nat) =>
      if w.log = true then v.logEvent 0x0007 2 (leBytes 1 c.routine.toNat ++ leBytes 2 c.pc ++ leBytes 1 k) else v
    let at' := fun (k : Nat) => s.cmkAtWord c w k = true
    let goes := fun (cmd : Instr) (k : Nat) (v : State) (d : CmkCtx) => exec cmd s = .next ((note v k).cmkSeq d w)
    let a := c.mreg w.src
    let b := w.imm
    let n := b.toNat
    let gives := fun (v : W32) => goes (.cmkAlu w) 3 s (c.setM w.dst v)
    let op := w.alu.toNat
    let m := w.addr.toNat
    let v := a + b
    let free : State := { s with free := s.free + 1 }
    let old := if w.addr.getLsbD 31 = true then s.cmkPeek w.addr else s.reg m
    let kept : State := { s with cmk := { s.cmk with journal := (w.addr, old) :: s.cmk.journal } }
    let set' : State := { s with cmk := { s.cmk with set := s.cmk.set ++ [(w.addr, v)] } }
    let record := fuseRec s.fuseShadow (fieldOf w.imm 15 8) (fieldOf w.imm 27 16)
    (at' 3 → (op = 0 → gives a) ∧ (op = 1 → gives (a + b)) ∧ (op = 2 → gives (a - b)) ∧ (op = 3 → gives (a &&& b))
      ∧ (op = 4 → gives (a ||| b)) ∧ (op = 5 → gives (a ^^^ b)) ∧ (op = 6 → n < 32 → gives (a <<< n)) ∧ (op = 7 → n < 32 → gives (a >>> n))
      ∧ (op = 8 → n < 32 → gives (a.sshiftRight n)) ∧ (op = 9 → gives (if a.toInt ≤ b.toInt then a else b))
      ∧ (op = 10 → gives (if b.toInt ≤ a.toInt then a else b)) ∧ (op = 11 → gives (BitVec.ofInt 32 (a.toInt * b.toInt)))
      ∧ (op = 12 → gives (BitVec.ofInt 32 (a.toInt * b.toInt / 2 ^ 32))) ∧ (op = 13 → gives (if a.toInt < b.toInt then 1 else 0))
      ∧ ((op = 6 ∨ op = 7 ∨ op = 8) → 32 ≤ n → ∃ z, goes (.cmkAlu w) 3 free (c.setM w.dst z))
      ∧ (13 < op → exec (.cmkAlu w) s = .next (s.cmkEnd false 0xFF)))
    ∧ c.setM 0 a = c ∧ c.mreg 0 = 0
    ∧ (Tbl.wf (fun _ => (0 : W32)) c.m = true → (i ≠ 0 → (c.setM i x).mreg i = x) ∧ (j ≠ i → (c.setM i x).mreg j = c.mreg j))
    ∧ (at' 1 → s.cmk.journal.length < 1024 → goes (.cmkWrite w) 1 (kept.cmkPoke m v) c)
    ∧ (at' 1 → 1024 ≤ s.cmk.journal.length → exec (.cmkWrite w) s = .next (s.cmkEnd false 0xFE))
    ∧ (m < 2 ^ 31 → findReg m = some f → s.cmkPoke m x = s.setReg m (f.stored (s.reg m) x))
    ∧ (m < 2 ^ 31 → findReg m = none → s.cmkPoke m x = s)
    ∧ (2 ^ 31 ≤ m → Tbl.wf (fun _ => (0 : W32)) s.cmk.trims = true → (s.cmkPoke m x).cmkPeek w.addr = x
      ∧ (2 ^ 31 ≤ y.toNat → y ≠ w.addr → (s.cmkPoke m x).cmkPeek y = s.cmkPeek y) ∧ (s.cmkPoke m x).regs = s.regs)
    ∧ (at' 2 → goes (.cmkRead w) 2 s (c.setM w.dst (s.cmkPeek w.addr)))
    ∧ (m < 2 ^ 31 → s.cmkPeek w.addr = s.liveAt m)
    ∧ (at' 4 → s.cmk.set.length < 1024 → goes (.cmkShadow w) 4 set' c)
    ∧ (at' 4 → 1024 ≤ s.cmk.set.length → goes (.cmkShadow w) 4 s c)
    ∧ (at' 10 → record = some x → goes (.cmkLoad w) 10 s (c.setM w.dst x))
    ∧ (at' 10 → record = none → ∃ z, goes (.cmkLoad w) 10 free (c.setM w.dst z))

/-- R360, R362: a routine that fails puts back what it wrote, from its journal: each register that the journal names is written with the
word kept (by its fields, as any write of it), each internal trim takes its old value, every other register but the counter of failed
routines stays, and the routine is over. -/
def Obligations.FailedRoutineUndoesItsWrites : Prop :=
  ∀ (s : State) (c : CmkCtx) (w : MicroWord), s.cmkAtWord c w 0 = true → w.seqk = 7 → Tbl.wf resetWord s.regs = true →
    Tbl.wf (fun _ => (0 : W32)) s.cmk.trims = true → (s.cmk.journal.map Prod.fst).Nodup → (∀ e ∈ s.cmk.journal, e.1.toNat ≠ aCmkCnt) →
    ∃ t, exec (.cmkNone w) s = .next t ∧ t.cmk.journal = [] ∧ t.cmk.running = none ∧ t.cmk.result = w.imm.setWidth 8
      ∧ (∀ e ∈ s.cmk.journal, ∀ f, e.1.toNat < 2 ^ 31 → findReg e.1.toNat = some f → t.reg e.1.toNat = f.stored (s.reg e.1.toNat) e.2)
      ∧ (∀ e ∈ s.cmk.journal, 2 ^ 31 ≤ e.1.toNat → t.cmkPeek e.1 = e.2)
      ∧ (∀ b, b ≠ aCmkCnt → (∀ e ∈ s.cmk.journal, e.1.toNat ≠ b) → t.reg b = s.reg b)
      ∧ (∀ y : W32, 2 ^ 31 ≤ y.toNat → (∀ e ∈ s.cmk.journal, e.1 ≠ y) → t.cmkPeek y = s.cmkPeek y)
      ∧ t.fld aCmkCnt 31 24 = min (s.fld aCmkCnt 31 24 + 1) 255 ∧ t.cmk.queue = s.cmk.queue ∧ t.cmk.yielded = s.cmk.yielded

/-- R158, R236, R356, R363, R365, R366, R367, R374, R375: a safe word commits the journal and makes its irreversible action, any other word
makes none of it: COMMIT submits the set, which waits for acceptance or for its tick or is refused; FUSE programs the next row, which takes its
marker, or is abandoned, or finds no window or no row; NVWRITE writes a record in the NV window, and PUBLISH publishes on a system channel.
SLIP moves the boundary of a lane that searches for it. The sequencing is CoremakerSequencing's. -/
def Obligations.CoremakerIrreversibleWords : Prop :=
  ∀ (s : State) (c : CmkCtx) (w : MicroWord) (o : FuseObs) (r n : Nat) (p : Fin 8) (l : Fin 9) (q : W32 × W32),
    Tbl.wf resetWord s.regs = true →
    let note := fun (v : State) (k : Nat) =>
      if w.log = true then v.logEvent 0x0007 2 (leBytes 1 c.routine.toNat ++ leBytes 2 c.pc ++ leBytes 1 k) else v
    let safe := fun (k : Nat) => s.cmkAtWord c w k = true ∧ w.safe = true
    let goes := fun (cmd : Instr) (k : Nat) (v : State) => exec cmd s = .next ((note v k).cmkSeq c w)
    let cut : State := { s with cmk := { s.cmk with journal := [] } }
    let judged := State.setFld { cut with cmk := { cut.cmk with set := [] } } aCalStat 31 24 c.routine.toNat
    let submitted := cut.cmkSubmit c.routine
    let inWindow := s.fuseWindow = true ∧ 1710 ≤ o.railMv ∧ o.railMv ≤ 1890
    let row := s.fuseTarget
    let good := row ||| (1#64 <<< 63)
    let lost := fun (v : W64) => exec (.cmkFuse w o) s = .next (((cut.setFuse r v).logEvent 0x0008 6 (leBytes 2 r)).cmkEnd false 0x02)
    let ch := fieldOf w.imm 7 0
    let lane := w.addr.toNat = aRunLaneCtrl p l ∨ w.addr.toNat = aRunLaneStat p l ∨ w.addr.toNat = aRunLaneErr p l
    let stat := aRunLaneStat p l
    let drawn : State := { s with free := s.free + 1 }
    (w.safe = false → (s.cmkAtWord c w 5 = true → goes (.cmkCommit w) 5 s)
      ∧ (s.cmkAtWord c w 6 = true → goes (.cmkFuse w o) 6 s) ∧ (s.cmkAtWord c w 7 = true → goes (.cmkNvwrite w) 7 s)
      ∧ (s.cmkAtWord c w 8 = true → goes (.cmkPublish w) 8 s))
    ∧ (safe 5 → goes (.cmkCommit w) 5 submitted)
    ∧ (judged.setFault s.cmk.set = none → submitted.cmk.setSt = (if judged.calAuto c.routine = true then .awaitTick else .awaitAccept)
      ∧ submitted.cmk.sub = some (c.routine, s.cmk.set, s.mono, s.now + 2000) ∧ submitted.cmk.set = [])
    ∧ (judged.setFault s.cmk.set = some q → submitted.cmk.setSt = .none ∧ submitted.cmk.sub = none ∧ submitted.cmk.set = []
      ∧ submitted.fld aCalStat 23 16 = min (s.fld aCalStat 23 16 + 1) 255)
    ∧ (safe 6 → ¬ inWindow → exec (.cmkFuse w o) s = .next (cut.cmkEnd false 0x01))
    ∧ (safe 6 → inWindow → s.nextRow = none →
      exec (.cmkFuse w o) s = .next (((cut.alert 5).logEvent 0x0008 5 []).cmkEnd false 0x03))
    ∧ (safe 6 → inWindow → s.nextRow = some r → (o.cut = some n → lost (Config.blownFirst row n &&& row))
      ∧ (o.cut = none → o.same = false → lost row)
      ∧ (o.cut = none → o.same = true → goes (.cmkFuse w o) 6 ((cut.setFuse r good).logEvent 0x0008 7 (leBytes 2 r))))
    ∧ (s.nextRow = some r → r < 4096 ∧ fuseRowOf s.fuses r = 0 ∧ ∀ m, m < r → fuseRowOf s.fuses m ≠ 0)
    ∧ fuseGood good = true ∧ fuseValid row = false ∧ fuseValid (Config.blownFirst row n &&& row) = false
    ∧ fuseClass good = s.fld aFusProgHi 19 12 ∧ fuseKey good = s.fld aFusProgHi 11 0 ∧ fuseData good = s.reg aFusProgLo
    ∧ (safe 7 → s.nvWindow = true → ∃ b m, b.length = 256
      ∧ goes (.cmkNvwrite w) 7 (State.nvPut { cut with free := m } (fieldOf w.imm 31 16) (fieldOf w.imm 15 0) b))
    ∧ (safe 7 → s.nvWindow = false → goes (.cmkNvwrite w) 7 cut)
    ∧ (safe 8 → 240 ≤ ch → ch < 250 →
      goes (.cmkPublish w) 8 (cut.publishSys (BitVec.ofNat 8 ch) s.now (BitVec.ofNat 16 (fieldOf w.imm 31 16))))
    ∧ (safe 8 → (ch < 240 ∨ 250 ≤ ch) → goes (.cmkPublish w) 8 cut)
    ∧ (s.cmkAtWord c w 9 = true → lane → (s.port p).searching = true →
      ∃ b, goes (.cmkSlip w) 9 ((drawn.setFld stat 15 12 (min (s.fld stat 15 12 + 1) 15)).setBit stat 2 b))
    ∧ (s.cmkAtWord c w 9 = true → (lane ∧ (s.port p).searching = false ∨ findReg w.addr.toNat = none) → goes (.cmkSlip w) 9 s)

/-- R23, R357, R358, R359, R361: a routine starts, or a yielded one resumes, by the highest priority that may run, a yielded one before a
queued one of its priority, and a new one at its entry; the periodic routines are asked for when due; a WAIT ends with its condition or
its limit; 200 µs without a safe point end the routine; the reference's return relocks the module and asks for PLL_LOCK. -/
def Obligations.RoutinesStartWaitAndAbort : Prop :=
  ∀ (s : State) (q : CmkReq) (l1 l2 : List CmkReq) (c : CmkCtx) (y1 y2 : List CmkCtx) (t0 : W64) (r : BitVec 8),
    let w := microOf (s.microAt c.pc)
    let v := s.cmkPeek w.addr
    let b := w.count.toNat % 32
    let waits := s.cmk.running = some c ∧ c.waiting = some t0
    let idle := s.cmk.running = none
    let may := fun (c : CmkCtx) => s.cmkEligible ⟨c.routine, c.target⟩ = true
    let prio := fun (c : CmkCtx) => routinePriority c.routine
    let top := routinePriority q.routine
    let up := s.boot.stage = 10 ∧ s.boot.stop = none
    let due := r = 0x0A ∧ 10000000000 ≤ s.since s.cmk.lastTiu ∨ r = 0x21 ∧ 86400000000000 ≤ s.since s.cmk.lastScrub
      ∨ r = 0x08 ∧ (s.bank 5).st = .on
    let target := if r = 0x08 then s.cmk.bgNext else 0
    let lock := if s.cast.st = .holdover then s.cast.cause else 0
    (idle → s.cmk.queue = l1 ++ q :: l2 → s.cmkEligible q = true →
      (∀ z ∈ l1, s.cmkEligible z = true → top < routinePriority z.routine) →
      (∀ z ∈ l2, s.cmkEligible z = true → top ≤ routinePriority z.routine) → (∀ z ∈ s.cmk.yielded, may z → top < prio z) →
      ∃ m, exec .routineStart s = .next (State.asksAgain { s with
        free := s.free + 31
        cmk := { s.cmk with
          running := some ⟨q.routine, q.target, (Config.routineEntry q.routine).toNat, m, [], none, []⟩
          queue := s.cmk.queue.erase q
          journal := []
          set := [] } }))
    ∧ (idle → s.cmk.yielded = y1 ++ c :: y2 → may c → (∀ z ∈ y1, may z → prio c < prio z) → (∀ z ∈ y2, may z → prio c ≤ prio z) →
      (∀ z ∈ s.cmk.queue, s.cmkEligible z = true → prio c ≤ routinePriority z.routine) →
      exec .routineStart s = .next { s with cmk := { s.cmk with
        running := some c
        yielded := s.cmk.yielded.erase c
        journal := []
        set := c.set } })
    ∧ ((s.cmk.running = some c ∨ (∀ z ∈ s.cmk.yielded, ¬ may z) ∧ ∀ z ∈ s.cmk.queue, s.cmkEligible z = false) →
      exec .routineStart s = .next s)
    ∧ (s.cmk.asks = [] → s.asksAgain = s)
    ∧ (up → due → (s.cmkRequest r (BitVec.ofNat 24 target)).isSome = true →
      ∃ t, exec (.routinePeriodicRequest r) s = .next t ∧ (s.cmk.abort = false → t.routineWanted r target = true)
        ∧ (let f := { s with cmk := t.cmk, regs := t.regs, log := t.log, banks := t.banks }
          t = { f with groups := t.groups })
        ∧ (idle → s.routineWanted r target = false → t.cmk.queue = s.cmk.queue ++ [⟨r, BitVec.ofNat 24 target⟩])
        ∧ (r = 0x0A → t.cmk.lastTiu = s.mono) ∧ (r = 0x21 → t.cmk.lastScrub = s.mono)
        ∧ (r = 0x08 → t.cmk.bgNext = (s.cmk.bgNext + 1) % 32))
    ∧ ((¬ up ∨ ¬ due ∨ (s.cmkRequest r (BitVec.ofNat 24 target)).isSome = false) → exec (.routinePeriodicRequest r) s = .next s)
    ∧ (waits → waitLimit w ≤ s.since t0 → s.cmkCond c w = false →
      exec .cmkWaitTimeout s = .next ((s.count aCmkCnt 23 16 1).cmkCtx { c with pc := w.alt.toNat, waiting := none }))
    ∧ ((idle ∨ s.cmk.running = some c ∧ c.waiting = none ∨ waits ∧ (s.since t0 < waitLimit w ∨ s.cmkCond c w = true)) →
      exec .cmkWaitTimeout s = .next s)
    ∧ (waits → s.cmkCond c w = true → exec .cmkWaitSatisfied s = .next (s.cmkCtx { c with pc := w.next.toNat, waiting := none }))
    ∧ (waits → s.cmkCond c w = false → w.cond = 1 → w.addr.getLsbD 31 = true →
      exec .cmkWaitSatisfied s = .next (State.cmkCtx (s.cmkPoke w.addr.toNat (withField v b b (if w.pol = true then 0 else 1)))
        { c with pc := w.next.toNat, waiting := none }))
    ∧ ((idle ∨ s.cmk.running = some c ∧ c.waiting = none ∨ waits ∧ s.cmkCond c w = false ∧ (w.cond ≠ 1 ∨ w.addr.getLsbD 31 = false)) →
      exec .cmkWaitSatisfied s = .next s)
    ∧ (s.cmk.intSince = some t0 → s.cmkInt = true → 200000 ≤ s.since t0 → exec .forcedAbort s = .next (s.cmkEnd false 0xFD))
    ∧ ((s.cmk.intSince = none ∨ s.cmkInt = false ∨ s.cmk.intSince = some t0 ∧ s.since t0 < 200000) → exec .forcedAbort s = .next s)
    ∧ (s.cast.refinOk = false → s.cmk.abort = false → ∃ t, exec .refinReturn s = .next t
      ∧ t.cast = { s.cast with refinOk := true, pllLock := true, cause := lock } ∧ t.routineWanted 0x02 0 = true)
    ∧ (s.cast.refinOk = true → exec .refinReturn s = .next s)

/-- R358, R365, R366, R367, R368: a set that waits 60 s for acceptance is refused, counted and logged; an accepted set is put in force in
whole at the first tick from its due tick on at which the NV window and every target allow it, each quantity in its own field, saved,
logged and published on channel 248; until then it waits. -/
def Obligations.CalibrationSetsCommitAtOneTick : Prop :=
  ∀ (s : State) (r : Byte) (l : List (W32 × W32)) (t0 : W64) (D : Tick) (x : List Nat × Nat × Bool),
    Tbl.wf resetWord s.regs = true → Tbl.wf (fun _ => (0 : W32)) s.cmk.trims = true →
    let waits := s.cmk.sub = some (r, l, t0, D)
    let first := (l.head?).getD (0, 0)
    let noted := (s.count aCalStat 23 16 1).logEvent 0x0008 1 ([r] ++ leBytes 4 first.1.toNat ++ leBytes 4 first.2.toNat)
    let refused := { s.cmk with setSt := .none, sub := none }
    let ready := D.toNat ≤ s.now.toNat ∧ s.nvWindow = true ∧ ∀ p ∈ l, s.calTickOk p s.now = true
    let put := s.each l State.calPut
    let v := put.calSave l
    let done : State := { v with cmk := { v.cmk with setSt := .committed, sub := none } }
    (waits → s.cmk.setSt = .awaitAccept → 60000000000 ≤ s.since t0 → exec .acceptanceTimeout s = .next { noted with cmk := refused })
    ∧ ((s.cmk.sub = none ∨ s.cmk.setSt ≠ .awaitAccept ∨ waits ∧ s.since t0 < 60000000000) → exec .acceptanceTimeout s = .next s)
    ∧ (waits → s.cmk.setSt = .awaitTick → ready → exec .calCommitTick s
      = .next ((done.logEvent 0x0008 2 ([r] ++ leBytes 8 s.now.toNat)).publishSys 0xF8 s.now (r.setWidth 16)))
    ∧ ((s.cmk.sub = none ∨ s.cmk.setSt ≠ .awaitTick ∨ waits ∧ ¬ ready) → exec .calCommitTick s = .next s)
    ∧ ((l.map Prod.fst).Nodup → ∀ p ∈ l, let a := p.1.toNat
      (2 ^ 31 ≤ a → put.cmkPeek p.1 = p.2)
      ∧ (calTarget a = some (.tgain, x) → put.fld a 15 0 = fieldOf p.2 15 0 ∧ put.fld a 31 16 = s.fld a 31 16)
      ∧ (calTarget a = some (.eqTap, x) → put.fld a 17 0 = fieldOf p.2 17 0 ∧ put.fld a 31 18 = s.fld a 31 18)
      ∧ (calTarget a = some (.calRtt, x) → put.fld a 23 0 = fieldOf p.2 23 0 ∧ put.fld a 31 24 = s.fld a 31 24)
      ∧ (calTarget a = some (.demPhs, x) → put.reg a = p.2))
    ∧ (∀ b, (∀ p ∈ l, p.1.toNat ≠ b) → put.reg b = s.reg b)
    ∧ put = { s with regs := put.regs, cmk := { s.cmk with trims := put.cmk.trims } } ∧ v = { put with nv := v.nv }

/-! ### Cryostat thermometry (R379-R389) -/

/-- R380, R381, R382, R383, R384, R385, R388, R389: at each reversal the mean of a half-period's samples later than the blanking time is added
or subtracted, after the settling periods; a probe gives way to a conversion; the last half-period gives a resistance, a count and a status,
an open wire a status alone; the outputs follow the channel's status, and the scan goes on to the next enabled channel. -/
def Obligations.CryostatScanConverts : Prop :=
  ∀ (s : State) (n : Fin 16) (k : Fin 4) (l : List Int) (full : Bool) (mv : Nat), Tbl.wf resetWord s.regs = true →
    let active := s.cryo.active = some n.val
    let over' := s.cryHalfOver = true
    let h := s.cryo.half
    let used := l.drop (2 * s.fld aCryCtrl 12 8 + 1)
    let m := (used.sum, max used.length 1)
    let d := if h / 2 < s.crySettle n then (s.cryo.sum, s.cryo.den) else if h = 2 * s.crySettle n then m
      else addFrac (s.cryo.sum, s.cryo.den) (if h % 2 = 0 then m else (-m.1, m.2))
    let R := nearest d.1 (2 * s.cryAvg n * s.fld (aCryExc n) 16 0 * d.2)
    let word := BitVec.ofNat 32 (min R.toNat (2 ^ 32 - 1))
    let ends := active ∧ over' ∧ s.cryo.phase = .convert ∧ h + 1 = s.cryHalves n
    let follows := s.fld (aCryRoutCfg k) 19 16 = n.val ∧ s.bit (aCryRoutCfg k) 31 = true
    let out := fun (t : State) => (t.reg (aCryRoutOut k)).toNat
    let moves := fun (t : State) (v : Nat) =>
      t.cryStatus n = v ∧ (∀ j : Fin 16, j ≠ n → t.cryStatus j = s.cryStatus j ∧ t.reg (aCryRes j) = s.reg (aCryRes j))
      ∧ t.cryo.active = s.cryAfter n ∧ t.cryo.half = 0 ∧ t.cryo.since = s.mono
      ∧ (∀ j : Fin 16, s.cryAfter n = some j.val → t.cryo.phase = if t.cryStatus j = 3 then .probe else .convert)
      ∧ (follows → v ≠ 2 → out t = 0x10000 + s.fld (aCryRoutCfg k) 15 0) ∧ (¬ follows → out t = out s)
      ∧ t = { s with regs := t.regs, cryo := t.cryo, free := t.free }
    let done := fun (t : State) (v : Nat) => moves t v ∧ t.cryo.lastCh = some n.val
      ∧ t.fld (aCryCst n) 31 16 = (s.fld (aCryCst n) 31 16 + 1) % 65536
    (active → over' → s.cryo.phase = .convert → h + 1 < s.cryHalves n →
      exec (.excitationReversal l) s
        = .next { s with cryo := { s.cryo with half := h + 1, sum := d.1, den := d.2, since := s.mono } })
    ∧ (active → over' → s.cryo.phase = .probe → exec (.excitationReversal l) s
        = .next { s with cryo := { s.cryo with phase := .convert, half := 0, sum := 0, den := 1, since := s.mono } })
    ∧ ((s.cryo.active = none ∨ ¬ over' ∨ active ∧ s.cryo.phase = .convert ∧ s.cryHalves n ≤ h + 1) →
      exec (.excitationReversal l) s = .next s)
    ∧ (ends → 0 ≤ R → ∃ t, exec (.conversionComplete l false) s = .next t ∧ done t 2 ∧ t.reg (aCryRes n) = word ∧ t.free = s.free
      ∧ (follows → out t = min (65536 * word.toNat / (1000 * (s.reg (aCryRoutFs k)).toNat)) 65535))
    ∧ (ends → R < 0 → ∃ t, exec (.conversionComplete l false) s = .next t ∧ done t 2 ∧ t.free = s.free + 1)
    ∧ (ends → ∃ t, exec (.conversionComplete l true) s = .next t ∧ done t 4 ∧ t.reg (aCryRes n) = s.reg (aCryRes n) ∧ t.free = s.free)
    ∧ ((s.cryo.active = none ∨ active ∧ ¬ ends) → exec (.conversionComplete l full) s = .next s)
    ∧ (active → ∃ t, exec .openWireTrip s = .next t ∧ moves t 3 ∧ t.fld aCryCnt 31 16 = min (s.fld aCryCnt 31 16 + 1) 65535
      ∧ t.reg (aCryRes n) = s.reg (aCryRes n))
    ∧ (s.cryo.active = none → exec .openWireTrip s = .next s)
    ∧ exec (.vrefLow mv) s = .next (s.setBit aCryStat 8 (decide (mv < 500)))

/-! ### Temperature and supply (R392-R410) -/

/-- R375, R399, R403, R404, R405, R406, R407, R408, R409, R410, R411: a round takes the reading of every valid sensor and puts 5 degrees above
the hottest valid neighbour, or 110, for a failed one; it finds the hottest sensor and the level, which rises at once and falls one step after
1000 rounds; level 4 takes the fault path, 118 degrees shut the module down; a rail out for three rounds is flagged; the supply's readings, the
blocks' needs and the corrected errors are taken, and the NV store holds back outside its window. (The order of a round's parts is the model's.) -/
def Obligations.HousekeepingRoundsMoveTheTemperLevel : Prop :=
  ∀ (s : State) (o : RoundObs) (k : Fin 64) (v : Int) (n c : Nat) (d : Fin 30), Tbl.wf (fun _ => Sensor.init) s.thermal.sensors = true →
    Tbl.wf resetWord s.regs = true → Tbl.wf (fun _ => (0 : Nat)) s.supply.domBad = true →
    let good := fun (j : Nat) => (s.sensor j).failed = false ∧ s.failsNow o.sensors j = false
    let near := fun (w : Int) => ∃ j ∈ neighboursOf k, good j ∧ o.sensors.getD j none = some w
    let fresh := (List.range 64).filter (fun j => !(s.sensor j).failed && s.failsNow o.sensors j)
    let bad := Tbl.get s.supply.domBad d 0
    (s.supply.unpowered = true → exec (.housekeepingRound o) s = .next s)
    ∧ (s.supply.unpowered = false → ∃ t, exec (.housekeepingRound o) s = .next t ∧
      let want := levelOf t.thermal.hottestT t.thermal.rate
      let calm := want < 5 ∨ s.acting = false
      let quiet := o.railsOut = 0 ∧ calm
      let rises := s.thermal.level < min want 4
      let falls := s.thermal.hold = false ∧ t.thermal.hold = false ∧ 999 ≤ s.thermal.fallCount ∧ s.thermal.level = n + 1 ∧ want ≤ n
        ∧ fallOk (n + 1) t.thermal.hottestT t.thermal.rate = true
      t.supply.feedA.reading = o.feedA ∧ t.supply.feedB.reading = o.feedB ∧ t.supply.inputW = o.inputW
      ∧ t.supply.riserPct = o.riserPct ∧ t.supply.progMv = o.progMv
      ∧ (good k → o.sensors.getD k none = some v → (t.sensor k).value = v ∧ (t.sensor k).failed = false)
      ∧ (¬ good k → (t.sensor k).failed = true ∧ (∀ w, near w → w + 640 ≤ (t.sensor k).value)
        ∧ ((∃ w, near w) → ∃ w, near w ∧ (t.sensor k).value = w + 640) ∧ ((¬ ∃ w, near w) → (t.sensor k).value = 110 * 128))
      ∧ t.fld aThmCnt 23 16 = min (s.fld aThmCnt 23 16 + fresh.length) 255
      ∧ (t.sensor t.thermal.hottest).value = t.thermal.hottestT ∧ (∀ j : Fin 64, (t.sensor j).value ≤ t.thermal.hottestT)
      ∧ (95 * 128 ≤ t.thermal.hottestT → t.thermal.warning = true ∧ t.bit aMldAlert 0 = true)
      ∧ (calm → rises → t.thermal.level = min want 4) ∧ (falls → t.thermal.level = n)
      ∧ (calm → ¬ rises → fallOk s.thermal.level t.thermal.hottestT t.thermal.rate = false → t.thermal.level = s.thermal.level)
      ∧ (calm → ¬ rises → s.thermal.fallCount < 999 → t.thermal.level = s.thermal.level) ∧ s.thermal.level ≤ t.thermal.level + 1
      ∧ (quiet → t.boot = s.boot ∧ (rises → s.clock.castRuns = true → (TaskInput.flag 243,
          localEv 243 s.now.stamp (BitVec.ofNat 16 (min want 4)) 1 0x0F9) ∈ t.waiting)
        ∧ (rises → want = 4 → s.acting = true → t.fault.temper = true) ∧ (falls → n < 4 → t.fault.temper = false))
      ∧ (o.railsOut = 0 → ¬ calm → t.thermal.shutdown = true ∧ t.boot.stage = 0 ∧ t.thermal.shutdowns = s.mono :: s.thermal.shutdowns
        ∧ 4 ≤ t.thermal.level ∧ t.fault.asserted = true ∧ t.runs = [] ∧ t.sessions = [] ∧ ∃ e, t.boot.stop = some (.thermal, e, true))
      ∧ (calm → s.supply.domOn.getLsbD d = true →
        Tbl.get t.supply.domBad d 0 = (if o.railsOut.getLsbD d = true then min (bad + 1) 4 else 0)
        ∧ (o.railsOut.getLsbD d = true → bad = 2 → t.bit aPwrDomFlt d = true))
      ∧ (calm → s.supply.domOn.getLsbD d = true → o.railsOut = 1#30 <<< d.val → bad = 2 → fatalSources.contains (BitVec.ofNat 8 d) = true →
        t.fault.fatalDomain = BitVec.ofNat 8 d
        ∧ (s.boot.stage = 10 → s.boot.stop = none → s.acting = true → ∃ e, t.boot.stop = some (.fatal, e, false)))
      ∧ ((o.reqs.map Prod.fst).Nodup → (∀ x ∈ o.reqs, x.1 < 170) → ∀ x ∈ o.reqs, t.reg (reqReg x.1) = x.2.setWidth 32
        ∧ (t.overNeeds x.1 = true → (∀ e, x.1 < 136 → t.peLogical x.1 = some e → t.bit (aMldPeMap e) 8 = true)
          ∧ (∀ e, 136 ≤ x.1 → t.cruLogical (x.1 - 136) = some e → t.bit (aMldCruMap e) 8 = true)))
      ∧ (quiet → o.cruHits = [c] → c < 34 → t.fld (aCruCnt c) 7 0 = min (s.fld (aCruCnt c) 7 0 + 1) 255
        ∧ ((Tbl.get t.spares.cruHits c []).length = 64 → ∀ e, t.cruLogical c = some e → t.bit (aMldCruMap e) 8 = true))
      ∧ t.nv.holding = (!t.nvWindow || (s.nv.holding && !t.sensors6263 (-20) 105)))

/-- R43, R392, R394, R395, R396, R410, R421, R429, R433, R434: a feed falls, is isolated, and returns; a bus below 33 V for 10 ms decides a
brown-out, which stops the module; a stop ends when its shots have, or at 2 ms, with outputs cleared, closures written and power off, and what
follows is its kind's; the module starts again when its time has come; it loses all power with the riser bank; lost stages hold or stop it. -/
def Obligations.SupplyEventsStopAndRestart : Prop :=
  ∀ (s : State) (f : Fin 2) (mv : Int) (us : Nat) (i : Fin 10) (t0 : W64) (D E : Tick) (k : StopKind), Tbl.wf resetWord s.regs = true →
    let powered := s.supply.unpowered = false
    let starts := fun (c : Instr) (cause : Byte) => ∃ t, exec c s = .next t ∧ t.boot.stage = 1 ∧ t.boot.cause = cause ∧ t.boot.stop = none
      ∧ t.boot.starts = s.boot.starts + 1 ∧ t.supply.domOn = 1 ∧ t.nv = { s.nv with capLost := t.nv.capLost } ∧ t.fuses = s.fuses
      ∧ t.pending = s.pending ∧ t.runs = [] ∧ t.sessions = [] ∧ t.fault.start = true
    let x := s.feed f
    let z : Nat := (mv / 10).toNat
    let noted := fun (y : Feed) (n : Nat) => ((s.setFeed f y).alert 1).logEvent 0x0017 n (leBytes 1 f.val)
    let back := x.backSince.getD s.mono
    let returns := 36000 ≤ mv ∧ mv ≤ 75000 ∧ x.ok = false
    let early := x.isolated = true ∧ s.since back < 1000000000
    let decided := powered ∧ s.supply.lowSince = some t0 ∧ 10000000 ≤ s.since t0 ∧ s.supply.brownout = none ∧ s.boot.stop = none
      ∧ s.acting = true
    let restarts := s.boot.stop = some (.brownout, E, true) ∧ s.supply.okSince = some t0 ∧ 100000000 ≤ s.since t0 ∧ s.boot.rstLow = false
    let cools := s.thermal.coolSince = some t0 ∧ s.thermal.shutdown = true ∧ 60000000000 ≤ s.since t0 ∧ s.shutdowns24 < 3
      ∧ s.boot.rstLow = false
    let fin := s.finishStop k D
    let off := fin.boot.stage = 0 ∧ fin.boot.stop = some (k, D, true) ∧ fin.engines = [] ∧ fin.runs = [] ∧ fin.sessions = []
    let held := s.boot.rstLow = true
    let again := s.boot.found = 0xF2 ∧ ingotThreshold s.boot.straps ≤ s.boot.counter.toNat
    let stands := s.supply.stages.getD i false = true
    (powered → mv < 33000 → exec (.feedUndervoltage f mv) s = .next (State.busFell (if x.ok = true
      then noted { x with reading := z, ok := false, backSince := none } 1
      else s.setFeed f { x with reading := z, ok := false, backSince := none })))
    ∧ ((33000 ≤ mv ∨ ¬ powered) → exec (.feedUndervoltage f mv) s = .next s)
    ∧ (powered → 75000 < mv → mv ≤ 100000 → us ≤ 100000 → exec (.feedOvervoltage f mv us) s = .next (s.count aPwrCnt 7 0 1))
    ∧ (powered → 75000 < mv → (100000 < mv ∨ 100000 < us) → exec (.feedOvervoltage f mv us) s
      = .next (State.busFell (noted { x with reading := z, ok := false, isolated := true, backSince := none } 2)))
    ∧ ((mv ≤ 75000 ∨ ¬ powered) → exec (.feedOvervoltage f mv us) s = .next s)
    ∧ (s.busFell = if s.busLow = true then { s with supply := { s.supply with
        lowSince := some (s.supply.lowSince.getD s.mono), okSince := none } } else s)
    ∧ (returns → early → exec (.feedReturn f mv) s = .next (s.setFeed f { x with reading := z, backSince := some back }))
    ∧ (returns → ¬ early → exec (.feedReturn f mv) s = .next (State.busBack
      ((s.setFeed f { x with reading := z, ok := true, isolated := false, backSince := none }).logEvent 0x0017 3 (leBytes 1 f.val))))
    ∧ ((mv < 36000 ∨ 75000 < mv ∨ x.ok = true) → exec (.feedReturn f mv) s = .next s)
    ∧ (s.busBack.supply.lowSince = none ∧ s.busBack.supply.okSince = some (s.supply.okSince.getD s.mono)
      ∧ (s.supply.lowSince = some t0 → s.since t0 ≤ 10000000 → s.supply.brownout = none → s.busBack.bit aPwrStat 8 = true))
    ∧ (decided → ∃ t, exec .brownoutDecided s = .next t ∧ t.boot.stop = some (.brownout, s.now, false) ∧ t.supply.brownout = some s.now
        ∧ t.cmk.queue = [] ∧ t.cmk.running = none ∧ t.fld aPwrCnt 31 24 = min (s.fld aPwrCnt 31 24 + 1) 255
        ∧ (∀ r ∈ t.runs, r.phase ≠ .over → r.stop.isSome = true ∧ r.nextStart = none)
        ∧ (s.clock.castRuns = true → (TaskInput.flag 249, localEv 249 s.now.stamp 0 1 0x0F9) ∈ t.waiting))
    ∧ ((s.supply.lowSince = none ∨ s.supply.lowSince = some t0 ∧ ¬ decided) → exec .brownoutDecided s = .next s)
    ∧ (s.boot.stop = some (k, D, false) →
      (D.toNat + 4000000 ≤ s.now.toNat → exec .brownoutShotLimit s = .next ((s.abortShots (D + 4000000) .powerAbort).finishStop k D))
      ∧ (s.now.toNat < D.toNat + 4000000 → s.anyInFlight = true → exec .brownoutShotLimit s = .next s)
      ∧ (s.now.toNat < D.toNat + 4000000 → s.anyInFlight = false → exec .brownoutShotLimit s = .next fin))
    ∧ ((s.boot.stop = none ∨ s.boot.stop = some (k, D, true)) → exec .brownoutShotLimit s = .next s)
    ∧ (k = .brownout → off ∧ fin.supply.limitDone = true ∧ (s.nv.holding = false → fin.nv.clean = true
      ∧ fin.nv.closures = s.nv.closures ++ (s.runs.filter (fun r => r.phase != .over)).map (fun r => r.closure 0x05)))
    ∧ ((k = .rst ∨ k = .command) → held → off)
    ∧ ((k = .rst ∨ k = .command) → ¬ held → fin.boot.stage = 1 ∧ fin.boot.stop = none
      ∧ fin.boot.cause = if k = .rst ∨ s.boot.rstWaits = true then 0x02 else 0x03)
    ∧ ((k = .fatal ∨ k = .watchdog ∨ k = .thermal ∨ k = .failedStart) →
      (s.boot.rstWaits = true → ¬ held → fin.boot.stage = 1 ∧ fin.boot.cause = 0x02)
      ∧ ((s.boot.rstWaits = false ∨ held) → again → fin.boot.ingot = true ∧ fin.supply.domOn = ingotDoms)
      ∧ ((s.boot.rstWaits = false ∨ held) → ¬ again → off ∧ fin.boot.restartAt = some (s.mono + 1000000000)))
    ∧ (restarts → starts .brownoutRestart (if s.boot.rstWaits = true then 0x02 else 0x05))
    ∧ ((s.boot.stop = none ∨ s.boot.stop = some (.brownout, E, true) ∧ s.supply.okSince = some t0 ∧ ¬ restarts) →
      exec .brownoutRestart s = .next s)
    ∧ (cools → starts .thermalRestart (if s.boot.rstWaits = true then 0x02 else if s.supply.brownout.isSome = true then 0x05 else 0x06))
    ∧ ((s.thermal.coolSince = none ∨ s.thermal.coolSince = some t0 ∧ ¬ cools) → exec .thermalRestart s = .next s)
    ∧ (powered → s.busLow = true → ∃ t, exec .riserBankSpent s = .next t ∧ t.supply.unpowered = true ∧ t.supply.domOn = 0 ∧ t.boot.stage = 0
      ∧ t.fuses = s.fuses ∧ t.nv.recs = s.nv.recs ∧ t.nv.closures = s.nv.closures ∧ t.sessions = [] ∧ t.runs = [] ∧ t.boot.stop = none)
    ∧ ((¬ powered ∨ s.busLow = false) → exec .riserBankSpent s = .next s)
    ∧ (powered → stands → ∃ t, exec (.stageIsolate i) s = .next t ∧ t.supply.stages = s.supply.stages.set i false ∧ t.bit aMldAlert 2 = true
      ∧ t.fld aPwrCnt 15 8 = min (s.fld aPwrCnt 15 8 + 1) 255
      ∧ (s.stagesOk = 6 → s.acting = true → t.boot.stage = 0 ∧ ∃ e, t.boot.stop = some (.thermal, e, true))
      ∧ (s.stagesOk = 8 → s.acting = true → ∀ r ∈ t.runs, r.running = true → r.stop ≠ none)
      ∧ (6 < s.stagesOk ∨ s.acting = false → t.boot = s.boot) ∧ (8 < s.stagesOk ∨ s.acting = false → t.runs = s.runs))
    ∧ ((¬ powered ∨ ¬ stands) → exec (.stageIsolate i) s = .next s)

/-- R400, R401, R402, R416: while its domain is on, a rail's servo steps up by 10 mV on a violation, and at each tenth report by 5 mV below its
target and down by 2.5 mV above the band, within 0.62 V to 0.90 V; a rail at 0.90 V with a violation is starved once 100 µs have passed, and
starved no more once 1 ms has passed without one. -/
def Obligations.SlackServoMovesItsRail : Prop :=
  ∀ (s : State) (r : Fin 13) (worst : Int) (tenth : Bool) (alone : Option Nat) (t0 : W64),
    Tbl.wf (fun _ => (1240 : Nat)) s.supply.rail = true → Tbl.wf (fun _ => (0 : Int)) s.supply.slack = true →
    Tbl.wf resetWord s.regs = true → Tbl.wf (fun _ => (none : Option W64)) s.supply.starveSince = true →
    Tbl.wf (fun _ => (none : Option W64)) s.supply.healSince = true →
    let target : Int := if s.thermal.level = 0 then 16 else 10
    let up : Int := if worst < 8 then 20 else 0
    let trim : Int := if tenth = false then 0 else if worst < target then 10 else if target + 4 < worst then -5 else 0
    let v : Int := s.railOf r + up + trim
    let top := worst < 8 ∧ 1800 ≤ v
    let flag := s.bit (aPwrSlk r) 31 = true
    let starve := Tbl.get s.supply.starveSince r none
    let heal := Tbl.get s.supply.healSince r none
    (s.domains.getLsbD (railDomain r) = false → exec (.slackServoStep r worst tenth alone) s = .next s)
    ∧ (s.domains.getLsbD (railDomain r) = true → ∃ t, exec (.slackServoStep r worst tenth alone) s = .next t
      ∧ (t.railOf r : Int) = max 1240 (min 1800 v) ∧ Tbl.get t.supply.slack r 0 = worst
      ∧ (∀ q, q ≠ r.val → t.railOf q = s.railOf q ∧ Tbl.get t.supply.slack q 0 = Tbl.get s.supply.slack q 0)
      ∧ (top → ¬ flag → starve = none → t.bit (aPwrSlk r) 31 = false ∧ Tbl.get t.supply.starveSince r none = some s.mono)
      ∧ (top → ¬ flag → starve = some t0 → t.bit (aPwrSlk r) 31 = decide (100000 ≤ s.since t0))
      ∧ (top → ¬ flag → starve = some t0 → 100000 ≤ s.since t0 → t.bit aMldAlert 3 = true
        ∧ (∀ b n, alone = some b → r.val < 8 → peRail b = r.val → s.peLogical b = some n → t.bit (aMldPeMap n) 8 = true)
        ∧ (∀ b n, alone = some b → 8 ≤ r.val → r.val < 12 → cruRail b = r.val → s.cruLogical b = some n → t.bit (aMldCruMap n) 8 = true))
      ∧ (flag → worst < 8 → t.bit (aPwrSlk r) 31 = true ∧ Tbl.get t.supply.healSince r none = none)
      ∧ (flag → 8 ≤ worst → heal = none → t.bit (aPwrSlk r) 31 = true ∧ Tbl.get t.supply.healSince r none = some s.mono)
      ∧ (flag → 8 ≤ worst → heal = some t0 → t.bit (aPwrSlk r) 31 = decide (s.since t0 < 1000000))
      ∧ (¬ flag → ¬ top → t.bit (aPwrSlk r) 31 = false)
      ∧ (8 ≤ worst → Tbl.get t.supply.starveSince r none = none)
      ∧ t = { s with supply := t.supply, regs := t.regs, log := t.log })

/-- R345, R359, R402, R411, R412, R414, R415: the standby Moulder takes over once; spare DRAM rows and banks and hot-cache lines are brought
in while there are any, logged, and ALERT_N is raised when there are none; an installed image comes into force and is proven at its moment, or
the install fails and the old image stays. -/
def Obligations.SparesAndInstallsTakeOver : Prop :=
  ∀ (s : State) (pc : Fin 32) (row bank block : Nat) (k : Fin 8) (t0 : W64), Tbl.wf (fun _ => (0 : Nat)) s.spares.dramUsed = true →
    Tbl.wf resetWord s.regs = true → Tbl.wf (fun _ => Hot.init) s.hots = true → Tbl.wf (fun _ => (0 : Nat)) s.fw.active = true →
    Tbl.wf (fun _ => false) s.fw.proven = true → Tbl.wf (fun _ => (0 : Nat)) s.spares.hotUsed = true →
    let used := Tbl.get s.spares.dramUsed pc 0
    let h := s.hot k
    let hotUsed := Tbl.get s.spares.hotUsed k 0
    let goes := fun (c : Instr) (v : State) (code : Nat) (d : List Byte) => exec c s = .next (v.logEvent 0x0010 code d)
    let rowAt := leBytes 1 pc.val ++ leBytes 4 row
    let bankAt := leBytes 1 pc.val ++ leBytes 1 bank
    let line := leBytes 1 k.val ++ leBytes 4 block
    let pair := h.lines.contains block = true ∧ s.hotLocked k block = false
    let bankUsed := s.spares.dramBanks.any (fun b => b / 256 == pc.val) = true
    let sp := s.spares
    let installs := fun (kind : BitVec 8) => s.fw.install = some (kind, t0)
    let comes := fun (c : Instr) (kind : Nat) (P : State → Prop) => ∃ t, exec c s = .next t ∧ t.fwActive kind = 1 - s.fwActive kind
      ∧ (∀ j, j ≠ kind → t.fwActive j = s.fwActive j) ∧ t.fw.install = none ∧ t.fw.images = s.fw.images
      ∧ Tbl.get t.fw.proven kind false = true ∧ P t
    let fails := fun (c : Instr) => ∃ t, exec c s = .next t ∧ t.fw = { s.fw with install := none } ∧ t.bit aMldAlert 9 = true
      ∧ t = { s with fw := t.fw, regs := t.regs, log := t.log }
    (sp.standby = true → s.boot.stage ≠ 0 →
      goes .moulderTakeover (State.alert { s with spares := { sp with moulder := ~~~sp.moulder, standby := false } } 6) 0x10
        (leBytes 1 (~~~sp.moulder).toNat))
    ∧ ((sp.standby = false ∨ s.boot.stage = 0) → exec .moulderTakeover s = .next s)
    ∧ (used < 240 → goes (.dramRowRemap pc row) { s with spares := { sp with
        dramUsed := Tbl.put sp.dramUsed pc (used + 1) 0
        dramRows := (pc.val * 2 ^ 24 + row % 2 ^ 24) :: sp.dramRows } } 0x11 rowAt)
    ∧ (240 ≤ used → goes (.dramRowRemap pc row) (s.alert 5) 0x12 rowAt)
    ∧ (¬ bankUsed → goes (.dramBankRemap pc bank)
        { s with spares := { sp with dramBanks := (pc.val * 256 + bank % 256) :: sp.dramBanks } } 0x13 bankAt)
    ∧ (bankUsed → goes (.dramBankRemap pc bank) (s.alert 5) 0x14 bankAt)
    ∧ (pair → hotUsed < 32 → ∃ t, exec (.hotCacheLineRetire k block) s = .next t
      ∧ t.hot k = { h with lines := h.lines.filter (fun b => b != block), retired := h.retired + 1 }
      ∧ Tbl.get t.spares.hotUsed k 0 = hotUsed + 1 ∧ (∀ j : Fin 8, j ≠ k → t.hot j = s.hot j)
      ∧ t = { s with hots := t.hots, spares := t.spares, log := t.log })
    ∧ (pair → 32 ≤ hotUsed → goes (.hotCacheLineRetire k block) (s.alert 5) 0x16 line)
    ∧ (¬ pair → exec (.hotCacheLineRetire k block) s = .next s)
    ∧ (installs 1 → sp.standby = true → comes .moulderUpdateHandover 1 (fun t => t.spares = { sp with moulder := ~~~sp.moulder }
        ∧ t = { s with fw := t.fw, spares := t.spares, log := t.log }))
    ∧ (installs 1 → sp.standby = false → fails .moulderUpdateHandover)
    ∧ (installs 2 → s.cmk.running = none → s.cmk.yielded = [] → comes .controlStoreSwitch 2 (fun t =>
        t.cmk = { s.cmk with store := storeWords (s.fwImage 2 (1 - s.fwActive 2)).bytes } ∧ t = { s with fw := t.fw, cmk := t.cmk, log := t.log }))
    ∧ (installs 2 → (s.cmk.running ≠ none ∨ s.cmk.yielded ≠ []) → exec .controlStoreSwitch s = .next s)
    ∧ (installs 2 → 60000000000 ≤ s.since t0 → fails .controlStoreInstallTimeout)
    ∧ (installs 2 → s.since t0 < 60000000000 → exec .controlStoreInstallTimeout s = .next s)
    ∧ (installs 3 → comes .flaskPatchSwitch 3 (fun t => t = { s with fw := t.fw, log := t.log }))
    ∧ (s.fw.install = none → exec .moulderUpdateHandover s = .next s ∧ exec .controlStoreSwitch s = .next s
      ∧ exec .controlStoreInstallTimeout s = .next s ∧ exec .flaskPatchSwitch s = .next s)

/-! ### Starts, stops and faults (R418-R435) -/

/-- R43, R88, R343, R397, R418, R419, R420, R421, R422, R423, R425, R426: a start goes through its stages in order, each powering its domains
and waiting for what the module's own state shows; a found failure is counted, an image takes its slot, a failed engine gives way, a bad record
is left out, and outputs power up; at the end FAULT_N is released and closures become run ends. A stage that fails ends the attempt, which is
counted; the module retries, or enters ingot mode at the threshold. -/
def Obligations.StartsGoThroughTheirStages : Prop :=
  ∀ (s : State) (o : StageResult) (cause : Byte) (t0 : W64) (D : Tick) (b : Fin 6) (e : Fin 128) (x : Nat × List Byte) (c : Closure),
    Tbl.wf resetWord s.regs = true → Tbl.wf (fun _ => Bank.init) s.banks = true →
    let runs := s.boot.stop = none ∧ s.boot.ingot = false ∧ s.supply.unpowered = false
    let here := fun (n : Nat) => runs ∧ s.boot.stage = n
    let next := fun (n : Nat) (P : State → Prop) => ∃ t, exec (.startStagePass o) s = .next t ∧ t.boot.stage = n + 1 ∧ t.boot.stop = none
      ∧ t.boot.stageAt = s.mono ∧ t.supply.domOn = s.supply.domOn ||| stageDoms n ∧ t.pending = s.pending ∧ t.fuses = s.fuses ∧ P t
    let waits := exec (.startStagePass o) s = .next s
    let ingot := fun (t : State) => t.boot.ingot = true ∧ t.boot.stage = 0 ∧ t.boot.stop = none ∧ t.supply.domOn = ingotDoms ∧ t.runs = []
    let found := s.boot.found = 0xF0 ∨ s.boot.found = 0xF1
    let cnt := if s.boot.found = 0xF0 ∨ s.boot.found = 0xF1 then counterUp s.boot.counter else s.boot.counter
    let top := ingotThreshold s.boot.straps
    let ready := ∀ k ∈ [1, 2, 3], s.imageReady k (StageSlot o k) = true
    let faults := fun (t : State) => t.boot.blocksFaulted = s.boot.blocksFaulted + o.blockFaults
    let failed := ((List.range 64).filter (fun k => (s.sensor k).failed)).length
    let mine := (stageCauses s.boot.stage).contains cause = true
    let up := counterUp s.boot.counter
    let settles := s.boot.completeAt = some t0 ∧ s.boot.stage = 10 ∧ s.boot.settling = true ∧ 60000000000 ≤ s.since t0
    let retries := s.boot.stop = some (.failedStart, D, true) ∧ s.boot.restartAt = some t0 ∧ t0 ≤ s.mono ∧ s.boot.rstLow = false
    (here 1 → s.essentialFuses = true → ¬ (found ∧ top ≤ cnt.toNat) →
      next 1 (fun t => t.fuseShadow = s.fuses ∧ t.nv.clean = false ∧ t.boot.counter = cnt ∧ t.hashKey = Config.freeValue s.free))
    ∧ (here 1 → s.essentialFuses = true → found → top ≤ cnt.toNat → ∃ t, exec (.startStagePass o) s = .next t ∧ ingot t
      ∧ t.boot.lastFail = s.boot.found)
    ∧ (here 1 → s.essentialFuses = false → waits)
    ∧ (here 2 → ready → forcedIngot s.boot.straps = false → next 2 (fun t =>
        t.boot.imageFallback = [1, 2, 3].any (fun k => StageSlot o k != s.fwActive k)
        ∧ (Tbl.wf (fun _ => (0 : Nat)) s.fw.active = true → ∀ k ∈ [1, 2, 3], t.fwActive k = StageSlot o k)))
    ∧ (here 2 → ready → forcedIngot s.boot.straps = true → ∃ t, exec (.startStagePass o) s = .next t ∧ ingot t)
    ∧ (here 2 → ¬ ready → waits)
    ∧ (here 3 → 95 ≤ s.supply.riserPct → s.thermal.hottestT < 95 * 128 → next 3 (fun _ => True))
    ∧ (here 3 → (s.supply.riserPct < 95 ∨ 95 * 128 ≤ s.thermal.hottestT) → waits)
    ∧ (here 4 → next 4 (fun t => t.clock.castRuns = true ∧ t.now = 0 ∧ t.clock.sys = 0 ∧ t.clock.link = 0
        ∧ t.cast.st = (if s.castRole = 2 then .free else if s.castRole = 1 then .adopting else .locked)))
    ∧ (here 5 → failed ≤ 8 → next 5 (fun _ => True)) ∧ (here 5 → 8 < failed → waits)
    ∧ (here 6 → next 6 faults)
    ∧ (here 7 → next 7 (fun t => (o.badEngines = [] → o.badCrus = [] → faults t)
        ∧ (o.badEngines = [e] → s.spareFree (e / 16) = true → t.pePhys e = 17 * (e / 16) + 16)
        ∧ (x ∈ s.nv.recs → 0x0300 * 65536 ≤ x.1 → x.1 < 0x0304 * 65536 →
          (savedOk (x.1 / 65536) x.2 = false ∨ (x.1 / 65536, x.1 % 65536) ∈ o.badRecords) → t.boot.configDefault = true)))
    ∧ (here 8 → next 8 (fun t => faults t ∧ (s.cmk.abort = false → (s.bank b).st = .off → (t.bank b).st = .poweringUp)))
    ∧ (here 9 → next 9 (fun t => t.boot.completeAt = some s.mono ∧ t.boot.settling = true ∧ t.fault.start = false ∧ t.nv.closures = []
        ∧ (c ∈ s.nv.closures → ∃ q ∈ t.results, q.run = c.run ∧ q.shot = none)
        ∧ (s.cmk.abort = false → (s.bank b).st = .poweringUp → (t.bank b).st = if b ∈ o.badBanks then .off else .on)))
    ∧ ((¬ runs ∨ s.boot.stage = 0 ∨ 10 ≤ s.boot.stage) → waits)
    ∧ (runs → mine → up.toNat < top → ∃ t, exec (.startStageTimeout cause) s = .next t ∧ t.boot.counter = up ∧ t.boot.lastFail = cause
      ∧ t.boot.stage = 0 ∧ t.boot.restartAt = some (s.mono + 1000000000) ∧ t.runs = [] ∧ ∃ d, t.boot.stop = some (.failedStart, d, true))
    ∧ (runs → mine → top ≤ up.toNat → ∃ t, exec (.startStageTimeout cause) s = .next t ∧ ingot t ∧ t.boot.lastFail = cause
      ∧ t.boot.counter = up)
    ∧ ((¬ runs ∨ ¬ mine) → exec (.startStageTimeout cause) s = .next s)
    ∧ (settles → exec .settlingComplete s = .next { s with boot := { s.boot with settling := false, counter := 0 } })
    ∧ ((s.boot.completeAt = none ∨ s.boot.completeAt = some t0 ∧ ¬ settles) → exec .settlingComplete s = .next s)
    ∧ (retries → ∃ t, exec .retryStart s = .next t ∧ t.boot.stage = 1 ∧ t.boot.cause = 0x04 ∧ t.boot.counter = s.boot.counter
      ∧ t.boot.lastFail = s.boot.lastFail ∧ t.boot.starts = s.boot.starts + 1 ∧ t.supply.domOn = 1)
    ∧ ((s.boot.stop = none ∨ s.boot.stop = some (.failedStart, D, true) ∧ s.boot.restartAt = some t0 ∧ ¬ retries) →
      exec .retryStart s = .next s)

/-- R418, R421, R424, R428, R429, R430, R433, R434: power-on, the edges of RST_N, a fatal fault and the watchdog. What a start keeps and
what it begins from is said once; each event either does what its rule gives it, or nothing. -/
def Obligations.ResetsAndFatalFaults : Prop :=
  ∀ (s : State) (straps : BitVec 2) (source : Byte) (D : Tick),
    let keeps := fun (t : State) => t.fuses = s.fuses ∧ t.creds = s.creds ∧ t.arc = s.arc ∧ t.nv.recs = s.nv.recs ∧ t.pending = s.pending
      ∧ t.nv.closures = s.nv.closures
    let begun := fun (cause : Byte) (t : State) => t.boot.stage = 1 ∧ t.boot.cause = cause ∧ t.boot.stop = none ∧ t.boot.ingot = false
      ∧ t.boot.starts = s.boot.starts + 1 ∧ t.supply.domOn = 1 ∧ t.clock.castRuns = false ∧ t.fault.start = true ∧ t.runs = []
      ∧ t.results = [] ∧ t.sessions = [] ∧ keeps t
    let starts := fun (c : Instr) (cause : Byte) (P : State → Prop) => ∃ t, exec c s = .next t ∧ begun cause t ∧ P t
    let held := fun (c : Instr) (P : State → Prop) => ∃ t, exec c s = .next t ∧ (∃ d, t.boot.stop = some (.rst, d, true))
      ∧ t.boot.restartAt = none ∧ t.boot.stage = 0 ∧ t.boot.rstLow = true ∧ t.runs = [] ∧ keeps t ∧ P t
    let un := s.supply.unpowered
    let low := s.boot.rstLow
    let fell := exec .rstFall s
    let rose := exec (.rstRise straps) s
    let sampled : State := { s with boot := { s.boot with rstLow := false, straps := straps } }
    let atRest := s.boot.ingot = true ∨ s.boot.stage = 0 ∨ s.boot.stop.isSome = true
    let hit := fatalSources.contains source = true ∧ un = false
    let up := counterUp s.boot.counter
    let due := ∃ d t, s.boot.stop = some (.fatal, d, true) ∧ s.boot.restartAt = some t ∧ t ≤ s.mono ∧ low = false
    let dead := un = true ∨ s.boot.ingot = true ∨ s.boot.stage = 0
    (un = true → s.busLow = false → low = false →
      starts (.powerOn straps) 0x01 (fun t => t.mono = 0 ∧ t.boot.straps = straps ∧ t.supply.unpowered = false))
    ∧ (un = true → s.busLow = false → low = true → ∃ t, exec (.powerOn straps) s = .next t ∧ t.mono = 0 ∧ t.boot.straps = straps
      ∧ t.supply.unpowered = false ∧ t.supply.domOn = 1 ∧ t.boot.stop = some (.rst, s.now, true) ∧ t.boot.restartAt = some 0
      ∧ t.boot.stage = 0 ∧ keeps t)
    ∧ ((un = false ∨ s.busLow = true) → exec (.powerOn straps) s = .next s)
    ∧ (low = true → fell = .next s)
    ∧ (low = false → un = true → fell = .next { s with boot := { s.boot with rstLow := true } })
    ∧ (low = false → un = false → s.boot.ingot = false → s.boot.stop = none → ∃ t, fell = .next t ∧ t.boot.rstLow = true
      ∧ t.boot.stop = some (.rst, s.now, false) ∧ t.boot.stage = s.boot.stage ∧ keeps t
      ∧ t.runs = s.runs.map (fun r => if r.phase = .over then r else { r with stop := some (r.stop.getD 0x06), nextStart := none }))
    ∧ (low = false → un = false → s.boot.ingot = true → s.boot.stop = none → held .rstFall (fun _ => True))
    ∧ (low = false → un = false → s.boot.stop = some (.fatal, D, true) → held .rstFall (fun _ => True))
    ∧ (low = false → un = false → s.boot.stop = some (.failedStart, D, true) → held .rstFall (fun _ => True))
    ∧ (∀ k b, low = false → un = false → s.boot.stop = some (k, D, b) → k ≠ .failedStart → (k = .fatal → b = false) →
      fell = .next { s with boot := { s.boot with rstLow := true, rstWaits := true } })
    ∧ (low = false → rose = .next s)
    ∧ (low = true → un = true → rose = .next sampled)
    ∧ (∀ k, low = true → un = false → s.boot.stop = some (k, D, true) → k ≠ .brownout →
      (k = .thermal → ¬ (s.thermal.shutdown = true ∧ s.shutdowns24 < 3)) →
      starts (.rstRise straps) (if k = .rst ∧ s.boot.restartAt.isSome = true then 0x01 else 0x02)
        (fun t => t.boot.rstLow = false ∧ t.boot.straps = straps ∧ t.mono = s.mono))
    ∧ (low = true → un = false → s.boot.stop = some (.brownout, D, true) → rose = .next sampled)
    ∧ (low = true → un = false → s.boot.stop = some (.thermal, D, true) → s.thermal.shutdown = true → s.shutdowns24 < 3 →
      rose = .next sampled)
    ∧ (∀ k, low = true → (s.boot.stop = none ∨ s.boot.stop = some (k, D, false)) → rose = .next sampled)
    ∧ (hit → ¬ atRest → s.boot.stage = 10 → ∃ t, exec (.fatalFault source) s = .next t ∧ t.boot.stop = some (.fatal, s.now, false)
      ∧ t.fault.stop = true ∧ t.fault.fatalDomain = source ∧ t.boot.counter = (if s.boot.settling then up else s.boot.counter)
      ∧ (∀ r ∈ t.runs, r.phase = .over ∨ r.stop.isSome = true ∧ r.nextStart = none) ∧ keeps t)
    ∧ (hit → ¬ atRest → s.boot.stage ≠ 10 → ∃ t, exec (.fatalFault source) s = .next t ∧ t.boot.counter = up ∧ t.boot.stage = 0
      ∧ t.runs = [] ∧ t.fault.fatalDomain = source ∧ keeps t ∧ (source = 27 → t.boot.lastFail = 0x41)
      ∧ (source = 26 → t.boot.lastFail = 0x80)
      ∧ (source ≠ 27 → source ≠ 26 → 5 ≤ s.boot.stage → s.boot.stage ≤ 8 → t.boot.lastFail = BitVec.ofNat 8 (16 * s.boot.stage))
      ∧ (if up.toNat < ingotThreshold s.boot.straps then
          (∃ d, t.boot.stop = some (.failedStart, d, true)) ∧ t.boot.restartAt = some (s.mono + 1000000000)
        else t.boot.ingot = true ∧ t.boot.stop = none))
    ∧ (hit → atRest → exec (.fatalFault source) s = .next { s with fault := { s.fault with fatalDomain := source } })
    ∧ (¬ hit → exec (.fatalFault source) s = .next s)
    ∧ (due → s.boot.rstWaits = false → starts .fatalRestart 0x07 (fun t => t.fault.fatalDomain = s.fault.fatalDomain))
    ∧ (due → s.boot.rstWaits = true → starts .fatalRestart 0x02 (fun _ => True))
    ∧ (¬ due → exec .fatalRestart s = .next s)
    ∧ (¬ dead → low = false → s.boot.rstWaits = false → starts .supervisorWatchdog 0x08 (fun t => t.fault.fatalDomain = 0xFD
      ∧ (s.boot.stage = 10 → s.boot.settling = true → t.boot.found = 0xF0)))
    ∧ (¬ dead → low = false → s.boot.rstWaits = true → starts .supervisorWatchdog 0x02 (fun _ => True))
    ∧ (¬ dead → low = true → held .supervisorWatchdog (fun t => t.fault.fatalDomain = 0xFD))
    ∧ (dead → exec .supervisorWatchdog s = .next s)

/-! ### Rules stated whole (R8, R213, R405, R439) -/

/-- R8: the status field carries the condition of the mask that stands first in the order, and a condition that arises joins the mask,
from which none is lost. -/
def Obligations.StatusShowsTheFirstCondition : Prop :=
  ∀ (mask : BitVec 16) (before after : List Cond) (c : Cond) (x : Entry) (start tick : Tick),
    ([.powerAbort, .temperAbort, .engineFault, .roleDenied, .timeUnlocked, .outputCleared, .linkLost, .checkFail, .eventLoop,
      .decisionLate, .lateRelease, .patternUnderrun, .rangeChange, .refbufNotReady, .acqOverflow] : List Cond) = before ++ c :: after →
    (mask.getLsbD c.code = true → (∀ d ∈ before, mask.getLsbD d.code = false) → statusOf mask = c.code)
    ∧ ((∀ d : Cond, mask.getLsbD d.code = false) → statusOf mask = 0)
    ∧ ∀ d : Cond, (x.add c start tick).mask.getLsbD d.code = (x.mask.getLsbD d.code || decide (d = c))

/-- R213: a write of SPR_SWPUB publishes one event on a channel 0-239, with hop 1, producer 0x0F8 and a stamp 24 ticks after the
tick of the write; it is refused and publishes nothing where the role does not hold the channel's attribute. -/
def Obligations.SoftwarePublishMakesOneEvent : Prop :=
  ∀ (s : State) (x : Session) (sid seq v : W32), s.asks x sid seq 0x11 none = true →
    let u := s.taken x sid
    let ch := fieldOf v 7 0
    let ev := localEv (BitVec.ofNat 8 ch) (s.now + 24).stamp (BitVec.ofNat 16 (fieldOf v 31 16)) 1 0x0F8
    (ch < 240 → x.role.holds (s.chAttr ch) = true → ∃ w,
      exec (.softwarePublish sid seq v) s = .next (State.reply (State.publish (State.setReg u aSprSwpub w) ev) sid seq 0x11 .ok [])
      ∧ (State.publish (State.setReg u aSprSwpub w) ev).waiting = s.waiting ++ (s.inputsOf (BitVec.ofNat 8 ch) false).map (fun i => (i, ev)))
    ∧ (ch < 240 → x.role.holds (s.chAttr ch) = false → ∃ d,
      exec (.softwarePublish sid seq v) s = .next (u.reply sid seq 0x11 .roleDenied d))
    ∧ (240 ≤ ch → ∃ d, exec (.softwarePublish sid seq v) s = .next (u.reply sid seq 0x11 .range d))
    ∧ sdiff ev.stamp s.now.stamp = 24

/-- R405: after a round the module's rate of rise is the largest, over the sensors that are valid and have a value 100 rounds old, of
ten times the difference from that value; substituted values never enter it. -/
def Obligations.RateOfRiseIsTheLargestOfTheValidSensors : Prop :=
  ∀ (s : State) (o : RoundObs), s.supply.unpowered = false →
    let old := fun (k : Nat) => (s.sensor k).hist[99]?
    ∃ t, exec (.housekeepingRound o) s = .next t
      ∧ (∀ k < 64, ∀ v, (t.sensor k).failed = false → old k = some v → 10 * ((t.sensor k).value - v) ≤ t.thermal.rate)
      ∧ ((∃ k < 64, (t.sensor k).failed = false ∧ (old k).isSome = true) →
        ∃ k < 64, ∃ v, (t.sensor k).failed = false ∧ old k = some v ∧ t.thermal.rate = 10 * ((t.sensor k).value - v))

/-- R439: a physical engine or Crucible that serves no logical number answers every read of its block; a write of its PE_WDOG or of
any of its /O registers is refused with STATE and changes nothing. -/
def Obligations.SpareBlocksAnswerReadsAndRefuseWrites : Prop :=
  ∀ (s : State) (x : Session) (sid seq v a : W32) (p : Fin 136) (c : Fin 34) (t : Fin 16) (n : Fin 256) (r : Fin 4) (w : Fin 8),
    x.role = .operator →
    let u := s.taken x sid
    let refused := fun (a : Nat) => s.asks x sid seq 0x11 none = true →
      exec (.regWrite sid seq [(BitVec.ofNat 32 a, v)]) s = .next (u.reply sid seq 0x11 .state { detailAddr a with index := 0 }.bytes)
    (s.peLogical p = none → refused (aPeWdog p))
    ∧ (s.cruLogical c = none → refused (aCruDragAddr c) ∧ refused (aCruDragData c) ∧ refused (aCruClsTlo c) ∧ refused (aCruClsThi c)
      ∧ refused (aCruPub c t) ∧ refused (aCruCtx c n) ∧ refused (aCruCls c t r w))
    ∧ (s.asks x sid seq 0x10 none = true → s.boot.ingot = false → (findReg a.toNat).isSome = true →
      ∃ y b, exec (.regRead sid seq [a]) s = .next (State.reply y sid seq 0x10 .ok b) ∧ b.length = 4)

/-! ### The machine as a whole -/

/-- R23, R46, R124, R257: a step takes the command at the front of the queue and is that command's effect with the queue's rest; with none
waiting one tick passes (log entry 3): TB_CAST moves by one, TB_LINK by eight fifths of a column, TB_SYS by the rate of its servo, and TB_MONO
with the watch oscillator, the lane reference and the watch oscillator within their tolerance (free values); bit errors may come to program
memory and to an accumulator; each RF channel makes its samples, a start that is held back moves with the time, and no memory changes.
With the PLLs not locked TB_MONO alone moves, and in an unpowered module nothing. Every step goes on. -/
def Obligations.AStepIsOneCommandOrOneTick : Prop :=
  (∀ (s : State) (c : Instr) (rest : List Instr), s.pending = c :: rest → step s = exec c { s with pending := rest })
  ∧ (∀ (s : State), s.pending = [] → s.supply.unpowered = true → step s = .next s)
  ∧ (∀ (s : State), s.pending = [] → s.supply.unpowered = false → (∀ x ∈ s.sessions, x.txPkt < 2 ^ 40) → s.clock.castRuns = false →
    ∃ e : Int, -1001 ≤ e ∧ e ≤ 1001 ∧ step s = .next { s with free := s.free + 1, clock := s.clock.monoTick e })
  ∧ (∀ (s : State), s.pending = [] → s.supply.unpowered = false → (∀ x ∈ s.sessions, x.txPkt < 2 ^ 40) → s.clock.castRuns = true →
    Tbl.wf resetWord s.regs = true → Tbl.wf (fun _ => RfChan.init) s.rf = true → Tbl.wf (fun _ => Tone.init) s.tones = true →
    Tbl.wf (fun _ => Port.init) s.ports = true →
    ∃ (t : State) (e f : Int) (u v : W64), step s = .next t ∧ -1001 ≤ e ∧ e ≤ 1001 ∧ -2001 ≤ f ∧ f ≤ 2001
      ∧ t.clock = { ((s.clock.monoTick e).linkTick f).sysTick s.sys.servo.rate s.cast.servo.rate with cast := s.clock.cast + 1 }
      ∧ (s.clock.linkFrac < 50000000 →
        s.clock.linkFrac + 79983992 ≤ 50000000 * (t.clock.link - s.clock.link).toNat + t.clock.linkFrac
        ∧ 50000000 * (t.clock.link - s.clock.link).toNat + t.clock.linkFrac ≤ s.clock.linkFrac + 80016008)
      ∧ t.dram = s.dram ∧ t.sys = s.sys ∧ t.pending = [] ∧ t.prog = upsetProg u s.prog
      ∧ (∀ ch < 96, (s.rfch ch).ncoFix = none → t.rfch ch = (State.rfTick { s with tones := upsetTone v s.tones } ch).rfch ch)
      ∧ ((∀ ch, (s.rfch ch).ncoFix = none) → t.runs = s.slideStarts.runs)
      ∧ (∀ p, (s.port p).buffers = false → t.port p = s.port p) ∧ ((s.bank 5).st ≠ .on → t.adc = s.adc))
  ∧ (∀ (s : State) (x : Session), s.pending = [] → s.supply.unpowered = false → x ∈ s.sessions → 2 ^ 40 ≤ x.txPkt →
    ∃ t, step s = .next t ∧ ∀ y ∈ t.sessions, y.id ≠ x.id)
  ∧ (∀ s : State, ∃ t, step s = .next t)

/-- A command leaves the queue of waiting commands as it is: a step takes one and no more. -/
def Obligations.CommandsLeaveTheQueueAlone : Prop :=
  ∀ (c : Instr) (s t : State), exec c s = .next t → t.pending = s.pending

/-- R92: the pattern store keeps its canonical form through every step, from every state that has it. -/
def Obligations.MemoryFormIsKept : Prop :=
  ∀ s t : State, Memory.wf s.dram = true → step s = .next t → Memory.wf t.dram = true

/-- R21, R257, R278, R281, R419, R461: the values with which the manual's registers, time bases and units start. -/
def Obligations.ResetLeavesWhatTheManualStates : Prop :=
  let s := State.reset
  Memory.wf s.dram = true ∧ s.pending = [] ∧ s.boot.stage = 1 ∧ s.boot.cause = 0x01 ∧ s.boot.ingot = false ∧ s.fault.start = true
  ∧ s.clock.cast = 0 ∧ s.clock.sys = 0 ∧ s.clock.link = 0 ∧ s.clock.mono = 0 ∧ s.clock.castRuns = false
  ∧ (∀ n : Fin 128, s.pePhys n = 17 * (n.val / 16) + n.val % 16) ∧ (∀ n : Fin 32, s.cruPhys n = n)
  ∧ s.cast.st = .free ∧ s.castDepth = 0x3F ∧ s.sys.st = .disabled ∧ s.cap.st = .idle ∧ s.reg aCapRec = 0
  ∧ s.runs = [] ∧ s.sessions = [] ∧ s.results = []
  ∧ (∀ p : Fin 136, s.fld (aPeWdog p) 23 0 = 0x4000) ∧ s.fld aCryCtrl 12 8 = 10 ∧ s.fld (aAdcCtrl 0) 9 8 = 3

/-- R331-R334, R345, R371, R374, R433: a blown fuse bit stays blown, and no command but a FUSE microword changes a row; an anti-rollback
counter only increases, and only IMAGE_COMMIT changes one; only NV_WRITE of a credential class changes a credential. -/
def Obligations.FusesCountersAndCredentialsKeep : Prop :=
  (∀ (c : Instr) (s t : State), exec c s = .next t →
    (∀ r : Nat, fuseRowOf t.fuses r &&& fuseRowOf s.fuses r = fuseRowOf s.fuses r)
    ∧ ((∀ w o, c ≠ .cmkFuse w o) → t.fuses = s.fuses))
  ∧ (∀ (c : Instr) (s t : State), exec c s = .next t → Tbl.wf (fun _ => (0 : W32)) s.arc = true →
    (∀ i, (s.arcOf i).toNat ≤ (t.arcOf i).toNat) ∧ ((∀ sid seq k, c ≠ .imageCommit sid seq k) → t.arc = s.arc))
  ∧ (∀ (c : Instr) (s t : State), exec c s = .next t → t.creds ≠ s.creds →
    ∃ sid seq cls idx r, c = .nvWrite sid seq cls idx r ∧ (cls = 0x0101 ∨ cls = 0x0102 ∨ cls = 0x0103))

/-- R92: bytes stored are read back, no other byte changes, and the form of the store is kept. -/
def Obligations.StoredBytesAreReadBack : Prop :=
  ∀ (s : State) (a : Nat) (l : List Byte), Memory.wf s.dram = true →
    (s.storeBytes a l).loadBytes a l.length = l
    ∧ (∀ b, (b < a ∨ a + l.length ≤ b) → (s.storeBytes a l).mem b = s.mem b)
    ∧ Memory.wf (s.storeBytes a l).dram = true ∧ (s.storeBytes a l).regs = s.regs

/-- R182, R355: the fields of a microword and of a Crucible M-format word are read back from the word they are written into. -/
def Obligations.MicrowordsAndCrucibleWordsRoundTrip : Prop :=
  (∀ (w : MicroWord) (k : Fin 16), microOf (MicroCode w k) = w ∧ microAction (MicroCode w k) = k.val)
  ∧ (∀ (op : Fin 64) (m : CruFields), decM (encM op m) = m ∧ fieldOf (encM op m) 31 26 = op.val ∧ (encM op m).getLsbD 9 = false)
end

