-- ==== Sys2Proof/Laws/State.lean ====
section
/-! SUPPORT. What each update of the state leaves alone: one lemma per update and field, true by unfolding. -/

namespace Sys2Proof.Machine.State

/-! ### setReg -/

@[simp] theorem setReg_pending (s : State) (a : Nat) (v : W32) : (s.setReg a v).pending = s.pending := rfl
@[simp] theorem setReg_free (s : State) (a : Nat) (v : W32) : (s.setReg a v).free = s.free := rfl
@[simp] theorem setReg_sent (s : State) (a : Nat) (v : W32) : (s.setReg a v).sent = s.sent := rfl
@[simp] theorem setReg_clock (s : State) (a : Nat) (v : W32) : (s.setReg a v).clock = s.clock := rfl
@[simp] theorem setReg_engines (s : State) (a : Nat) (v : W32) : (s.setReg a v).engines = s.engines := rfl
@[simp] theorem setReg_prog (s : State) (a : Nat) (v : W32) : (s.setReg a v).prog = s.prog := rfl
@[simp] theorem setReg_clusterImg (s : State) (a : Nat) (v : W32) : (s.setReg a v).clusterImg = s.clusterImg := rfl
@[simp] theorem setReg_cruImg (s : State) (a : Nat) (v : W32) : (s.setReg a v).cruImg = s.cruImg := rfl
@[simp] theorem setReg_images (s : State) (a : Nat) (v : W32) : (s.setReg a v).images = s.images := rfl
@[simp] theorem setReg_nextHandle (s : State) (a : Nat) (v : W32) : (s.setReg a v).nextHandle = s.nextHandle := rfl
@[simp] theorem setReg_runs (s : State) (a : Nat) (v : W32) : (s.setReg a v).runs = s.runs := rfl
@[simp] theorem setReg_nextRun (s : State) (a : Nat) (v : W32) : (s.setReg a v).nextRun = s.nextRun := rfl
@[simp] theorem setReg_rates (s : State) (a : Nat) (v : W32) : (s.setReg a v).rates = s.rates := rfl
@[simp] theorem setReg_dues (s : State) (a : Nat) (v : W32) : (s.setReg a v).dues = s.dues := rfl
@[simp] theorem setReg_results (s : State) (a : Nat) (v : W32) : (s.setReg a v).results = s.results := rfl
@[simp] theorem setReg_segs (s : State) (a : Nat) (v : W32) : (s.setReg a v).segs = s.segs := rfl
@[simp] theorem setReg_dram (s : State) (a : Nat) (v : W32) : (s.setReg a v).dram = s.dram := rfl
@[simp] theorem setReg_hashKey (s : State) (a : Nat) (v : W32) : (s.setReg a v).hashKey = s.hashKey := rfl
@[simp] theorem setReg_tones (s : State) (a : Nat) (v : W32) : (s.setReg a v).tones = s.tones := rfl
@[simp] theorem setReg_hots (s : State) (a : Nat) (v : W32) : (s.setReg a v).hots = s.hots := rfl
@[simp] theorem setReg_banks (s : State) (a : Nat) (v : W32) : (s.setReg a v).banks = s.banks := rfl
@[simp] theorem setReg_rf (s : State) (a : Nat) (v : W32) : (s.setReg a v).rf = s.rf := rfl
@[simp] theorem setReg_fb (s : State) (a : Nat) (v : W32) : (s.setReg a v).fb = s.fb := rfl
@[simp] theorem setReg_groups (s : State) (a : Nat) (v : W32) : (s.setReg a v).groups = s.groups := rfl
@[simp] theorem setReg_adc (s : State) (a : Nat) (v : W32) : (s.setReg a v).adc = s.adc := rfl
@[simp] theorem setReg_crus (s : State) (a : Nat) (v : W32) : (s.setReg a v).crus = s.crus := rfl
@[simp] theorem setReg_waiting (s : State) (a : Nat) (v : W32) : (s.setReg a v).waiting = s.waiting := rfl
@[simp] theorem setReg_notes (s : State) (a : Nat) (v : W32) : (s.setReg a v).notes = s.notes := rfl
@[simp] theorem setReg_timers (s : State) (a : Nat) (v : W32) : (s.setReg a v).timers = s.timers := rfl
@[simp] theorem setReg_pulses (s : State) (a : Nat) (v : W32) : (s.setReg a v).pulses = s.pulses := rfl
@[simp] theorem setReg_ports (s : State) (a : Nat) (v : W32) : (s.setReg a v).ports = s.ports := rfl
@[simp] theorem setReg_losses (s : State) (a : Nat) (v : W32) : (s.setReg a v).losses = s.losses := rfl
@[simp] theorem setReg_cast (s : State) (a : Nat) (v : W32) : (s.setReg a v).cast = s.cast := rfl
@[simp] theorem setReg_sys (s : State) (a : Nat) (v : W32) : (s.setReg a v).sys = s.sys := rfl
@[simp] theorem setReg_txq (s : State) (a : Nat) (v : W32) : (s.setReg a v).txq = s.txq := rfl
@[simp] theorem setReg_cap (s : State) (a : Nat) (v : W32) : (s.setReg a v).cap = s.cap := rfl
@[simp] theorem setReg_tiu (s : State) (a : Nat) (v : W32) : (s.setReg a v).tiu = s.tiu := rfl
@[simp] theorem setReg_tiuLast (s : State) (a : Nat) (v : W32) : (s.setReg a v).tiuLast = s.tiuLast := rfl
@[simp] theorem setReg_sessions (s : State) (a : Nat) (v : W32) : (s.setReg a v).sessions = s.sessions := rfl
@[simp] theorem setReg_handshakes (s : State) (a : Nat) (v : W32) : (s.setReg a v).handshakes = s.handshakes := rfl
@[simp] theorem setReg_nextSid (s : State) (a : Nat) (v : W32) : (s.setReg a v).nextSid = s.nextSid := rfl
@[simp] theorem setReg_checks (s : State) (a : Nat) (v : W32) : (s.setReg a v).checks = s.checks := rfl
@[simp] theorem setReg_kept (s : State) (a : Nat) (v : W32) : (s.setReg a v).kept = s.kept := rfl
@[simp] theorem setReg_rawSid (s : State) (a : Nat) (v : W32) : (s.setReg a v).rawSid = s.rawSid := rfl
@[simp] theorem setReg_lateArrivals (s : State) (a : Nat) (v : W32) : (s.setReg a v).lateArrivals = s.lateArrivals := rfl
@[simp] theorem setReg_strayPackets (s : State) (a : Nat) (v : W32) : (s.setReg a v).strayPackets = s.strayPackets := rfl
@[simp] theorem setReg_echoes (s : State) (a : Nat) (v : W32) : (s.setReg a v).echoes = s.echoes := rfl
@[simp] theorem setReg_creds (s : State) (a : Nat) (v : W32) : (s.setReg a v).creds = s.creds := rfl
@[simp] theorem setReg_arc (s : State) (a : Nat) (v : W32) : (s.setReg a v).arc = s.arc := rfl
@[simp] theorem setReg_log (s : State) (a : Nat) (v : W32) : (s.setReg a v).log = s.log := rfl
@[simp] theorem setReg_fw (s : State) (a : Nat) (v : W32) : (s.setReg a v).fw = s.fw := rfl
@[simp] theorem setReg_reports (s : State) (a : Nat) (v : W32) : (s.setReg a v).reports = s.reports := rfl
@[simp] theorem setReg_cmk (s : State) (a : Nat) (v : W32) : (s.setReg a v).cmk = s.cmk := rfl
@[simp] theorem setReg_nv (s : State) (a : Nat) (v : W32) : (s.setReg a v).nv = s.nv := rfl
@[simp] theorem setReg_fuses (s : State) (a : Nat) (v : W32) : (s.setReg a v).fuses = s.fuses := rfl
@[simp] theorem setReg_fuseShadow (s : State) (a : Nat) (v : W32) : (s.setReg a v).fuseShadow = s.fuseShadow := rfl
@[simp] theorem setReg_cryo (s : State) (a : Nat) (v : W32) : (s.setReg a v).cryo = s.cryo := rfl
@[simp] theorem setReg_supply (s : State) (a : Nat) (v : W32) : (s.setReg a v).supply = s.supply := rfl
@[simp] theorem setReg_spares (s : State) (a : Nat) (v : W32) : (s.setReg a v).spares = s.spares := rfl
@[simp] theorem setReg_thermal (s : State) (a : Nat) (v : W32) : (s.setReg a v).thermal = s.thermal := rfl
@[simp] theorem setReg_boot (s : State) (a : Nat) (v : W32) : (s.setReg a v).boot = s.boot := rfl
@[simp] theorem setReg_fault (s : State) (a : Nat) (v : W32) : (s.setReg a v).fault = s.fault := rfl

/-! ### setFld -/

@[simp] theorem setFld_pending (s : State) (a hi lo v : Nat) : (s.setFld a hi lo v).pending = s.pending := rfl
@[simp] theorem setFld_free (s : State) (a hi lo v : Nat) : (s.setFld a hi lo v).free = s.free := rfl
@[simp] theorem setFld_sent (s : State) (a hi lo v : Nat) : (s.setFld a hi lo v).sent = s.sent := rfl
@[simp] theorem setFld_clock (s : State) (a hi lo v : Nat) : (s.setFld a hi lo v).clock = s.clock := rfl
@[simp] theorem setFld_engines (s : State) (a hi lo v : Nat) : (s.setFld a hi lo v).engines = s.engines := rfl
@[simp] theorem setFld_prog (s : State) (a hi lo v : Nat) : (s.setFld a hi lo v).prog = s.prog := rfl
@[simp] theorem setFld_clusterImg (s : State) (a hi lo v : Nat) : (s.setFld a hi lo v).clusterImg = s.clusterImg := rfl
@[simp] theorem setFld_cruImg (s : State) (a hi lo v : Nat) : (s.setFld a hi lo v).cruImg = s.cruImg := rfl
@[simp] theorem setFld_images (s : State) (a hi lo v : Nat) : (s.setFld a hi lo v).images = s.images := rfl
@[simp] theorem setFld_nextHandle (s : State) (a hi lo v : Nat) : (s.setFld a hi lo v).nextHandle = s.nextHandle := rfl
@[simp] theorem setFld_runs (s : State) (a hi lo v : Nat) : (s.setFld a hi lo v).runs = s.runs := rfl
@[simp] theorem setFld_nextRun (s : State) (a hi lo v : Nat) : (s.setFld a hi lo v).nextRun = s.nextRun := rfl
@[simp] theorem setFld_rates (s : State) (a hi lo v : Nat) : (s.setFld a hi lo v).rates = s.rates := rfl
@[simp] theorem setFld_dues (s : State) (a hi lo v : Nat) : (s.setFld a hi lo v).dues = s.dues := rfl
@[simp] theorem setFld_results (s : State) (a hi lo v : Nat) : (s.setFld a hi lo v).results = s.results := rfl
@[simp] theorem setFld_segs (s : State) (a hi lo v : Nat) : (s.setFld a hi lo v).segs = s.segs := rfl
@[simp] theorem setFld_dram (s : State) (a hi lo v : Nat) : (s.setFld a hi lo v).dram = s.dram := rfl
@[simp] theorem setFld_hashKey (s : State) (a hi lo v : Nat) : (s.setFld a hi lo v).hashKey = s.hashKey := rfl
@[simp] theorem setFld_tones (s : State) (a hi lo v : Nat) : (s.setFld a hi lo v).tones = s.tones := rfl
@[simp] theorem setFld_hots (s : State) (a hi lo v : Nat) : (s.setFld a hi lo v).hots = s.hots := rfl
@[simp] theorem setFld_banks (s : State) (a hi lo v : Nat) : (s.setFld a hi lo v).banks = s.banks := rfl
@[simp] theorem setFld_rf (s : State) (a hi lo v : Nat) : (s.setFld a hi lo v).rf = s.rf := rfl
@[simp] theorem setFld_fb (s : State) (a hi lo v : Nat) : (s.setFld a hi lo v).fb = s.fb := rfl
@[simp] theorem setFld_groups (s : State) (a hi lo v : Nat) : (s.setFld a hi lo v).groups = s.groups := rfl
@[simp] theorem setFld_adc (s : State) (a hi lo v : Nat) : (s.setFld a hi lo v).adc = s.adc := rfl
@[simp] theorem setFld_crus (s : State) (a hi lo v : Nat) : (s.setFld a hi lo v).crus = s.crus := rfl
@[simp] theorem setFld_waiting (s : State) (a hi lo v : Nat) : (s.setFld a hi lo v).waiting = s.waiting := rfl
@[simp] theorem setFld_notes (s : State) (a hi lo v : Nat) : (s.setFld a hi lo v).notes = s.notes := rfl
@[simp] theorem setFld_timers (s : State) (a hi lo v : Nat) : (s.setFld a hi lo v).timers = s.timers := rfl
@[simp] theorem setFld_pulses (s : State) (a hi lo v : Nat) : (s.setFld a hi lo v).pulses = s.pulses := rfl
@[simp] theorem setFld_ports (s : State) (a hi lo v : Nat) : (s.setFld a hi lo v).ports = s.ports := rfl
@[simp] theorem setFld_losses (s : State) (a hi lo v : Nat) : (s.setFld a hi lo v).losses = s.losses := rfl
@[simp] theorem setFld_cast (s : State) (a hi lo v : Nat) : (s.setFld a hi lo v).cast = s.cast := rfl
@[simp] theorem setFld_sys (s : State) (a hi lo v : Nat) : (s.setFld a hi lo v).sys = s.sys := rfl
@[simp] theorem setFld_txq (s : State) (a hi lo v : Nat) : (s.setFld a hi lo v).txq = s.txq := rfl
@[simp] theorem setFld_cap (s : State) (a hi lo v : Nat) : (s.setFld a hi lo v).cap = s.cap := rfl
@[simp] theorem setFld_tiu (s : State) (a hi lo v : Nat) : (s.setFld a hi lo v).tiu = s.tiu := rfl
@[simp] theorem setFld_tiuLast (s : State) (a hi lo v : Nat) : (s.setFld a hi lo v).tiuLast = s.tiuLast := rfl
@[simp] theorem setFld_sessions (s : State) (a hi lo v : Nat) : (s.setFld a hi lo v).sessions = s.sessions := rfl
@[simp] theorem setFld_handshakes (s : State) (a hi lo v : Nat) : (s.setFld a hi lo v).handshakes = s.handshakes := rfl
@[simp] theorem setFld_nextSid (s : State) (a hi lo v : Nat) : (s.setFld a hi lo v).nextSid = s.nextSid := rfl
@[simp] theorem setFld_checks (s : State) (a hi lo v : Nat) : (s.setFld a hi lo v).checks = s.checks := rfl
@[simp] theorem setFld_kept (s : State) (a hi lo v : Nat) : (s.setFld a hi lo v).kept = s.kept := rfl
@[simp] theorem setFld_rawSid (s : State) (a hi lo v : Nat) : (s.setFld a hi lo v).rawSid = s.rawSid := rfl
@[simp] theorem setFld_lateArrivals (s : State) (a hi lo v : Nat) : (s.setFld a hi lo v).lateArrivals = s.lateArrivals := rfl
@[simp] theorem setFld_strayPackets (s : State) (a hi lo v : Nat) : (s.setFld a hi lo v).strayPackets = s.strayPackets := rfl
@[simp] theorem setFld_echoes (s : State) (a hi lo v : Nat) : (s.setFld a hi lo v).echoes = s.echoes := rfl
@[simp] theorem setFld_creds (s : State) (a hi lo v : Nat) : (s.setFld a hi lo v).creds = s.creds := rfl
@[simp] theorem setFld_arc (s : State) (a hi lo v : Nat) : (s.setFld a hi lo v).arc = s.arc := rfl
@[simp] theorem setFld_log (s : State) (a hi lo v : Nat) : (s.setFld a hi lo v).log = s.log := rfl
@[simp] theorem setFld_fw (s : State) (a hi lo v : Nat) : (s.setFld a hi lo v).fw = s.fw := rfl
@[simp] theorem setFld_reports (s : State) (a hi lo v : Nat) : (s.setFld a hi lo v).reports = s.reports := rfl
@[simp] theorem setFld_cmk (s : State) (a hi lo v : Nat) : (s.setFld a hi lo v).cmk = s.cmk := rfl
@[simp] theorem setFld_nv (s : State) (a hi lo v : Nat) : (s.setFld a hi lo v).nv = s.nv := rfl
@[simp] theorem setFld_fuses (s : State) (a hi lo v : Nat) : (s.setFld a hi lo v).fuses = s.fuses := rfl
@[simp] theorem setFld_fuseShadow (s : State) (a hi lo v : Nat) : (s.setFld a hi lo v).fuseShadow = s.fuseShadow := rfl
@[simp] theorem setFld_cryo (s : State) (a hi lo v : Nat) : (s.setFld a hi lo v).cryo = s.cryo := rfl
@[simp] theorem setFld_supply (s : State) (a hi lo v : Nat) : (s.setFld a hi lo v).supply = s.supply := rfl
@[simp] theorem setFld_spares (s : State) (a hi lo v : Nat) : (s.setFld a hi lo v).spares = s.spares := rfl
@[simp] theorem setFld_thermal (s : State) (a hi lo v : Nat) : (s.setFld a hi lo v).thermal = s.thermal := rfl
@[simp] theorem setFld_boot (s : State) (a hi lo v : Nat) : (s.setFld a hi lo v).boot = s.boot := rfl
@[simp] theorem setFld_fault (s : State) (a hi lo v : Nat) : (s.setFld a hi lo v).fault = s.fault := rfl

/-! ### setBit -/

@[simp] theorem setBit_pending (s : State) (a n : Nat) (b : Bool) : (s.setBit a n b).pending = s.pending := rfl
@[simp] theorem setBit_free (s : State) (a n : Nat) (b : Bool) : (s.setBit a n b).free = s.free := rfl
@[simp] theorem setBit_sent (s : State) (a n : Nat) (b : Bool) : (s.setBit a n b).sent = s.sent := rfl
@[simp] theorem setBit_clock (s : State) (a n : Nat) (b : Bool) : (s.setBit a n b).clock = s.clock := rfl
@[simp] theorem setBit_engines (s : State) (a n : Nat) (b : Bool) : (s.setBit a n b).engines = s.engines := rfl
@[simp] theorem setBit_prog (s : State) (a n : Nat) (b : Bool) : (s.setBit a n b).prog = s.prog := rfl
@[simp] theorem setBit_clusterImg (s : State) (a n : Nat) (b : Bool) : (s.setBit a n b).clusterImg = s.clusterImg := rfl
@[simp] theorem setBit_cruImg (s : State) (a n : Nat) (b : Bool) : (s.setBit a n b).cruImg = s.cruImg := rfl
@[simp] theorem setBit_images (s : State) (a n : Nat) (b : Bool) : (s.setBit a n b).images = s.images := rfl
@[simp] theorem setBit_nextHandle (s : State) (a n : Nat) (b : Bool) : (s.setBit a n b).nextHandle = s.nextHandle := rfl
@[simp] theorem setBit_runs (s : State) (a n : Nat) (b : Bool) : (s.setBit a n b).runs = s.runs := rfl
@[simp] theorem setBit_nextRun (s : State) (a n : Nat) (b : Bool) : (s.setBit a n b).nextRun = s.nextRun := rfl
@[simp] theorem setBit_rates (s : State) (a n : Nat) (b : Bool) : (s.setBit a n b).rates = s.rates := rfl
@[simp] theorem setBit_dues (s : State) (a n : Nat) (b : Bool) : (s.setBit a n b).dues = s.dues := rfl
@[simp] theorem setBit_results (s : State) (a n : Nat) (b : Bool) : (s.setBit a n b).results = s.results := rfl
@[simp] theorem setBit_segs (s : State) (a n : Nat) (b : Bool) : (s.setBit a n b).segs = s.segs := rfl
@[simp] theorem setBit_dram (s : State) (a n : Nat) (b : Bool) : (s.setBit a n b).dram = s.dram := rfl
@[simp] theorem setBit_hashKey (s : State) (a n : Nat) (b : Bool) : (s.setBit a n b).hashKey = s.hashKey := rfl
@[simp] theorem setBit_tones (s : State) (a n : Nat) (b : Bool) : (s.setBit a n b).tones = s.tones := rfl
@[simp] theorem setBit_hots (s : State) (a n : Nat) (b : Bool) : (s.setBit a n b).hots = s.hots := rfl
@[simp] theorem setBit_banks (s : State) (a n : Nat) (b : Bool) : (s.setBit a n b).banks = s.banks := rfl
@[simp] theorem setBit_rf (s : State) (a n : Nat) (b : Bool) : (s.setBit a n b).rf = s.rf := rfl
@[simp] theorem setBit_fb (s : State) (a n : Nat) (b : Bool) : (s.setBit a n b).fb = s.fb := rfl
@[simp] theorem setBit_groups (s : State) (a n : Nat) (b : Bool) : (s.setBit a n b).groups = s.groups := rfl
@[simp] theorem setBit_adc (s : State) (a n : Nat) (b : Bool) : (s.setBit a n b).adc = s.adc := rfl
@[simp] theorem setBit_crus (s : State) (a n : Nat) (b : Bool) : (s.setBit a n b).crus = s.crus := rfl
@[simp] theorem setBit_waiting (s : State) (a n : Nat) (b : Bool) : (s.setBit a n b).waiting = s.waiting := rfl
@[simp] theorem setBit_notes (s : State) (a n : Nat) (b : Bool) : (s.setBit a n b).notes = s.notes := rfl
@[simp] theorem setBit_timers (s : State) (a n : Nat) (b : Bool) : (s.setBit a n b).timers = s.timers := rfl
@[simp] theorem setBit_pulses (s : State) (a n : Nat) (b : Bool) : (s.setBit a n b).pulses = s.pulses := rfl
@[simp] theorem setBit_ports (s : State) (a n : Nat) (b : Bool) : (s.setBit a n b).ports = s.ports := rfl
@[simp] theorem setBit_losses (s : State) (a n : Nat) (b : Bool) : (s.setBit a n b).losses = s.losses := rfl
@[simp] theorem setBit_cast (s : State) (a n : Nat) (b : Bool) : (s.setBit a n b).cast = s.cast := rfl
@[simp] theorem setBit_sys (s : State) (a n : Nat) (b : Bool) : (s.setBit a n b).sys = s.sys := rfl
@[simp] theorem setBit_txq (s : State) (a n : Nat) (b : Bool) : (s.setBit a n b).txq = s.txq := rfl
@[simp] theorem setBit_cap (s : State) (a n : Nat) (b : Bool) : (s.setBit a n b).cap = s.cap := rfl
@[simp] theorem setBit_tiu (s : State) (a n : Nat) (b : Bool) : (s.setBit a n b).tiu = s.tiu := rfl
@[simp] theorem setBit_tiuLast (s : State) (a n : Nat) (b : Bool) : (s.setBit a n b).tiuLast = s.tiuLast := rfl
@[simp] theorem setBit_sessions (s : State) (a n : Nat) (b : Bool) : (s.setBit a n b).sessions = s.sessions := rfl
@[simp] theorem setBit_handshakes (s : State) (a n : Nat) (b : Bool) : (s.setBit a n b).handshakes = s.handshakes := rfl
@[simp] theorem setBit_nextSid (s : State) (a n : Nat) (b : Bool) : (s.setBit a n b).nextSid = s.nextSid := rfl
@[simp] theorem setBit_checks (s : State) (a n : Nat) (b : Bool) : (s.setBit a n b).checks = s.checks := rfl
@[simp] theorem setBit_kept (s : State) (a n : Nat) (b : Bool) : (s.setBit a n b).kept = s.kept := rfl
@[simp] theorem setBit_rawSid (s : State) (a n : Nat) (b : Bool) : (s.setBit a n b).rawSid = s.rawSid := rfl
@[simp] theorem setBit_lateArrivals (s : State) (a n : Nat) (b : Bool) : (s.setBit a n b).lateArrivals = s.lateArrivals := rfl
@[simp] theorem setBit_strayPackets (s : State) (a n : Nat) (b : Bool) : (s.setBit a n b).strayPackets = s.strayPackets := rfl
@[simp] theorem setBit_echoes (s : State) (a n : Nat) (b : Bool) : (s.setBit a n b).echoes = s.echoes := rfl
@[simp] theorem setBit_creds (s : State) (a n : Nat) (b : Bool) : (s.setBit a n b).creds = s.creds := rfl
@[simp] theorem setBit_arc (s : State) (a n : Nat) (b : Bool) : (s.setBit a n b).arc = s.arc := rfl
@[simp] theorem setBit_log (s : State) (a n : Nat) (b : Bool) : (s.setBit a n b).log = s.log := rfl
@[simp] theorem setBit_fw (s : State) (a n : Nat) (b : Bool) : (s.setBit a n b).fw = s.fw := rfl
@[simp] theorem setBit_reports (s : State) (a n : Nat) (b : Bool) : (s.setBit a n b).reports = s.reports := rfl
@[simp] theorem setBit_cmk (s : State) (a n : Nat) (b : Bool) : (s.setBit a n b).cmk = s.cmk := rfl
@[simp] theorem setBit_nv (s : State) (a n : Nat) (b : Bool) : (s.setBit a n b).nv = s.nv := rfl
@[simp] theorem setBit_fuses (s : State) (a n : Nat) (b : Bool) : (s.setBit a n b).fuses = s.fuses := rfl
@[simp] theorem setBit_fuseShadow (s : State) (a n : Nat) (b : Bool) : (s.setBit a n b).fuseShadow = s.fuseShadow := rfl
@[simp] theorem setBit_cryo (s : State) (a n : Nat) (b : Bool) : (s.setBit a n b).cryo = s.cryo := rfl
@[simp] theorem setBit_supply (s : State) (a n : Nat) (b : Bool) : (s.setBit a n b).supply = s.supply := rfl
@[simp] theorem setBit_spares (s : State) (a n : Nat) (b : Bool) : (s.setBit a n b).spares = s.spares := rfl
@[simp] theorem setBit_thermal (s : State) (a n : Nat) (b : Bool) : (s.setBit a n b).thermal = s.thermal := rfl
@[simp] theorem setBit_boot (s : State) (a n : Nat) (b : Bool) : (s.setBit a n b).boot = s.boot := rfl
@[simp] theorem setBit_fault (s : State) (a n : Nat) (b : Bool) : (s.setBit a n b).fault = s.fault := rfl

/-! ### count -/

@[simp] theorem count_pending (s : State) (a hi lo n : Nat) : (s.count a hi lo n).pending = s.pending := rfl
@[simp] theorem count_free (s : State) (a hi lo n : Nat) : (s.count a hi lo n).free = s.free := rfl
@[simp] theorem count_sent (s : State) (a hi lo n : Nat) : (s.count a hi lo n).sent = s.sent := rfl
@[simp] theorem count_clock (s : State) (a hi lo n : Nat) : (s.count a hi lo n).clock = s.clock := rfl
@[simp] theorem count_engines (s : State) (a hi lo n : Nat) : (s.count a hi lo n).engines = s.engines := rfl
@[simp] theorem count_prog (s : State) (a hi lo n : Nat) : (s.count a hi lo n).prog = s.prog := rfl
@[simp] theorem count_clusterImg (s : State) (a hi lo n : Nat) : (s.count a hi lo n).clusterImg = s.clusterImg := rfl
@[simp] theorem count_cruImg (s : State) (a hi lo n : Nat) : (s.count a hi lo n).cruImg = s.cruImg := rfl
@[simp] theorem count_images (s : State) (a hi lo n : Nat) : (s.count a hi lo n).images = s.images := rfl
@[simp] theorem count_nextHandle (s : State) (a hi lo n : Nat) : (s.count a hi lo n).nextHandle = s.nextHandle := rfl
@[simp] theorem count_runs (s : State) (a hi lo n : Nat) : (s.count a hi lo n).runs = s.runs := rfl
@[simp] theorem count_nextRun (s : State) (a hi lo n : Nat) : (s.count a hi lo n).nextRun = s.nextRun := rfl
@[simp] theorem count_rates (s : State) (a hi lo n : Nat) : (s.count a hi lo n).rates = s.rates := rfl
@[simp] theorem count_dues (s : State) (a hi lo n : Nat) : (s.count a hi lo n).dues = s.dues := rfl
@[simp] theorem count_results (s : State) (a hi lo n : Nat) : (s.count a hi lo n).results = s.results := rfl
@[simp] theorem count_segs (s : State) (a hi lo n : Nat) : (s.count a hi lo n).segs = s.segs := rfl
@[simp] theorem count_dram (s : State) (a hi lo n : Nat) : (s.count a hi lo n).dram = s.dram := rfl
@[simp] theorem count_hashKey (s : State) (a hi lo n : Nat) : (s.count a hi lo n).hashKey = s.hashKey := rfl
@[simp] theorem count_tones (s : State) (a hi lo n : Nat) : (s.count a hi lo n).tones = s.tones := rfl
@[simp] theorem count_hots (s : State) (a hi lo n : Nat) : (s.count a hi lo n).hots = s.hots := rfl
@[simp] theorem count_banks (s : State) (a hi lo n : Nat) : (s.count a hi lo n).banks = s.banks := rfl
@[simp] theorem count_rf (s : State) (a hi lo n : Nat) : (s.count a hi lo n).rf = s.rf := rfl
@[simp] theorem count_fb (s : State) (a hi lo n : Nat) : (s.count a hi lo n).fb = s.fb := rfl
@[simp] theorem count_groups (s : State) (a hi lo n : Nat) : (s.count a hi lo n).groups = s.groups := rfl
@[simp] theorem count_adc (s : State) (a hi lo n : Nat) : (s.count a hi lo n).adc = s.adc := rfl
@[simp] theorem count_crus (s : State) (a hi lo n : Nat) : (s.count a hi lo n).crus = s.crus := rfl
@[simp] theorem count_waiting (s : State) (a hi lo n : Nat) : (s.count a hi lo n).waiting = s.waiting := rfl
@[simp] theorem count_notes (s : State) (a hi lo n : Nat) : (s.count a hi lo n).notes = s.notes := rfl
@[simp] theorem count_timers (s : State) (a hi lo n : Nat) : (s.count a hi lo n).timers = s.timers := rfl
@[simp] theorem count_pulses (s : State) (a hi lo n : Nat) : (s.count a hi lo n).pulses = s.pulses := rfl
@[simp] theorem count_ports (s : State) (a hi lo n : Nat) : (s.count a hi lo n).ports = s.ports := rfl
@[simp] theorem count_losses (s : State) (a hi lo n : Nat) : (s.count a hi lo n).losses = s.losses := rfl
@[simp] theorem count_cast (s : State) (a hi lo n : Nat) : (s.count a hi lo n).cast = s.cast := rfl
@[simp] theorem count_sys (s : State) (a hi lo n : Nat) : (s.count a hi lo n).sys = s.sys := rfl
@[simp] theorem count_txq (s : State) (a hi lo n : Nat) : (s.count a hi lo n).txq = s.txq := rfl
@[simp] theorem count_cap (s : State) (a hi lo n : Nat) : (s.count a hi lo n).cap = s.cap := rfl
@[simp] theorem count_tiu (s : State) (a hi lo n : Nat) : (s.count a hi lo n).tiu = s.tiu := rfl
@[simp] theorem count_tiuLast (s : State) (a hi lo n : Nat) : (s.count a hi lo n).tiuLast = s.tiuLast := rfl
@[simp] theorem count_sessions (s : State) (a hi lo n : Nat) : (s.count a hi lo n).sessions = s.sessions := rfl
@[simp] theorem count_handshakes (s : State) (a hi lo n : Nat) : (s.count a hi lo n).handshakes = s.handshakes := rfl
@[simp] theorem count_nextSid (s : State) (a hi lo n : Nat) : (s.count a hi lo n).nextSid = s.nextSid := rfl
@[simp] theorem count_checks (s : State) (a hi lo n : Nat) : (s.count a hi lo n).checks = s.checks := rfl
@[simp] theorem count_kept (s : State) (a hi lo n : Nat) : (s.count a hi lo n).kept = s.kept := rfl
@[simp] theorem count_rawSid (s : State) (a hi lo n : Nat) : (s.count a hi lo n).rawSid = s.rawSid := rfl
@[simp] theorem count_lateArrivals (s : State) (a hi lo n : Nat) : (s.count a hi lo n).lateArrivals = s.lateArrivals := rfl
@[simp] theorem count_strayPackets (s : State) (a hi lo n : Nat) : (s.count a hi lo n).strayPackets = s.strayPackets := rfl
@[simp] theorem count_echoes (s : State) (a hi lo n : Nat) : (s.count a hi lo n).echoes = s.echoes := rfl
@[simp] theorem count_creds (s : State) (a hi lo n : Nat) : (s.count a hi lo n).creds = s.creds := rfl
@[simp] theorem count_arc (s : State) (a hi lo n : Nat) : (s.count a hi lo n).arc = s.arc := rfl
@[simp] theorem count_log (s : State) (a hi lo n : Nat) : (s.count a hi lo n).log = s.log := rfl
@[simp] theorem count_fw (s : State) (a hi lo n : Nat) : (s.count a hi lo n).fw = s.fw := rfl
@[simp] theorem count_reports (s : State) (a hi lo n : Nat) : (s.count a hi lo n).reports = s.reports := rfl
@[simp] theorem count_cmk (s : State) (a hi lo n : Nat) : (s.count a hi lo n).cmk = s.cmk := rfl
@[simp] theorem count_nv (s : State) (a hi lo n : Nat) : (s.count a hi lo n).nv = s.nv := rfl
@[simp] theorem count_fuses (s : State) (a hi lo n : Nat) : (s.count a hi lo n).fuses = s.fuses := rfl
@[simp] theorem count_fuseShadow (s : State) (a hi lo n : Nat) : (s.count a hi lo n).fuseShadow = s.fuseShadow := rfl
@[simp] theorem count_cryo (s : State) (a hi lo n : Nat) : (s.count a hi lo n).cryo = s.cryo := rfl
@[simp] theorem count_supply (s : State) (a hi lo n : Nat) : (s.count a hi lo n).supply = s.supply := rfl
@[simp] theorem count_spares (s : State) (a hi lo n : Nat) : (s.count a hi lo n).spares = s.spares := rfl
@[simp] theorem count_thermal (s : State) (a hi lo n : Nat) : (s.count a hi lo n).thermal = s.thermal := rfl
@[simp] theorem count_boot (s : State) (a hi lo n : Nat) : (s.count a hi lo n).boot = s.boot := rfl
@[simp] theorem count_fault (s : State) (a hi lo n : Nat) : (s.count a hi lo n).fault = s.fault := rfl

/-! ### alert -/

@[simp] theorem alert_pending (s : State) (n : Nat) : (s.alert n).pending = s.pending := rfl
@[simp] theorem alert_free (s : State) (n : Nat) : (s.alert n).free = s.free := rfl
@[simp] theorem alert_sent (s : State) (n : Nat) : (s.alert n).sent = s.sent := rfl
@[simp] theorem alert_clock (s : State) (n : Nat) : (s.alert n).clock = s.clock := rfl
@[simp] theorem alert_engines (s : State) (n : Nat) : (s.alert n).engines = s.engines := rfl
@[simp] theorem alert_prog (s : State) (n : Nat) : (s.alert n).prog = s.prog := rfl
@[simp] theorem alert_clusterImg (s : State) (n : Nat) : (s.alert n).clusterImg = s.clusterImg := rfl
@[simp] theorem alert_cruImg (s : State) (n : Nat) : (s.alert n).cruImg = s.cruImg := rfl
@[simp] theorem alert_images (s : State) (n : Nat) : (s.alert n).images = s.images := rfl
@[simp] theorem alert_nextHandle (s : State) (n : Nat) : (s.alert n).nextHandle = s.nextHandle := rfl
@[simp] theorem alert_runs (s : State) (n : Nat) : (s.alert n).runs = s.runs := rfl
@[simp] theorem alert_nextRun (s : State) (n : Nat) : (s.alert n).nextRun = s.nextRun := rfl
@[simp] theorem alert_rates (s : State) (n : Nat) : (s.alert n).rates = s.rates := rfl
@[simp] theorem alert_dues (s : State) (n : Nat) : (s.alert n).dues = s.dues := rfl
@[simp] theorem alert_results (s : State) (n : Nat) : (s.alert n).results = s.results := rfl
@[simp] theorem alert_segs (s : State) (n : Nat) : (s.alert n).segs = s.segs := rfl
@[simp] theorem alert_dram (s : State) (n : Nat) : (s.alert n).dram = s.dram := rfl
@[simp] theorem alert_hashKey (s : State) (n : Nat) : (s.alert n).hashKey = s.hashKey := rfl
@[simp] theorem alert_tones (s : State) (n : Nat) : (s.alert n).tones = s.tones := rfl
@[simp] theorem alert_hots (s : State) (n : Nat) : (s.alert n).hots = s.hots := rfl
@[simp] theorem alert_banks (s : State) (n : Nat) : (s.alert n).banks = s.banks := rfl
@[simp] theorem alert_rf (s : State) (n : Nat) : (s.alert n).rf = s.rf := rfl
@[simp] theorem alert_fb (s : State) (n : Nat) : (s.alert n).fb = s.fb := rfl
@[simp] theorem alert_groups (s : State) (n : Nat) : (s.alert n).groups = s.groups := rfl
@[simp] theorem alert_adc (s : State) (n : Nat) : (s.alert n).adc = s.adc := rfl
@[simp] theorem alert_crus (s : State) (n : Nat) : (s.alert n).crus = s.crus := rfl
@[simp] theorem alert_waiting (s : State) (n : Nat) : (s.alert n).waiting = s.waiting := rfl
@[simp] theorem alert_notes (s : State) (n : Nat) : (s.alert n).notes = s.notes := rfl
@[simp] theorem alert_timers (s : State) (n : Nat) : (s.alert n).timers = s.timers := rfl
@[simp] theorem alert_pulses (s : State) (n : Nat) : (s.alert n).pulses = s.pulses := rfl
@[simp] theorem alert_ports (s : State) (n : Nat) : (s.alert n).ports = s.ports := rfl
@[simp] theorem alert_losses (s : State) (n : Nat) : (s.alert n).losses = s.losses := rfl
@[simp] theorem alert_cast (s : State) (n : Nat) : (s.alert n).cast = s.cast := rfl
@[simp] theorem alert_sys (s : State) (n : Nat) : (s.alert n).sys = s.sys := rfl
@[simp] theorem alert_txq (s : State) (n : Nat) : (s.alert n).txq = s.txq := rfl
@[simp] theorem alert_cap (s : State) (n : Nat) : (s.alert n).cap = s.cap := rfl
@[simp] theorem alert_tiu (s : State) (n : Nat) : (s.alert n).tiu = s.tiu := rfl
@[simp] theorem alert_tiuLast (s : State) (n : Nat) : (s.alert n).tiuLast = s.tiuLast := rfl
@[simp] theorem alert_sessions (s : State) (n : Nat) : (s.alert n).sessions = s.sessions := rfl
@[simp] theorem alert_handshakes (s : State) (n : Nat) : (s.alert n).handshakes = s.handshakes := rfl
@[simp] theorem alert_nextSid (s : State) (n : Nat) : (s.alert n).nextSid = s.nextSid := rfl
@[simp] theorem alert_checks (s : State) (n : Nat) : (s.alert n).checks = s.checks := rfl
@[simp] theorem alert_kept (s : State) (n : Nat) : (s.alert n).kept = s.kept := rfl
@[simp] theorem alert_rawSid (s : State) (n : Nat) : (s.alert n).rawSid = s.rawSid := rfl
@[simp] theorem alert_lateArrivals (s : State) (n : Nat) : (s.alert n).lateArrivals = s.lateArrivals := rfl
@[simp] theorem alert_strayPackets (s : State) (n : Nat) : (s.alert n).strayPackets = s.strayPackets := rfl
@[simp] theorem alert_echoes (s : State) (n : Nat) : (s.alert n).echoes = s.echoes := rfl
@[simp] theorem alert_creds (s : State) (n : Nat) : (s.alert n).creds = s.creds := rfl
@[simp] theorem alert_arc (s : State) (n : Nat) : (s.alert n).arc = s.arc := rfl
@[simp] theorem alert_log (s : State) (n : Nat) : (s.alert n).log = s.log := rfl
@[simp] theorem alert_fw (s : State) (n : Nat) : (s.alert n).fw = s.fw := rfl
@[simp] theorem alert_reports (s : State) (n : Nat) : (s.alert n).reports = s.reports := rfl
@[simp] theorem alert_cmk (s : State) (n : Nat) : (s.alert n).cmk = s.cmk := rfl
@[simp] theorem alert_nv (s : State) (n : Nat) : (s.alert n).nv = s.nv := rfl
@[simp] theorem alert_fuses (s : State) (n : Nat) : (s.alert n).fuses = s.fuses := rfl
@[simp] theorem alert_fuseShadow (s : State) (n : Nat) : (s.alert n).fuseShadow = s.fuseShadow := rfl
@[simp] theorem alert_cryo (s : State) (n : Nat) : (s.alert n).cryo = s.cryo := rfl
@[simp] theorem alert_supply (s : State) (n : Nat) : (s.alert n).supply = s.supply := rfl
@[simp] theorem alert_spares (s : State) (n : Nat) : (s.alert n).spares = s.spares := rfl
@[simp] theorem alert_thermal (s : State) (n : Nat) : (s.alert n).thermal = s.thermal := rfl
@[simp] theorem alert_boot (s : State) (n : Nat) : (s.alert n).boot = s.boot := rfl
@[simp] theorem alert_fault (s : State) (n : Nat) : (s.alert n).fault = s.fault := rfl

/-! ### emit -/

@[simp] theorem emit_pending (s : State) (x : Sent) : (s.emit x).pending = s.pending := rfl
@[simp] theorem emit_free (s : State) (x : Sent) : (s.emit x).free = s.free := rfl
@[simp] theorem emit_clock (s : State) (x : Sent) : (s.emit x).clock = s.clock := rfl
@[simp] theorem emit_regs (s : State) (x : Sent) : (s.emit x).regs = s.regs := rfl
@[simp] theorem emit_engines (s : State) (x : Sent) : (s.emit x).engines = s.engines := rfl
@[simp] theorem emit_prog (s : State) (x : Sent) : (s.emit x).prog = s.prog := rfl
@[simp] theorem emit_clusterImg (s : State) (x : Sent) : (s.emit x).clusterImg = s.clusterImg := rfl
@[simp] theorem emit_cruImg (s : State) (x : Sent) : (s.emit x).cruImg = s.cruImg := rfl
@[simp] theorem emit_images (s : State) (x : Sent) : (s.emit x).images = s.images := rfl
@[simp] theorem emit_nextHandle (s : State) (x : Sent) : (s.emit x).nextHandle = s.nextHandle := rfl
@[simp] theorem emit_runs (s : State) (x : Sent) : (s.emit x).runs = s.runs := rfl
@[simp] theorem emit_nextRun (s : State) (x : Sent) : (s.emit x).nextRun = s.nextRun := rfl
@[simp] theorem emit_rates (s : State) (x : Sent) : (s.emit x).rates = s.rates := rfl
@[simp] theorem emit_dues (s : State) (x : Sent) : (s.emit x).dues = s.dues := rfl
@[simp] theorem emit_results (s : State) (x : Sent) : (s.emit x).results = s.results := rfl
@[simp] theorem emit_segs (s : State) (x : Sent) : (s.emit x).segs = s.segs := rfl
@[simp] theorem emit_dram (s : State) (x : Sent) : (s.emit x).dram = s.dram := rfl
@[simp] theorem emit_hashKey (s : State) (x : Sent) : (s.emit x).hashKey = s.hashKey := rfl
@[simp] theorem emit_tones (s : State) (x : Sent) : (s.emit x).tones = s.tones := rfl
@[simp] theorem emit_hots (s : State) (x : Sent) : (s.emit x).hots = s.hots := rfl
@[simp] theorem emit_banks (s : State) (x : Sent) : (s.emit x).banks = s.banks := rfl
@[simp] theorem emit_rf (s : State) (x : Sent) : (s.emit x).rf = s.rf := rfl
@[simp] theorem emit_fb (s : State) (x : Sent) : (s.emit x).fb = s.fb := rfl
@[simp] theorem emit_groups (s : State) (x : Sent) : (s.emit x).groups = s.groups := rfl
@[simp] theorem emit_adc (s : State) (x : Sent) : (s.emit x).adc = s.adc := rfl
@[simp] theorem emit_crus (s : State) (x : Sent) : (s.emit x).crus = s.crus := rfl
@[simp] theorem emit_waiting (s : State) (x : Sent) : (s.emit x).waiting = s.waiting := rfl
@[simp] theorem emit_notes (s : State) (x : Sent) : (s.emit x).notes = s.notes := rfl
@[simp] theorem emit_timers (s : State) (x : Sent) : (s.emit x).timers = s.timers := rfl
@[simp] theorem emit_pulses (s : State) (x : Sent) : (s.emit x).pulses = s.pulses := rfl
@[simp] theorem emit_ports (s : State) (x : Sent) : (s.emit x).ports = s.ports := rfl
@[simp] theorem emit_losses (s : State) (x : Sent) : (s.emit x).losses = s.losses := rfl
@[simp] theorem emit_cast (s : State) (x : Sent) : (s.emit x).cast = s.cast := rfl
@[simp] theorem emit_sys (s : State) (x : Sent) : (s.emit x).sys = s.sys := rfl
@[simp] theorem emit_txq (s : State) (x : Sent) : (s.emit x).txq = s.txq := rfl
@[simp] theorem emit_cap (s : State) (x : Sent) : (s.emit x).cap = s.cap := rfl
@[simp] theorem emit_tiu (s : State) (x : Sent) : (s.emit x).tiu = s.tiu := rfl
@[simp] theorem emit_tiuLast (s : State) (x : Sent) : (s.emit x).tiuLast = s.tiuLast := rfl
@[simp] theorem emit_sessions (s : State) (x : Sent) : (s.emit x).sessions = s.sessions := rfl
@[simp] theorem emit_handshakes (s : State) (x : Sent) : (s.emit x).handshakes = s.handshakes := rfl
@[simp] theorem emit_nextSid (s : State) (x : Sent) : (s.emit x).nextSid = s.nextSid := rfl
@[simp] theorem emit_checks (s : State) (x : Sent) : (s.emit x).checks = s.checks := rfl
@[simp] theorem emit_kept (s : State) (x : Sent) : (s.emit x).kept = s.kept := rfl
@[simp] theorem emit_rawSid (s : State) (x : Sent) : (s.emit x).rawSid = s.rawSid := rfl
@[simp] theorem emit_lateArrivals (s : State) (x : Sent) : (s.emit x).lateArrivals = s.lateArrivals := rfl
@[simp] theorem emit_strayPackets (s : State) (x : Sent) : (s.emit x).strayPackets = s.strayPackets := rfl
@[simp] theorem emit_echoes (s : State) (x : Sent) : (s.emit x).echoes = s.echoes := rfl
@[simp] theorem emit_creds (s : State) (x : Sent) : (s.emit x).creds = s.creds := rfl
@[simp] theorem emit_arc (s : State) (x : Sent) : (s.emit x).arc = s.arc := rfl
@[simp] theorem emit_log (s : State) (x : Sent) : (s.emit x).log = s.log := rfl
@[simp] theorem emit_fw (s : State) (x : Sent) : (s.emit x).fw = s.fw := rfl
@[simp] theorem emit_reports (s : State) (x : Sent) : (s.emit x).reports = s.reports := rfl
@[simp] theorem emit_cmk (s : State) (x : Sent) : (s.emit x).cmk = s.cmk := rfl
@[simp] theorem emit_nv (s : State) (x : Sent) : (s.emit x).nv = s.nv := rfl
@[simp] theorem emit_fuses (s : State) (x : Sent) : (s.emit x).fuses = s.fuses := rfl
@[simp] theorem emit_fuseShadow (s : State) (x : Sent) : (s.emit x).fuseShadow = s.fuseShadow := rfl
@[simp] theorem emit_cryo (s : State) (x : Sent) : (s.emit x).cryo = s.cryo := rfl
@[simp] theorem emit_supply (s : State) (x : Sent) : (s.emit x).supply = s.supply := rfl
@[simp] theorem emit_spares (s : State) (x : Sent) : (s.emit x).spares = s.spares := rfl
@[simp] theorem emit_thermal (s : State) (x : Sent) : (s.emit x).thermal = s.thermal := rfl
@[simp] theorem emit_boot (s : State) (x : Sent) : (s.emit x).boot = s.boot := rfl
@[simp] theorem emit_fault (s : State) (x : Sent) : (s.emit x).fault = s.fault := rfl

/-! ### setEng -/

@[simp] theorem setEng_pending (s : State) (e : Nat) (x : Engine) : (s.setEng e x).pending = s.pending := rfl
@[simp] theorem setEng_free (s : State) (e : Nat) (x : Engine) : (s.setEng e x).free = s.free := rfl
@[simp] theorem setEng_sent (s : State) (e : Nat) (x : Engine) : (s.setEng e x).sent = s.sent := rfl
@[simp] theorem setEng_clock (s : State) (e : Nat) (x : Engine) : (s.setEng e x).clock = s.clock := rfl
@[simp] theorem setEng_regs (s : State) (e : Nat) (x : Engine) : (s.setEng e x).regs = s.regs := rfl
@[simp] theorem setEng_prog (s : State) (e : Nat) (x : Engine) : (s.setEng e x).prog = s.prog := rfl
@[simp] theorem setEng_clusterImg (s : State) (e : Nat) (x : Engine) : (s.setEng e x).clusterImg = s.clusterImg := rfl
@[simp] theorem setEng_cruImg (s : State) (e : Nat) (x : Engine) : (s.setEng e x).cruImg = s.cruImg := rfl
@[simp] theorem setEng_images (s : State) (e : Nat) (x : Engine) : (s.setEng e x).images = s.images := rfl
@[simp] theorem setEng_nextHandle (s : State) (e : Nat) (x : Engine) : (s.setEng e x).nextHandle = s.nextHandle := rfl
@[simp] theorem setEng_runs (s : State) (e : Nat) (x : Engine) : (s.setEng e x).runs = s.runs := rfl
@[simp] theorem setEng_nextRun (s : State) (e : Nat) (x : Engine) : (s.setEng e x).nextRun = s.nextRun := rfl
@[simp] theorem setEng_rates (s : State) (e : Nat) (x : Engine) : (s.setEng e x).rates = s.rates := rfl
@[simp] theorem setEng_dues (s : State) (e : Nat) (x : Engine) : (s.setEng e x).dues = s.dues := rfl
@[simp] theorem setEng_results (s : State) (e : Nat) (x : Engine) : (s.setEng e x).results = s.results := rfl
@[simp] theorem setEng_segs (s : State) (e : Nat) (x : Engine) : (s.setEng e x).segs = s.segs := rfl
@[simp] theorem setEng_dram (s : State) (e : Nat) (x : Engine) : (s.setEng e x).dram = s.dram := rfl
@[simp] theorem setEng_hashKey (s : State) (e : Nat) (x : Engine) : (s.setEng e x).hashKey = s.hashKey := rfl
@[simp] theorem setEng_tones (s : State) (e : Nat) (x : Engine) : (s.setEng e x).tones = s.tones := rfl
@[simp] theorem setEng_hots (s : State) (e : Nat) (x : Engine) : (s.setEng e x).hots = s.hots := rfl
@[simp] theorem setEng_banks (s : State) (e : Nat) (x : Engine) : (s.setEng e x).banks = s.banks := rfl
@[simp] theorem setEng_rf (s : State) (e : Nat) (x : Engine) : (s.setEng e x).rf = s.rf := rfl
@[simp] theorem setEng_fb (s : State) (e : Nat) (x : Engine) : (s.setEng e x).fb = s.fb := rfl
@[simp] theorem setEng_groups (s : State) (e : Nat) (x : Engine) : (s.setEng e x).groups = s.groups := rfl
@[simp] theorem setEng_adc (s : State) (e : Nat) (x : Engine) : (s.setEng e x).adc = s.adc := rfl
@[simp] theorem setEng_crus (s : State) (e : Nat) (x : Engine) : (s.setEng e x).crus = s.crus := rfl
@[simp] theorem setEng_waiting (s : State) (e : Nat) (x : Engine) : (s.setEng e x).waiting = s.waiting := rfl
@[simp] theorem setEng_notes (s : State) (e : Nat) (x : Engine) : (s.setEng e x).notes = s.notes := rfl
@[simp] theorem setEng_timers (s : State) (e : Nat) (x : Engine) : (s.setEng e x).timers = s.timers := rfl
@[simp] theorem setEng_pulses (s : State) (e : Nat) (x : Engine) : (s.setEng e x).pulses = s.pulses := rfl
@[simp] theorem setEng_ports (s : State) (e : Nat) (x : Engine) : (s.setEng e x).ports = s.ports := rfl
@[simp] theorem setEng_losses (s : State) (e : Nat) (x : Engine) : (s.setEng e x).losses = s.losses := rfl
@[simp] theorem setEng_cast (s : State) (e : Nat) (x : Engine) : (s.setEng e x).cast = s.cast := rfl
@[simp] theorem setEng_sys (s : State) (e : Nat) (x : Engine) : (s.setEng e x).sys = s.sys := rfl
@[simp] theorem setEng_txq (s : State) (e : Nat) (x : Engine) : (s.setEng e x).txq = s.txq := rfl
@[simp] theorem setEng_cap (s : State) (e : Nat) (x : Engine) : (s.setEng e x).cap = s.cap := rfl
@[simp] theorem setEng_tiu (s : State) (e : Nat) (x : Engine) : (s.setEng e x).tiu = s.tiu := rfl
@[simp] theorem setEng_tiuLast (s : State) (e : Nat) (x : Engine) : (s.setEng e x).tiuLast = s.tiuLast := rfl
@[simp] theorem setEng_sessions (s : State) (e : Nat) (x : Engine) : (s.setEng e x).sessions = s.sessions := rfl
@[simp] theorem setEng_handshakes (s : State) (e : Nat) (x : Engine) : (s.setEng e x).handshakes = s.handshakes := rfl
@[simp] theorem setEng_nextSid (s : State) (e : Nat) (x : Engine) : (s.setEng e x).nextSid = s.nextSid := rfl
@[simp] theorem setEng_checks (s : State) (e : Nat) (x : Engine) : (s.setEng e x).checks = s.checks := rfl
@[simp] theorem setEng_kept (s : State) (e : Nat) (x : Engine) : (s.setEng e x).kept = s.kept := rfl
@[simp] theorem setEng_rawSid (s : State) (e : Nat) (x : Engine) : (s.setEng e x).rawSid = s.rawSid := rfl
@[simp] theorem setEng_lateArrivals (s : State) (e : Nat) (x : Engine) : (s.setEng e x).lateArrivals = s.lateArrivals := rfl
@[simp] theorem setEng_strayPackets (s : State) (e : Nat) (x : Engine) : (s.setEng e x).strayPackets = s.strayPackets := rfl
@[simp] theorem setEng_echoes (s : State) (e : Nat) (x : Engine) : (s.setEng e x).echoes = s.echoes := rfl
@[simp] theorem setEng_creds (s : State) (e : Nat) (x : Engine) : (s.setEng e x).creds = s.creds := rfl
@[simp] theorem setEng_arc (s : State) (e : Nat) (x : Engine) : (s.setEng e x).arc = s.arc := rfl
@[simp] theorem setEng_log (s : State) (e : Nat) (x : Engine) : (s.setEng e x).log = s.log := rfl
@[simp] theorem setEng_fw (s : State) (e : Nat) (x : Engine) : (s.setEng e x).fw = s.fw := rfl
@[simp] theorem setEng_reports (s : State) (e : Nat) (x : Engine) : (s.setEng e x).reports = s.reports := rfl
@[simp] theorem setEng_cmk (s : State) (e : Nat) (x : Engine) : (s.setEng e x).cmk = s.cmk := rfl
@[simp] theorem setEng_nv (s : State) (e : Nat) (x : Engine) : (s.setEng e x).nv = s.nv := rfl
@[simp] theorem setEng_fuses (s : State) (e : Nat) (x : Engine) : (s.setEng e x).fuses = s.fuses := rfl
@[simp] theorem setEng_fuseShadow (s : State) (e : Nat) (x : Engine) : (s.setEng e x).fuseShadow = s.fuseShadow := rfl
@[simp] theorem setEng_cryo (s : State) (e : Nat) (x : Engine) : (s.setEng e x).cryo = s.cryo := rfl
@[simp] theorem setEng_supply (s : State) (e : Nat) (x : Engine) : (s.setEng e x).supply = s.supply := rfl
@[simp] theorem setEng_spares (s : State) (e : Nat) (x : Engine) : (s.setEng e x).spares = s.spares := rfl
@[simp] theorem setEng_thermal (s : State) (e : Nat) (x : Engine) : (s.setEng e x).thermal = s.thermal := rfl
@[simp] theorem setEng_boot (s : State) (e : Nat) (x : Engine) : (s.setEng e x).boot = s.boot := rfl
@[simp] theorem setEng_fault (s : State) (e : Nat) (x : Engine) : (s.setEng e x).fault = s.fault := rfl

/-! ### setTone -/

@[simp] theorem setTone_pending (s : State) (k : Nat) (x : Tone) : (s.setTone k x).pending = s.pending := rfl
@[simp] theorem setTone_free (s : State) (k : Nat) (x : Tone) : (s.setTone k x).free = s.free := rfl
@[simp] theorem setTone_sent (s : State) (k : Nat) (x : Tone) : (s.setTone k x).sent = s.sent := rfl
@[simp] theorem setTone_clock (s : State) (k : Nat) (x : Tone) : (s.setTone k x).clock = s.clock := rfl
@[simp] theorem setTone_regs (s : State) (k : Nat) (x : Tone) : (s.setTone k x).regs = s.regs := rfl
@[simp] theorem setTone_engines (s : State) (k : Nat) (x : Tone) : (s.setTone k x).engines = s.engines := rfl
@[simp] theorem setTone_prog (s : State) (k : Nat) (x : Tone) : (s.setTone k x).prog = s.prog := rfl
@[simp] theorem setTone_clusterImg (s : State) (k : Nat) (x : Tone) : (s.setTone k x).clusterImg = s.clusterImg := rfl
@[simp] theorem setTone_cruImg (s : State) (k : Nat) (x : Tone) : (s.setTone k x).cruImg = s.cruImg := rfl
@[simp] theorem setTone_images (s : State) (k : Nat) (x : Tone) : (s.setTone k x).images = s.images := rfl
@[simp] theorem setTone_nextHandle (s : State) (k : Nat) (x : Tone) : (s.setTone k x).nextHandle = s.nextHandle := rfl
@[simp] theorem setTone_runs (s : State) (k : Nat) (x : Tone) : (s.setTone k x).runs = s.runs := rfl
@[simp] theorem setTone_nextRun (s : State) (k : Nat) (x : Tone) : (s.setTone k x).nextRun = s.nextRun := rfl
@[simp] theorem setTone_rates (s : State) (k : Nat) (x : Tone) : (s.setTone k x).rates = s.rates := rfl
@[simp] theorem setTone_dues (s : State) (k : Nat) (x : Tone) : (s.setTone k x).dues = s.dues := rfl
@[simp] theorem setTone_results (s : State) (k : Nat) (x : Tone) : (s.setTone k x).results = s.results := rfl
@[simp] theorem setTone_segs (s : State) (k : Nat) (x : Tone) : (s.setTone k x).segs = s.segs := rfl
@[simp] theorem setTone_dram (s : State) (k : Nat) (x : Tone) : (s.setTone k x).dram = s.dram := rfl
@[simp] theorem setTone_hashKey (s : State) (k : Nat) (x : Tone) : (s.setTone k x).hashKey = s.hashKey := rfl
@[simp] theorem setTone_hots (s : State) (k : Nat) (x : Tone) : (s.setTone k x).hots = s.hots := rfl
@[simp] theorem setTone_banks (s : State) (k : Nat) (x : Tone) : (s.setTone k x).banks = s.banks := rfl
@[simp] theorem setTone_rf (s : State) (k : Nat) (x : Tone) : (s.setTone k x).rf = s.rf := rfl
@[simp] theorem setTone_fb (s : State) (k : Nat) (x : Tone) : (s.setTone k x).fb = s.fb := rfl
@[simp] theorem setTone_groups (s : State) (k : Nat) (x : Tone) : (s.setTone k x).groups = s.groups := rfl
@[simp] theorem setTone_adc (s : State) (k : Nat) (x : Tone) : (s.setTone k x).adc = s.adc := rfl
@[simp] theorem setTone_crus (s : State) (k : Nat) (x : Tone) : (s.setTone k x).crus = s.crus := rfl
@[simp] theorem setTone_waiting (s : State) (k : Nat) (x : Tone) : (s.setTone k x).waiting = s.waiting := rfl
@[simp] theorem setTone_notes (s : State) (k : Nat) (x : Tone) : (s.setTone k x).notes = s.notes := rfl
@[simp] theorem setTone_timers (s : State) (k : Nat) (x : Tone) : (s.setTone k x).timers = s.timers := rfl
@[simp] theorem setTone_pulses (s : State) (k : Nat) (x : Tone) : (s.setTone k x).pulses = s.pulses := rfl
@[simp] theorem setTone_ports (s : State) (k : Nat) (x : Tone) : (s.setTone k x).ports = s.ports := rfl
@[simp] theorem setTone_losses (s : State) (k : Nat) (x : Tone) : (s.setTone k x).losses = s.losses := rfl
@[simp] theorem setTone_cast (s : State) (k : Nat) (x : Tone) : (s.setTone k x).cast = s.cast := rfl
@[simp] theorem setTone_sys (s : State) (k : Nat) (x : Tone) : (s.setTone k x).sys = s.sys := rfl
@[simp] theorem setTone_txq (s : State) (k : Nat) (x : Tone) : (s.setTone k x).txq = s.txq := rfl
@[simp] theorem setTone_cap (s : State) (k : Nat) (x : Tone) : (s.setTone k x).cap = s.cap := rfl
@[simp] theorem setTone_tiu (s : State) (k : Nat) (x : Tone) : (s.setTone k x).tiu = s.tiu := rfl
@[simp] theorem setTone_tiuLast (s : State) (k : Nat) (x : Tone) : (s.setTone k x).tiuLast = s.tiuLast := rfl
@[simp] theorem setTone_sessions (s : State) (k : Nat) (x : Tone) : (s.setTone k x).sessions = s.sessions := rfl
@[simp] theorem setTone_handshakes (s : State) (k : Nat) (x : Tone) : (s.setTone k x).handshakes = s.handshakes := rfl
@[simp] theorem setTone_nextSid (s : State) (k : Nat) (x : Tone) : (s.setTone k x).nextSid = s.nextSid := rfl
@[simp] theorem setTone_checks (s : State) (k : Nat) (x : Tone) : (s.setTone k x).checks = s.checks := rfl
@[simp] theorem setTone_kept (s : State) (k : Nat) (x : Tone) : (s.setTone k x).kept = s.kept := rfl
@[simp] theorem setTone_rawSid (s : State) (k : Nat) (x : Tone) : (s.setTone k x).rawSid = s.rawSid := rfl
@[simp] theorem setTone_lateArrivals (s : State) (k : Nat) (x : Tone) : (s.setTone k x).lateArrivals = s.lateArrivals := rfl
@[simp] theorem setTone_strayPackets (s : State) (k : Nat) (x : Tone) : (s.setTone k x).strayPackets = s.strayPackets := rfl
@[simp] theorem setTone_echoes (s : State) (k : Nat) (x : Tone) : (s.setTone k x).echoes = s.echoes := rfl
@[simp] theorem setTone_creds (s : State) (k : Nat) (x : Tone) : (s.setTone k x).creds = s.creds := rfl
@[simp] theorem setTone_arc (s : State) (k : Nat) (x : Tone) : (s.setTone k x).arc = s.arc := rfl
@[simp] theorem setTone_log (s : State) (k : Nat) (x : Tone) : (s.setTone k x).log = s.log := rfl
@[simp] theorem setTone_fw (s : State) (k : Nat) (x : Tone) : (s.setTone k x).fw = s.fw := rfl
@[simp] theorem setTone_reports (s : State) (k : Nat) (x : Tone) : (s.setTone k x).reports = s.reports := rfl
@[simp] theorem setTone_cmk (s : State) (k : Nat) (x : Tone) : (s.setTone k x).cmk = s.cmk := rfl
@[simp] theorem setTone_nv (s : State) (k : Nat) (x : Tone) : (s.setTone k x).nv = s.nv := rfl
@[simp] theorem setTone_fuses (s : State) (k : Nat) (x : Tone) : (s.setTone k x).fuses = s.fuses := rfl
@[simp] theorem setTone_fuseShadow (s : State) (k : Nat) (x : Tone) : (s.setTone k x).fuseShadow = s.fuseShadow := rfl
@[simp] theorem setTone_cryo (s : State) (k : Nat) (x : Tone) : (s.setTone k x).cryo = s.cryo := rfl
@[simp] theorem setTone_supply (s : State) (k : Nat) (x : Tone) : (s.setTone k x).supply = s.supply := rfl
@[simp] theorem setTone_spares (s : State) (k : Nat) (x : Tone) : (s.setTone k x).spares = s.spares := rfl
@[simp] theorem setTone_thermal (s : State) (k : Nat) (x : Tone) : (s.setTone k x).thermal = s.thermal := rfl
@[simp] theorem setTone_boot (s : State) (k : Nat) (x : Tone) : (s.setTone k x).boot = s.boot := rfl
@[simp] theorem setTone_fault (s : State) (k : Nat) (x : Tone) : (s.setTone k x).fault = s.fault := rfl

/-! ### setHot -/

@[simp] theorem setHot_pending (s : State) (k : Nat) (x : Hot) : (s.setHot k x).pending = s.pending := rfl
@[simp] theorem setHot_free (s : State) (k : Nat) (x : Hot) : (s.setHot k x).free = s.free := rfl
@[simp] theorem setHot_sent (s : State) (k : Nat) (x : Hot) : (s.setHot k x).sent = s.sent := rfl
@[simp] theorem setHot_clock (s : State) (k : Nat) (x : Hot) : (s.setHot k x).clock = s.clock := rfl
@[simp] theorem setHot_regs (s : State) (k : Nat) (x : Hot) : (s.setHot k x).regs = s.regs := rfl
@[simp] theorem setHot_engines (s : State) (k : Nat) (x : Hot) : (s.setHot k x).engines = s.engines := rfl
@[simp] theorem setHot_prog (s : State) (k : Nat) (x : Hot) : (s.setHot k x).prog = s.prog := rfl
@[simp] theorem setHot_clusterImg (s : State) (k : Nat) (x : Hot) : (s.setHot k x).clusterImg = s.clusterImg := rfl
@[simp] theorem setHot_cruImg (s : State) (k : Nat) (x : Hot) : (s.setHot k x).cruImg = s.cruImg := rfl
@[simp] theorem setHot_images (s : State) (k : Nat) (x : Hot) : (s.setHot k x).images = s.images := rfl
@[simp] theorem setHot_nextHandle (s : State) (k : Nat) (x : Hot) : (s.setHot k x).nextHandle = s.nextHandle := rfl
@[simp] theorem setHot_runs (s : State) (k : Nat) (x : Hot) : (s.setHot k x).runs = s.runs := rfl
@[simp] theorem setHot_nextRun (s : State) (k : Nat) (x : Hot) : (s.setHot k x).nextRun = s.nextRun := rfl
@[simp] theorem setHot_rates (s : State) (k : Nat) (x : Hot) : (s.setHot k x).rates = s.rates := rfl
@[simp] theorem setHot_dues (s : State) (k : Nat) (x : Hot) : (s.setHot k x).dues = s.dues := rfl
@[simp] theorem setHot_results (s : State) (k : Nat) (x : Hot) : (s.setHot k x).results = s.results := rfl
@[simp] theorem setHot_segs (s : State) (k : Nat) (x : Hot) : (s.setHot k x).segs = s.segs := rfl
@[simp] theorem setHot_dram (s : State) (k : Nat) (x : Hot) : (s.setHot k x).dram = s.dram := rfl
@[simp] theorem setHot_hashKey (s : State) (k : Nat) (x : Hot) : (s.setHot k x).hashKey = s.hashKey := rfl
@[simp] theorem setHot_tones (s : State) (k : Nat) (x : Hot) : (s.setHot k x).tones = s.tones := rfl
@[simp] theorem setHot_banks (s : State) (k : Nat) (x : Hot) : (s.setHot k x).banks = s.banks := rfl
@[simp] theorem setHot_rf (s : State) (k : Nat) (x : Hot) : (s.setHot k x).rf = s.rf := rfl
@[simp] theorem setHot_fb (s : State) (k : Nat) (x : Hot) : (s.setHot k x).fb = s.fb := rfl
@[simp] theorem setHot_groups (s : State) (k : Nat) (x : Hot) : (s.setHot k x).groups = s.groups := rfl
@[simp] theorem setHot_adc (s : State) (k : Nat) (x : Hot) : (s.setHot k x).adc = s.adc := rfl
@[simp] theorem setHot_crus (s : State) (k : Nat) (x : Hot) : (s.setHot k x).crus = s.crus := rfl
@[simp] theorem setHot_waiting (s : State) (k : Nat) (x : Hot) : (s.setHot k x).waiting = s.waiting := rfl
@[simp] theorem setHot_notes (s : State) (k : Nat) (x : Hot) : (s.setHot k x).notes = s.notes := rfl
@[simp] theorem setHot_timers (s : State) (k : Nat) (x : Hot) : (s.setHot k x).timers = s.timers := rfl
@[simp] theorem setHot_pulses (s : State) (k : Nat) (x : Hot) : (s.setHot k x).pulses = s.pulses := rfl
@[simp] theorem setHot_ports (s : State) (k : Nat) (x : Hot) : (s.setHot k x).ports = s.ports := rfl
@[simp] theorem setHot_losses (s : State) (k : Nat) (x : Hot) : (s.setHot k x).losses = s.losses := rfl
@[simp] theorem setHot_cast (s : State) (k : Nat) (x : Hot) : (s.setHot k x).cast = s.cast := rfl
@[simp] theorem setHot_sys (s : State) (k : Nat) (x : Hot) : (s.setHot k x).sys = s.sys := rfl
@[simp] theorem setHot_txq (s : State) (k : Nat) (x : Hot) : (s.setHot k x).txq = s.txq := rfl
@[simp] theorem setHot_cap (s : State) (k : Nat) (x : Hot) : (s.setHot k x).cap = s.cap := rfl
@[simp] theorem setHot_tiu (s : State) (k : Nat) (x : Hot) : (s.setHot k x).tiu = s.tiu := rfl
@[simp] theorem setHot_tiuLast (s : State) (k : Nat) (x : Hot) : (s.setHot k x).tiuLast = s.tiuLast := rfl
@[simp] theorem setHot_sessions (s : State) (k : Nat) (x : Hot) : (s.setHot k x).sessions = s.sessions := rfl
@[simp] theorem setHot_handshakes (s : State) (k : Nat) (x : Hot) : (s.setHot k x).handshakes = s.handshakes := rfl
@[simp] theorem setHot_nextSid (s : State) (k : Nat) (x : Hot) : (s.setHot k x).nextSid = s.nextSid := rfl
@[simp] theorem setHot_checks (s : State) (k : Nat) (x : Hot) : (s.setHot k x).checks = s.checks := rfl
@[simp] theorem setHot_kept (s : State) (k : Nat) (x : Hot) : (s.setHot k x).kept = s.kept := rfl
@[simp] theorem setHot_rawSid (s : State) (k : Nat) (x : Hot) : (s.setHot k x).rawSid = s.rawSid := rfl
@[simp] theorem setHot_lateArrivals (s : State) (k : Nat) (x : Hot) : (s.setHot k x).lateArrivals = s.lateArrivals := rfl
@[simp] theorem setHot_strayPackets (s : State) (k : Nat) (x : Hot) : (s.setHot k x).strayPackets = s.strayPackets := rfl
@[simp] theorem setHot_echoes (s : State) (k : Nat) (x : Hot) : (s.setHot k x).echoes = s.echoes := rfl
@[simp] theorem setHot_creds (s : State) (k : Nat) (x : Hot) : (s.setHot k x).creds = s.creds := rfl
@[simp] theorem setHot_arc (s : State) (k : Nat) (x : Hot) : (s.setHot k x).arc = s.arc := rfl
@[simp] theorem setHot_log (s : State) (k : Nat) (x : Hot) : (s.setHot k x).log = s.log := rfl
@[simp] theorem setHot_fw (s : State) (k : Nat) (x : Hot) : (s.setHot k x).fw = s.fw := rfl
@[simp] theorem setHot_reports (s : State) (k : Nat) (x : Hot) : (s.setHot k x).reports = s.reports := rfl
@[simp] theorem setHot_cmk (s : State) (k : Nat) (x : Hot) : (s.setHot k x).cmk = s.cmk := rfl
@[simp] theorem setHot_nv (s : State) (k : Nat) (x : Hot) : (s.setHot k x).nv = s.nv := rfl
@[simp] theorem setHot_fuses (s : State) (k : Nat) (x : Hot) : (s.setHot k x).fuses = s.fuses := rfl
@[simp] theorem setHot_fuseShadow (s : State) (k : Nat) (x : Hot) : (s.setHot k x).fuseShadow = s.fuseShadow := rfl
@[simp] theorem setHot_cryo (s : State) (k : Nat) (x : Hot) : (s.setHot k x).cryo = s.cryo := rfl
@[simp] theorem setHot_supply (s : State) (k : Nat) (x : Hot) : (s.setHot k x).supply = s.supply := rfl
@[simp] theorem setHot_spares (s : State) (k : Nat) (x : Hot) : (s.setHot k x).spares = s.spares := rfl
@[simp] theorem setHot_thermal (s : State) (k : Nat) (x : Hot) : (s.setHot k x).thermal = s.thermal := rfl
@[simp] theorem setHot_boot (s : State) (k : Nat) (x : Hot) : (s.setHot k x).boot = s.boot := rfl
@[simp] theorem setHot_fault (s : State) (k : Nat) (x : Hot) : (s.setHot k x).fault = s.fault := rfl

/-! ### setSeg -/

@[simp] theorem setSeg_pending (s : State) (k : Nat) (x : Seg) : (s.setSeg k x).pending = s.pending := rfl
@[simp] theorem setSeg_free (s : State) (k : Nat) (x : Seg) : (s.setSeg k x).free = s.free := rfl
@[simp] theorem setSeg_sent (s : State) (k : Nat) (x : Seg) : (s.setSeg k x).sent = s.sent := rfl
@[simp] theorem setSeg_clock (s : State) (k : Nat) (x : Seg) : (s.setSeg k x).clock = s.clock := rfl
@[simp] theorem setSeg_regs (s : State) (k : Nat) (x : Seg) : (s.setSeg k x).regs = s.regs := rfl
@[simp] theorem setSeg_engines (s : State) (k : Nat) (x : Seg) : (s.setSeg k x).engines = s.engines := rfl
@[simp] theorem setSeg_prog (s : State) (k : Nat) (x : Seg) : (s.setSeg k x).prog = s.prog := rfl
@[simp] theorem setSeg_clusterImg (s : State) (k : Nat) (x : Seg) : (s.setSeg k x).clusterImg = s.clusterImg := rfl
@[simp] theorem setSeg_cruImg (s : State) (k : Nat) (x : Seg) : (s.setSeg k x).cruImg = s.cruImg := rfl
@[simp] theorem setSeg_images (s : State) (k : Nat) (x : Seg) : (s.setSeg k x).images = s.images := rfl
@[simp] theorem setSeg_nextHandle (s : State) (k : Nat) (x : Seg) : (s.setSeg k x).nextHandle = s.nextHandle := rfl
@[simp] theorem setSeg_runs (s : State) (k : Nat) (x : Seg) : (s.setSeg k x).runs = s.runs := rfl
@[simp] theorem setSeg_nextRun (s : State) (k : Nat) (x : Seg) : (s.setSeg k x).nextRun = s.nextRun := rfl
@[simp] theorem setSeg_rates (s : State) (k : Nat) (x : Seg) : (s.setSeg k x).rates = s.rates := rfl
@[simp] theorem setSeg_dues (s : State) (k : Nat) (x : Seg) : (s.setSeg k x).dues = s.dues := rfl
@[simp] theorem setSeg_results (s : State) (k : Nat) (x : Seg) : (s.setSeg k x).results = s.results := rfl
@[simp] theorem setSeg_dram (s : State) (k : Nat) (x : Seg) : (s.setSeg k x).dram = s.dram := rfl
@[simp] theorem setSeg_hashKey (s : State) (k : Nat) (x : Seg) : (s.setSeg k x).hashKey = s.hashKey := rfl
@[simp] theorem setSeg_tones (s : State) (k : Nat) (x : Seg) : (s.setSeg k x).tones = s.tones := rfl
@[simp] theorem setSeg_hots (s : State) (k : Nat) (x : Seg) : (s.setSeg k x).hots = s.hots := rfl
@[simp] theorem setSeg_banks (s : State) (k : Nat) (x : Seg) : (s.setSeg k x).banks = s.banks := rfl
@[simp] theorem setSeg_rf (s : State) (k : Nat) (x : Seg) : (s.setSeg k x).rf = s.rf := rfl
@[simp] theorem setSeg_fb (s : State) (k : Nat) (x : Seg) : (s.setSeg k x).fb = s.fb := rfl
@[simp] theorem setSeg_groups (s : State) (k : Nat) (x : Seg) : (s.setSeg k x).groups = s.groups := rfl
@[simp] theorem setSeg_adc (s : State) (k : Nat) (x : Seg) : (s.setSeg k x).adc = s.adc := rfl
@[simp] theorem setSeg_crus (s : State) (k : Nat) (x : Seg) : (s.setSeg k x).crus = s.crus := rfl
@[simp] theorem setSeg_waiting (s : State) (k : Nat) (x : Seg) : (s.setSeg k x).waiting = s.waiting := rfl
@[simp] theorem setSeg_notes (s : State) (k : Nat) (x : Seg) : (s.setSeg k x).notes = s.notes := rfl
@[simp] theorem setSeg_timers (s : State) (k : Nat) (x : Seg) : (s.setSeg k x).timers = s.timers := rfl
@[simp] theorem setSeg_pulses (s : State) (k : Nat) (x : Seg) : (s.setSeg k x).pulses = s.pulses := rfl
@[simp] theorem setSeg_ports (s : State) (k : Nat) (x : Seg) : (s.setSeg k x).ports = s.ports := rfl
@[simp] theorem setSeg_losses (s : State) (k : Nat) (x : Seg) : (s.setSeg k x).losses = s.losses := rfl
@[simp] theorem setSeg_cast (s : State) (k : Nat) (x : Seg) : (s.setSeg k x).cast = s.cast := rfl
@[simp] theorem setSeg_sys (s : State) (k : Nat) (x : Seg) : (s.setSeg k x).sys = s.sys := rfl
@[simp] theorem setSeg_txq (s : State) (k : Nat) (x : Seg) : (s.setSeg k x).txq = s.txq := rfl
@[simp] theorem setSeg_cap (s : State) (k : Nat) (x : Seg) : (s.setSeg k x).cap = s.cap := rfl
@[simp] theorem setSeg_tiu (s : State) (k : Nat) (x : Seg) : (s.setSeg k x).tiu = s.tiu := rfl
@[simp] theorem setSeg_tiuLast (s : State) (k : Nat) (x : Seg) : (s.setSeg k x).tiuLast = s.tiuLast := rfl
@[simp] theorem setSeg_sessions (s : State) (k : Nat) (x : Seg) : (s.setSeg k x).sessions = s.sessions := rfl
@[simp] theorem setSeg_handshakes (s : State) (k : Nat) (x : Seg) : (s.setSeg k x).handshakes = s.handshakes := rfl
@[simp] theorem setSeg_nextSid (s : State) (k : Nat) (x : Seg) : (s.setSeg k x).nextSid = s.nextSid := rfl
@[simp] theorem setSeg_checks (s : State) (k : Nat) (x : Seg) : (s.setSeg k x).checks = s.checks := rfl
@[simp] theorem setSeg_kept (s : State) (k : Nat) (x : Seg) : (s.setSeg k x).kept = s.kept := rfl
@[simp] theorem setSeg_rawSid (s : State) (k : Nat) (x : Seg) : (s.setSeg k x).rawSid = s.rawSid := rfl
@[simp] theorem setSeg_lateArrivals (s : State) (k : Nat) (x : Seg) : (s.setSeg k x).lateArrivals = s.lateArrivals := rfl
@[simp] theorem setSeg_strayPackets (s : State) (k : Nat) (x : Seg) : (s.setSeg k x).strayPackets = s.strayPackets := rfl
@[simp] theorem setSeg_echoes (s : State) (k : Nat) (x : Seg) : (s.setSeg k x).echoes = s.echoes := rfl
@[simp] theorem setSeg_creds (s : State) (k : Nat) (x : Seg) : (s.setSeg k x).creds = s.creds := rfl
@[simp] theorem setSeg_arc (s : State) (k : Nat) (x : Seg) : (s.setSeg k x).arc = s.arc := rfl
@[simp] theorem setSeg_log (s : State) (k : Nat) (x : Seg) : (s.setSeg k x).log = s.log := rfl
@[simp] theorem setSeg_fw (s : State) (k : Nat) (x : Seg) : (s.setSeg k x).fw = s.fw := rfl
@[simp] theorem setSeg_reports (s : State) (k : Nat) (x : Seg) : (s.setSeg k x).reports = s.reports := rfl
@[simp] theorem setSeg_cmk (s : State) (k : Nat) (x : Seg) : (s.setSeg k x).cmk = s.cmk := rfl
@[simp] theorem setSeg_nv (s : State) (k : Nat) (x : Seg) : (s.setSeg k x).nv = s.nv := rfl
@[simp] theorem setSeg_fuses (s : State) (k : Nat) (x : Seg) : (s.setSeg k x).fuses = s.fuses := rfl
@[simp] theorem setSeg_fuseShadow (s : State) (k : Nat) (x : Seg) : (s.setSeg k x).fuseShadow = s.fuseShadow := rfl
@[simp] theorem setSeg_cryo (s : State) (k : Nat) (x : Seg) : (s.setSeg k x).cryo = s.cryo := rfl
@[simp] theorem setSeg_supply (s : State) (k : Nat) (x : Seg) : (s.setSeg k x).supply = s.supply := rfl
@[simp] theorem setSeg_spares (s : State) (k : Nat) (x : Seg) : (s.setSeg k x).spares = s.spares := rfl
@[simp] theorem setSeg_thermal (s : State) (k : Nat) (x : Seg) : (s.setSeg k x).thermal = s.thermal := rfl
@[simp] theorem setSeg_boot (s : State) (k : Nat) (x : Seg) : (s.setSeg k x).boot = s.boot := rfl
@[simp] theorem setSeg_fault (s : State) (k : Nat) (x : Seg) : (s.setSeg k x).fault = s.fault := rfl

/-! ### setBank -/

@[simp] theorem setBank_pending (s : State) (k : Nat) (x : Bank) : (s.setBank k x).pending = s.pending := rfl
@[simp] theorem setBank_free (s : State) (k : Nat) (x : Bank) : (s.setBank k x).free = s.free := rfl
@[simp] theorem setBank_sent (s : State) (k : Nat) (x : Bank) : (s.setBank k x).sent = s.sent := rfl
@[simp] theorem setBank_clock (s : State) (k : Nat) (x : Bank) : (s.setBank k x).clock = s.clock := rfl
@[simp] theorem setBank_regs (s : State) (k : Nat) (x : Bank) : (s.setBank k x).regs = s.regs := rfl
@[simp] theorem setBank_engines (s : State) (k : Nat) (x : Bank) : (s.setBank k x).engines = s.engines := rfl
@[simp] theorem setBank_prog (s : State) (k : Nat) (x : Bank) : (s.setBank k x).prog = s.prog := rfl
@[simp] theorem setBank_clusterImg (s : State) (k : Nat) (x : Bank) : (s.setBank k x).clusterImg = s.clusterImg := rfl
@[simp] theorem setBank_cruImg (s : State) (k : Nat) (x : Bank) : (s.setBank k x).cruImg = s.cruImg := rfl
@[simp] theorem setBank_images (s : State) (k : Nat) (x : Bank) : (s.setBank k x).images = s.images := rfl
@[simp] theorem setBank_nextHandle (s : State) (k : Nat) (x : Bank) : (s.setBank k x).nextHandle = s.nextHandle := rfl
@[simp] theorem setBank_runs (s : State) (k : Nat) (x : Bank) : (s.setBank k x).runs = s.runs := rfl
@[simp] theorem setBank_nextRun (s : State) (k : Nat) (x : Bank) : (s.setBank k x).nextRun = s.nextRun := rfl
@[simp] theorem setBank_rates (s : State) (k : Nat) (x : Bank) : (s.setBank k x).rates = s.rates := rfl
@[simp] theorem setBank_dues (s : State) (k : Nat) (x : Bank) : (s.setBank k x).dues = s.dues := rfl
@[simp] theorem setBank_results (s : State) (k : Nat) (x : Bank) : (s.setBank k x).results = s.results := rfl
@[simp] theorem setBank_segs (s : State) (k : Nat) (x : Bank) : (s.setBank k x).segs = s.segs := rfl
@[simp] theorem setBank_dram (s : State) (k : Nat) (x : Bank) : (s.setBank k x).dram = s.dram := rfl
@[simp] theorem setBank_hashKey (s : State) (k : Nat) (x : Bank) : (s.setBank k x).hashKey = s.hashKey := rfl
@[simp] theorem setBank_tones (s : State) (k : Nat) (x : Bank) : (s.setBank k x).tones = s.tones := rfl
@[simp] theorem setBank_hots (s : State) (k : Nat) (x : Bank) : (s.setBank k x).hots = s.hots := rfl
@[simp] theorem setBank_rf (s : State) (k : Nat) (x : Bank) : (s.setBank k x).rf = s.rf := rfl
@[simp] theorem setBank_fb (s : State) (k : Nat) (x : Bank) : (s.setBank k x).fb = s.fb := rfl
@[simp] theorem setBank_groups (s : State) (k : Nat) (x : Bank) : (s.setBank k x).groups = s.groups := rfl
@[simp] theorem setBank_adc (s : State) (k : Nat) (x : Bank) : (s.setBank k x).adc = s.adc := rfl
@[simp] theorem setBank_crus (s : State) (k : Nat) (x : Bank) : (s.setBank k x).crus = s.crus := rfl
@[simp] theorem setBank_waiting (s : State) (k : Nat) (x : Bank) : (s.setBank k x).waiting = s.waiting := rfl
@[simp] theorem setBank_notes (s : State) (k : Nat) (x : Bank) : (s.setBank k x).notes = s.notes := rfl
@[simp] theorem setBank_timers (s : State) (k : Nat) (x : Bank) : (s.setBank k x).timers = s.timers := rfl
@[simp] theorem setBank_pulses (s : State) (k : Nat) (x : Bank) : (s.setBank k x).pulses = s.pulses := rfl
@[simp] theorem setBank_ports (s : State) (k : Nat) (x : Bank) : (s.setBank k x).ports = s.ports := rfl
@[simp] theorem setBank_losses (s : State) (k : Nat) (x : Bank) : (s.setBank k x).losses = s.losses := rfl
@[simp] theorem setBank_cast (s : State) (k : Nat) (x : Bank) : (s.setBank k x).cast = s.cast := rfl
@[simp] theorem setBank_sys (s : State) (k : Nat) (x : Bank) : (s.setBank k x).sys = s.sys := rfl
@[simp] theorem setBank_txq (s : State) (k : Nat) (x : Bank) : (s.setBank k x).txq = s.txq := rfl
@[simp] theorem setBank_cap (s : State) (k : Nat) (x : Bank) : (s.setBank k x).cap = s.cap := rfl
@[simp] theorem setBank_tiu (s : State) (k : Nat) (x : Bank) : (s.setBank k x).tiu = s.tiu := rfl
@[simp] theorem setBank_tiuLast (s : State) (k : Nat) (x : Bank) : (s.setBank k x).tiuLast = s.tiuLast := rfl
@[simp] theorem setBank_sessions (s : State) (k : Nat) (x : Bank) : (s.setBank k x).sessions = s.sessions := rfl
@[simp] theorem setBank_handshakes (s : State) (k : Nat) (x : Bank) : (s.setBank k x).handshakes = s.handshakes := rfl
@[simp] theorem setBank_nextSid (s : State) (k : Nat) (x : Bank) : (s.setBank k x).nextSid = s.nextSid := rfl
@[simp] theorem setBank_checks (s : State) (k : Nat) (x : Bank) : (s.setBank k x).checks = s.checks := rfl
@[simp] theorem setBank_kept (s : State) (k : Nat) (x : Bank) : (s.setBank k x).kept = s.kept := rfl
@[simp] theorem setBank_rawSid (s : State) (k : Nat) (x : Bank) : (s.setBank k x).rawSid = s.rawSid := rfl
@[simp] theorem setBank_lateArrivals (s : State) (k : Nat) (x : Bank) : (s.setBank k x).lateArrivals = s.lateArrivals := rfl
@[simp] theorem setBank_strayPackets (s : State) (k : Nat) (x : Bank) : (s.setBank k x).strayPackets = s.strayPackets := rfl
@[simp] theorem setBank_echoes (s : State) (k : Nat) (x : Bank) : (s.setBank k x).echoes = s.echoes := rfl
@[simp] theorem setBank_creds (s : State) (k : Nat) (x : Bank) : (s.setBank k x).creds = s.creds := rfl
@[simp] theorem setBank_arc (s : State) (k : Nat) (x : Bank) : (s.setBank k x).arc = s.arc := rfl
@[simp] theorem setBank_log (s : State) (k : Nat) (x : Bank) : (s.setBank k x).log = s.log := rfl
@[simp] theorem setBank_fw (s : State) (k : Nat) (x : Bank) : (s.setBank k x).fw = s.fw := rfl
@[simp] theorem setBank_reports (s : State) (k : Nat) (x : Bank) : (s.setBank k x).reports = s.reports := rfl
@[simp] theorem setBank_cmk (s : State) (k : Nat) (x : Bank) : (s.setBank k x).cmk = s.cmk := rfl
@[simp] theorem setBank_nv (s : State) (k : Nat) (x : Bank) : (s.setBank k x).nv = s.nv := rfl
@[simp] theorem setBank_fuses (s : State) (k : Nat) (x : Bank) : (s.setBank k x).fuses = s.fuses := rfl
@[simp] theorem setBank_fuseShadow (s : State) (k : Nat) (x : Bank) : (s.setBank k x).fuseShadow = s.fuseShadow := rfl
@[simp] theorem setBank_cryo (s : State) (k : Nat) (x : Bank) : (s.setBank k x).cryo = s.cryo := rfl
@[simp] theorem setBank_supply (s : State) (k : Nat) (x : Bank) : (s.setBank k x).supply = s.supply := rfl
@[simp] theorem setBank_spares (s : State) (k : Nat) (x : Bank) : (s.setBank k x).spares = s.spares := rfl
@[simp] theorem setBank_thermal (s : State) (k : Nat) (x : Bank) : (s.setBank k x).thermal = s.thermal := rfl
@[simp] theorem setBank_boot (s : State) (k : Nat) (x : Bank) : (s.setBank k x).boot = s.boot := rfl
@[simp] theorem setBank_fault (s : State) (k : Nat) (x : Bank) : (s.setBank k x).fault = s.fault := rfl

/-! ### setRfch -/

@[simp] theorem setRfch_pending (s : State) (k : Nat) (x : RfChan) : (s.setRfch k x).pending = s.pending := rfl
@[simp] theorem setRfch_free (s : State) (k : Nat) (x : RfChan) : (s.setRfch k x).free = s.free := rfl
@[simp] theorem setRfch_sent (s : State) (k : Nat) (x : RfChan) : (s.setRfch k x).sent = s.sent := rfl
@[simp] theorem setRfch_clock (s : State) (k : Nat) (x : RfChan) : (s.setRfch k x).clock = s.clock := rfl
@[simp] theorem setRfch_regs (s : State) (k : Nat) (x : RfChan) : (s.setRfch k x).regs = s.regs := rfl
@[simp] theorem setRfch_engines (s : State) (k : Nat) (x : RfChan) : (s.setRfch k x).engines = s.engines := rfl
@[simp] theorem setRfch_prog (s : State) (k : Nat) (x : RfChan) : (s.setRfch k x).prog = s.prog := rfl
@[simp] theorem setRfch_clusterImg (s : State) (k : Nat) (x : RfChan) : (s.setRfch k x).clusterImg = s.clusterImg := rfl
@[simp] theorem setRfch_cruImg (s : State) (k : Nat) (x : RfChan) : (s.setRfch k x).cruImg = s.cruImg := rfl
@[simp] theorem setRfch_images (s : State) (k : Nat) (x : RfChan) : (s.setRfch k x).images = s.images := rfl
@[simp] theorem setRfch_nextHandle (s : State) (k : Nat) (x : RfChan) : (s.setRfch k x).nextHandle = s.nextHandle := rfl
@[simp] theorem setRfch_runs (s : State) (k : Nat) (x : RfChan) : (s.setRfch k x).runs = s.runs := rfl
@[simp] theorem setRfch_nextRun (s : State) (k : Nat) (x : RfChan) : (s.setRfch k x).nextRun = s.nextRun := rfl
@[simp] theorem setRfch_rates (s : State) (k : Nat) (x : RfChan) : (s.setRfch k x).rates = s.rates := rfl
@[simp] theorem setRfch_dues (s : State) (k : Nat) (x : RfChan) : (s.setRfch k x).dues = s.dues := rfl
@[simp] theorem setRfch_results (s : State) (k : Nat) (x : RfChan) : (s.setRfch k x).results = s.results := rfl
@[simp] theorem setRfch_segs (s : State) (k : Nat) (x : RfChan) : (s.setRfch k x).segs = s.segs := rfl
@[simp] theorem setRfch_dram (s : State) (k : Nat) (x : RfChan) : (s.setRfch k x).dram = s.dram := rfl
@[simp] theorem setRfch_hashKey (s : State) (k : Nat) (x : RfChan) : (s.setRfch k x).hashKey = s.hashKey := rfl
@[simp] theorem setRfch_tones (s : State) (k : Nat) (x : RfChan) : (s.setRfch k x).tones = s.tones := rfl
@[simp] theorem setRfch_hots (s : State) (k : Nat) (x : RfChan) : (s.setRfch k x).hots = s.hots := rfl
@[simp] theorem setRfch_banks (s : State) (k : Nat) (x : RfChan) : (s.setRfch k x).banks = s.banks := rfl
@[simp] theorem setRfch_fb (s : State) (k : Nat) (x : RfChan) : (s.setRfch k x).fb = s.fb := rfl
@[simp] theorem setRfch_groups (s : State) (k : Nat) (x : RfChan) : (s.setRfch k x).groups = s.groups := rfl
@[simp] theorem setRfch_adc (s : State) (k : Nat) (x : RfChan) : (s.setRfch k x).adc = s.adc := rfl
@[simp] theorem setRfch_crus (s : State) (k : Nat) (x : RfChan) : (s.setRfch k x).crus = s.crus := rfl
@[simp] theorem setRfch_waiting (s : State) (k : Nat) (x : RfChan) : (s.setRfch k x).waiting = s.waiting := rfl
@[simp] theorem setRfch_notes (s : State) (k : Nat) (x : RfChan) : (s.setRfch k x).notes = s.notes := rfl
@[simp] theorem setRfch_timers (s : State) (k : Nat) (x : RfChan) : (s.setRfch k x).timers = s.timers := rfl
@[simp] theorem setRfch_pulses (s : State) (k : Nat) (x : RfChan) : (s.setRfch k x).pulses = s.pulses := rfl
@[simp] theorem setRfch_ports (s : State) (k : Nat) (x : RfChan) : (s.setRfch k x).ports = s.ports := rfl
@[simp] theorem setRfch_losses (s : State) (k : Nat) (x : RfChan) : (s.setRfch k x).losses = s.losses := rfl
@[simp] theorem setRfch_cast (s : State) (k : Nat) (x : RfChan) : (s.setRfch k x).cast = s.cast := rfl
@[simp] theorem setRfch_sys (s : State) (k : Nat) (x : RfChan) : (s.setRfch k x).sys = s.sys := rfl
@[simp] theorem setRfch_txq (s : State) (k : Nat) (x : RfChan) : (s.setRfch k x).txq = s.txq := rfl
@[simp] theorem setRfch_cap (s : State) (k : Nat) (x : RfChan) : (s.setRfch k x).cap = s.cap := rfl
@[simp] theorem setRfch_tiu (s : State) (k : Nat) (x : RfChan) : (s.setRfch k x).tiu = s.tiu := rfl
@[simp] theorem setRfch_tiuLast (s : State) (k : Nat) (x : RfChan) : (s.setRfch k x).tiuLast = s.tiuLast := rfl
@[simp] theorem setRfch_sessions (s : State) (k : Nat) (x : RfChan) : (s.setRfch k x).sessions = s.sessions := rfl
@[simp] theorem setRfch_handshakes (s : State) (k : Nat) (x : RfChan) : (s.setRfch k x).handshakes = s.handshakes := rfl
@[simp] theorem setRfch_nextSid (s : State) (k : Nat) (x : RfChan) : (s.setRfch k x).nextSid = s.nextSid := rfl
@[simp] theorem setRfch_checks (s : State) (k : Nat) (x : RfChan) : (s.setRfch k x).checks = s.checks := rfl
@[simp] theorem setRfch_kept (s : State) (k : Nat) (x : RfChan) : (s.setRfch k x).kept = s.kept := rfl
@[simp] theorem setRfch_rawSid (s : State) (k : Nat) (x : RfChan) : (s.setRfch k x).rawSid = s.rawSid := rfl
@[simp] theorem setRfch_lateArrivals (s : State) (k : Nat) (x : RfChan) : (s.setRfch k x).lateArrivals = s.lateArrivals := rfl
@[simp] theorem setRfch_strayPackets (s : State) (k : Nat) (x : RfChan) : (s.setRfch k x).strayPackets = s.strayPackets := rfl
@[simp] theorem setRfch_echoes (s : State) (k : Nat) (x : RfChan) : (s.setRfch k x).echoes = s.echoes := rfl
@[simp] theorem setRfch_creds (s : State) (k : Nat) (x : RfChan) : (s.setRfch k x).creds = s.creds := rfl
@[simp] theorem setRfch_arc (s : State) (k : Nat) (x : RfChan) : (s.setRfch k x).arc = s.arc := rfl
@[simp] theorem setRfch_log (s : State) (k : Nat) (x : RfChan) : (s.setRfch k x).log = s.log := rfl
@[simp] theorem setRfch_fw (s : State) (k : Nat) (x : RfChan) : (s.setRfch k x).fw = s.fw := rfl
@[simp] theorem setRfch_reports (s : State) (k : Nat) (x : RfChan) : (s.setRfch k x).reports = s.reports := rfl
@[simp] theorem setRfch_cmk (s : State) (k : Nat) (x : RfChan) : (s.setRfch k x).cmk = s.cmk := rfl
@[simp] theorem setRfch_nv (s : State) (k : Nat) (x : RfChan) : (s.setRfch k x).nv = s.nv := rfl
@[simp] theorem setRfch_fuses (s : State) (k : Nat) (x : RfChan) : (s.setRfch k x).fuses = s.fuses := rfl
@[simp] theorem setRfch_fuseShadow (s : State) (k : Nat) (x : RfChan) : (s.setRfch k x).fuseShadow = s.fuseShadow := rfl
@[simp] theorem setRfch_cryo (s : State) (k : Nat) (x : RfChan) : (s.setRfch k x).cryo = s.cryo := rfl
@[simp] theorem setRfch_supply (s : State) (k : Nat) (x : RfChan) : (s.setRfch k x).supply = s.supply := rfl
@[simp] theorem setRfch_spares (s : State) (k : Nat) (x : RfChan) : (s.setRfch k x).spares = s.spares := rfl
@[simp] theorem setRfch_thermal (s : State) (k : Nat) (x : RfChan) : (s.setRfch k x).thermal = s.thermal := rfl
@[simp] theorem setRfch_boot (s : State) (k : Nat) (x : RfChan) : (s.setRfch k x).boot = s.boot := rfl
@[simp] theorem setRfch_fault (s : State) (k : Nat) (x : RfChan) : (s.setRfch k x).fault = s.fault := rfl

/-! ### setFbch -/

@[simp] theorem setFbch_pending (s : State) (k : Nat) (x : FbChan) : (s.setFbch k x).pending = s.pending := rfl
@[simp] theorem setFbch_free (s : State) (k : Nat) (x : FbChan) : (s.setFbch k x).free = s.free := rfl
@[simp] theorem setFbch_sent (s : State) (k : Nat) (x : FbChan) : (s.setFbch k x).sent = s.sent := rfl
@[simp] theorem setFbch_clock (s : State) (k : Nat) (x : FbChan) : (s.setFbch k x).clock = s.clock := rfl
@[simp] theorem setFbch_regs (s : State) (k : Nat) (x : FbChan) : (s.setFbch k x).regs = s.regs := rfl
@[simp] theorem setFbch_engines (s : State) (k : Nat) (x : FbChan) : (s.setFbch k x).engines = s.engines := rfl
@[simp] theorem setFbch_prog (s : State) (k : Nat) (x : FbChan) : (s.setFbch k x).prog = s.prog := rfl
@[simp] theorem setFbch_clusterImg (s : State) (k : Nat) (x : FbChan) : (s.setFbch k x).clusterImg = s.clusterImg := rfl
@[simp] theorem setFbch_cruImg (s : State) (k : Nat) (x : FbChan) : (s.setFbch k x).cruImg = s.cruImg := rfl
@[simp] theorem setFbch_images (s : State) (k : Nat) (x : FbChan) : (s.setFbch k x).images = s.images := rfl
@[simp] theorem setFbch_nextHandle (s : State) (k : Nat) (x : FbChan) : (s.setFbch k x).nextHandle = s.nextHandle := rfl
@[simp] theorem setFbch_runs (s : State) (k : Nat) (x : FbChan) : (s.setFbch k x).runs = s.runs := rfl
@[simp] theorem setFbch_nextRun (s : State) (k : Nat) (x : FbChan) : (s.setFbch k x).nextRun = s.nextRun := rfl
@[simp] theorem setFbch_rates (s : State) (k : Nat) (x : FbChan) : (s.setFbch k x).rates = s.rates := rfl
@[simp] theorem setFbch_dues (s : State) (k : Nat) (x : FbChan) : (s.setFbch k x).dues = s.dues := rfl
@[simp] theorem setFbch_results (s : State) (k : Nat) (x : FbChan) : (s.setFbch k x).results = s.results := rfl
@[simp] theorem setFbch_segs (s : State) (k : Nat) (x : FbChan) : (s.setFbch k x).segs = s.segs := rfl
@[simp] theorem setFbch_dram (s : State) (k : Nat) (x : FbChan) : (s.setFbch k x).dram = s.dram := rfl
@[simp] theorem setFbch_hashKey (s : State) (k : Nat) (x : FbChan) : (s.setFbch k x).hashKey = s.hashKey := rfl
@[simp] theorem setFbch_tones (s : State) (k : Nat) (x : FbChan) : (s.setFbch k x).tones = s.tones := rfl
@[simp] theorem setFbch_hots (s : State) (k : Nat) (x : FbChan) : (s.setFbch k x).hots = s.hots := rfl
@[simp] theorem setFbch_banks (s : State) (k : Nat) (x : FbChan) : (s.setFbch k x).banks = s.banks := rfl
@[simp] theorem setFbch_rf (s : State) (k : Nat) (x : FbChan) : (s.setFbch k x).rf = s.rf := rfl
@[simp] theorem setFbch_groups (s : State) (k : Nat) (x : FbChan) : (s.setFbch k x).groups = s.groups := rfl
@[simp] theorem setFbch_adc (s : State) (k : Nat) (x : FbChan) : (s.setFbch k x).adc = s.adc := rfl
@[simp] theorem setFbch_crus (s : State) (k : Nat) (x : FbChan) : (s.setFbch k x).crus = s.crus := rfl
@[simp] theorem setFbch_waiting (s : State) (k : Nat) (x : FbChan) : (s.setFbch k x).waiting = s.waiting := rfl
@[simp] theorem setFbch_notes (s : State) (k : Nat) (x : FbChan) : (s.setFbch k x).notes = s.notes := rfl
@[simp] theorem setFbch_timers (s : State) (k : Nat) (x : FbChan) : (s.setFbch k x).timers = s.timers := rfl
@[simp] theorem setFbch_pulses (s : State) (k : Nat) (x : FbChan) : (s.setFbch k x).pulses = s.pulses := rfl
@[simp] theorem setFbch_ports (s : State) (k : Nat) (x : FbChan) : (s.setFbch k x).ports = s.ports := rfl
@[simp] theorem setFbch_losses (s : State) (k : Nat) (x : FbChan) : (s.setFbch k x).losses = s.losses := rfl
@[simp] theorem setFbch_cast (s : State) (k : Nat) (x : FbChan) : (s.setFbch k x).cast = s.cast := rfl
@[simp] theorem setFbch_sys (s : State) (k : Nat) (x : FbChan) : (s.setFbch k x).sys = s.sys := rfl
@[simp] theorem setFbch_txq (s : State) (k : Nat) (x : FbChan) : (s.setFbch k x).txq = s.txq := rfl
@[simp] theorem setFbch_cap (s : State) (k : Nat) (x : FbChan) : (s.setFbch k x).cap = s.cap := rfl
@[simp] theorem setFbch_tiu (s : State) (k : Nat) (x : FbChan) : (s.setFbch k x).tiu = s.tiu := rfl
@[simp] theorem setFbch_tiuLast (s : State) (k : Nat) (x : FbChan) : (s.setFbch k x).tiuLast = s.tiuLast := rfl
@[simp] theorem setFbch_sessions (s : State) (k : Nat) (x : FbChan) : (s.setFbch k x).sessions = s.sessions := rfl
@[simp] theorem setFbch_handshakes (s : State) (k : Nat) (x : FbChan) : (s.setFbch k x).handshakes = s.handshakes := rfl
@[simp] theorem setFbch_nextSid (s : State) (k : Nat) (x : FbChan) : (s.setFbch k x).nextSid = s.nextSid := rfl
@[simp] theorem setFbch_checks (s : State) (k : Nat) (x : FbChan) : (s.setFbch k x).checks = s.checks := rfl
@[simp] theorem setFbch_kept (s : State) (k : Nat) (x : FbChan) : (s.setFbch k x).kept = s.kept := rfl
@[simp] theorem setFbch_rawSid (s : State) (k : Nat) (x : FbChan) : (s.setFbch k x).rawSid = s.rawSid := rfl
@[simp] theorem setFbch_lateArrivals (s : State) (k : Nat) (x : FbChan) : (s.setFbch k x).lateArrivals = s.lateArrivals := rfl
@[simp] theorem setFbch_strayPackets (s : State) (k : Nat) (x : FbChan) : (s.setFbch k x).strayPackets = s.strayPackets := rfl
@[simp] theorem setFbch_echoes (s : State) (k : Nat) (x : FbChan) : (s.setFbch k x).echoes = s.echoes := rfl
@[simp] theorem setFbch_creds (s : State) (k : Nat) (x : FbChan) : (s.setFbch k x).creds = s.creds := rfl
@[simp] theorem setFbch_arc (s : State) (k : Nat) (x : FbChan) : (s.setFbch k x).arc = s.arc := rfl
@[simp] theorem setFbch_log (s : State) (k : Nat) (x : FbChan) : (s.setFbch k x).log = s.log := rfl
@[simp] theorem setFbch_fw (s : State) (k : Nat) (x : FbChan) : (s.setFbch k x).fw = s.fw := rfl
@[simp] theorem setFbch_reports (s : State) (k : Nat) (x : FbChan) : (s.setFbch k x).reports = s.reports := rfl
@[simp] theorem setFbch_cmk (s : State) (k : Nat) (x : FbChan) : (s.setFbch k x).cmk = s.cmk := rfl
@[simp] theorem setFbch_nv (s : State) (k : Nat) (x : FbChan) : (s.setFbch k x).nv = s.nv := rfl
@[simp] theorem setFbch_fuses (s : State) (k : Nat) (x : FbChan) : (s.setFbch k x).fuses = s.fuses := rfl
@[simp] theorem setFbch_fuseShadow (s : State) (k : Nat) (x : FbChan) : (s.setFbch k x).fuseShadow = s.fuseShadow := rfl
@[simp] theorem setFbch_cryo (s : State) (k : Nat) (x : FbChan) : (s.setFbch k x).cryo = s.cryo := rfl
@[simp] theorem setFbch_supply (s : State) (k : Nat) (x : FbChan) : (s.setFbch k x).supply = s.supply := rfl
@[simp] theorem setFbch_spares (s : State) (k : Nat) (x : FbChan) : (s.setFbch k x).spares = s.spares := rfl
@[simp] theorem setFbch_thermal (s : State) (k : Nat) (x : FbChan) : (s.setFbch k x).thermal = s.thermal := rfl
@[simp] theorem setFbch_boot (s : State) (k : Nat) (x : FbChan) : (s.setFbch k x).boot = s.boot := rfl
@[simp] theorem setFbch_fault (s : State) (k : Nat) (x : FbChan) : (s.setFbch k x).fault = s.fault := rfl

/-! ### setGrp -/

@[simp] theorem setGrp_pending (s : State) (k : Nat) (x : Group) : (s.setGrp k x).pending = s.pending := rfl
@[simp] theorem setGrp_free (s : State) (k : Nat) (x : Group) : (s.setGrp k x).free = s.free := rfl
@[simp] theorem setGrp_sent (s : State) (k : Nat) (x : Group) : (s.setGrp k x).sent = s.sent := rfl
@[simp] theorem setGrp_clock (s : State) (k : Nat) (x : Group) : (s.setGrp k x).clock = s.clock := rfl
@[simp] theorem setGrp_regs (s : State) (k : Nat) (x : Group) : (s.setGrp k x).regs = s.regs := rfl
@[simp] theorem setGrp_engines (s : State) (k : Nat) (x : Group) : (s.setGrp k x).engines = s.engines := rfl
@[simp] theorem setGrp_prog (s : State) (k : Nat) (x : Group) : (s.setGrp k x).prog = s.prog := rfl
@[simp] theorem setGrp_clusterImg (s : State) (k : Nat) (x : Group) : (s.setGrp k x).clusterImg = s.clusterImg := rfl
@[simp] theorem setGrp_cruImg (s : State) (k : Nat) (x : Group) : (s.setGrp k x).cruImg = s.cruImg := rfl
@[simp] theorem setGrp_images (s : State) (k : Nat) (x : Group) : (s.setGrp k x).images = s.images := rfl
@[simp] theorem setGrp_nextHandle (s : State) (k : Nat) (x : Group) : (s.setGrp k x).nextHandle = s.nextHandle := rfl
@[simp] theorem setGrp_runs (s : State) (k : Nat) (x : Group) : (s.setGrp k x).runs = s.runs := rfl
@[simp] theorem setGrp_nextRun (s : State) (k : Nat) (x : Group) : (s.setGrp k x).nextRun = s.nextRun := rfl
@[simp] theorem setGrp_rates (s : State) (k : Nat) (x : Group) : (s.setGrp k x).rates = s.rates := rfl
@[simp] theorem setGrp_dues (s : State) (k : Nat) (x : Group) : (s.setGrp k x).dues = s.dues := rfl
@[simp] theorem setGrp_results (s : State) (k : Nat) (x : Group) : (s.setGrp k x).results = s.results := rfl
@[simp] theorem setGrp_segs (s : State) (k : Nat) (x : Group) : (s.setGrp k x).segs = s.segs := rfl
@[simp] theorem setGrp_dram (s : State) (k : Nat) (x : Group) : (s.setGrp k x).dram = s.dram := rfl
@[simp] theorem setGrp_hashKey (s : State) (k : Nat) (x : Group) : (s.setGrp k x).hashKey = s.hashKey := rfl
@[simp] theorem setGrp_tones (s : State) (k : Nat) (x : Group) : (s.setGrp k x).tones = s.tones := rfl
@[simp] theorem setGrp_hots (s : State) (k : Nat) (x : Group) : (s.setGrp k x).hots = s.hots := rfl
@[simp] theorem setGrp_banks (s : State) (k : Nat) (x : Group) : (s.setGrp k x).banks = s.banks := rfl
@[simp] theorem setGrp_rf (s : State) (k : Nat) (x : Group) : (s.setGrp k x).rf = s.rf := rfl
@[simp] theorem setGrp_fb (s : State) (k : Nat) (x : Group) : (s.setGrp k x).fb = s.fb := rfl
@[simp] theorem setGrp_adc (s : State) (k : Nat) (x : Group) : (s.setGrp k x).adc = s.adc := rfl
@[simp] theorem setGrp_crus (s : State) (k : Nat) (x : Group) : (s.setGrp k x).crus = s.crus := rfl
@[simp] theorem setGrp_waiting (s : State) (k : Nat) (x : Group) : (s.setGrp k x).waiting = s.waiting := rfl
@[simp] theorem setGrp_notes (s : State) (k : Nat) (x : Group) : (s.setGrp k x).notes = s.notes := rfl
@[simp] theorem setGrp_timers (s : State) (k : Nat) (x : Group) : (s.setGrp k x).timers = s.timers := rfl
@[simp] theorem setGrp_pulses (s : State) (k : Nat) (x : Group) : (s.setGrp k x).pulses = s.pulses := rfl
@[simp] theorem setGrp_ports (s : State) (k : Nat) (x : Group) : (s.setGrp k x).ports = s.ports := rfl
@[simp] theorem setGrp_losses (s : State) (k : Nat) (x : Group) : (s.setGrp k x).losses = s.losses := rfl
@[simp] theorem setGrp_cast (s : State) (k : Nat) (x : Group) : (s.setGrp k x).cast = s.cast := rfl
@[simp] theorem setGrp_sys (s : State) (k : Nat) (x : Group) : (s.setGrp k x).sys = s.sys := rfl
@[simp] theorem setGrp_txq (s : State) (k : Nat) (x : Group) : (s.setGrp k x).txq = s.txq := rfl
@[simp] theorem setGrp_cap (s : State) (k : Nat) (x : Group) : (s.setGrp k x).cap = s.cap := rfl
@[simp] theorem setGrp_tiu (s : State) (k : Nat) (x : Group) : (s.setGrp k x).tiu = s.tiu := rfl
@[simp] theorem setGrp_tiuLast (s : State) (k : Nat) (x : Group) : (s.setGrp k x).tiuLast = s.tiuLast := rfl
@[simp] theorem setGrp_sessions (s : State) (k : Nat) (x : Group) : (s.setGrp k x).sessions = s.sessions := rfl
@[simp] theorem setGrp_handshakes (s : State) (k : Nat) (x : Group) : (s.setGrp k x).handshakes = s.handshakes := rfl
@[simp] theorem setGrp_nextSid (s : State) (k : Nat) (x : Group) : (s.setGrp k x).nextSid = s.nextSid := rfl
@[simp] theorem setGrp_checks (s : State) (k : Nat) (x : Group) : (s.setGrp k x).checks = s.checks := rfl
@[simp] theorem setGrp_kept (s : State) (k : Nat) (x : Group) : (s.setGrp k x).kept = s.kept := rfl
@[simp] theorem setGrp_rawSid (s : State) (k : Nat) (x : Group) : (s.setGrp k x).rawSid = s.rawSid := rfl
@[simp] theorem setGrp_lateArrivals (s : State) (k : Nat) (x : Group) : (s.setGrp k x).lateArrivals = s.lateArrivals := rfl
@[simp] theorem setGrp_strayPackets (s : State) (k : Nat) (x : Group) : (s.setGrp k x).strayPackets = s.strayPackets := rfl
@[simp] theorem setGrp_echoes (s : State) (k : Nat) (x : Group) : (s.setGrp k x).echoes = s.echoes := rfl
@[simp] theorem setGrp_creds (s : State) (k : Nat) (x : Group) : (s.setGrp k x).creds = s.creds := rfl
@[simp] theorem setGrp_arc (s : State) (k : Nat) (x : Group) : (s.setGrp k x).arc = s.arc := rfl
@[simp] theorem setGrp_log (s : State) (k : Nat) (x : Group) : (s.setGrp k x).log = s.log := rfl
@[simp] theorem setGrp_fw (s : State) (k : Nat) (x : Group) : (s.setGrp k x).fw = s.fw := rfl
@[simp] theorem setGrp_reports (s : State) (k : Nat) (x : Group) : (s.setGrp k x).reports = s.reports := rfl
@[simp] theorem setGrp_cmk (s : State) (k : Nat) (x : Group) : (s.setGrp k x).cmk = s.cmk := rfl
@[simp] theorem setGrp_nv (s : State) (k : Nat) (x : Group) : (s.setGrp k x).nv = s.nv := rfl
@[simp] theorem setGrp_fuses (s : State) (k : Nat) (x : Group) : (s.setGrp k x).fuses = s.fuses := rfl
@[simp] theorem setGrp_fuseShadow (s : State) (k : Nat) (x : Group) : (s.setGrp k x).fuseShadow = s.fuseShadow := rfl
@[simp] theorem setGrp_cryo (s : State) (k : Nat) (x : Group) : (s.setGrp k x).cryo = s.cryo := rfl
@[simp] theorem setGrp_supply (s : State) (k : Nat) (x : Group) : (s.setGrp k x).supply = s.supply := rfl
@[simp] theorem setGrp_spares (s : State) (k : Nat) (x : Group) : (s.setGrp k x).spares = s.spares := rfl
@[simp] theorem setGrp_thermal (s : State) (k : Nat) (x : Group) : (s.setGrp k x).thermal = s.thermal := rfl
@[simp] theorem setGrp_boot (s : State) (k : Nat) (x : Group) : (s.setGrp k x).boot = s.boot := rfl
@[simp] theorem setGrp_fault (s : State) (k : Nat) (x : Group) : (s.setGrp k x).fault = s.fault := rfl

/-! ### setAdcch -/

@[simp] theorem setAdcch_pending (s : State) (k : Nat) (x : AdcChan) : (s.setAdcch k x).pending = s.pending := rfl
@[simp] theorem setAdcch_free (s : State) (k : Nat) (x : AdcChan) : (s.setAdcch k x).free = s.free := rfl
@[simp] theorem setAdcch_sent (s : State) (k : Nat) (x : AdcChan) : (s.setAdcch k x).sent = s.sent := rfl
@[simp] theorem setAdcch_clock (s : State) (k : Nat) (x : AdcChan) : (s.setAdcch k x).clock = s.clock := rfl
@[simp] theorem setAdcch_regs (s : State) (k : Nat) (x : AdcChan) : (s.setAdcch k x).regs = s.regs := rfl
@[simp] theorem setAdcch_engines (s : State) (k : Nat) (x : AdcChan) : (s.setAdcch k x).engines = s.engines := rfl
@[simp] theorem setAdcch_prog (s : State) (k : Nat) (x : AdcChan) : (s.setAdcch k x).prog = s.prog := rfl
@[simp] theorem setAdcch_clusterImg (s : State) (k : Nat) (x : AdcChan) : (s.setAdcch k x).clusterImg = s.clusterImg := rfl
@[simp] theorem setAdcch_cruImg (s : State) (k : Nat) (x : AdcChan) : (s.setAdcch k x).cruImg = s.cruImg := rfl
@[simp] theorem setAdcch_images (s : State) (k : Nat) (x : AdcChan) : (s.setAdcch k x).images = s.images := rfl
@[simp] theorem setAdcch_nextHandle (s : State) (k : Nat) (x : AdcChan) : (s.setAdcch k x).nextHandle = s.nextHandle := rfl
@[simp] theorem setAdcch_runs (s : State) (k : Nat) (x : AdcChan) : (s.setAdcch k x).runs = s.runs := rfl
@[simp] theorem setAdcch_nextRun (s : State) (k : Nat) (x : AdcChan) : (s.setAdcch k x).nextRun = s.nextRun := rfl
@[simp] theorem setAdcch_rates (s : State) (k : Nat) (x : AdcChan) : (s.setAdcch k x).rates = s.rates := rfl
@[simp] theorem setAdcch_dues (s : State) (k : Nat) (x : AdcChan) : (s.setAdcch k x).dues = s.dues := rfl
@[simp] theorem setAdcch_results (s : State) (k : Nat) (x : AdcChan) : (s.setAdcch k x).results = s.results := rfl
@[simp] theorem setAdcch_segs (s : State) (k : Nat) (x : AdcChan) : (s.setAdcch k x).segs = s.segs := rfl
@[simp] theorem setAdcch_dram (s : State) (k : Nat) (x : AdcChan) : (s.setAdcch k x).dram = s.dram := rfl
@[simp] theorem setAdcch_hashKey (s : State) (k : Nat) (x : AdcChan) : (s.setAdcch k x).hashKey = s.hashKey := rfl
@[simp] theorem setAdcch_tones (s : State) (k : Nat) (x : AdcChan) : (s.setAdcch k x).tones = s.tones := rfl
@[simp] theorem setAdcch_hots (s : State) (k : Nat) (x : AdcChan) : (s.setAdcch k x).hots = s.hots := rfl
@[simp] theorem setAdcch_banks (s : State) (k : Nat) (x : AdcChan) : (s.setAdcch k x).banks = s.banks := rfl
@[simp] theorem setAdcch_rf (s : State) (k : Nat) (x : AdcChan) : (s.setAdcch k x).rf = s.rf := rfl
@[simp] theorem setAdcch_fb (s : State) (k : Nat) (x : AdcChan) : (s.setAdcch k x).fb = s.fb := rfl
@[simp] theorem setAdcch_groups (s : State) (k : Nat) (x : AdcChan) : (s.setAdcch k x).groups = s.groups := rfl
@[simp] theorem setAdcch_crus (s : State) (k : Nat) (x : AdcChan) : (s.setAdcch k x).crus = s.crus := rfl
@[simp] theorem setAdcch_waiting (s : State) (k : Nat) (x : AdcChan) : (s.setAdcch k x).waiting = s.waiting := rfl
@[simp] theorem setAdcch_notes (s : State) (k : Nat) (x : AdcChan) : (s.setAdcch k x).notes = s.notes := rfl
@[simp] theorem setAdcch_timers (s : State) (k : Nat) (x : AdcChan) : (s.setAdcch k x).timers = s.timers := rfl
@[simp] theorem setAdcch_pulses (s : State) (k : Nat) (x : AdcChan) : (s.setAdcch k x).pulses = s.pulses := rfl
@[simp] theorem setAdcch_ports (s : State) (k : Nat) (x : AdcChan) : (s.setAdcch k x).ports = s.ports := rfl
@[simp] theorem setAdcch_losses (s : State) (k : Nat) (x : AdcChan) : (s.setAdcch k x).losses = s.losses := rfl
@[simp] theorem setAdcch_cast (s : State) (k : Nat) (x : AdcChan) : (s.setAdcch k x).cast = s.cast := rfl
@[simp] theorem setAdcch_sys (s : State) (k : Nat) (x : AdcChan) : (s.setAdcch k x).sys = s.sys := rfl
@[simp] theorem setAdcch_txq (s : State) (k : Nat) (x : AdcChan) : (s.setAdcch k x).txq = s.txq := rfl
@[simp] theorem setAdcch_cap (s : State) (k : Nat) (x : AdcChan) : (s.setAdcch k x).cap = s.cap := rfl
@[simp] theorem setAdcch_tiu (s : State) (k : Nat) (x : AdcChan) : (s.setAdcch k x).tiu = s.tiu := rfl
@[simp] theorem setAdcch_tiuLast (s : State) (k : Nat) (x : AdcChan) : (s.setAdcch k x).tiuLast = s.tiuLast := rfl
@[simp] theorem setAdcch_sessions (s : State) (k : Nat) (x : AdcChan) : (s.setAdcch k x).sessions = s.sessions := rfl
@[simp] theorem setAdcch_handshakes (s : State) (k : Nat) (x : AdcChan) : (s.setAdcch k x).handshakes = s.handshakes := rfl
@[simp] theorem setAdcch_nextSid (s : State) (k : Nat) (x : AdcChan) : (s.setAdcch k x).nextSid = s.nextSid := rfl
@[simp] theorem setAdcch_checks (s : State) (k : Nat) (x : AdcChan) : (s.setAdcch k x).checks = s.checks := rfl
@[simp] theorem setAdcch_kept (s : State) (k : Nat) (x : AdcChan) : (s.setAdcch k x).kept = s.kept := rfl
@[simp] theorem setAdcch_rawSid (s : State) (k : Nat) (x : AdcChan) : (s.setAdcch k x).rawSid = s.rawSid := rfl
@[simp] theorem setAdcch_lateArrivals (s : State) (k : Nat) (x : AdcChan) : (s.setAdcch k x).lateArrivals = s.lateArrivals := rfl
@[simp] theorem setAdcch_strayPackets (s : State) (k : Nat) (x : AdcChan) : (s.setAdcch k x).strayPackets = s.strayPackets := rfl
@[simp] theorem setAdcch_echoes (s : State) (k : Nat) (x : AdcChan) : (s.setAdcch k x).echoes = s.echoes := rfl
@[simp] theorem setAdcch_creds (s : State) (k : Nat) (x : AdcChan) : (s.setAdcch k x).creds = s.creds := rfl
@[simp] theorem setAdcch_arc (s : State) (k : Nat) (x : AdcChan) : (s.setAdcch k x).arc = s.arc := rfl
@[simp] theorem setAdcch_log (s : State) (k : Nat) (x : AdcChan) : (s.setAdcch k x).log = s.log := rfl
@[simp] theorem setAdcch_fw (s : State) (k : Nat) (x : AdcChan) : (s.setAdcch k x).fw = s.fw := rfl
@[simp] theorem setAdcch_reports (s : State) (k : Nat) (x : AdcChan) : (s.setAdcch k x).reports = s.reports := rfl
@[simp] theorem setAdcch_cmk (s : State) (k : Nat) (x : AdcChan) : (s.setAdcch k x).cmk = s.cmk := rfl
@[simp] theorem setAdcch_nv (s : State) (k : Nat) (x : AdcChan) : (s.setAdcch k x).nv = s.nv := rfl
@[simp] theorem setAdcch_fuses (s : State) (k : Nat) (x : AdcChan) : (s.setAdcch k x).fuses = s.fuses := rfl
@[simp] theorem setAdcch_fuseShadow (s : State) (k : Nat) (x : AdcChan) : (s.setAdcch k x).fuseShadow = s.fuseShadow := rfl
@[simp] theorem setAdcch_cryo (s : State) (k : Nat) (x : AdcChan) : (s.setAdcch k x).cryo = s.cryo := rfl
@[simp] theorem setAdcch_supply (s : State) (k : Nat) (x : AdcChan) : (s.setAdcch k x).supply = s.supply := rfl
@[simp] theorem setAdcch_spares (s : State) (k : Nat) (x : AdcChan) : (s.setAdcch k x).spares = s.spares := rfl
@[simp] theorem setAdcch_thermal (s : State) (k : Nat) (x : AdcChan) : (s.setAdcch k x).thermal = s.thermal := rfl
@[simp] theorem setAdcch_boot (s : State) (k : Nat) (x : AdcChan) : (s.setAdcch k x).boot = s.boot := rfl
@[simp] theorem setAdcch_fault (s : State) (k : Nat) (x : AdcChan) : (s.setAdcch k x).fault = s.fault := rfl

/-! ### setCru -/

@[simp] theorem setCru_pending (s : State) (k : Nat) (x : Cru) : (s.setCru k x).pending = s.pending := rfl
@[simp] theorem setCru_free (s : State) (k : Nat) (x : Cru) : (s.setCru k x).free = s.free := rfl
@[simp] theorem setCru_sent (s : State) (k : Nat) (x : Cru) : (s.setCru k x).sent = s.sent := rfl
@[simp] theorem setCru_clock (s : State) (k : Nat) (x : Cru) : (s.setCru k x).clock = s.clock := rfl
@[simp] theorem setCru_regs (s : State) (k : Nat) (x : Cru) : (s.setCru k x).regs = s.regs := rfl
@[simp] theorem setCru_engines (s : State) (k : Nat) (x : Cru) : (s.setCru k x).engines = s.engines := rfl
@[simp] theorem setCru_prog (s : State) (k : Nat) (x : Cru) : (s.setCru k x).prog = s.prog := rfl
@[simp] theorem setCru_clusterImg (s : State) (k : Nat) (x : Cru) : (s.setCru k x).clusterImg = s.clusterImg := rfl
@[simp] theorem setCru_cruImg (s : State) (k : Nat) (x : Cru) : (s.setCru k x).cruImg = s.cruImg := rfl
@[simp] theorem setCru_images (s : State) (k : Nat) (x : Cru) : (s.setCru k x).images = s.images := rfl
@[simp] theorem setCru_nextHandle (s : State) (k : Nat) (x : Cru) : (s.setCru k x).nextHandle = s.nextHandle := rfl
@[simp] theorem setCru_runs (s : State) (k : Nat) (x : Cru) : (s.setCru k x).runs = s.runs := rfl
@[simp] theorem setCru_nextRun (s : State) (k : Nat) (x : Cru) : (s.setCru k x).nextRun = s.nextRun := rfl
@[simp] theorem setCru_rates (s : State) (k : Nat) (x : Cru) : (s.setCru k x).rates = s.rates := rfl
@[simp] theorem setCru_dues (s : State) (k : Nat) (x : Cru) : (s.setCru k x).dues = s.dues := rfl
@[simp] theorem setCru_results (s : State) (k : Nat) (x : Cru) : (s.setCru k x).results = s.results := rfl
@[simp] theorem setCru_segs (s : State) (k : Nat) (x : Cru) : (s.setCru k x).segs = s.segs := rfl
@[simp] theorem setCru_dram (s : State) (k : Nat) (x : Cru) : (s.setCru k x).dram = s.dram := rfl
@[simp] theorem setCru_hashKey (s : State) (k : Nat) (x : Cru) : (s.setCru k x).hashKey = s.hashKey := rfl
@[simp] theorem setCru_tones (s : State) (k : Nat) (x : Cru) : (s.setCru k x).tones = s.tones := rfl
@[simp] theorem setCru_hots (s : State) (k : Nat) (x : Cru) : (s.setCru k x).hots = s.hots := rfl
@[simp] theorem setCru_banks (s : State) (k : Nat) (x : Cru) : (s.setCru k x).banks = s.banks := rfl
@[simp] theorem setCru_rf (s : State) (k : Nat) (x : Cru) : (s.setCru k x).rf = s.rf := rfl
@[simp] theorem setCru_fb (s : State) (k : Nat) (x : Cru) : (s.setCru k x).fb = s.fb := rfl
@[simp] theorem setCru_groups (s : State) (k : Nat) (x : Cru) : (s.setCru k x).groups = s.groups := rfl
@[simp] theorem setCru_adc (s : State) (k : Nat) (x : Cru) : (s.setCru k x).adc = s.adc := rfl
@[simp] theorem setCru_waiting (s : State) (k : Nat) (x : Cru) : (s.setCru k x).waiting = s.waiting := rfl
@[simp] theorem setCru_notes (s : State) (k : Nat) (x : Cru) : (s.setCru k x).notes = s.notes := rfl
@[simp] theorem setCru_timers (s : State) (k : Nat) (x : Cru) : (s.setCru k x).timers = s.timers := rfl
@[simp] theorem setCru_pulses (s : State) (k : Nat) (x : Cru) : (s.setCru k x).pulses = s.pulses := rfl
@[simp] theorem setCru_ports (s : State) (k : Nat) (x : Cru) : (s.setCru k x).ports = s.ports := rfl
@[simp] theorem setCru_losses (s : State) (k : Nat) (x : Cru) : (s.setCru k x).losses = s.losses := rfl
@[simp] theorem setCru_cast (s : State) (k : Nat) (x : Cru) : (s.setCru k x).cast = s.cast := rfl
@[simp] theorem setCru_sys (s : State) (k : Nat) (x : Cru) : (s.setCru k x).sys = s.sys := rfl
@[simp] theorem setCru_txq (s : State) (k : Nat) (x : Cru) : (s.setCru k x).txq = s.txq := rfl
@[simp] theorem setCru_cap (s : State) (k : Nat) (x : Cru) : (s.setCru k x).cap = s.cap := rfl
@[simp] theorem setCru_tiu (s : State) (k : Nat) (x : Cru) : (s.setCru k x).tiu = s.tiu := rfl
@[simp] theorem setCru_tiuLast (s : State) (k : Nat) (x : Cru) : (s.setCru k x).tiuLast = s.tiuLast := rfl
@[simp] theorem setCru_sessions (s : State) (k : Nat) (x : Cru) : (s.setCru k x).sessions = s.sessions := rfl
@[simp] theorem setCru_handshakes (s : State) (k : Nat) (x : Cru) : (s.setCru k x).handshakes = s.handshakes := rfl
@[simp] theorem setCru_nextSid (s : State) (k : Nat) (x : Cru) : (s.setCru k x).nextSid = s.nextSid := rfl
@[simp] theorem setCru_checks (s : State) (k : Nat) (x : Cru) : (s.setCru k x).checks = s.checks := rfl
@[simp] theorem setCru_kept (s : State) (k : Nat) (x : Cru) : (s.setCru k x).kept = s.kept := rfl
@[simp] theorem setCru_rawSid (s : State) (k : Nat) (x : Cru) : (s.setCru k x).rawSid = s.rawSid := rfl
@[simp] theorem setCru_lateArrivals (s : State) (k : Nat) (x : Cru) : (s.setCru k x).lateArrivals = s.lateArrivals := rfl
@[simp] theorem setCru_strayPackets (s : State) (k : Nat) (x : Cru) : (s.setCru k x).strayPackets = s.strayPackets := rfl
@[simp] theorem setCru_echoes (s : State) (k : Nat) (x : Cru) : (s.setCru k x).echoes = s.echoes := rfl
@[simp] theorem setCru_creds (s : State) (k : Nat) (x : Cru) : (s.setCru k x).creds = s.creds := rfl
@[simp] theorem setCru_arc (s : State) (k : Nat) (x : Cru) : (s.setCru k x).arc = s.arc := rfl
@[simp] theorem setCru_log (s : State) (k : Nat) (x : Cru) : (s.setCru k x).log = s.log := rfl
@[simp] theorem setCru_fw (s : State) (k : Nat) (x : Cru) : (s.setCru k x).fw = s.fw := rfl
@[simp] theorem setCru_reports (s : State) (k : Nat) (x : Cru) : (s.setCru k x).reports = s.reports := rfl
@[simp] theorem setCru_cmk (s : State) (k : Nat) (x : Cru) : (s.setCru k x).cmk = s.cmk := rfl
@[simp] theorem setCru_nv (s : State) (k : Nat) (x : Cru) : (s.setCru k x).nv = s.nv := rfl
@[simp] theorem setCru_fuses (s : State) (k : Nat) (x : Cru) : (s.setCru k x).fuses = s.fuses := rfl
@[simp] theorem setCru_fuseShadow (s : State) (k : Nat) (x : Cru) : (s.setCru k x).fuseShadow = s.fuseShadow := rfl
@[simp] theorem setCru_cryo (s : State) (k : Nat) (x : Cru) : (s.setCru k x).cryo = s.cryo := rfl
@[simp] theorem setCru_supply (s : State) (k : Nat) (x : Cru) : (s.setCru k x).supply = s.supply := rfl
@[simp] theorem setCru_spares (s : State) (k : Nat) (x : Cru) : (s.setCru k x).spares = s.spares := rfl
@[simp] theorem setCru_thermal (s : State) (k : Nat) (x : Cru) : (s.setCru k x).thermal = s.thermal := rfl
@[simp] theorem setCru_boot (s : State) (k : Nat) (x : Cru) : (s.setCru k x).boot = s.boot := rfl
@[simp] theorem setCru_fault (s : State) (k : Nat) (x : Cru) : (s.setCru k x).fault = s.fault := rfl

/-! ### setPort -/

@[simp] theorem setPort_pending (s : State) (k : Nat) (x : Port) : (s.setPort k x).pending = s.pending := rfl
@[simp] theorem setPort_free (s : State) (k : Nat) (x : Port) : (s.setPort k x).free = s.free := rfl
@[simp] theorem setPort_sent (s : State) (k : Nat) (x : Port) : (s.setPort k x).sent = s.sent := rfl
@[simp] theorem setPort_clock (s : State) (k : Nat) (x : Port) : (s.setPort k x).clock = s.clock := rfl
@[simp] theorem setPort_regs (s : State) (k : Nat) (x : Port) : (s.setPort k x).regs = s.regs := rfl
@[simp] theorem setPort_engines (s : State) (k : Nat) (x : Port) : (s.setPort k x).engines = s.engines := rfl
@[simp] theorem setPort_prog (s : State) (k : Nat) (x : Port) : (s.setPort k x).prog = s.prog := rfl
@[simp] theorem setPort_clusterImg (s : State) (k : Nat) (x : Port) : (s.setPort k x).clusterImg = s.clusterImg := rfl
@[simp] theorem setPort_cruImg (s : State) (k : Nat) (x : Port) : (s.setPort k x).cruImg = s.cruImg := rfl
@[simp] theorem setPort_images (s : State) (k : Nat) (x : Port) : (s.setPort k x).images = s.images := rfl
@[simp] theorem setPort_nextHandle (s : State) (k : Nat) (x : Port) : (s.setPort k x).nextHandle = s.nextHandle := rfl
@[simp] theorem setPort_runs (s : State) (k : Nat) (x : Port) : (s.setPort k x).runs = s.runs := rfl
@[simp] theorem setPort_nextRun (s : State) (k : Nat) (x : Port) : (s.setPort k x).nextRun = s.nextRun := rfl
@[simp] theorem setPort_rates (s : State) (k : Nat) (x : Port) : (s.setPort k x).rates = s.rates := rfl
@[simp] theorem setPort_dues (s : State) (k : Nat) (x : Port) : (s.setPort k x).dues = s.dues := rfl
@[simp] theorem setPort_results (s : State) (k : Nat) (x : Port) : (s.setPort k x).results = s.results := rfl
@[simp] theorem setPort_segs (s : State) (k : Nat) (x : Port) : (s.setPort k x).segs = s.segs := rfl
@[simp] theorem setPort_dram (s : State) (k : Nat) (x : Port) : (s.setPort k x).dram = s.dram := rfl
@[simp] theorem setPort_hashKey (s : State) (k : Nat) (x : Port) : (s.setPort k x).hashKey = s.hashKey := rfl
@[simp] theorem setPort_tones (s : State) (k : Nat) (x : Port) : (s.setPort k x).tones = s.tones := rfl
@[simp] theorem setPort_hots (s : State) (k : Nat) (x : Port) : (s.setPort k x).hots = s.hots := rfl
@[simp] theorem setPort_banks (s : State) (k : Nat) (x : Port) : (s.setPort k x).banks = s.banks := rfl
@[simp] theorem setPort_rf (s : State) (k : Nat) (x : Port) : (s.setPort k x).rf = s.rf := rfl
@[simp] theorem setPort_fb (s : State) (k : Nat) (x : Port) : (s.setPort k x).fb = s.fb := rfl
@[simp] theorem setPort_groups (s : State) (k : Nat) (x : Port) : (s.setPort k x).groups = s.groups := rfl
@[simp] theorem setPort_adc (s : State) (k : Nat) (x : Port) : (s.setPort k x).adc = s.adc := rfl
@[simp] theorem setPort_crus (s : State) (k : Nat) (x : Port) : (s.setPort k x).crus = s.crus := rfl
@[simp] theorem setPort_waiting (s : State) (k : Nat) (x : Port) : (s.setPort k x).waiting = s.waiting := rfl
@[simp] theorem setPort_notes (s : State) (k : Nat) (x : Port) : (s.setPort k x).notes = s.notes := rfl
@[simp] theorem setPort_timers (s : State) (k : Nat) (x : Port) : (s.setPort k x).timers = s.timers := rfl
@[simp] theorem setPort_pulses (s : State) (k : Nat) (x : Port) : (s.setPort k x).pulses = s.pulses := rfl
@[simp] theorem setPort_losses (s : State) (k : Nat) (x : Port) : (s.setPort k x).losses = s.losses := rfl
@[simp] theorem setPort_cast (s : State) (k : Nat) (x : Port) : (s.setPort k x).cast = s.cast := rfl
@[simp] theorem setPort_sys (s : State) (k : Nat) (x : Port) : (s.setPort k x).sys = s.sys := rfl
@[simp] theorem setPort_txq (s : State) (k : Nat) (x : Port) : (s.setPort k x).txq = s.txq := rfl
@[simp] theorem setPort_cap (s : State) (k : Nat) (x : Port) : (s.setPort k x).cap = s.cap := rfl
@[simp] theorem setPort_tiu (s : State) (k : Nat) (x : Port) : (s.setPort k x).tiu = s.tiu := rfl
@[simp] theorem setPort_tiuLast (s : State) (k : Nat) (x : Port) : (s.setPort k x).tiuLast = s.tiuLast := rfl
@[simp] theorem setPort_sessions (s : State) (k : Nat) (x : Port) : (s.setPort k x).sessions = s.sessions := rfl
@[simp] theorem setPort_handshakes (s : State) (k : Nat) (x : Port) : (s.setPort k x).handshakes = s.handshakes := rfl
@[simp] theorem setPort_nextSid (s : State) (k : Nat) (x : Port) : (s.setPort k x).nextSid = s.nextSid := rfl
@[simp] theorem setPort_checks (s : State) (k : Nat) (x : Port) : (s.setPort k x).checks = s.checks := rfl
@[simp] theorem setPort_kept (s : State) (k : Nat) (x : Port) : (s.setPort k x).kept = s.kept := rfl
@[simp] theorem setPort_rawSid (s : State) (k : Nat) (x : Port) : (s.setPort k x).rawSid = s.rawSid := rfl
@[simp] theorem setPort_lateArrivals (s : State) (k : Nat) (x : Port) : (s.setPort k x).lateArrivals = s.lateArrivals := rfl
@[simp] theorem setPort_strayPackets (s : State) (k : Nat) (x : Port) : (s.setPort k x).strayPackets = s.strayPackets := rfl
@[simp] theorem setPort_echoes (s : State) (k : Nat) (x : Port) : (s.setPort k x).echoes = s.echoes := rfl
@[simp] theorem setPort_creds (s : State) (k : Nat) (x : Port) : (s.setPort k x).creds = s.creds := rfl
@[simp] theorem setPort_arc (s : State) (k : Nat) (x : Port) : (s.setPort k x).arc = s.arc := rfl
@[simp] theorem setPort_log (s : State) (k : Nat) (x : Port) : (s.setPort k x).log = s.log := rfl
@[simp] theorem setPort_fw (s : State) (k : Nat) (x : Port) : (s.setPort k x).fw = s.fw := rfl
@[simp] theorem setPort_reports (s : State) (k : Nat) (x : Port) : (s.setPort k x).reports = s.reports := rfl
@[simp] theorem setPort_cmk (s : State) (k : Nat) (x : Port) : (s.setPort k x).cmk = s.cmk := rfl
@[simp] theorem setPort_nv (s : State) (k : Nat) (x : Port) : (s.setPort k x).nv = s.nv := rfl
@[simp] theorem setPort_fuses (s : State) (k : Nat) (x : Port) : (s.setPort k x).fuses = s.fuses := rfl
@[simp] theorem setPort_fuseShadow (s : State) (k : Nat) (x : Port) : (s.setPort k x).fuseShadow = s.fuseShadow := rfl
@[simp] theorem setPort_cryo (s : State) (k : Nat) (x : Port) : (s.setPort k x).cryo = s.cryo := rfl
@[simp] theorem setPort_supply (s : State) (k : Nat) (x : Port) : (s.setPort k x).supply = s.supply := rfl
@[simp] theorem setPort_spares (s : State) (k : Nat) (x : Port) : (s.setPort k x).spares = s.spares := rfl
@[simp] theorem setPort_thermal (s : State) (k : Nat) (x : Port) : (s.setPort k x).thermal = s.thermal := rfl
@[simp] theorem setPort_boot (s : State) (k : Nat) (x : Port) : (s.setPort k x).boot = s.boot := rfl
@[simp] theorem setPort_fault (s : State) (k : Nat) (x : Port) : (s.setPort k x).fault = s.fault := rfl

/-! ### setTiu -/

@[simp] theorem setTiu_pending (s : State) (k : Nat) (x : Tiu) : (s.setTiu k x).pending = s.pending := rfl
@[simp] theorem setTiu_free (s : State) (k : Nat) (x : Tiu) : (s.setTiu k x).free = s.free := rfl
@[simp] theorem setTiu_sent (s : State) (k : Nat) (x : Tiu) : (s.setTiu k x).sent = s.sent := rfl
@[simp] theorem setTiu_clock (s : State) (k : Nat) (x : Tiu) : (s.setTiu k x).clock = s.clock := rfl
@[simp] theorem setTiu_regs (s : State) (k : Nat) (x : Tiu) : (s.setTiu k x).regs = s.regs := rfl
@[simp] theorem setTiu_engines (s : State) (k : Nat) (x : Tiu) : (s.setTiu k x).engines = s.engines := rfl
@[simp] theorem setTiu_prog (s : State) (k : Nat) (x : Tiu) : (s.setTiu k x).prog = s.prog := rfl
@[simp] theorem setTiu_clusterImg (s : State) (k : Nat) (x : Tiu) : (s.setTiu k x).clusterImg = s.clusterImg := rfl
@[simp] theorem setTiu_cruImg (s : State) (k : Nat) (x : Tiu) : (s.setTiu k x).cruImg = s.cruImg := rfl
@[simp] theorem setTiu_images (s : State) (k : Nat) (x : Tiu) : (s.setTiu k x).images = s.images := rfl
@[simp] theorem setTiu_nextHandle (s : State) (k : Nat) (x : Tiu) : (s.setTiu k x).nextHandle = s.nextHandle := rfl
@[simp] theorem setTiu_runs (s : State) (k : Nat) (x : Tiu) : (s.setTiu k x).runs = s.runs := rfl
@[simp] theorem setTiu_nextRun (s : State) (k : Nat) (x : Tiu) : (s.setTiu k x).nextRun = s.nextRun := rfl
@[simp] theorem setTiu_rates (s : State) (k : Nat) (x : Tiu) : (s.setTiu k x).rates = s.rates := rfl
@[simp] theorem setTiu_dues (s : State) (k : Nat) (x : Tiu) : (s.setTiu k x).dues = s.dues := rfl
@[simp] theorem setTiu_results (s : State) (k : Nat) (x : Tiu) : (s.setTiu k x).results = s.results := rfl
@[simp] theorem setTiu_segs (s : State) (k : Nat) (x : Tiu) : (s.setTiu k x).segs = s.segs := rfl
@[simp] theorem setTiu_dram (s : State) (k : Nat) (x : Tiu) : (s.setTiu k x).dram = s.dram := rfl
@[simp] theorem setTiu_hashKey (s : State) (k : Nat) (x : Tiu) : (s.setTiu k x).hashKey = s.hashKey := rfl
@[simp] theorem setTiu_tones (s : State) (k : Nat) (x : Tiu) : (s.setTiu k x).tones = s.tones := rfl
@[simp] theorem setTiu_hots (s : State) (k : Nat) (x : Tiu) : (s.setTiu k x).hots = s.hots := rfl
@[simp] theorem setTiu_banks (s : State) (k : Nat) (x : Tiu) : (s.setTiu k x).banks = s.banks := rfl
@[simp] theorem setTiu_rf (s : State) (k : Nat) (x : Tiu) : (s.setTiu k x).rf = s.rf := rfl
@[simp] theorem setTiu_fb (s : State) (k : Nat) (x : Tiu) : (s.setTiu k x).fb = s.fb := rfl
@[simp] theorem setTiu_groups (s : State) (k : Nat) (x : Tiu) : (s.setTiu k x).groups = s.groups := rfl
@[simp] theorem setTiu_adc (s : State) (k : Nat) (x : Tiu) : (s.setTiu k x).adc = s.adc := rfl
@[simp] theorem setTiu_crus (s : State) (k : Nat) (x : Tiu) : (s.setTiu k x).crus = s.crus := rfl
@[simp] theorem setTiu_waiting (s : State) (k : Nat) (x : Tiu) : (s.setTiu k x).waiting = s.waiting := rfl
@[simp] theorem setTiu_notes (s : State) (k : Nat) (x : Tiu) : (s.setTiu k x).notes = s.notes := rfl
@[simp] theorem setTiu_timers (s : State) (k : Nat) (x : Tiu) : (s.setTiu k x).timers = s.timers := rfl
@[simp] theorem setTiu_pulses (s : State) (k : Nat) (x : Tiu) : (s.setTiu k x).pulses = s.pulses := rfl
@[simp] theorem setTiu_ports (s : State) (k : Nat) (x : Tiu) : (s.setTiu k x).ports = s.ports := rfl
@[simp] theorem setTiu_losses (s : State) (k : Nat) (x : Tiu) : (s.setTiu k x).losses = s.losses := rfl
@[simp] theorem setTiu_cast (s : State) (k : Nat) (x : Tiu) : (s.setTiu k x).cast = s.cast := rfl
@[simp] theorem setTiu_sys (s : State) (k : Nat) (x : Tiu) : (s.setTiu k x).sys = s.sys := rfl
@[simp] theorem setTiu_txq (s : State) (k : Nat) (x : Tiu) : (s.setTiu k x).txq = s.txq := rfl
@[simp] theorem setTiu_cap (s : State) (k : Nat) (x : Tiu) : (s.setTiu k x).cap = s.cap := rfl
@[simp] theorem setTiu_tiuLast (s : State) (k : Nat) (x : Tiu) : (s.setTiu k x).tiuLast = s.tiuLast := rfl
@[simp] theorem setTiu_sessions (s : State) (k : Nat) (x : Tiu) : (s.setTiu k x).sessions = s.sessions := rfl
@[simp] theorem setTiu_handshakes (s : State) (k : Nat) (x : Tiu) : (s.setTiu k x).handshakes = s.handshakes := rfl
@[simp] theorem setTiu_nextSid (s : State) (k : Nat) (x : Tiu) : (s.setTiu k x).nextSid = s.nextSid := rfl
@[simp] theorem setTiu_checks (s : State) (k : Nat) (x : Tiu) : (s.setTiu k x).checks = s.checks := rfl
@[simp] theorem setTiu_kept (s : State) (k : Nat) (x : Tiu) : (s.setTiu k x).kept = s.kept := rfl
@[simp] theorem setTiu_rawSid (s : State) (k : Nat) (x : Tiu) : (s.setTiu k x).rawSid = s.rawSid := rfl
@[simp] theorem setTiu_lateArrivals (s : State) (k : Nat) (x : Tiu) : (s.setTiu k x).lateArrivals = s.lateArrivals := rfl
@[simp] theorem setTiu_strayPackets (s : State) (k : Nat) (x : Tiu) : (s.setTiu k x).strayPackets = s.strayPackets := rfl
@[simp] theorem setTiu_echoes (s : State) (k : Nat) (x : Tiu) : (s.setTiu k x).echoes = s.echoes := rfl
@[simp] theorem setTiu_creds (s : State) (k : Nat) (x : Tiu) : (s.setTiu k x).creds = s.creds := rfl
@[simp] theorem setTiu_arc (s : State) (k : Nat) (x : Tiu) : (s.setTiu k x).arc = s.arc := rfl
@[simp] theorem setTiu_log (s : State) (k : Nat) (x : Tiu) : (s.setTiu k x).log = s.log := rfl
@[simp] theorem setTiu_fw (s : State) (k : Nat) (x : Tiu) : (s.setTiu k x).fw = s.fw := rfl
@[simp] theorem setTiu_reports (s : State) (k : Nat) (x : Tiu) : (s.setTiu k x).reports = s.reports := rfl
@[simp] theorem setTiu_cmk (s : State) (k : Nat) (x : Tiu) : (s.setTiu k x).cmk = s.cmk := rfl
@[simp] theorem setTiu_nv (s : State) (k : Nat) (x : Tiu) : (s.setTiu k x).nv = s.nv := rfl
@[simp] theorem setTiu_fuses (s : State) (k : Nat) (x : Tiu) : (s.setTiu k x).fuses = s.fuses := rfl
@[simp] theorem setTiu_fuseShadow (s : State) (k : Nat) (x : Tiu) : (s.setTiu k x).fuseShadow = s.fuseShadow := rfl
@[simp] theorem setTiu_cryo (s : State) (k : Nat) (x : Tiu) : (s.setTiu k x).cryo = s.cryo := rfl
@[simp] theorem setTiu_supply (s : State) (k : Nat) (x : Tiu) : (s.setTiu k x).supply = s.supply := rfl
@[simp] theorem setTiu_spares (s : State) (k : Nat) (x : Tiu) : (s.setTiu k x).spares = s.spares := rfl
@[simp] theorem setTiu_thermal (s : State) (k : Nat) (x : Tiu) : (s.setTiu k x).thermal = s.thermal := rfl
@[simp] theorem setTiu_boot (s : State) (k : Nat) (x : Tiu) : (s.setTiu k x).boot = s.boot := rfl
@[simp] theorem setTiu_fault (s : State) (k : Nat) (x : Tiu) : (s.setTiu k x).fault = s.fault := rfl

/-! ### setProg -/

@[simp] theorem setProg_pending (s : State) (e a : Nat) (w : ProgWord) : (s.setProg e a w).pending = s.pending := rfl
@[simp] theorem setProg_free (s : State) (e a : Nat) (w : ProgWord) : (s.setProg e a w).free = s.free := rfl
@[simp] theorem setProg_sent (s : State) (e a : Nat) (w : ProgWord) : (s.setProg e a w).sent = s.sent := rfl
@[simp] theorem setProg_clock (s : State) (e a : Nat) (w : ProgWord) : (s.setProg e a w).clock = s.clock := rfl
@[simp] theorem setProg_regs (s : State) (e a : Nat) (w : ProgWord) : (s.setProg e a w).regs = s.regs := rfl
@[simp] theorem setProg_engines (s : State) (e a : Nat) (w : ProgWord) : (s.setProg e a w).engines = s.engines := rfl
@[simp] theorem setProg_clusterImg (s : State) (e a : Nat) (w : ProgWord) : (s.setProg e a w).clusterImg = s.clusterImg := rfl
@[simp] theorem setProg_cruImg (s : State) (e a : Nat) (w : ProgWord) : (s.setProg e a w).cruImg = s.cruImg := rfl
@[simp] theorem setProg_images (s : State) (e a : Nat) (w : ProgWord) : (s.setProg e a w).images = s.images := rfl
@[simp] theorem setProg_nextHandle (s : State) (e a : Nat) (w : ProgWord) : (s.setProg e a w).nextHandle = s.nextHandle := rfl
@[simp] theorem setProg_runs (s : State) (e a : Nat) (w : ProgWord) : (s.setProg e a w).runs = s.runs := rfl
@[simp] theorem setProg_nextRun (s : State) (e a : Nat) (w : ProgWord) : (s.setProg e a w).nextRun = s.nextRun := rfl
@[simp] theorem setProg_rates (s : State) (e a : Nat) (w : ProgWord) : (s.setProg e a w).rates = s.rates := rfl
@[simp] theorem setProg_dues (s : State) (e a : Nat) (w : ProgWord) : (s.setProg e a w).dues = s.dues := rfl
@[simp] theorem setProg_results (s : State) (e a : Nat) (w : ProgWord) : (s.setProg e a w).results = s.results := rfl
@[simp] theorem setProg_segs (s : State) (e a : Nat) (w : ProgWord) : (s.setProg e a w).segs = s.segs := rfl
@[simp] theorem setProg_dram (s : State) (e a : Nat) (w : ProgWord) : (s.setProg e a w).dram = s.dram := rfl
@[simp] theorem setProg_hashKey (s : State) (e a : Nat) (w : ProgWord) : (s.setProg e a w).hashKey = s.hashKey := rfl
@[simp] theorem setProg_tones (s : State) (e a : Nat) (w : ProgWord) : (s.setProg e a w).tones = s.tones := rfl
@[simp] theorem setProg_hots (s : State) (e a : Nat) (w : ProgWord) : (s.setProg e a w).hots = s.hots := rfl
@[simp] theorem setProg_banks (s : State) (e a : Nat) (w : ProgWord) : (s.setProg e a w).banks = s.banks := rfl
@[simp] theorem setProg_rf (s : State) (e a : Nat) (w : ProgWord) : (s.setProg e a w).rf = s.rf := rfl
@[simp] theorem setProg_fb (s : State) (e a : Nat) (w : ProgWord) : (s.setProg e a w).fb = s.fb := rfl
@[simp] theorem setProg_groups (s : State) (e a : Nat) (w : ProgWord) : (s.setProg e a w).groups = s.groups := rfl
@[simp] theorem setProg_adc (s : State) (e a : Nat) (w : ProgWord) : (s.setProg e a w).adc = s.adc := rfl
@[simp] theorem setProg_crus (s : State) (e a : Nat) (w : ProgWord) : (s.setProg e a w).crus = s.crus := rfl
@[simp] theorem setProg_waiting (s : State) (e a : Nat) (w : ProgWord) : (s.setProg e a w).waiting = s.waiting := rfl
@[simp] theorem setProg_notes (s : State) (e a : Nat) (w : ProgWord) : (s.setProg e a w).notes = s.notes := rfl
@[simp] theorem setProg_timers (s : State) (e a : Nat) (w : ProgWord) : (s.setProg e a w).timers = s.timers := rfl
@[simp] theorem setProg_pulses (s : State) (e a : Nat) (w : ProgWord) : (s.setProg e a w).pulses = s.pulses := rfl
@[simp] theorem setProg_ports (s : State) (e a : Nat) (w : ProgWord) : (s.setProg e a w).ports = s.ports := rfl
@[simp] theorem setProg_losses (s : State) (e a : Nat) (w : ProgWord) : (s.setProg e a w).losses = s.losses := rfl
@[simp] theorem setProg_cast (s : State) (e a : Nat) (w : ProgWord) : (s.setProg e a w).cast = s.cast := rfl
@[simp] theorem setProg_sys (s : State) (e a : Nat) (w : ProgWord) : (s.setProg e a w).sys = s.sys := rfl
@[simp] theorem setProg_txq (s : State) (e a : Nat) (w : ProgWord) : (s.setProg e a w).txq = s.txq := rfl
@[simp] theorem setProg_cap (s : State) (e a : Nat) (w : ProgWord) : (s.setProg e a w).cap = s.cap := rfl
@[simp] theorem setProg_tiu (s : State) (e a : Nat) (w : ProgWord) : (s.setProg e a w).tiu = s.tiu := rfl
@[simp] theorem setProg_tiuLast (s : State) (e a : Nat) (w : ProgWord) : (s.setProg e a w).tiuLast = s.tiuLast := rfl
@[simp] theorem setProg_sessions (s : State) (e a : Nat) (w : ProgWord) : (s.setProg e a w).sessions = s.sessions := rfl
@[simp] theorem setProg_handshakes (s : State) (e a : Nat) (w : ProgWord) : (s.setProg e a w).handshakes = s.handshakes := rfl
@[simp] theorem setProg_nextSid (s : State) (e a : Nat) (w : ProgWord) : (s.setProg e a w).nextSid = s.nextSid := rfl
@[simp] theorem setProg_checks (s : State) (e a : Nat) (w : ProgWord) : (s.setProg e a w).checks = s.checks := rfl
@[simp] theorem setProg_kept (s : State) (e a : Nat) (w : ProgWord) : (s.setProg e a w).kept = s.kept := rfl
@[simp] theorem setProg_rawSid (s : State) (e a : Nat) (w : ProgWord) : (s.setProg e a w).rawSid = s.rawSid := rfl
@[simp] theorem setProg_lateArrivals (s : State) (e a : Nat) (w : ProgWord) : (s.setProg e a w).lateArrivals = s.lateArrivals := rfl
@[simp] theorem setProg_strayPackets (s : State) (e a : Nat) (w : ProgWord) : (s.setProg e a w).strayPackets = s.strayPackets := rfl
@[simp] theorem setProg_echoes (s : State) (e a : Nat) (w : ProgWord) : (s.setProg e a w).echoes = s.echoes := rfl
@[simp] theorem setProg_creds (s : State) (e a : Nat) (w : ProgWord) : (s.setProg e a w).creds = s.creds := rfl
@[simp] theorem setProg_arc (s : State) (e a : Nat) (w : ProgWord) : (s.setProg e a w).arc = s.arc := rfl
@[simp] theorem setProg_log (s : State) (e a : Nat) (w : ProgWord) : (s.setProg e a w).log = s.log := rfl
@[simp] theorem setProg_fw (s : State) (e a : Nat) (w : ProgWord) : (s.setProg e a w).fw = s.fw := rfl
@[simp] theorem setProg_reports (s : State) (e a : Nat) (w : ProgWord) : (s.setProg e a w).reports = s.reports := rfl
@[simp] theorem setProg_cmk (s : State) (e a : Nat) (w : ProgWord) : (s.setProg e a w).cmk = s.cmk := rfl
@[simp] theorem setProg_nv (s : State) (e a : Nat) (w : ProgWord) : (s.setProg e a w).nv = s.nv := rfl
@[simp] theorem setProg_fuses (s : State) (e a : Nat) (w : ProgWord) : (s.setProg e a w).fuses = s.fuses := rfl
@[simp] theorem setProg_fuseShadow (s : State) (e a : Nat) (w : ProgWord) : (s.setProg e a w).fuseShadow = s.fuseShadow := rfl
@[simp] theorem setProg_cryo (s : State) (e a : Nat) (w : ProgWord) : (s.setProg e a w).cryo = s.cryo := rfl
@[simp] theorem setProg_supply (s : State) (e a : Nat) (w : ProgWord) : (s.setProg e a w).supply = s.supply := rfl
@[simp] theorem setProg_spares (s : State) (e a : Nat) (w : ProgWord) : (s.setProg e a w).spares = s.spares := rfl
@[simp] theorem setProg_thermal (s : State) (e a : Nat) (w : ProgWord) : (s.setProg e a w).thermal = s.thermal := rfl
@[simp] theorem setProg_boot (s : State) (e a : Nat) (w : ProgWord) : (s.setProg e a w).boot = s.boot := rfl
@[simp] theorem setProg_fault (s : State) (e a : Nat) (w : ProgWord) : (s.setProg e a w).fault = s.fault := rfl

/-! ### setMem -/

@[simp] theorem setMem_pending (s : State) (a : Nat) (b : Byte) : (s.setMem a b).pending = s.pending := rfl
@[simp] theorem setMem_free (s : State) (a : Nat) (b : Byte) : (s.setMem a b).free = s.free := rfl
@[simp] theorem setMem_sent (s : State) (a : Nat) (b : Byte) : (s.setMem a b).sent = s.sent := rfl
@[simp] theorem setMem_clock (s : State) (a : Nat) (b : Byte) : (s.setMem a b).clock = s.clock := rfl
@[simp] theorem setMem_regs (s : State) (a : Nat) (b : Byte) : (s.setMem a b).regs = s.regs := rfl
@[simp] theorem setMem_engines (s : State) (a : Nat) (b : Byte) : (s.setMem a b).engines = s.engines := rfl
@[simp] theorem setMem_prog (s : State) (a : Nat) (b : Byte) : (s.setMem a b).prog = s.prog := rfl
@[simp] theorem setMem_clusterImg (s : State) (a : Nat) (b : Byte) : (s.setMem a b).clusterImg = s.clusterImg := rfl
@[simp] theorem setMem_cruImg (s : State) (a : Nat) (b : Byte) : (s.setMem a b).cruImg = s.cruImg := rfl
@[simp] theorem setMem_images (s : State) (a : Nat) (b : Byte) : (s.setMem a b).images = s.images := rfl
@[simp] theorem setMem_nextHandle (s : State) (a : Nat) (b : Byte) : (s.setMem a b).nextHandle = s.nextHandle := rfl
@[simp] theorem setMem_runs (s : State) (a : Nat) (b : Byte) : (s.setMem a b).runs = s.runs := rfl
@[simp] theorem setMem_nextRun (s : State) (a : Nat) (b : Byte) : (s.setMem a b).nextRun = s.nextRun := rfl
@[simp] theorem setMem_rates (s : State) (a : Nat) (b : Byte) : (s.setMem a b).rates = s.rates := rfl
@[simp] theorem setMem_dues (s : State) (a : Nat) (b : Byte) : (s.setMem a b).dues = s.dues := rfl
@[simp] theorem setMem_results (s : State) (a : Nat) (b : Byte) : (s.setMem a b).results = s.results := rfl
@[simp] theorem setMem_segs (s : State) (a : Nat) (b : Byte) : (s.setMem a b).segs = s.segs := rfl
@[simp] theorem setMem_hashKey (s : State) (a : Nat) (b : Byte) : (s.setMem a b).hashKey = s.hashKey := rfl
@[simp] theorem setMem_tones (s : State) (a : Nat) (b : Byte) : (s.setMem a b).tones = s.tones := rfl
@[simp] theorem setMem_hots (s : State) (a : Nat) (b : Byte) : (s.setMem a b).hots = s.hots := rfl
@[simp] theorem setMem_banks (s : State) (a : Nat) (b : Byte) : (s.setMem a b).banks = s.banks := rfl
@[simp] theorem setMem_rf (s : State) (a : Nat) (b : Byte) : (s.setMem a b).rf = s.rf := rfl
@[simp] theorem setMem_fb (s : State) (a : Nat) (b : Byte) : (s.setMem a b).fb = s.fb := rfl
@[simp] theorem setMem_groups (s : State) (a : Nat) (b : Byte) : (s.setMem a b).groups = s.groups := rfl
@[simp] theorem setMem_adc (s : State) (a : Nat) (b : Byte) : (s.setMem a b).adc = s.adc := rfl
@[simp] theorem setMem_crus (s : State) (a : Nat) (b : Byte) : (s.setMem a b).crus = s.crus := rfl
@[simp] theorem setMem_waiting (s : State) (a : Nat) (b : Byte) : (s.setMem a b).waiting = s.waiting := rfl
@[simp] theorem setMem_notes (s : State) (a : Nat) (b : Byte) : (s.setMem a b).notes = s.notes := rfl
@[simp] theorem setMem_timers (s : State) (a : Nat) (b : Byte) : (s.setMem a b).timers = s.timers := rfl
@[simp] theorem setMem_pulses (s : State) (a : Nat) (b : Byte) : (s.setMem a b).pulses = s.pulses := rfl
@[simp] theorem setMem_ports (s : State) (a : Nat) (b : Byte) : (s.setMem a b).ports = s.ports := rfl
@[simp] theorem setMem_losses (s : State) (a : Nat) (b : Byte) : (s.setMem a b).losses = s.losses := rfl
@[simp] theorem setMem_cast (s : State) (a : Nat) (b : Byte) : (s.setMem a b).cast = s.cast := rfl
@[simp] theorem setMem_sys (s : State) (a : Nat) (b : Byte) : (s.setMem a b).sys = s.sys := rfl
@[simp] theorem setMem_txq (s : State) (a : Nat) (b : Byte) : (s.setMem a b).txq = s.txq := rfl
@[simp] theorem setMem_cap (s : State) (a : Nat) (b : Byte) : (s.setMem a b).cap = s.cap := rfl
@[simp] theorem setMem_tiu (s : State) (a : Nat) (b : Byte) : (s.setMem a b).tiu = s.tiu := rfl
@[simp] theorem setMem_tiuLast (s : State) (a : Nat) (b : Byte) : (s.setMem a b).tiuLast = s.tiuLast := rfl
@[simp] theorem setMem_sessions (s : State) (a : Nat) (b : Byte) : (s.setMem a b).sessions = s.sessions := rfl
@[simp] theorem setMem_handshakes (s : State) (a : Nat) (b : Byte) : (s.setMem a b).handshakes = s.handshakes := rfl
@[simp] theorem setMem_nextSid (s : State) (a : Nat) (b : Byte) : (s.setMem a b).nextSid = s.nextSid := rfl
@[simp] theorem setMem_checks (s : State) (a : Nat) (b : Byte) : (s.setMem a b).checks = s.checks := rfl
@[simp] theorem setMem_kept (s : State) (a : Nat) (b : Byte) : (s.setMem a b).kept = s.kept := rfl
@[simp] theorem setMem_rawSid (s : State) (a : Nat) (b : Byte) : (s.setMem a b).rawSid = s.rawSid := rfl
@[simp] theorem setMem_lateArrivals (s : State) (a : Nat) (b : Byte) : (s.setMem a b).lateArrivals = s.lateArrivals := rfl
@[simp] theorem setMem_strayPackets (s : State) (a : Nat) (b : Byte) : (s.setMem a b).strayPackets = s.strayPackets := rfl
@[simp] theorem setMem_echoes (s : State) (a : Nat) (b : Byte) : (s.setMem a b).echoes = s.echoes := rfl
@[simp] theorem setMem_creds (s : State) (a : Nat) (b : Byte) : (s.setMem a b).creds = s.creds := rfl
@[simp] theorem setMem_arc (s : State) (a : Nat) (b : Byte) : (s.setMem a b).arc = s.arc := rfl
@[simp] theorem setMem_log (s : State) (a : Nat) (b : Byte) : (s.setMem a b).log = s.log := rfl
@[simp] theorem setMem_fw (s : State) (a : Nat) (b : Byte) : (s.setMem a b).fw = s.fw := rfl
@[simp] theorem setMem_reports (s : State) (a : Nat) (b : Byte) : (s.setMem a b).reports = s.reports := rfl
@[simp] theorem setMem_cmk (s : State) (a : Nat) (b : Byte) : (s.setMem a b).cmk = s.cmk := rfl
@[simp] theorem setMem_nv (s : State) (a : Nat) (b : Byte) : (s.setMem a b).nv = s.nv := rfl
@[simp] theorem setMem_fuses (s : State) (a : Nat) (b : Byte) : (s.setMem a b).fuses = s.fuses := rfl
@[simp] theorem setMem_fuseShadow (s : State) (a : Nat) (b : Byte) : (s.setMem a b).fuseShadow = s.fuseShadow := rfl
@[simp] theorem setMem_cryo (s : State) (a : Nat) (b : Byte) : (s.setMem a b).cryo = s.cryo := rfl
@[simp] theorem setMem_supply (s : State) (a : Nat) (b : Byte) : (s.setMem a b).supply = s.supply := rfl
@[simp] theorem setMem_spares (s : State) (a : Nat) (b : Byte) : (s.setMem a b).spares = s.spares := rfl
@[simp] theorem setMem_thermal (s : State) (a : Nat) (b : Byte) : (s.setMem a b).thermal = s.thermal := rfl
@[simp] theorem setMem_boot (s : State) (a : Nat) (b : Byte) : (s.setMem a b).boot = s.boot := rfl
@[simp] theorem setMem_fault (s : State) (a : Nat) (b : Byte) : (s.setMem a b).fault = s.fault := rfl

/-! ### modRun -/

@[simp] theorem modRun_pending (s : State) (id : W32) (f : Run → Run) : (s.modRun id f).pending = s.pending := rfl
@[simp] theorem modRun_free (s : State) (id : W32) (f : Run → Run) : (s.modRun id f).free = s.free := rfl
@[simp] theorem modRun_sent (s : State) (id : W32) (f : Run → Run) : (s.modRun id f).sent = s.sent := rfl
@[simp] theorem modRun_clock (s : State) (id : W32) (f : Run → Run) : (s.modRun id f).clock = s.clock := rfl
@[simp] theorem modRun_regs (s : State) (id : W32) (f : Run → Run) : (s.modRun id f).regs = s.regs := rfl
@[simp] theorem modRun_engines (s : State) (id : W32) (f : Run → Run) : (s.modRun id f).engines = s.engines := rfl
@[simp] theorem modRun_prog (s : State) (id : W32) (f : Run → Run) : (s.modRun id f).prog = s.prog := rfl
@[simp] theorem modRun_clusterImg (s : State) (id : W32) (f : Run → Run) : (s.modRun id f).clusterImg = s.clusterImg := rfl
@[simp] theorem modRun_cruImg (s : State) (id : W32) (f : Run → Run) : (s.modRun id f).cruImg = s.cruImg := rfl
@[simp] theorem modRun_images (s : State) (id : W32) (f : Run → Run) : (s.modRun id f).images = s.images := rfl
@[simp] theorem modRun_nextHandle (s : State) (id : W32) (f : Run → Run) : (s.modRun id f).nextHandle = s.nextHandle := rfl
@[simp] theorem modRun_nextRun (s : State) (id : W32) (f : Run → Run) : (s.modRun id f).nextRun = s.nextRun := rfl
@[simp] theorem modRun_rates (s : State) (id : W32) (f : Run → Run) : (s.modRun id f).rates = s.rates := rfl
@[simp] theorem modRun_dues (s : State) (id : W32) (f : Run → Run) : (s.modRun id f).dues = s.dues := rfl
@[simp] theorem modRun_results (s : State) (id : W32) (f : Run → Run) : (s.modRun id f).results = s.results := rfl
@[simp] theorem modRun_segs (s : State) (id : W32) (f : Run → Run) : (s.modRun id f).segs = s.segs := rfl
@[simp] theorem modRun_dram (s : State) (id : W32) (f : Run → Run) : (s.modRun id f).dram = s.dram := rfl
@[simp] theorem modRun_hashKey (s : State) (id : W32) (f : Run → Run) : (s.modRun id f).hashKey = s.hashKey := rfl
@[simp] theorem modRun_tones (s : State) (id : W32) (f : Run → Run) : (s.modRun id f).tones = s.tones := rfl
@[simp] theorem modRun_hots (s : State) (id : W32) (f : Run → Run) : (s.modRun id f).hots = s.hots := rfl
@[simp] theorem modRun_banks (s : State) (id : W32) (f : Run → Run) : (s.modRun id f).banks = s.banks := rfl
@[simp] theorem modRun_rf (s : State) (id : W32) (f : Run → Run) : (s.modRun id f).rf = s.rf := rfl
@[simp] theorem modRun_fb (s : State) (id : W32) (f : Run → Run) : (s.modRun id f).fb = s.fb := rfl
@[simp] theorem modRun_groups (s : State) (id : W32) (f : Run → Run) : (s.modRun id f).groups = s.groups := rfl
@[simp] theorem modRun_adc (s : State) (id : W32) (f : Run → Run) : (s.modRun id f).adc = s.adc := rfl
@[simp] theorem modRun_crus (s : State) (id : W32) (f : Run → Run) : (s.modRun id f).crus = s.crus := rfl
@[simp] theorem modRun_waiting (s : State) (id : W32) (f : Run → Run) : (s.modRun id f).waiting = s.waiting := rfl
@[simp] theorem modRun_notes (s : State) (id : W32) (f : Run → Run) : (s.modRun id f).notes = s.notes := rfl
@[simp] theorem modRun_timers (s : State) (id : W32) (f : Run → Run) : (s.modRun id f).timers = s.timers := rfl
@[simp] theorem modRun_pulses (s : State) (id : W32) (f : Run → Run) : (s.modRun id f).pulses = s.pulses := rfl
@[simp] theorem modRun_ports (s : State) (id : W32) (f : Run → Run) : (s.modRun id f).ports = s.ports := rfl
@[simp] theorem modRun_losses (s : State) (id : W32) (f : Run → Run) : (s.modRun id f).losses = s.losses := rfl
@[simp] theorem modRun_cast (s : State) (id : W32) (f : Run → Run) : (s.modRun id f).cast = s.cast := rfl
@[simp] theorem modRun_sys (s : State) (id : W32) (f : Run → Run) : (s.modRun id f).sys = s.sys := rfl
@[simp] theorem modRun_txq (s : State) (id : W32) (f : Run → Run) : (s.modRun id f).txq = s.txq := rfl
@[simp] theorem modRun_cap (s : State) (id : W32) (f : Run → Run) : (s.modRun id f).cap = s.cap := rfl
@[simp] theorem modRun_tiu (s : State) (id : W32) (f : Run → Run) : (s.modRun id f).tiu = s.tiu := rfl
@[simp] theorem modRun_tiuLast (s : State) (id : W32) (f : Run → Run) : (s.modRun id f).tiuLast = s.tiuLast := rfl
@[simp] theorem modRun_sessions (s : State) (id : W32) (f : Run → Run) : (s.modRun id f).sessions = s.sessions := rfl
@[simp] theorem modRun_handshakes (s : State) (id : W32) (f : Run → Run) : (s.modRun id f).handshakes = s.handshakes := rfl
@[simp] theorem modRun_nextSid (s : State) (id : W32) (f : Run → Run) : (s.modRun id f).nextSid = s.nextSid := rfl
@[simp] theorem modRun_checks (s : State) (id : W32) (f : Run → Run) : (s.modRun id f).checks = s.checks := rfl
@[simp] theorem modRun_kept (s : State) (id : W32) (f : Run → Run) : (s.modRun id f).kept = s.kept := rfl
@[simp] theorem modRun_rawSid (s : State) (id : W32) (f : Run → Run) : (s.modRun id f).rawSid = s.rawSid := rfl
@[simp] theorem modRun_lateArrivals (s : State) (id : W32) (f : Run → Run) : (s.modRun id f).lateArrivals = s.lateArrivals := rfl
@[simp] theorem modRun_strayPackets (s : State) (id : W32) (f : Run → Run) : (s.modRun id f).strayPackets = s.strayPackets := rfl
@[simp] theorem modRun_echoes (s : State) (id : W32) (f : Run → Run) : (s.modRun id f).echoes = s.echoes := rfl
@[simp] theorem modRun_creds (s : State) (id : W32) (f : Run → Run) : (s.modRun id f).creds = s.creds := rfl
@[simp] theorem modRun_arc (s : State) (id : W32) (f : Run → Run) : (s.modRun id f).arc = s.arc := rfl
@[simp] theorem modRun_log (s : State) (id : W32) (f : Run → Run) : (s.modRun id f).log = s.log := rfl
@[simp] theorem modRun_fw (s : State) (id : W32) (f : Run → Run) : (s.modRun id f).fw = s.fw := rfl
@[simp] theorem modRun_reports (s : State) (id : W32) (f : Run → Run) : (s.modRun id f).reports = s.reports := rfl
@[simp] theorem modRun_cmk (s : State) (id : W32) (f : Run → Run) : (s.modRun id f).cmk = s.cmk := rfl
@[simp] theorem modRun_nv (s : State) (id : W32) (f : Run → Run) : (s.modRun id f).nv = s.nv := rfl
@[simp] theorem modRun_fuses (s : State) (id : W32) (f : Run → Run) : (s.modRun id f).fuses = s.fuses := rfl
@[simp] theorem modRun_fuseShadow (s : State) (id : W32) (f : Run → Run) : (s.modRun id f).fuseShadow = s.fuseShadow := rfl
@[simp] theorem modRun_cryo (s : State) (id : W32) (f : Run → Run) : (s.modRun id f).cryo = s.cryo := rfl
@[simp] theorem modRun_supply (s : State) (id : W32) (f : Run → Run) : (s.modRun id f).supply = s.supply := rfl
@[simp] theorem modRun_spares (s : State) (id : W32) (f : Run → Run) : (s.modRun id f).spares = s.spares := rfl
@[simp] theorem modRun_thermal (s : State) (id : W32) (f : Run → Run) : (s.modRun id f).thermal = s.thermal := rfl
@[simp] theorem modRun_boot (s : State) (id : W32) (f : Run → Run) : (s.modRun id f).boot = s.boot := rfl
@[simp] theorem modRun_fault (s : State) (id : W32) (f : Run → Run) : (s.modRun id f).fault = s.fault := rfl

/-! ### modShot -/

@[simp] theorem modShot_pending (s : State) (id k : W32) (f : Shot → Shot) : (s.modShot id k f).pending = s.pending := rfl
@[simp] theorem modShot_free (s : State) (id k : W32) (f : Shot → Shot) : (s.modShot id k f).free = s.free := rfl
@[simp] theorem modShot_sent (s : State) (id k : W32) (f : Shot → Shot) : (s.modShot id k f).sent = s.sent := rfl
@[simp] theorem modShot_clock (s : State) (id k : W32) (f : Shot → Shot) : (s.modShot id k f).clock = s.clock := rfl
@[simp] theorem modShot_regs (s : State) (id k : W32) (f : Shot → Shot) : (s.modShot id k f).regs = s.regs := rfl
@[simp] theorem modShot_engines (s : State) (id k : W32) (f : Shot → Shot) : (s.modShot id k f).engines = s.engines := rfl
@[simp] theorem modShot_prog (s : State) (id k : W32) (f : Shot → Shot) : (s.modShot id k f).prog = s.prog := rfl
@[simp] theorem modShot_clusterImg (s : State) (id k : W32) (f : Shot → Shot) : (s.modShot id k f).clusterImg = s.clusterImg := rfl
@[simp] theorem modShot_cruImg (s : State) (id k : W32) (f : Shot → Shot) : (s.modShot id k f).cruImg = s.cruImg := rfl
@[simp] theorem modShot_images (s : State) (id k : W32) (f : Shot → Shot) : (s.modShot id k f).images = s.images := rfl
@[simp] theorem modShot_nextHandle (s : State) (id k : W32) (f : Shot → Shot) : (s.modShot id k f).nextHandle = s.nextHandle := rfl
@[simp] theorem modShot_nextRun (s : State) (id k : W32) (f : Shot → Shot) : (s.modShot id k f).nextRun = s.nextRun := rfl
@[simp] theorem modShot_rates (s : State) (id k : W32) (f : Shot → Shot) : (s.modShot id k f).rates = s.rates := rfl
@[simp] theorem modShot_dues (s : State) (id k : W32) (f : Shot → Shot) : (s.modShot id k f).dues = s.dues := rfl
@[simp] theorem modShot_results (s : State) (id k : W32) (f : Shot → Shot) : (s.modShot id k f).results = s.results := rfl
@[simp] theorem modShot_segs (s : State) (id k : W32) (f : Shot → Shot) : (s.modShot id k f).segs = s.segs := rfl
@[simp] theorem modShot_dram (s : State) (id k : W32) (f : Shot → Shot) : (s.modShot id k f).dram = s.dram := rfl
@[simp] theorem modShot_hashKey (s : State) (id k : W32) (f : Shot → Shot) : (s.modShot id k f).hashKey = s.hashKey := rfl
@[simp] theorem modShot_tones (s : State) (id k : W32) (f : Shot → Shot) : (s.modShot id k f).tones = s.tones := rfl
@[simp] theorem modShot_hots (s : State) (id k : W32) (f : Shot → Shot) : (s.modShot id k f).hots = s.hots := rfl
@[simp] theorem modShot_banks (s : State) (id k : W32) (f : Shot → Shot) : (s.modShot id k f).banks = s.banks := rfl
@[simp] theorem modShot_rf (s : State) (id k : W32) (f : Shot → Shot) : (s.modShot id k f).rf = s.rf := rfl
@[simp] theorem modShot_fb (s : State) (id k : W32) (f : Shot → Shot) : (s.modShot id k f).fb = s.fb := rfl
@[simp] theorem modShot_groups (s : State) (id k : W32) (f : Shot → Shot) : (s.modShot id k f).groups = s.groups := rfl
@[simp] theorem modShot_adc (s : State) (id k : W32) (f : Shot → Shot) : (s.modShot id k f).adc = s.adc := rfl
@[simp] theorem modShot_crus (s : State) (id k : W32) (f : Shot → Shot) : (s.modShot id k f).crus = s.crus := rfl
@[simp] theorem modShot_waiting (s : State) (id k : W32) (f : Shot → Shot) : (s.modShot id k f).waiting = s.waiting := rfl
@[simp] theorem modShot_notes (s : State) (id k : W32) (f : Shot → Shot) : (s.modShot id k f).notes = s.notes := rfl
@[simp] theorem modShot_timers (s : State) (id k : W32) (f : Shot → Shot) : (s.modShot id k f).timers = s.timers := rfl
@[simp] theorem modShot_pulses (s : State) (id k : W32) (f : Shot → Shot) : (s.modShot id k f).pulses = s.pulses := rfl
@[simp] theorem modShot_ports (s : State) (id k : W32) (f : Shot → Shot) : (s.modShot id k f).ports = s.ports := rfl
@[simp] theorem modShot_losses (s : State) (id k : W32) (f : Shot → Shot) : (s.modShot id k f).losses = s.losses := rfl
@[simp] theorem modShot_cast (s : State) (id k : W32) (f : Shot → Shot) : (s.modShot id k f).cast = s.cast := rfl
@[simp] theorem modShot_sys (s : State) (id k : W32) (f : Shot → Shot) : (s.modShot id k f).sys = s.sys := rfl
@[simp] theorem modShot_txq (s : State) (id k : W32) (f : Shot → Shot) : (s.modShot id k f).txq = s.txq := rfl
@[simp] theorem modShot_cap (s : State) (id k : W32) (f : Shot → Shot) : (s.modShot id k f).cap = s.cap := rfl
@[simp] theorem modShot_tiu (s : State) (id k : W32) (f : Shot → Shot) : (s.modShot id k f).tiu = s.tiu := rfl
@[simp] theorem modShot_tiuLast (s : State) (id k : W32) (f : Shot → Shot) : (s.modShot id k f).tiuLast = s.tiuLast := rfl
@[simp] theorem modShot_sessions (s : State) (id k : W32) (f : Shot → Shot) : (s.modShot id k f).sessions = s.sessions := rfl
@[simp] theorem modShot_handshakes (s : State) (id k : W32) (f : Shot → Shot) : (s.modShot id k f).handshakes = s.handshakes := rfl
@[simp] theorem modShot_nextSid (s : State) (id k : W32) (f : Shot → Shot) : (s.modShot id k f).nextSid = s.nextSid := rfl
@[simp] theorem modShot_checks (s : State) (id k : W32) (f : Shot → Shot) : (s.modShot id k f).checks = s.checks := rfl
@[simp] theorem modShot_kept (s : State) (id k : W32) (f : Shot → Shot) : (s.modShot id k f).kept = s.kept := rfl
@[simp] theorem modShot_rawSid (s : State) (id k : W32) (f : Shot → Shot) : (s.modShot id k f).rawSid = s.rawSid := rfl
@[simp] theorem modShot_lateArrivals (s : State) (id k : W32) (f : Shot → Shot) : (s.modShot id k f).lateArrivals = s.lateArrivals := rfl
@[simp] theorem modShot_strayPackets (s : State) (id k : W32) (f : Shot → Shot) : (s.modShot id k f).strayPackets = s.strayPackets := rfl
@[simp] theorem modShot_echoes (s : State) (id k : W32) (f : Shot → Shot) : (s.modShot id k f).echoes = s.echoes := rfl
@[simp] theorem modShot_creds (s : State) (id k : W32) (f : Shot → Shot) : (s.modShot id k f).creds = s.creds := rfl
@[simp] theorem modShot_arc (s : State) (id k : W32) (f : Shot → Shot) : (s.modShot id k f).arc = s.arc := rfl
@[simp] theorem modShot_log (s : State) (id k : W32) (f : Shot → Shot) : (s.modShot id k f).log = s.log := rfl
@[simp] theorem modShot_fw (s : State) (id k : W32) (f : Shot → Shot) : (s.modShot id k f).fw = s.fw := rfl
@[simp] theorem modShot_reports (s : State) (id k : W32) (f : Shot → Shot) : (s.modShot id k f).reports = s.reports := rfl
@[simp] theorem modShot_cmk (s : State) (id k : W32) (f : Shot → Shot) : (s.modShot id k f).cmk = s.cmk := rfl
@[simp] theorem modShot_nv (s : State) (id k : W32) (f : Shot → Shot) : (s.modShot id k f).nv = s.nv := rfl
@[simp] theorem modShot_fuses (s : State) (id k : W32) (f : Shot → Shot) : (s.modShot id k f).fuses = s.fuses := rfl
@[simp] theorem modShot_fuseShadow (s : State) (id k : W32) (f : Shot → Shot) : (s.modShot id k f).fuseShadow = s.fuseShadow := rfl
@[simp] theorem modShot_cryo (s : State) (id k : W32) (f : Shot → Shot) : (s.modShot id k f).cryo = s.cryo := rfl
@[simp] theorem modShot_supply (s : State) (id k : W32) (f : Shot → Shot) : (s.modShot id k f).supply = s.supply := rfl
@[simp] theorem modShot_spares (s : State) (id k : W32) (f : Shot → Shot) : (s.modShot id k f).spares = s.spares := rfl
@[simp] theorem modShot_thermal (s : State) (id k : W32) (f : Shot → Shot) : (s.modShot id k f).thermal = s.thermal := rfl
@[simp] theorem modShot_boot (s : State) (id k : W32) (f : Shot → Shot) : (s.modShot id k f).boot = s.boot := rfl
@[simp] theorem modShot_fault (s : State) (id k : W32) (f : Shot → Shot) : (s.modShot id k f).fault = s.fault := rfl

/-! ### modEntry -/

@[simp] theorem modEntry_pending (s : State) (id k : W32) (e : Nat) (f : Entry → Entry) : (s.modEntry id k e f).pending = s.pending := rfl
@[simp] theorem modEntry_free (s : State) (id k : W32) (e : Nat) (f : Entry → Entry) : (s.modEntry id k e f).free = s.free := rfl
@[simp] theorem modEntry_sent (s : State) (id k : W32) (e : Nat) (f : Entry → Entry) : (s.modEntry id k e f).sent = s.sent := rfl
@[simp] theorem modEntry_clock (s : State) (id k : W32) (e : Nat) (f : Entry → Entry) : (s.modEntry id k e f).clock = s.clock := rfl
@[simp] theorem modEntry_regs (s : State) (id k : W32) (e : Nat) (f : Entry → Entry) : (s.modEntry id k e f).regs = s.regs := rfl
@[simp] theorem modEntry_engines (s : State) (id k : W32) (e : Nat) (f : Entry → Entry) : (s.modEntry id k e f).engines = s.engines := rfl
@[simp] theorem modEntry_prog (s : State) (id k : W32) (e : Nat) (f : Entry → Entry) : (s.modEntry id k e f).prog = s.prog := rfl
@[simp] theorem modEntry_clusterImg (s : State) (id k : W32) (e : Nat) (f : Entry → Entry) : (s.modEntry id k e f).clusterImg = s.clusterImg := rfl
@[simp] theorem modEntry_cruImg (s : State) (id k : W32) (e : Nat) (f : Entry → Entry) : (s.modEntry id k e f).cruImg = s.cruImg := rfl
@[simp] theorem modEntry_images (s : State) (id k : W32) (e : Nat) (f : Entry → Entry) : (s.modEntry id k e f).images = s.images := rfl
@[simp] theorem modEntry_nextHandle (s : State) (id k : W32) (e : Nat) (f : Entry → Entry) : (s.modEntry id k e f).nextHandle = s.nextHandle := rfl
@[simp] theorem modEntry_nextRun (s : State) (id k : W32) (e : Nat) (f : Entry → Entry) : (s.modEntry id k e f).nextRun = s.nextRun := rfl
@[simp] theorem modEntry_rates (s : State) (id k : W32) (e : Nat) (f : Entry → Entry) : (s.modEntry id k e f).rates = s.rates := rfl
@[simp] theorem modEntry_dues (s : State) (id k : W32) (e : Nat) (f : Entry → Entry) : (s.modEntry id k e f).dues = s.dues := rfl
@[simp] theorem modEntry_results (s : State) (id k : W32) (e : Nat) (f : Entry → Entry) : (s.modEntry id k e f).results = s.results := rfl
@[simp] theorem modEntry_segs (s : State) (id k : W32) (e : Nat) (f : Entry → Entry) : (s.modEntry id k e f).segs = s.segs := rfl
@[simp] theorem modEntry_dram (s : State) (id k : W32) (e : Nat) (f : Entry → Entry) : (s.modEntry id k e f).dram = s.dram := rfl
@[simp] theorem modEntry_hashKey (s : State) (id k : W32) (e : Nat) (f : Entry → Entry) : (s.modEntry id k e f).hashKey = s.hashKey := rfl
@[simp] theorem modEntry_tones (s : State) (id k : W32) (e : Nat) (f : Entry → Entry) : (s.modEntry id k e f).tones = s.tones := rfl
@[simp] theorem modEntry_hots (s : State) (id k : W32) (e : Nat) (f : Entry → Entry) : (s.modEntry id k e f).hots = s.hots := rfl
@[simp] theorem modEntry_banks (s : State) (id k : W32) (e : Nat) (f : Entry → Entry) : (s.modEntry id k e f).banks = s.banks := rfl
@[simp] theorem modEntry_rf (s : State) (id k : W32) (e : Nat) (f : Entry → Entry) : (s.modEntry id k e f).rf = s.rf := rfl
@[simp] theorem modEntry_fb (s : State) (id k : W32) (e : Nat) (f : Entry → Entry) : (s.modEntry id k e f).fb = s.fb := rfl
@[simp] theorem modEntry_groups (s : State) (id k : W32) (e : Nat) (f : Entry → Entry) : (s.modEntry id k e f).groups = s.groups := rfl
@[simp] theorem modEntry_adc (s : State) (id k : W32) (e : Nat) (f : Entry → Entry) : (s.modEntry id k e f).adc = s.adc := rfl
@[simp] theorem modEntry_crus (s : State) (id k : W32) (e : Nat) (f : Entry → Entry) : (s.modEntry id k e f).crus = s.crus := rfl
@[simp] theorem modEntry_waiting (s : State) (id k : W32) (e : Nat) (f : Entry → Entry) : (s.modEntry id k e f).waiting = s.waiting := rfl
@[simp] theorem modEntry_notes (s : State) (id k : W32) (e : Nat) (f : Entry → Entry) : (s.modEntry id k e f).notes = s.notes := rfl
@[simp] theorem modEntry_timers (s : State) (id k : W32) (e : Nat) (f : Entry → Entry) : (s.modEntry id k e f).timers = s.timers := rfl
@[simp] theorem modEntry_pulses (s : State) (id k : W32) (e : Nat) (f : Entry → Entry) : (s.modEntry id k e f).pulses = s.pulses := rfl
@[simp] theorem modEntry_ports (s : State) (id k : W32) (e : Nat) (f : Entry → Entry) : (s.modEntry id k e f).ports = s.ports := rfl
@[simp] theorem modEntry_losses (s : State) (id k : W32) (e : Nat) (f : Entry → Entry) : (s.modEntry id k e f).losses = s.losses := rfl
@[simp] theorem modEntry_cast (s : State) (id k : W32) (e : Nat) (f : Entry → Entry) : (s.modEntry id k e f).cast = s.cast := rfl
@[simp] theorem modEntry_sys (s : State) (id k : W32) (e : Nat) (f : Entry → Entry) : (s.modEntry id k e f).sys = s.sys := rfl
@[simp] theorem modEntry_txq (s : State) (id k : W32) (e : Nat) (f : Entry → Entry) : (s.modEntry id k e f).txq = s.txq := rfl
@[simp] theorem modEntry_cap (s : State) (id k : W32) (e : Nat) (f : Entry → Entry) : (s.modEntry id k e f).cap = s.cap := rfl
@[simp] theorem modEntry_tiu (s : State) (id k : W32) (e : Nat) (f : Entry → Entry) : (s.modEntry id k e f).tiu = s.tiu := rfl
@[simp] theorem modEntry_tiuLast (s : State) (id k : W32) (e : Nat) (f : Entry → Entry) : (s.modEntry id k e f).tiuLast = s.tiuLast := rfl
@[simp] theorem modEntry_sessions (s : State) (id k : W32) (e : Nat) (f : Entry → Entry) : (s.modEntry id k e f).sessions = s.sessions := rfl
@[simp] theorem modEntry_handshakes (s : State) (id k : W32) (e : Nat) (f : Entry → Entry) : (s.modEntry id k e f).handshakes = s.handshakes := rfl
@[simp] theorem modEntry_nextSid (s : State) (id k : W32) (e : Nat) (f : Entry → Entry) : (s.modEntry id k e f).nextSid = s.nextSid := rfl
@[simp] theorem modEntry_checks (s : State) (id k : W32) (e : Nat) (f : Entry → Entry) : (s.modEntry id k e f).checks = s.checks := rfl
@[simp] theorem modEntry_kept (s : State) (id k : W32) (e : Nat) (f : Entry → Entry) : (s.modEntry id k e f).kept = s.kept := rfl
@[simp] theorem modEntry_rawSid (s : State) (id k : W32) (e : Nat) (f : Entry → Entry) : (s.modEntry id k e f).rawSid = s.rawSid := rfl
@[simp] theorem modEntry_lateArrivals (s : State) (id k : W32) (e : Nat) (f : Entry → Entry) : (s.modEntry id k e f).lateArrivals = s.lateArrivals := rfl
@[simp] theorem modEntry_strayPackets (s : State) (id k : W32) (e : Nat) (f : Entry → Entry) : (s.modEntry id k e f).strayPackets = s.strayPackets := rfl
@[simp] theorem modEntry_echoes (s : State) (id k : W32) (e : Nat) (f : Entry → Entry) : (s.modEntry id k e f).echoes = s.echoes := rfl
@[simp] theorem modEntry_creds (s : State) (id k : W32) (e : Nat) (f : Entry → Entry) : (s.modEntry id k e f).creds = s.creds := rfl
@[simp] theorem modEntry_arc (s : State) (id k : W32) (e : Nat) (f : Entry → Entry) : (s.modEntry id k e f).arc = s.arc := rfl
@[simp] theorem modEntry_log (s : State) (id k : W32) (e : Nat) (f : Entry → Entry) : (s.modEntry id k e f).log = s.log := rfl
@[simp] theorem modEntry_fw (s : State) (id k : W32) (e : Nat) (f : Entry → Entry) : (s.modEntry id k e f).fw = s.fw := rfl
@[simp] theorem modEntry_reports (s : State) (id k : W32) (e : Nat) (f : Entry → Entry) : (s.modEntry id k e f).reports = s.reports := rfl
@[simp] theorem modEntry_cmk (s : State) (id k : W32) (e : Nat) (f : Entry → Entry) : (s.modEntry id k e f).cmk = s.cmk := rfl
@[simp] theorem modEntry_nv (s : State) (id k : W32) (e : Nat) (f : Entry → Entry) : (s.modEntry id k e f).nv = s.nv := rfl
@[simp] theorem modEntry_fuses (s : State) (id k : W32) (e : Nat) (f : Entry → Entry) : (s.modEntry id k e f).fuses = s.fuses := rfl
@[simp] theorem modEntry_fuseShadow (s : State) (id k : W32) (e : Nat) (f : Entry → Entry) : (s.modEntry id k e f).fuseShadow = s.fuseShadow := rfl
@[simp] theorem modEntry_cryo (s : State) (id k : W32) (e : Nat) (f : Entry → Entry) : (s.modEntry id k e f).cryo = s.cryo := rfl
@[simp] theorem modEntry_supply (s : State) (id k : W32) (e : Nat) (f : Entry → Entry) : (s.modEntry id k e f).supply = s.supply := rfl
@[simp] theorem modEntry_spares (s : State) (id k : W32) (e : Nat) (f : Entry → Entry) : (s.modEntry id k e f).spares = s.spares := rfl
@[simp] theorem modEntry_thermal (s : State) (id k : W32) (e : Nat) (f : Entry → Entry) : (s.modEntry id k e f).thermal = s.thermal := rfl
@[simp] theorem modEntry_boot (s : State) (id k : W32) (e : Nat) (f : Entry → Entry) : (s.modEntry id k e f).boot = s.boot := rfl
@[simp] theorem modEntry_fault (s : State) (id k : W32) (e : Nat) (f : Entry → Entry) : (s.modEntry id k e f).fault = s.fault := rfl

@[simp] theorem draw_fst (s : State) : s.draw.1 = Config.freeValue s.free := rfl
@[simp] theorem draw_pending (s : State) : s.draw.2.pending = s.pending := rfl
@[simp] theorem draw_free (s : State) : s.draw.2.free = s.free + 1 := rfl
@[simp] theorem draw_sent (s : State) : s.draw.2.sent = s.sent := rfl
@[simp] theorem draw_clock (s : State) : s.draw.2.clock = s.clock := rfl
@[simp] theorem draw_regs (s : State) : s.draw.2.regs = s.regs := rfl
@[simp] theorem draw_engines (s : State) : s.draw.2.engines = s.engines := rfl
@[simp] theorem draw_prog (s : State) : s.draw.2.prog = s.prog := rfl
@[simp] theorem draw_clusterImg (s : State) : s.draw.2.clusterImg = s.clusterImg := rfl
@[simp] theorem draw_cruImg (s : State) : s.draw.2.cruImg = s.cruImg := rfl
@[simp] theorem draw_images (s : State) : s.draw.2.images = s.images := rfl
@[simp] theorem draw_nextHandle (s : State) : s.draw.2.nextHandle = s.nextHandle := rfl
@[simp] theorem draw_runs (s : State) : s.draw.2.runs = s.runs := rfl
@[simp] theorem draw_nextRun (s : State) : s.draw.2.nextRun = s.nextRun := rfl
@[simp] theorem draw_rates (s : State) : s.draw.2.rates = s.rates := rfl
@[simp] theorem draw_dues (s : State) : s.draw.2.dues = s.dues := rfl
@[simp] theorem draw_results (s : State) : s.draw.2.results = s.results := rfl
@[simp] theorem draw_segs (s : State) : s.draw.2.segs = s.segs := rfl
@[simp] theorem draw_dram (s : State) : s.draw.2.dram = s.dram := rfl
@[simp] theorem draw_hashKey (s : State) : s.draw.2.hashKey = s.hashKey := rfl
@[simp] theorem draw_tones (s : State) : s.draw.2.tones = s.tones := rfl
@[simp] theorem draw_hots (s : State) : s.draw.2.hots = s.hots := rfl
@[simp] theorem draw_banks (s : State) : s.draw.2.banks = s.banks := rfl
@[simp] theorem draw_rf (s : State) : s.draw.2.rf = s.rf := rfl
@[simp] theorem draw_fb (s : State) : s.draw.2.fb = s.fb := rfl
@[simp] theorem draw_groups (s : State) : s.draw.2.groups = s.groups := rfl
@[simp] theorem draw_adc (s : State) : s.draw.2.adc = s.adc := rfl
@[simp] theorem draw_crus (s : State) : s.draw.2.crus = s.crus := rfl
@[simp] theorem draw_waiting (s : State) : s.draw.2.waiting = s.waiting := rfl
@[simp] theorem draw_notes (s : State) : s.draw.2.notes = s.notes := rfl
@[simp] theorem draw_timers (s : State) : s.draw.2.timers = s.timers := rfl
@[simp] theorem draw_pulses (s : State) : s.draw.2.pulses = s.pulses := rfl
@[simp] theorem draw_ports (s : State) : s.draw.2.ports = s.ports := rfl
@[simp] theorem draw_losses (s : State) : s.draw.2.losses = s.losses := rfl
@[simp] theorem draw_cast (s : State) : s.draw.2.cast = s.cast := rfl
@[simp] theorem draw_sys (s : State) : s.draw.2.sys = s.sys := rfl
@[simp] theorem draw_txq (s : State) : s.draw.2.txq = s.txq := rfl
@[simp] theorem draw_cap (s : State) : s.draw.2.cap = s.cap := rfl
@[simp] theorem draw_tiu (s : State) : s.draw.2.tiu = s.tiu := rfl
@[simp] theorem draw_tiuLast (s : State) : s.draw.2.tiuLast = s.tiuLast := rfl
@[simp] theorem draw_sessions (s : State) : s.draw.2.sessions = s.sessions := rfl
@[simp] theorem draw_handshakes (s : State) : s.draw.2.handshakes = s.handshakes := rfl
@[simp] theorem draw_nextSid (s : State) : s.draw.2.nextSid = s.nextSid := rfl
@[simp] theorem draw_checks (s : State) : s.draw.2.checks = s.checks := rfl
@[simp] theorem draw_kept (s : State) : s.draw.2.kept = s.kept := rfl
@[simp] theorem draw_rawSid (s : State) : s.draw.2.rawSid = s.rawSid := rfl
@[simp] theorem draw_lateArrivals (s : State) : s.draw.2.lateArrivals = s.lateArrivals := rfl
@[simp] theorem draw_strayPackets (s : State) : s.draw.2.strayPackets = s.strayPackets := rfl
@[simp] theorem draw_echoes (s : State) : s.draw.2.echoes = s.echoes := rfl
@[simp] theorem draw_creds (s : State) : s.draw.2.creds = s.creds := rfl
@[simp] theorem draw_arc (s : State) : s.draw.2.arc = s.arc := rfl
@[simp] theorem draw_log (s : State) : s.draw.2.log = s.log := rfl
@[simp] theorem draw_fw (s : State) : s.draw.2.fw = s.fw := rfl
@[simp] theorem draw_reports (s : State) : s.draw.2.reports = s.reports := rfl
@[simp] theorem draw_cmk (s : State) : s.draw.2.cmk = s.cmk := rfl
@[simp] theorem draw_nv (s : State) : s.draw.2.nv = s.nv := rfl
@[simp] theorem draw_fuses (s : State) : s.draw.2.fuses = s.fuses := rfl
@[simp] theorem draw_fuseShadow (s : State) : s.draw.2.fuseShadow = s.fuseShadow := rfl
@[simp] theorem draw_cryo (s : State) : s.draw.2.cryo = s.cryo := rfl
@[simp] theorem draw_supply (s : State) : s.draw.2.supply = s.supply := rfl
@[simp] theorem draw_spares (s : State) : s.draw.2.spares = s.spares := rfl
@[simp] theorem draw_thermal (s : State) : s.draw.2.thermal = s.thermal := rfl
@[simp] theorem draw_boot (s : State) : s.draw.2.boot = s.boot := rfl
@[simp] theorem draw_fault (s : State) : s.draw.2.fault = s.fault := rfl

end Sys2Proof.Machine.State
end

