-- ==== Sys2Proof/Laws/Table.lean ====
section
/-! SUPPORT. Sparse tables: a read after a write, and that every operation keeps the canonical form. -/

namespace Sys2Proof

/-- A key below the bound of a canonical table is not listed. -/
theorem Tbl.get_below {α : Type} [DecidableEq α] (d : Nat → α) (e : α) (l : Tbl α) (lo k : Nat) (h : Tbl.wfFrom d lo l = true)
    (hk : k < lo) : Tbl.get l k e = e := by
  induction l generalizing lo with
  | nil => rfl
  | cons x r ih =>
    obtain ⟨k', v⟩ := x
    simp only [Tbl.wfFrom, Bool.and_eq_true, decide_eq_true_eq] at h
    have : k' ≠ k := by omega
    simp only [Tbl.get, this, if_false]
    exact ih (k' + 1) h.2 (by omega)

/-- A canonical table stays canonical under a lower bound. -/
theorem Tbl.wfFrom_mono {α : Type} [DecidableEq α] (d : Nat → α) (l : Tbl α) (lo lo' : Nat) (h : Tbl.wfFrom d lo l = true)
    (hl : lo' ≤ lo) : Tbl.wfFrom d lo' l = true := by
  cases l with
  | nil => rfl
  | cons x r =>
    obtain ⟨k', v⟩ := x
    simp only [Tbl.wfFrom, Bool.and_eq_true, decide_eq_true_eq] at h ⊢
    exact ⟨⟨by omega, h.1.2⟩, h.2⟩

/-- Removing a key keeps the form. -/
theorem Tbl.wfFrom_drop {α : Type} [DecidableEq α] (d : Nat → α) (l : Tbl α) (lo k : Nat) (h : Tbl.wfFrom d lo l = true) :
    Tbl.wfFrom d lo (Tbl.drop l k) = true := by
  induction l generalizing lo with
  | nil => rfl
  | cons x r ih =>
    obtain ⟨k', v⟩ := x
    have h0 := h
    simp only [Tbl.wfFrom, Bool.and_eq_true, decide_eq_true_eq] at h
    simp only [Tbl.drop]
    split
    · exact Tbl.wfFrom_mono d r (k' + 1) lo h.2 (by omega)
    · split
      · exact h0
      · simp only [Tbl.wfFrom, Bool.and_eq_true, decide_eq_true_eq]
        exact ⟨h.1, ih (k' + 1) h.2⟩

/-- Inserting a value that is not what the key reads as unlisted keeps the form. -/
theorem Tbl.wfFrom_insert {α : Type} [DecidableEq α] (d : Nat → α) (l : Tbl α) (lo k : Nat) (v : α) (h : Tbl.wfFrom d lo l = true)
    (hv : v ≠ d k) (hk : lo ≤ k) : Tbl.wfFrom d lo (Tbl.insert l k v) = true := by
  induction l generalizing lo with
  | nil => simp [Tbl.insert, Tbl.wfFrom, hv, hk]
  | cons x r ih =>
    obtain ⟨k', v'⟩ := x
    simp only [Tbl.wfFrom, Bool.and_eq_true, decide_eq_true_eq] at h
    simp only [Tbl.insert]
    split
    · next e => subst e; simp [Tbl.wfFrom, hv, hk, h.2]
    · split
      · simp only [Tbl.wfFrom, Bool.and_eq_true, decide_eq_true_eq]
        exact ⟨⟨hk, hv⟩, ⟨⟨by omega, h.1.2⟩, h.2⟩⟩
      · simp only [Tbl.wfFrom, Bool.and_eq_true, decide_eq_true_eq]
        exact ⟨h.1, ih (k' + 1) h.2 (by omega)⟩

/-- A write keeps the form. -/
theorem Tbl.wf_put {α : Type} [DecidableEq α] (d : Nat → α) (l : Tbl α) (k : Nat) (v : α) (h : Tbl.wf d l = true) :
    Tbl.wf d (Tbl.put l k v (d k)) = true := by
  unfold Tbl.put
  split
  · exact Tbl.wfFrom_drop d l 0 k h
  · next hv => exact Tbl.wfFrom_insert d l 0 k v h hv (Nat.zero_le k)

/-- Reading a key just removed. -/
theorem Tbl.get_drop_same {α : Type} [DecidableEq α] (d : Nat → α) (e : α) (l : Tbl α) (lo k : Nat) (h : Tbl.wfFrom d lo l = true) :
    Tbl.get (Tbl.drop l k) k e = e := by
  induction l generalizing lo with
  | nil => rfl
  | cons x r ih =>
    obtain ⟨k', v⟩ := x
    simp only [Tbl.wfFrom, Bool.and_eq_true, decide_eq_true_eq] at h
    simp only [Tbl.drop]
    split
    · next e' => subst e'; exact Tbl.get_below d e r (k' + 1) k' h.2 (by omega)
    · next hne =>
      split
      · have : k' ≠ k := hne
        simp only [Tbl.get, this, if_false]
        exact Tbl.get_below d e r (k' + 1) k h.2 (by omega)
      · simp only [Tbl.get, hne, if_false]
        exact ih (k' + 1) h.2

/-- Reading another key than the one removed. -/
theorem Tbl.get_drop_other {α : Type} (e : α) (l : Tbl α) (k j : Nat) (hj : j ≠ k) : Tbl.get (Tbl.drop l k) j e = Tbl.get l j e := by
  induction l with
  | nil => rfl
  | cons x r ih =>
    obtain ⟨k', v⟩ := x
    simp only [Tbl.drop]
    split
    · next e' => subst e'; simp [Tbl.get, Ne.symm hj]
    · split
      · rfl
      · simp only [Tbl.get, ih]

theorem Tbl.get_insert_same {α : Type} (e : α) (l : Tbl α) (k : Nat) (v : α) : Tbl.get (Tbl.insert l k v) k e = v := by
  induction l with
  | nil => simp [Tbl.insert, Tbl.get]
  | cons x r ih =>
    obtain ⟨k', v'⟩ := x
    simp only [Tbl.insert]
    split
    · simp [Tbl.get]
    · next hne =>
      split
      · simp [Tbl.get]
      · simp only [Tbl.get, hne, if_false, ih]

theorem Tbl.get_insert_other {α : Type} (e : α) (l : Tbl α) (k j : Nat) (v : α) (hj : j ≠ k) :
    Tbl.get (Tbl.insert l k v) j e = Tbl.get l j e := by
  induction l with
  | nil => simp [Tbl.insert, Tbl.get, Ne.symm hj]
  | cons x r ih =>
    obtain ⟨k', v'⟩ := x
    simp only [Tbl.insert]
    split
    · next e' => subst e'; simp [Tbl.get, Ne.symm hj]
    · split
      · simp [Tbl.get, Ne.symm hj]
      · simp only [Tbl.get, ih]

/-- A read after a write of the same key. -/
theorem Tbl.get_put_same {α : Type} [DecidableEq α] (d : Nat → α) (l : Tbl α) (k : Nat) (v : α) (h : Tbl.wf d l = true) :
    Tbl.get (Tbl.put l k v (d k)) k (d k) = v := by
  unfold Tbl.put
  split
  · next hv => rw [Tbl.get_drop_same d (d k) l 0 k h, hv]
  · exact Tbl.get_insert_same (d k) l k v

/-- A write leaves every other key alone. -/
theorem Tbl.get_put_other {α : Type} [DecidableEq α] (l : Tbl α) (k j : Nat) (v d e : α) (hj : j ≠ k) :
    Tbl.get (Tbl.put l k v d) j e = Tbl.get l j e := by
  unfold Tbl.put
  split
  · exact Tbl.get_drop_other e l k j hj
  · exact Tbl.get_insert_other e l k j v hj

/-- The empty table has the form. -/
theorem Tbl.wf_nil {α : Type} [DecidableEq α] (d : Nat → α) : Tbl.wf d [] = true := rfl

end Sys2Proof
end

