-- ==== Sys2Proof/Laws/Memory.lean ====
section
/-! SUPPORT. Reading back what was written: registers and their fields, the tables of blocks, and the pattern store, whose
canonical form every memory operation keeps. -/

namespace Sys2Proof.Machine

/-! ### Register fields -/

/-- A word with one field replaced, as a sum: what lies above, the field, what lies below. -/
theorem withField_toNat (w : W32) (hi lo v : Nat) (hl : lo ≤ hi) (h : hi ≤ 31) :
    (withField w hi lo v).toNat = (w.toNat / 2 ^ lo / 2 ^ (hi - lo + 1) * 2 ^ (hi - lo + 1) + v % 2 ^ (hi - lo + 1)) * 2 ^ lo
      + w.toNat % 2 ^ lo := by
  have hw := w.isLt
  have hp : 0 < 2 ^ lo := by positivity
  have hn : 0 < 2 ^ (hi - lo + 1) := by positivity
  have e1 : 2 ^ lo * (w.toNat / 2 ^ lo) + w.toNat % 2 ^ lo = w.toNat := Nat.div_add_mod _ _
  have e2 : 2 ^ (hi - lo + 1) * (w.toNat / 2 ^ lo / 2 ^ (hi - lo + 1)) + w.toNat / 2 ^ lo % 2 ^ (hi - lo + 1) = w.toNat / 2 ^ lo :=
    Nat.div_add_mod _ _
  have e3 : (w.toNat / 2 ^ lo / 2 ^ (hi - lo + 1)) = w.toNat / (2 ^ lo * 2 ^ (hi - lo + 1)) := Nat.div_div_eq_div_mul _ _ _
  have e4 : 2 ^ lo * 2 ^ (hi - lo + 1) * 2 ^ (31 - hi) = 2 ^ 32 := by
    rw [← Nat.pow_add, ← Nat.pow_add]; congr 1; omega
  have hv : v % 2 ^ (hi - lo + 1) < 2 ^ (hi - lo + 1) := Nat.mod_lt _ hn
  have hr : w.toNat % 2 ^ lo < 2 ^ lo := Nat.mod_lt _ hp
  have hA : w.toNat / (2 ^ lo * 2 ^ (hi - lo + 1)) < 2 ^ (31 - hi) := by
    apply Nat.div_lt_of_lt_mul; rw [e4]; exact hw
  unfold withField fieldOf
  rw [BitVec.toNat_ofNat]
  rw [← e3] at hA
  generalize w.toNat / 2 ^ lo / 2 ^ (hi - lo + 1) = A at *
  generalize w.toNat / 2 ^ lo % 2 ^ (hi - lo + 1) = F at *
  generalize v % 2 ^ (hi - lo + 1) = V at *
  generalize w.toNat % 2 ^ lo = B at *
  generalize w.toNat / 2 ^ lo = Q at *
  generalize 2 ^ lo = P at *
  generalize 2 ^ (hi - lo + 1) = N at *
  generalize 2 ^ (31 - hi) = M at *
  have e5 : w.toNat - F * P = A * N * P + B := by
    rw [← e1, ← e2]; have : P * (N * A + F) = A * N * P + F * P := by ring
    rw [this]; omega
  rw [e5]
  have e6 : A * N * P + B + V * P = (A * N + V) * P + B := by ring
  rw [e6]
  apply Nat.mod_eq_of_lt
  have : (A * N + V + 1) * P ≤ M * N * P := by
    apply Nat.mul_le_mul_right
    have : (A + 1) * N ≤ M * N := Nat.mul_le_mul_right N hA
    calc A * N + V + 1 ≤ A * N + N := by omega
      _ = (A + 1) * N := by ring
      _ ≤ M * N := this
  calc (A * N + V) * P + B < (A * N + V) * P + P := by omega
    _ = (A * N + V + 1) * P := by ring
    _ ≤ M * N * P := this
    _ = P * N * M := by ring
    _ = 2 ^ 32 := e4

/-- A field reads as what was written to it, within its width. -/
theorem fieldOf_withField (w : W32) (hi lo v : Nat) (hl : lo ≤ hi) (h : hi ≤ 31) :
    fieldOf (withField w hi lo v) hi lo = v % 2 ^ (hi - lo + 1) := by
  have hp : 0 < 2 ^ lo := by positivity
  unfold fieldOf
  rw [withField_toNat w hi lo v hl h, Nat.mul_comm, Nat.mul_add_div hp, Nat.div_eq_of_lt (Nat.mod_lt _ hp), Nat.add_zero,
    Nat.add_comm, Nat.add_mul_mod_self_right, Nat.mod_mod]

/-- A field below the one written is unchanged. -/
theorem fieldOf_withField_below (w : W32) (hi lo v hi' lo' : Nat) (hl : lo ≤ hi) (h : hi ≤ 31) (hl' : lo' ≤ hi') (hb : hi' < lo) :
    fieldOf (withField w hi lo v) hi' lo' = fieldOf w hi' lo' := by
  unfold fieldOf
  rw [withField_toNat w hi lo v hl h]
  have e : 2 ^ lo = 2 ^ lo' * (2 ^ (hi' - lo' + 1) * 2 ^ (lo - hi' - 1)) := by
    rw [← Nat.pow_add, ← Nat.pow_add]; congr 1; omega
  have hp : 0 < 2 ^ lo' := by positivity
  have key : ∀ X : Nat, (X * 2 ^ lo + w.toNat % 2 ^ lo) / 2 ^ lo' % 2 ^ (hi' - lo' + 1)
      = w.toNat % 2 ^ lo / 2 ^ lo' % 2 ^ (hi' - lo' + 1) := by
    intro X
    have : X * 2 ^ lo = 2 ^ lo' * (2 ^ (hi' - lo' + 1) * (X * 2 ^ (lo - hi' - 1))) := by rw [e]; ring
    rw [this, Nat.mul_add_div hp, Nat.mul_add_mod]
  rw [key]
  have k2 := key (w.toNat / 2 ^ lo)
  rw [Nat.mul_comm, Nat.div_add_mod] at k2
  exact k2.symm

/-- A field above the one written is unchanged. -/
theorem fieldOf_withField_above (w : W32) (hi lo v hi' lo' : Nat) (hl : lo ≤ hi) (h : hi ≤ 31) (hb : hi < lo') :
    fieldOf (withField w hi lo v) hi' lo' = fieldOf w hi' lo' := by
  unfold fieldOf
  rw [withField_toNat w hi lo v hl h]
  congr 1
  have e : 2 ^ lo' = 2 ^ lo * 2 ^ (hi - lo + 1) * 2 ^ (lo' - hi - 1) := by
    rw [← Nat.pow_add, ← Nat.pow_add]; congr 1; omega
  have hp : 0 < 2 ^ lo := by positivity
  have hn : 0 < 2 ^ (hi - lo + 1) := by positivity
  have hv : v % 2 ^ (hi - lo + 1) < 2 ^ (hi - lo + 1) := Nat.mod_lt _ hn
  rw [e, ← Nat.div_div_eq_div_mul, ← Nat.div_div_eq_div_mul, ← Nat.div_div_eq_div_mul, ← Nat.div_div_eq_div_mul]
  congr 1
  rw [Nat.mul_comm, Nat.mul_add_div hp, Nat.div_eq_of_lt (Nat.mod_lt _ hp), Nat.add_zero, Nat.mul_comm, Nat.mul_add_div hn,
    Nat.div_eq_of_lt hv, Nat.add_zero]

namespace State

/-- The register file keeps its canonical form. -/
theorem regs_wf_setReg (s : State) (a : Nat) (v : W32) (h : Tbl.wf resetWord s.regs = true) :
    Tbl.wf resetWord (s.setReg a v).regs = true := Tbl.wf_put resetWord s.regs a v h
theorem reg_setReg_same (s : State) (a : Nat) (v : W32) (h : Tbl.wf resetWord s.regs = true) : (s.setReg a v).reg a = v :=
  Tbl.get_put_same resetWord s.regs a v h
theorem reg_setReg_other (s : State) (a b : Nat) (v : W32) (hb : b ≠ a) : (s.setReg a v).reg b = s.reg b :=
  Tbl.get_put_other s.regs a b v (resetWord a) (resetWord b) hb
/-- The field written reads back. -/
theorem fld_setFld_same (s : State) (a hi lo v : Nat) (h : Tbl.wf resetWord s.regs = true) (hl : lo ≤ hi) (h31 : hi ≤ 31) :
    (s.setFld a hi lo v).fld a hi lo = v % 2 ^ (hi - lo + 1) := by
  unfold setFld fld; rw [reg_setReg_same s a _ h, fieldOf_withField _ _ _ _ hl h31]
/-- A field of another register is unchanged. -/
theorem fld_setFld_other (s : State) (a b hi lo v hi' lo' : Nat) (hb : b ≠ a) :
    (s.setFld a hi lo v).fld b hi' lo' = s.fld b hi' lo' := by
  unfold setFld fld; rw [reg_setReg_other s a b _ hb]
/-- A bit written reads back. -/
theorem bit_setBit_same (s : State) (a n : Nat) (b : Bool) (h : Tbl.wf resetWord s.regs = true) (hn : n ≤ 31) :
    (s.setBit a n b).bit a n = b := by
  unfold setBit bit; rw [fld_setFld_same s a n n _ h (Nat.le_refl n) hn]
  cases b <;> simp

/-! ### Engine -/

theorem engines_wf_setEng (s : State) (k : Nat) (x : Engine) (h : Tbl.wf (fun _ => Engine.init) s.engines = true) :
    Tbl.wf (fun _ => Engine.init) (s.setEng k x).engines = true := Tbl.wf_put (fun _ => Engine.init) s.engines k x h
theorem eng_setEng_same (s : State) (k : Nat) (x : Engine) (h : Tbl.wf (fun _ => Engine.init) s.engines = true) :
    (s.setEng k x).eng k = x := Tbl.get_put_same (fun _ => Engine.init) s.engines k x h
theorem eng_setEng_other (s : State) (k j : Nat) (x : Engine) (h : j ≠ k) : (s.setEng k x).eng j = s.eng j :=
  Tbl.get_put_other s.engines k j x Engine.init Engine.init h

/-! ### Tone -/

theorem tones_wf_setTone (s : State) (k : Nat) (x : Tone) (h : Tbl.wf (fun _ => Tone.init) s.tones = true) :
    Tbl.wf (fun _ => Tone.init) (s.setTone k x).tones = true := Tbl.wf_put (fun _ => Tone.init) s.tones k x h
theorem tone_setTone_same (s : State) (k : Nat) (x : Tone) (h : Tbl.wf (fun _ => Tone.init) s.tones = true) :
    (s.setTone k x).tone k = x := Tbl.get_put_same (fun _ => Tone.init) s.tones k x h
theorem tone_setTone_other (s : State) (k j : Nat) (x : Tone) (h : j ≠ k) : (s.setTone k x).tone j = s.tone j :=
  Tbl.get_put_other s.tones k j x Tone.init Tone.init h

/-! ### Hot -/

theorem hots_wf_setHot (s : State) (k : Nat) (x : Hot) (h : Tbl.wf (fun _ => Hot.init) s.hots = true) :
    Tbl.wf (fun _ => Hot.init) (s.setHot k x).hots = true := Tbl.wf_put (fun _ => Hot.init) s.hots k x h
theorem hot_setHot_same (s : State) (k : Nat) (x : Hot) (h : Tbl.wf (fun _ => Hot.init) s.hots = true) :
    (s.setHot k x).hot k = x := Tbl.get_put_same (fun _ => Hot.init) s.hots k x h
theorem hot_setHot_other (s : State) (k j : Nat) (x : Hot) (h : j ≠ k) : (s.setHot k x).hot j = s.hot j :=
  Tbl.get_put_other s.hots k j x Hot.init Hot.init h

/-! ### Seg -/

theorem segs_wf_setSeg (s : State) (k : Nat) (x : Seg) (h : Tbl.wf (fun _ => Seg.init) s.segs = true) :
    Tbl.wf (fun _ => Seg.init) (s.setSeg k x).segs = true := Tbl.wf_put (fun _ => Seg.init) s.segs k x h
theorem seg_setSeg_same (s : State) (k : Nat) (x : Seg) (h : Tbl.wf (fun _ => Seg.init) s.segs = true) :
    (s.setSeg k x).seg k = x := Tbl.get_put_same (fun _ => Seg.init) s.segs k x h
theorem seg_setSeg_other (s : State) (k j : Nat) (x : Seg) (h : j ≠ k) : (s.setSeg k x).seg j = s.seg j :=
  Tbl.get_put_other s.segs k j x Seg.init Seg.init h

/-! ### Bank -/

theorem banks_wf_setBank (s : State) (k : Nat) (x : Bank) (h : Tbl.wf (fun _ => Bank.init) s.banks = true) :
    Tbl.wf (fun _ => Bank.init) (s.setBank k x).banks = true := Tbl.wf_put (fun _ => Bank.init) s.banks k x h
theorem bank_setBank_same (s : State) (k : Nat) (x : Bank) (h : Tbl.wf (fun _ => Bank.init) s.banks = true) :
    (s.setBank k x).bank k = x := Tbl.get_put_same (fun _ => Bank.init) s.banks k x h
theorem bank_setBank_other (s : State) (k j : Nat) (x : Bank) (h : j ≠ k) : (s.setBank k x).bank j = s.bank j :=
  Tbl.get_put_other s.banks k j x Bank.init Bank.init h

/-! ### RfChan -/

theorem rf_wf_setRfch (s : State) (k : Nat) (x : RfChan) (h : Tbl.wf (fun _ => RfChan.init) s.rf = true) :
    Tbl.wf (fun _ => RfChan.init) (s.setRfch k x).rf = true := Tbl.wf_put (fun _ => RfChan.init) s.rf k x h
theorem rfch_setRfch_same (s : State) (k : Nat) (x : RfChan) (h : Tbl.wf (fun _ => RfChan.init) s.rf = true) :
    (s.setRfch k x).rfch k = x := Tbl.get_put_same (fun _ => RfChan.init) s.rf k x h
theorem rfch_setRfch_other (s : State) (k j : Nat) (x : RfChan) (h : j ≠ k) : (s.setRfch k x).rfch j = s.rfch j :=
  Tbl.get_put_other s.rf k j x RfChan.init RfChan.init h

/-! ### FbChan -/

theorem fb_wf_setFbch (s : State) (k : Nat) (x : FbChan) (h : Tbl.wf (fun _ => FbChan.init) s.fb = true) :
    Tbl.wf (fun _ => FbChan.init) (s.setFbch k x).fb = true := Tbl.wf_put (fun _ => FbChan.init) s.fb k x h
theorem fbch_setFbch_same (s : State) (k : Nat) (x : FbChan) (h : Tbl.wf (fun _ => FbChan.init) s.fb = true) :
    (s.setFbch k x).fbch k = x := Tbl.get_put_same (fun _ => FbChan.init) s.fb k x h
theorem fbch_setFbch_other (s : State) (k j : Nat) (x : FbChan) (h : j ≠ k) : (s.setFbch k x).fbch j = s.fbch j :=
  Tbl.get_put_other s.fb k j x FbChan.init FbChan.init h

/-! ### Group -/

theorem groups_wf_setGrp (s : State) (k : Nat) (x : Group) (h : Tbl.wf (fun _ => Group.init) s.groups = true) :
    Tbl.wf (fun _ => Group.init) (s.setGrp k x).groups = true := Tbl.wf_put (fun _ => Group.init) s.groups k x h
theorem grp_setGrp_same (s : State) (k : Nat) (x : Group) (h : Tbl.wf (fun _ => Group.init) s.groups = true) :
    (s.setGrp k x).grp k = x := Tbl.get_put_same (fun _ => Group.init) s.groups k x h
theorem grp_setGrp_other (s : State) (k j : Nat) (x : Group) (h : j ≠ k) : (s.setGrp k x).grp j = s.grp j :=
  Tbl.get_put_other s.groups k j x Group.init Group.init h

/-! ### AdcChan -/

theorem adc_wf_setAdcch (s : State) (k : Nat) (x : AdcChan) (h : Tbl.wf (fun _ => AdcChan.init) s.adc = true) :
    Tbl.wf (fun _ => AdcChan.init) (s.setAdcch k x).adc = true := Tbl.wf_put (fun _ => AdcChan.init) s.adc k x h
theorem adcch_setAdcch_same (s : State) (k : Nat) (x : AdcChan) (h : Tbl.wf (fun _ => AdcChan.init) s.adc = true) :
    (s.setAdcch k x).adcch k = x := Tbl.get_put_same (fun _ => AdcChan.init) s.adc k x h
theorem adcch_setAdcch_other (s : State) (k j : Nat) (x : AdcChan) (h : j ≠ k) : (s.setAdcch k x).adcch j = s.adcch j :=
  Tbl.get_put_other s.adc k j x AdcChan.init AdcChan.init h

/-! ### Cru -/

theorem crus_wf_setCru (s : State) (k : Nat) (x : Cru) (h : Tbl.wf (fun _ => Cru.init) s.crus = true) :
    Tbl.wf (fun _ => Cru.init) (s.setCru k x).crus = true := Tbl.wf_put (fun _ => Cru.init) s.crus k x h
theorem cru_setCru_same (s : State) (k : Nat) (x : Cru) (h : Tbl.wf (fun _ => Cru.init) s.crus = true) :
    (s.setCru k x).cru k = x := Tbl.get_put_same (fun _ => Cru.init) s.crus k x h
theorem cru_setCru_other (s : State) (k j : Nat) (x : Cru) (h : j ≠ k) : (s.setCru k x).cru j = s.cru j :=
  Tbl.get_put_other s.crus k j x Cru.init Cru.init h

/-! ### Port -/

theorem ports_wf_setPort (s : State) (k : Nat) (x : Port) (h : Tbl.wf (fun _ => Port.init) s.ports = true) :
    Tbl.wf (fun _ => Port.init) (s.setPort k x).ports = true := Tbl.wf_put (fun _ => Port.init) s.ports k x h
theorem port_setPort_same (s : State) (k : Nat) (x : Port) (h : Tbl.wf (fun _ => Port.init) s.ports = true) :
    (s.setPort k x).port k = x := Tbl.get_put_same (fun _ => Port.init) s.ports k x h
theorem port_setPort_other (s : State) (k j : Nat) (x : Port) (h : j ≠ k) : (s.setPort k x).port j = s.port j :=
  Tbl.get_put_other s.ports k j x Port.init Port.init h

/-! ### Tiu -/

theorem tiu_wf_setTiu (s : State) (k : Nat) (x : Tiu) (h : Tbl.wf (fun _ => Tiu.init) s.tiu = true) :
    Tbl.wf (fun _ => Tiu.init) (s.setTiu k x).tiu = true := Tbl.wf_put (fun _ => Tiu.init) s.tiu k x h
theorem tiuUnit_setTiu_same (s : State) (k : Nat) (x : Tiu) (h : Tbl.wf (fun _ => Tiu.init) s.tiu = true) :
    (s.setTiu k x).tiuUnit k = x := Tbl.get_put_same (fun _ => Tiu.init) s.tiu k x h
theorem tiuUnit_setTiu_other (s : State) (k j : Nat) (x : Tiu) (h : j ≠ k) : (s.setTiu k x).tiuUnit j = s.tiuUnit j :=
  Tbl.get_put_other s.tiu k j x Tiu.init Tiu.init h

/-! ### The pattern store -/

theorem dram_wf_setMem (s : State) (a : Nat) (b : Byte) (h : Memory.wf s.dram = true) : Memory.wf (s.setMem a b).dram = true :=
  Tbl.wf_put (fun _ => (0 : Byte)) s.dram a b h
theorem mem_setMem_same (s : State) (a : Nat) (b : Byte) (h : Memory.wf s.dram = true) : (s.setMem a b).mem a = b :=
  Tbl.get_put_same (fun _ => (0 : Byte)) s.dram a b h
theorem mem_setMem_other (s : State) (a c : Nat) (b : Byte) (h : c ≠ a) : (s.setMem a b).mem c = s.mem c :=
  Tbl.get_put_other s.dram a c b 0 0 h

/-- Storing bytes keeps the canonical form. -/
theorem dram_wf_storeBytes (s : State) (a : Nat) (l : List Byte) (h : Memory.wf s.dram = true) :
    Memory.wf (s.storeBytes a l).dram = true := by
  induction l generalizing s a with
  | nil => exact h
  | cons b r ih => exact ih (s.setMem a b) (a + 1) (dram_wf_setMem s a b h)
/-- Storing into a ring keeps the canonical form. -/
theorem dram_wf_storeRing (s : State) (base share pos : Nat) (l : List Byte) (h : Memory.wf s.dram = true) :
    Memory.wf (s.storeRing base share pos l).dram = true := by
  induction l generalizing s pos with
  | nil => exact h
  | cons b r ih => exact ih (s.setMem (base + pos % share) b) (pos + 1) (dram_wf_setMem s _ b h)
/-- Reset memory lists nothing and has the form. -/
theorem dram_wf_reset : Memory.wf State.reset.dram = true := rfl

/-- A store leaves every byte outside its own alone. -/
theorem mem_storeBytes_outside (s : State) (a c : Nat) (l : List Byte) (h : c < a ∨ a + l.length ≤ c) :
    (s.storeBytes a l).mem c = s.mem c := by
  induction l generalizing s a with
  | nil => rfl
  | cons b r ih =>
    simp only [List.length_cons] at h
    have := ih (s.setMem a b) (a + 1) (by omega)
    simp only [storeBytes]
    rw [this, mem_setMem_other s a c b (by omega)]
/-- A store's own bytes read as stored. -/
theorem mem_storeBytes_inside (s : State) (a i : Nat) (l : List Byte) (h : Memory.wf s.dram = true) (hi : i < l.length) :
    (s.storeBytes a l).mem (a + i) = l.getD i 0 := by
  induction l generalizing s a i with
  | nil => simp at hi
  | cons b r ih =>
    simp only [storeBytes]
    cases i with
    | zero => simp only [Nat.add_zero, List.getD_cons_zero]
              rw [mem_storeBytes_outside _ _ _ _ (by omega), mem_setMem_same s a b h]
    | succ i =>
      have := ih (s.setMem a b) (a + 1) i (dram_wf_setMem s a b h) (by simp at hi; omega)
      simp only [List.getD_cons_succ]
      rw [← this]; congr 1; omega
/-- Storing changes nothing but the store. -/
theorem storeBytes_eq (s : State) (a : Nat) (l : List Byte) : s.storeBytes a l = { s with dram := (s.storeBytes a l).dram } := by
  induction l generalizing s a with
  | nil => rfl
  | cons b r ih => simp only [storeBytes]; rw [ih (s.setMem a b) (a + 1)]; rfl
theorem storeRing_eq (s : State) (base share pos : Nat) (l : List Byte) :
    s.storeRing base share pos l = { s with dram := (s.storeRing base share pos l).dram } := by
  induction l generalizing s pos with
  | nil => rfl
  | cons b r ih => simp only [storeRing]; rw [ih (s.setMem (base + pos % share) b) (pos + 1)]; rfl

/-! ### Folds -/

/-- What each step of a fold keeps, the fold keeps. -/
theorem each_keeps {α β : Type} (P : State → β) (l : List α) (f : State → α → State) (h : ∀ s a, P (f s a) = P s) (s : State) :
    P (s.each l f) = P s := by
  unfold each
  induction l generalizing s with
  | nil => rfl
  | cons a r ih => rw [List.foldl_cons, ih (f s a), h]
/-- A property that each step of a fold keeps, the fold keeps. -/
theorem each_inv {α : Type} (P : State → Prop) (l : List α) (f : State → α → State) (h : ∀ s a, P s → P (f s a)) (s : State)
    (hs : P s) : P (s.each l f) := by
  unfold each
  induction l generalizing s with
  | nil => exact hs
  | cons a r ih => rw [List.foldl_cons]; exact ih (f s a) (h s a hs)

end State

end Sys2Proof.Machine
end

