-- ==== Sys2Proof/Laws/Keep.lean ====
section
/-! SUPPORT. What each shared operation leaves alone: the queue, the credentials, the anti-rollback counters, the fuses and the
pattern store; operations that touch the store or the power keep the rest, and the store keeps its form. -/

namespace Sys2Proof.Machine

/-! ### Ops -/

/-- What most commands leave alone: the queue, the credentials, the anti-rollback counters, the fuses and the pattern store. -/
def State.keep (s : State) : List Instr × Tbl Cred × Tbl W32 × Tbl W64 × List Host.Cell :=
  (s.pending, s.creds, s.arc, s.fuses, s.dram)

@[simp] theorem State.keep_mk (s : State) (x_free : Nat) (x_sent : List Sent) (x_clock : Clock) (x_regs : Tbl W32) (x_engines : Tbl Engine) (x_prog : Tbl ProgWord) (x_clusterImg : Tbl (List Byte)) (x_cruImg : Tbl (List Byte)) (x_images : Tbl Image) (x_nextHandle : W32) (x_runs : List Run) (x_nextRun : W32) (x_rates : Rates) (x_dues : List CondDue) (x_results : List ResRec) (x_segs : Tbl Seg) (x_hashKey : W64) (x_tones : Tbl Tone) (x_hots : Tbl Hot) (x_banks : Tbl Bank) (x_rf : Tbl RfChan) (x_fb : Tbl FbChan) (x_groups : Tbl Group) (x_adc : Tbl AdcChan) (x_crus : Tbl Cru) (x_waiting : List (TaskInput × Ev)) (x_notes : Tbl FlagNote) (x_timers : Tbl TimerRun) (x_pulses : Tbl TrigOut) (x_ports : Tbl Port) (x_losses : List Loss) (x_cast : CastSync) (x_sys : SysSync) (x_txq : Tbl (List TxTs)) (x_cap : Cap) (x_tiu : Tbl Tiu) (x_tiuLast : Tbl (Option Int)) (x_sessions : List Session) (x_handshakes : List Handshake) (x_nextSid : W32) (x_checks : List (Nat × CheckCtx)) (x_kept : List KeptDigest) (x_rawSid : Option W32) (x_lateArrivals : Nat) (x_strayPackets : Nat) (x_echoes : Tbl (List W64)) (x_log : Log) (x_fw : Firmware) (x_reports : List Report) (x_cmk : Cmk) (x_nv : Nv) (x_fuseShadow : Tbl W64) (x_cryo : Cryo) (x_supply : Supply) (x_spares : Spares) (x_thermal : Thermal) (x_boot : Boot) (x_fault : FaultPath) :
    State.keep ⟨s.pending, x_free, x_sent, x_clock, x_regs, x_engines, x_prog, x_clusterImg, x_cruImg, x_images, x_nextHandle, x_runs, x_nextRun, x_rates, x_dues, x_results, x_segs, s.dram, x_hashKey, x_tones, x_hots, x_banks, x_rf, x_fb, x_groups, x_adc, x_crus, x_waiting, x_notes, x_timers, x_pulses, x_ports, x_losses, x_cast, x_sys, x_txq, x_cap, x_tiu, x_tiuLast, x_sessions, x_handshakes, x_nextSid, x_checks, x_kept, x_rawSid, x_lateArrivals, x_strayPackets, x_echoes, s.creds, s.arc, x_log, x_fw, x_reports, x_cmk, x_nv, s.fuses, x_fuseShadow, x_cryo, x_supply, x_spares, x_thermal, x_boot, x_fault⟩ = s.keep := by
  simp only [State.keep]

@[simp] theorem State.each_keep {α : Type} (s : State) (l : List α) (f : State → α → State) (h : ∀ s x, (f s x).keep = s.keep) :
    (s.each l f).keep = s.keep := by
  unfold State.each
  induction l generalizing s with
  | nil => rfl
  | cons a l ih => rw [List.foldl_cons, ih, h]
@[simp] theorem State.atTick_keep (s : State) (t : Tick) (f : State → State) (h : ∀ u : State, (f u).keep = u.keep) :
    (s.atTick t f).keep = s.keep := h _
@[simp] theorem State.setReg_keep (s : State) (a : Nat) (v : W32) : (State.setReg s a v).keep = s.keep := by simp [State.setReg]
@[simp] theorem State.setFld_keep (s : State) (a hi lo v : Nat) :
    (State.setFld s a hi lo v).keep = s.keep := by simp [State.setFld]
@[simp] theorem State.setBit_keep (s : State) (a n : Nat) (b : Bool) :
    (State.setBit s a n b).keep = s.keep := by simp [State.setBit]
@[simp] theorem State.count_keep (s : State) (a hi lo n : Nat) : (State.count s a hi lo n).keep = s.keep := by simp [State.count]
@[simp] theorem State.draw_keep (s : State) : (State.draw s).2.keep = s.keep := by simp [State.draw]
@[simp] theorem State.alert_keep (s : State) (n : Nat) : (State.alert s n).keep = s.keep := by simp [State.alert]
@[simp] theorem State.emit_keep (s : State) (x : Sent) : (State.emit s x).keep = s.keep := by simp [State.emit]
@[simp] theorem State.setEng_keep (s : State) (e : Nat) (x : Engine) :
    (State.setEng s e x).keep = s.keep := by simp [State.setEng]
@[simp] theorem State.setTone_keep (s : State) (t : Nat) (x : Tone) :
    (State.setTone s t x).keep = s.keep := by simp [State.setTone]
@[simp] theorem State.setHot_keep (s : State) (k : Nat) (x : Hot) : (State.setHot s k x).keep = s.keep := by simp [State.setHot]
@[simp] theorem State.setSeg_keep (s : State) (g : Nat) (x : Seg) : (State.setSeg s g x).keep = s.keep := by simp [State.setSeg]
@[simp] theorem State.setBank_keep (s : State) (b : Nat) (x : Bank) :
    (State.setBank s b x).keep = s.keep := by simp [State.setBank]
@[simp] theorem State.setRfch_keep (s : State) (c : Nat) (x : RfChan) :
    (State.setRfch s c x).keep = s.keep := by simp [State.setRfch]
@[simp] theorem State.setFbch_keep (s : State) (c : Nat) (x : FbChan) :
    (State.setFbch s c x).keep = s.keep := by simp [State.setFbch]
@[simp] theorem State.setGrp_keep (s : State) (g : Nat) (x : Group) : (State.setGrp s g x).keep = s.keep := by simp [State.setGrp]
@[simp] theorem State.setAdcch_keep (s : State) (c : Nat) (x : AdcChan) :
    (State.setAdcch s c x).keep = s.keep := by simp [State.setAdcch]
@[simp] theorem State.setCru_keep (s : State) (c : Nat) (x : Cru) : (State.setCru s c x).keep = s.keep := by simp [State.setCru]
@[simp] theorem State.setPort_keep (s : State) (p : Nat) (x : Port) :
    (State.setPort s p x).keep = s.keep := by simp [State.setPort]
@[simp] theorem State.setTiu_keep (s : State) (u : Nat) (x : Tiu) : (State.setTiu s u x).keep = s.keep := by simp [State.setTiu]
@[simp] theorem State.setProg_keep (s : State) (e addr : Nat) (w : ProgWord) :
    (State.setProg s e addr w).keep = s.keep := by simp [State.setProg]
/-- The parts that every operation keeps but those made to change them. -/
def State.rest (s : State) : List Instr × Tbl Cred × Tbl W32 × Tbl W64 := (s.pending, s.creds, s.arc, s.fuses)

/-- What operations that may touch the pattern store do: the rest stays, and the store keeps its form. -/
def State.Steps (s t : State) : Prop := t.rest = s.rest ∧ (Memory.wf s.dram = true → Memory.wf t.dram = true)

theorem State.Steps.of_keep {s t : State} (h : t.keep = s.keep) : s.Steps t := by
  simp only [State.keep, Prod.mk.injEq] at h
  obtain ⟨h1, h2, h3, h4, h5⟩ := h
  exact ⟨by simp [State.rest, *], fun w => by rw [h5]; exact w⟩

theorem State.Steps.trans {s t u : State} (h : s.Steps t) (g : t.Steps u) : s.Steps u :=
  ⟨g.1.trans h.1, fun w => g.2 (h.2 w)⟩

theorem State.Steps.keep {s t u : State} (h : s.Steps t) (g : u.keep = t.keep) : s.Steps u := h.trans (.of_keep g)

theorem State.each_steps {α : Type} (s : State) (l : List α) (f : State → α → State) (h : ∀ (s : State) (x : α), s.Steps (f s x)) :
    s.Steps (s.each l f) := by
  unfold State.each
  induction l generalizing s with
  | nil => exact .of_keep rfl
  | cons a l ih => exact (h s a).trans (ih _)

theorem State.setMem_steps (s : State) (a : Nat) (b : Byte) : s.Steps (s.setMem a b) :=
  ⟨rfl, fun w => State.dram_wf_setMem s a b w⟩
theorem State.storeBytes_steps (s : State) (a : Nat) (l : List Byte) : s.Steps (s.storeBytes a l) := by
  induction l generalizing s a with
  | nil => exact .of_keep rfl
  | cons b r ih => exact (s.setMem_steps a b).trans (ih _ _)
@[simp] theorem State.modRun_keep (s : State) (id : W32) (f : Run → Run) :
    (State.modRun s id f).keep = s.keep := by simp [State.modRun]
@[simp] theorem State.modShot_keep (s : State) (id idx : W32) (f : Shot → Shot) :
    (State.modShot s id idx f).keep = s.keep := by simp [State.modShot]
@[simp] theorem State.modEntry_keep (s : State) (id idx : W32) (e : Nat) (f : Entry → Entry) :
    (State.modEntry s id idx e f).keep = s.keep := by simp [State.modEntry]

/-! ### Flags -/

@[simp] theorem State.condIn_keep (s : State) (h : W32 × W32 × Tick) (e : Nat) (c : Cond) (tick : Tick) :
    (State.condIn s h e c tick).keep = s.keep := by simp [State.condIn]
@[simp] theorem State.addDue_keep (s : State) (d : CondDue) : (State.addDue s d).keep = s.keep := by simp [State.addDue]
@[simp] theorem State.condAt_keep (s : State) (e : Nat) (c : Cond) (tick : Tick) :
    (State.condAt s e c tick).keep = s.keep := by unfold State.condAt; (repeat' split) <;> simp
@[simp] theorem State.condOver_keep (s : State) (e : Nat) (c : Cond) (a b : Tick) :
    (State.condOver s e c a b).keep = s.keep := by simp [State.condOver]
@[simp] theorem State.lateIn_keep (s : State) (h : W32 × W32 × Tick) (e : Nat) (tick : Tick) :
    (State.lateIn s h e tick).keep = s.keep := by simp [State.lateIn]
@[simp] theorem State.lateAt_keep (s : State) (e : Nat) (tick : Tick) :
    (State.lateAt s e tick).keep = s.keep := by unfold State.lateAt; (repeat' split) <;> simp
@[simp] theorem State.settleDues_keep (s : State) (r : Run) (h : W32 × W32 × Tick) (E : Tick) :
    (State.settleDues s r h E).keep = s.keep := by unfold State.settleDues; simp [apply_ite State.keep]
@[simp] theorem State.blockFault_keep (s : State) : (State.blockFault s).keep = s.keep := by simp [State.blockFault]
@[simp] theorem State.swapPendingPe_keep (s : State) (n : Nat) :
    (State.swapPendingPe s n).keep = s.keep := by simp [State.swapPendingPe]
@[simp] theorem State.swapPendingCru_keep (s : State) (n : Nat) :
    (State.swapPendingCru s n).keep = s.keep := by simp [State.swapPendingCru]
@[simp] theorem State.noteLead_keep (s : State) (e : Nat) (lead : Int) :
    (State.noteLead s e lead).keep = s.keep := by unfold State.noteLead; simp [apply_ite State.keep]
@[simp] theorem State.noteLate_keep (s : State) (e : Nat) (q : Queue) :
    (State.noteLate s e q).keep = s.keep := by simp [State.noteLate]

/-! ### HostOps -/

@[simp] theorem State.modSess_keep (s : State) (sid : W32) (f : Session → Session) :
    (State.modSess s sid f).keep = s.keep := by simp [State.modSess]
@[simp] theorem State.sendOne_keep (s : State) (sid : W32) (ty : Byte) (reply note cont : Bool) (ref : W32) (st : Byte) (content : List Byte) :
    (State.sendOne s sid ty reply note cont ref st content).keep = s.keep := by unfold State.sendOne; (repeat' split) <;> simp
@[simp] theorem State.sendParts_keep (s : State) (sid : W32) (ty : Byte) (reply note : Bool) (ref : W32) (st : Byte)
    (parts : List (List Byte)) : (s.sendParts sid ty reply note ref st parts).keep = s.keep := by
  induction parts generalizing s with
  | nil => rfl
  | cons p r ih => cases r with
    | nil => simp [State.sendParts]
    | cons q r => rw [State.sendParts, ih] <;> simp
@[simp] theorem State.sendMsg_keep (s : State) (sid : W32) (ty : Byte) (reply note : Bool) (ref : W32) (st : Byte) (content : List Byte) :
    (State.sendMsg s sid ty reply note ref st content).keep = s.keep := by unfold State.sendMsg; (repeat' split) <;> simp
@[simp] theorem State.reply_keep (s : State) (sid seq : W32) (ty : Byte) (st : Status) (content : List Byte) :
    (State.reply s sid seq ty st content).keep = s.keep := by simp [State.reply]
@[simp] theorem State.notify_keep (s : State) (sid : W32) (kind : Nat) (data : List Byte) :
    (State.notify s sid kind data).keep = s.keep := by simp [State.notify]
@[simp] theorem State.notifyRole_keep (s : State) (r : Role) (kind : Nat) (data : List Byte) :
    (State.notifyRole s r kind data).keep = s.keep := by simp [State.notifyRole]
@[simp] theorem State.logTake_keep (s : State) : (State.logTake s).keep = s.keep := by simp [State.logTake]
@[simp] theorem State.logAs_keep (s : State) (role : Byte) (sid : W32) (key : W64) (cls : BitVec 16) (detail : List Byte) :
    (State.logAs s role sid key cls detail).keep = s.keep := by unfold State.logAs; (repeat' split) <;> simp
@[simp] theorem State.logOwn_keep (s : State) (cls : BitVec 16) (detail : List Byte) :
    (State.logOwn s cls detail).keep = s.keep := by simp [State.logOwn]
@[simp] theorem State.logEvent_keep (s : State) (block code : Nat) (data : List Byte) :
    (State.logEvent s block code data).keep = s.keep := by simp [State.logEvent]
@[simp] theorem State.logFlush_keep (s : State) :
    (State.logFlush s).keep = s.keep := by unfold State.logFlush; (repeat' split) <;> simp
@[simp] theorem State.logNow_keep (s : State) (x : Session) (cls : BitVec 16) (flags : Byte) (detail : List Byte) :
    (State.logNow s x cls flags detail).keep = s.keep := by simp [State.logNow]
@[simp] theorem State.logRefused_keep (s : State) (x : Session) (cls : BitVec 16) (detail : List Byte) :
    (State.logRefused s x cls detail).keep = s.keep := by unfold State.logRefused; (repeat' split) <;> simp
/-- A property of states that rests on the kept parts alone. -/
def RestsOnKeep (P : State → Prop) : Prop := ∀ t u : State, u.keep = t.keep → P t → P u

/-- A property of the state that an answer carries, if it carries one. -/
def Answer.all (P : State → Prop) (a : Answer) : Prop :=
  match a with
  | .done t _ => P t
  | .refuse _ _ => True
  | .failed t _ _ => P t

theorem State.request_all (P : State → Prop) (s : State) (sid seq : W32) (ty : Byte) (role : Option Role)
    (k : Session → State → Answer) (r : RestsOnKeep P) (hs : P s) (h : ∀ x t, t.keep = s.keep → (k x t).all P) :
    P (s.request sid seq ty role k) := by
  unfold State.request
  split
  · exact hs
  · rename_i x _
    split
    · exact hs
    · rename_i q rest _
      split
      · dsimp only
        have e : (s.modSess sid (fun x => { x with inbox := rest })).keep = s.keep := by simp
        have hk := h x _ e
        generalize s.modSess sid _ = m at e hk
        generalize k x m = a at hk
        have hm : P m := r _ _ e hs
        cases role <;> dsimp only <;> (repeat' split) <;>
          first | (refine r _ _ ?_ hm; simp; done) | (refine r _ _ ?_ hk; simp; done)
      · exact hs

/-! ### CmkCore -/

@[simp] theorem State.setTrim_keep (s : State) (a : Nat) (v : W32) :
    (State.setTrim s a v).keep = s.keep := by simp [State.setTrim]
@[simp] theorem State.cmkPoke_keep (s : State) (a : Nat) (v : W32) :
    (State.cmkPoke s a v).keep = s.keep := by unfold State.cmkPoke; (repeat' split) <;> simp
@[simp] theorem State.cmkUndo_keep (s : State) : (State.cmkUndo s).keep = s.keep := by simp [State.cmkUndo]
@[simp] theorem State.routineUndone_keep (s : State) (r : Byte) (target : BitVec 24) :
    (State.routineUndone s r target).keep = s.keep := by unfold State.routineUndone; simp [apply_ite State.keep]
@[simp] theorem State.cmkEnd_keep (s : State) (ok : Bool) (result : Byte) :
    (State.cmkEnd s ok result).keep = s.keep := by unfold State.cmkEnd; (repeat' split) <;> simp
@[simp] theorem State.cmkYield_keep (s : State) :
    (State.cmkYield s).keep = s.keep := by unfold State.cmkYield; (repeat' split) <;> simp
@[simp] theorem State.cmkTakeInt_keep (s : State) :
    (State.cmkTakeInt s).keep = s.keep := by unfold State.cmkTakeInt; (repeat' split) <;> simp
@[simp] theorem State.cmkNotice_keep (s : State) :
    (State.cmkNotice s).keep = s.keep := by unfold State.cmkNotice; (repeat' split) <;> simp
@[simp] theorem State.cmkRequest_keep (s : State) (r : Byte) (target : BitVec 24) :
    ((s.cmkRequest r target).getD s).keep = s.keep := by
  unfold State.cmkRequest
  extract_lets same
  (repeat' split) <;> simp

theorem State.cmkRequest_some (s t : State) (r : Byte) (target : BitVec 24) (h : s.cmkRequest r target = some t) : t.keep = s.keep := by
  have := s.cmkRequest_keep r target
  rwa [h] at this

@[simp] theorem State.routineAsk_keep (s : State) (r : Byte) (target : Nat) : (State.routineAsk s r target).keep = s.keep := by
  unfold State.routineAsk
  dsimp only
  have h := State.cmkRequest_keep s r (BitVec.ofNat 24 target)
  split
  · rename_i t ht
    rw [ht] at h
    exact h
  · simp
@[simp] theorem State.asksAgain_keep (s : State) : (State.asksAgain s).keep = s.keep := by simp [State.asksAgain]
@[simp] theorem State.unask_keep (s : State) (q : CmkReq) : (State.unask s q).keep = s.keep := by simp [State.unask]
@[simp] theorem State.routineDone_keep (s : State) (r : Byte) (target : Nat) : (State.routineDone s r target).keep = s.keep := by
  unfold State.routineDone
  dsimp only
  (repeat' split) <;> (try simp (disch := (intros; (repeat' split) <;> simp)) [apply_ite State.keep])
@[simp] theorem State.routineGone_keep (s : State) (r : Byte) (target : Nat) : (State.routineGone s r target).keep = s.keep := by
  unfold State.routineGone
  dsimp only
  (repeat' split) <;> (try simp (disch := (intros; (repeat' split) <;> simp)) [apply_ite State.keep])
@[simp] theorem State.domainDown_keep (s : State) (d : Nat) :
    (State.domainDown s d).keep = s.keep := by unfold State.domainDown; (repeat' split) <;> simp
@[simp] theorem State.cmkFault_keep (s : State) : (State.cmkFault s).keep = s.keep := by simp [State.cmkFault]
@[simp] theorem State.cmkStop_keep (s : State) : (State.cmkStop s).keep = s.keep := by simp [State.cmkStop]

/-! ### SprueOps -/

@[simp] theorem State.dropHop_keep (s : State) (v : Ev) : (State.dropHop s v).keep = s.keep := by simp [State.dropHop]
@[simp] theorem State.publish_keep (s : State) (v : Ev) :
    (State.publish s v).keep = s.keep := by unfold State.publish; (repeat' split) <;> simp
@[simp] theorem State.publishSys_keep (s : State) (ch : Byte) (t : Tick) (payload : BitVec 16) :
    (State.publishSys s ch t payload).keep = s.keep := by simp [State.publishSys]

/-! ### PatOps -/

@[simp] theorem State.hotRequest_keep (s : State) (k : Nat) (l : List Nat) :
    (State.hotRequest s k l).keep = s.keep := by simp [State.hotRequest]

/-! ### EfauxOps -/

@[simp] theorem State.raiseExc_keep (s : State) (e n : Nat) (tick : Tick) : (s.raiseExc e n tick).keep = s.keep := by
  unfold State.raiseExc
  dsimp only
  cases (s.eng e).shot <;> simp
@[simp] theorem State.noteCorrected_keep (s : State) (e addr : Nat) :
    (State.noteCorrected s e addr).keep = s.keep := by simp [State.noteCorrected]
theorem State.fetch_keep (s : State) (e : Nat) (code : W64) (k : State → State) (h : ∀ t, t.keep = s.keep → (k t).keep = s.keep) :
    (s.fetch e code k).keep = s.keep := by
  unfold State.fetch
  dsimp only
  (repeat' split) <;> first | rfl | (refine h _ ?_; simp) | simp [State.raiseExc_keep] 
@[simp] theorem State.alu_keep (s : State) (e : Nat) (code : W64) (f : Engine → Engine) : (s.alu e code f).keep = s.keep :=
  State.fetch_keep _ _ _ _ (fun t h => by simpa using h)
@[simp] theorem State.moveCursor_keep (s : State) (e : Nat) (t : Tick) :
    (State.moveCursor s e t).keep = s.keep := by unfold State.moveCursor; simp [apply_ite State.keep]
@[simp] theorem State.latchItem_keep (s : State) (e : Nat) (q : Queue) (i : Item) : (State.latchItem s e q i).keep = s.keep := by
  unfold State.latchItem
  dsimp only
  (repeat' split) <;> (try simp (disch := (intros; (repeat' split) <;> simp)) [apply_ite State.keep])
@[simp] theorem State.enqueue_keep (s : State) (e : Nat) (q : Queue) (dt : Nat) (sub : BitVec 4) (k : ItemKind) :
    (State.enqueue s e q dt sub k).keep = s.keep := by unfold State.enqueue; simp [apply_ite State.keep]
@[simp] theorem State.countJoined_keep (s : State) (multi : Bool) :
    (State.countJoined s multi).keep = s.keep := by unfold State.countJoined; (repeat' split) <;> simp
@[simp] theorem State.latchEvents_keep (s : State) (e : Nat) (l : List Ev) :
    (State.latchEvents s e l).keep = s.keep := by simp [State.latchEvents]

/-! ### ToneOps -/

@[simp] theorem State.hotTouch_keep (s : State) (k b : Nat) :
    (State.hotTouch s k b).keep = s.keep := by unfold State.hotTouch; simp [apply_ite State.keep]
@[simp] theorem State.bindSeg_keep (s : State) (t : Nat) (g : BitVec 20) (tick : Tick) :
    (State.bindSeg s t g tick).1.keep = s.keep := by
  unfold State.bindSeg
  dsimp only
  (repeat' split) <;> (try simp (disch := (intros; (repeat' split) <;> simp)) [apply_ite State.keep])
@[simp] theorem State.bindPlay_keep (s : State) (t : Nat) (g : BitVec 20) (amp : BitVec 16) (rel : Tick) (sub : BitVec 4) :
    (State.bindPlay s t g amp rel sub).1.keep = s.keep := by simp [State.bindPlay]
@[simp] theorem State.passEnd_keep (s : State) (t : Nat) (p : Play) (n : Nat) :
    (State.passEnd s t p n).keep = s.keep := by unfold State.passEnd; simp [apply_ite State.keep]
@[simp] theorem State.stopPlay_keep (s : State) (t n : Nat) : (State.stopPlay s t n).keep = s.keep := by
  unfold State.stopPlay
  dsimp only
  (repeat' split) <;> (try simp (disch := (intros; (repeat' split) <;> simp)) [apply_ite State.keep])
@[simp] theorem State.recordFill_keep (s : State) (t : Nat) (tick : Tick) :
    (State.recordFill s t tick).keep = s.keep := by simp [State.recordFill]
@[simp] theorem State.playCleared_keep (s : State) (t n : Nat) (tick : Tick) :
    (State.playCleared s t n tick).keep = s.keep := by unfold State.playCleared; (repeat' split) <;> simp
@[simp] theorem State.muteHits_keep (s : State) (ch : Nat) (tick : Tick) : (s.muteHits ch tick).keep = s.keep := by
  unfold State.muteHits
  dsimp only
  refine State.each_keep _ _ _ (fun u t => ?_)
  refine (State.each_keep _ _ _ (fun u q => by simp)).trans ?_
  split <;> simp
@[simp] theorem State.judgeMute_keep (s : State) (ch : Nat) (tick : Tick) :
    (State.judgeMute s ch tick).keep = s.keep := by unfold State.judgeMute; simp [apply_ite State.keep]
@[simp] theorem State.ncoStep_keep (s : State) (ch : Nat) :
    (State.ncoStep s ch).keep = s.keep := by unfold State.ncoStep; (repeat' split) <;> simp
@[simp] theorem State.judgeMutes_keep (s : State) (tick : Tick) :
    (State.judgeMutes s tick).keep = s.keep := by simp [State.judgeMutes]
@[simp] theorem State.startPlay_keep (s : State) (t : Nat) (p : Play) :
    (State.startPlay s t p).keep = s.keep := by unfold State.startPlay; simp [apply_ite State.keep]

/-! ### FluxOps -/

@[simp] theorem State.stepOut_keep (s : State) (n : Nat) (T : Tick) (new : Int) :
    (State.stepOut s n T new).keep = s.keep := by simp [State.stepOut]
@[simp] theorem State.clearChan_keep (s : State) (T : Tick) (n : Nat) :
    (State.clearChan s T n).keep = s.keep := by simp [State.clearChan]
@[simp] theorem State.clrWritten_keep (s : State) (n : Nat) :
    (State.clrWritten s n).keep = s.keep := by unfold State.clrWritten; (repeat' split) <;> simp
@[simp] theorem State.transfer_keep (s : State) (T : Tick) (n : Nat) :
    (State.transfer s T n).keep = s.keep := by unfold State.transfer; simp [apply_ite State.keep]
@[simp] theorem State.makeStrobe_keep (s : State) (g : Nat) (r : StrobeReq) :
    (State.makeStrobe s g r).keep = s.keep := by unfold State.makeStrobe; simp [apply_ite State.keep]
@[simp] theorem State.clearOutputs_keep (s : State) (C : Tick) :
    (State.clearOutputs s C).keep = s.keep := by simp [State.clearOutputs]
@[simp] theorem State.clearedShots_keep (s : State) (t : Tick) :
    (State.clearedShots s t).keep = s.keep := by simp [State.clearedShots]
@[simp] theorem State.latchClear_keep (s : State) (C : Tick) (payload : BitVec 16) :
    (State.latchClear s C payload).keep = s.keep := by simp [State.latchClear]
@[simp] theorem State.releaseClear_keep (s : State) (t : Tick) (payload : BitVec 16) :
    (State.releaseClear s t payload).keep = s.keep := by unfold State.releaseClear; (repeat' split) <;> simp

/-! ### EfauxEvents -/

@[simp] theorem State.applyItem_keep (s : State) (e : Nat) (i : Item) : (State.applyItem s e i).keep = s.keep := by
  unfold State.applyItem
  dsimp only
  (repeat' split) <;> (try simp (disch := (intros; (repeat' split) <;> simp)) [apply_ite State.keep])
@[simp] theorem State.dropItems_keep (s : State) (e : Nat) (tick : Tick) :
    (State.dropItems s e tick).keep = s.keep := by simp [State.dropItems]
@[simp] theorem State.rewriteProg_keep (s : State) (e : Nat) : (State.rewriteProg s e).keep = s.keep := by
  unfold State.rewriteProg
  dsimp only
  (repeat' split) <;> (try simp (disch := (intros; (repeat' split) <;> simp)) [apply_ite State.keep])

/-! ### Patterns -/

@[simp] theorem State.pinTrim_keep (s : State) : (State.pinTrim s).keep = s.keep := by simp [State.pinTrim]
@[simp] theorem State.countRefused_keep (s : State) : (State.countRefused s).keep = s.keep := by simp [State.countRefused]
@[simp] theorem State.failUpload_keep (s : State) (n : Nat) (checkFailed : Bool) :
    (State.failUpload s n checkFailed).keep = s.keep := by simp [State.failUpload]
@[simp] theorem State.runCheck_keep (s : State) (key : Nat) (data : List Byte) :
    (State.runCheck s key data).keep = s.keep := by simp [State.runCheck]
@[simp] theorem State.keepDigest_keep (s : State) (k : KeptDigest) :
    (State.keepDigest s k).keep = s.keep := by simp [State.keepDigest]
@[simp] theorem State.dropDigest_keep (s : State) (k : KeptDigest) :
    (State.dropDigest s k).keep = s.keep := by unfold State.dropDigest; (repeat' split) <;> simp

/-! ### BankOps -/

@[simp] theorem State.seedAdc_keep (s : State) (c : Nat) : (State.seedAdc s c).keep = s.keep := by simp [State.seedAdc]
@[simp] theorem State.bankOn_keep (s : State) (b : Nat) (t : Tick) :
    (State.bankOn s b t).keep = s.keep := by unfold State.bankOn; simp [apply_ite State.keep]
@[simp] theorem State.bankUp_keep (s : State) (b : Nat) : (State.bankUp s b).keep = s.keep := by
  unfold State.bankUp
  dsimp only
  (repeat' split) <;> (try simp (disch := (intros; (repeat' split) <;> simp)) [apply_ite State.keep])
@[simp] theorem State.bankDown_keep (s : State) (b : Nat) :
    (State.bankDown s b).keep = s.keep := by unfold State.bankDown; simp [apply_ite State.keep]
@[simp] theorem State.bankSettle_keep (s : State) (l : List Nat) :
    (State.bankSettle s l).keep = s.keep := by unfold State.bankSettle; simp [apply_ite State.keep]
@[simp] theorem State.rfCtrlEffect_keep (s : State) (ch : Nat) (old : W32) :
    (State.rfCtrlEffect s ch old).keep = s.keep := by unfold State.rfCtrlEffect; (repeat' split) <;> simp
@[simp] theorem State.groupUp_keep (s : State) (g : Nat) : (State.groupUp s g).keep = s.keep := by
  unfold State.groupUp
  dsimp only
  (repeat' split) <;> (try simp (disch := (intros; (repeat' split) <;> simp)) [apply_ite State.keep])
@[simp] theorem State.groupClear_keep (s : State) (g : Nat) : (State.groupClear s g).keep = s.keep := by simp [State.groupClear]
@[simp] theorem State.groupDown_keep (s : State) (g : Nat) : (State.groupDown s g).keep = s.keep := by
  unfold State.groupDown
  dsimp only
  (repeat' split) <;> (try simp (disch := (intros; (repeat' split) <;> simp)) [apply_ite State.keep])
@[simp] theorem State.grpCtrlEffect_keep (s : State) (g : Nat) :
    (State.grpCtrlEffect s g).keep = s.keep := by unfold State.grpCtrlEffect; (repeat' split) <;> simp
@[simp] theorem State.holdClear_keep (s : State) (n : Nat) :
    (State.holdClear s n).keep = s.keep := by unfold State.holdClear; (repeat' split) <;> simp
@[simp] theorem State.groupOn_keep (s : State) (g : Nat) :
    (State.groupOn s g).keep = s.keep := by unfold State.groupOn; simp [apply_ite State.keep]
@[simp] theorem State.groupFail_keep (s : State) (g : Nat) : (State.groupFail s g).keep = s.keep := by simp [State.groupFail]
@[simp] theorem State.bankFail_keep (s : State) (b : Nat) : (State.bankFail s b).keep = s.keep := by simp [State.bankFail]
@[simp] theorem State.grpSwEffect_keep (s : State) (g : Nat) :
    (State.grpSwEffect s g).keep = s.keep := by simp [State.grpSwEffect]
@[simp] theorem State.openWindow_keep (s : State) (n : Nat) : (State.openWindow s n).keep = s.keep := by simp [State.openWindow]
@[simp] theorem State.refbufOn_keep (s : State) (c : Nat) : (State.refbufOn s c).keep = s.keep := by
  unfold State.refbufOn
  dsimp only
  (repeat' split) <;> (try simp (disch := (intros; (repeat' split) <;> simp)) [apply_ite State.keep])
@[simp] theorem State.refbufOff_keep (s : State) (c : Nat) : (State.refbufOff s c).keep = s.keep := by
  unfold State.refbufOff
  dsimp only
  (repeat' split) <;> (try simp (disch := (intros; (repeat' split) <;> simp)) [apply_ite State.keep])
@[simp] theorem State.rangeReq_keep (s : State) (c : Nat) (r : BitVec 2) :
    (State.rangeReq s c r).keep = s.keep := by unfold State.rangeReq; simp [apply_ite State.keep]
@[simp] theorem State.adcCtrlEffect_keep (s : State) (c : Nat) :
    (State.adcCtrlEffect s c).keep = s.keep := by unfold State.adcCtrlEffect; simp [apply_ite State.keep]

/-! ### AdcOps -/

@[simp] theorem State.modWin_keep (s : State) (ch : Nat) (p : Win → Bool) (f : Win → Win) :
    (State.modWin s ch p f).keep = s.keep := by simp [State.modWin]
@[simp] theorem State.adcTick_keep (s : State) :
    (State.adcTick s).keep = s.keep := by unfold State.adcTick; (repeat' split) <;> simp
@[simp] theorem State.publishDecision_keep (s : State) (ch t : Nat) (L : Tick) (hop : BitVec 5) (st : Nat) (damaged trunc : Bool) :
    (State.publishDecision s ch t L hop st damaged trunc).keep = s.keep := by unfold State.publishDecision; simp [apply_ite State.keep]
@[simp] theorem State.recordDecision_keep (s : State) (ch t : Nat) (L : Tick) (st : Nat) : (s.recordDecision ch t L st).keep = s.keep := by
  unfold State.recordDecision
  dsimp only
  cases s.shotAt (adcEng ch t) L <;> simp
@[simp] theorem State.offerDecision_keep (s : State) (ch : Nat) (L : Tick) (e : CapElem) :
    (State.offerDecision s ch L e).keep = s.keep := by unfold State.offerDecision; simp [apply_ite State.keep]
@[simp] theorem State.decideWin_keep (s : State) (ch bLast : Nat) (w : Win) (st : Nat) (damaged trunc : Bool) (a : Int × Int) :
    (State.decideWin s ch bLast w st damaged trunc a).keep = s.keep := by simp [State.decideWin]
@[simp] theorem State.free24_keep (s : State) : (State.free24 s).2.keep = s.keep := by simp [State.free24]
@[simp] theorem State.damagedDecisions_keep (s : State) (ch : Nat) :
    (State.damagedDecisions s ch).keep = s.keep := by unfold State.damagedDecisions; simp [apply_ite State.keep]
@[simp] theorem State.damage_keep (s : State) (ch : Nat) (w : Win) :
    (State.damage s ch w).keep = s.keep := by unfold State.damage; (repeat' split) <;> simp
@[simp] theorem State.loseBeat_keep (s : State) (ch b : Nat) (tones : List Nat) : (s.loseBeat ch b tones).keep = s.keep := by
  unfold State.loseBeat
  dsimp only
  rw [State.damagedDecisions_keep, State.each_keep]
  · simp
  · intro s x
    split <;> simp
@[simp] theorem State.dropOver_keep (s : State) (ch : Nat) : (State.dropOver s ch).keep = s.keep := by simp [State.dropOver]
@[simp] theorem State.loseUntaken_keep (s : State) (c ch : Nat) :
    (State.loseUntaken s c ch).keep = s.keep := by simp [State.loseUntaken]
@[simp] theorem State.cutWins_keep (s : State) (ch : Nat) (E : Tick) (p : Win → Bool) :
    (State.cutWins s ch E p).keep = s.keep := by simp [State.cutWins]

/-! ### Adc -/

@[simp] theorem State.startWin_keep (s : State) (ch t : Nat) (n : Win) :
    (State.startWin s ch t n).keep = s.keep := by unfold State.startWin; simp [apply_ite State.keep]

/-! ### CruOps -/

@[simp] theorem State.endIntegration_keep (s : State) (c ch t bLast : Nat) (trunc : Bool) :
    (State.endIntegration s c ch t bLast trunc).keep = s.keep := by
  unfold State.endIntegration
  dsimp only
  (repeat' split) <;> (try simp (disch := (intros; (repeat' split) <;> simp)) [apply_ite State.keep])
@[simp] theorem State.endClosings_keep (s : State) (c ch : Nat) :
    (State.endClosings s c ch).keep = s.keep := by unfold State.endClosings; simp [apply_ite State.keep]
@[simp] theorem State.laneBeat_keep (s : State) (c ch t : Nat) (b : Beat) :
    (State.laneBeat s c ch t b).keep = s.keep := by simp [State.laneBeat]
@[simp] theorem State.takeBeat_keep (s : State) (c ch : Nat) : (State.takeBeat s c ch).keep = s.keep := by
  unfold State.takeBeat
  dsimp only
  (repeat' split) <;> (try simp (disch := (intros; (repeat' split) <;> simp)) [apply_ite State.keep])
@[simp] theorem State.lanes_keep (s : State) (c ch : Nat) (m : CruFields) (f : Cru → Nat → Cru) :
    (State.lanes s c ch m f).keep = s.keep := by unfold State.lanes; simp [apply_ite State.keep]
theorem State.cruFetch_keep (s : State) (c : Nat) (code : W32) (k : State → State) (h : (k s).keep = s.keep) :
    (s.cruFetch c code k).keep = s.keep := by
  unfold State.cruFetch
  dsimp only
  split
  · exact h
  · rfl
@[simp] theorem State.cruData_keep (s : State) (c op : Nat) (m : CruFields) (f : Nat → Cru → Nat → Cru) :
    (State.cruData s c op m f).keep = s.keep := by
  unfold State.cruData
  dsimp only
  (repeat' split) <;> (try simp (disch := (intros; (repeat' split) <;> simp)) [apply_ite State.keep])
@[simp] theorem State.cruTables_keep (s : State) (c : Nat) (img : List Byte) :
    (State.cruTables s c img).keep = s.keep := by unfold State.cruTables; (repeat' split) <;> simp
@[simp] theorem State.cruLoad_keep (s : State) (c : Nat) (img : List Byte) :
    (State.cruLoad s c img).keep = s.keep := by simp [State.cruLoad]
@[simp] theorem State.cruStopped_keep (s : State) (c : Nat) : (State.cruStopped s c).keep = s.keep := by
  unfold State.cruStopped
  dsimp only
  (repeat' split) <;> (try simp (disch := (intros; (repeat' split) <;> simp)) [apply_ite State.keep])
@[simp] theorem State.cruStop_keep (s : State) (c : Nat) : (State.cruStop s c).keep = s.keep := by
  unfold State.cruStop
  dsimp only
  (repeat' split) <;> (try simp (disch := (intros; (repeat' split) <;> simp)) [apply_ite State.keep])
@[simp] theorem State.cruResume_keep (s : State) (c : Nat) : (State.cruResume s c).keep = s.keep := by simp [State.cruResume]
@[simp] theorem State.cruImage_keep (s : State) (c n : Nat) (img : List Byte) :
    (State.cruImage s c n img).keep = s.keep := by unfold State.cruImage; simp [apply_ite State.keep]
@[simp] theorem State.copyWrite_keep (s : State) (c off : Nat) (v : W32) :
    (State.copyWrite s c off v).keep = s.keep := by unfold State.copyWrite; simp [apply_ite State.keep]
theorem State.beatOp_keep (s : State) (c : Nat) (f : State → State) (h : ∀ t, t.keep = s.keep → (f t).keep = s.keep) :
    (s.beatOp c f).keep = s.keep := by
  unfold State.beatOp
  dsimp only
  (repeat' split) <;> first | (simp; done) | (refine h _ ?_; simp)
@[simp] theorem State.afterBeat_keep (s : State) (c : Nat) (w : W32) :
    (State.afterBeat s c w).keep = s.keep := by unfold State.afterBeat; simp [apply_ite State.keep]

/-! ### Crucible -/

@[simp] theorem State.countBlock_keep (s : State) (ch b : Nat) (raw : List (BitVec 12)) (l : List Win) :
    (State.countBlock s ch b raw l).keep = s.keep := by unfold State.countBlock; simp [apply_ite State.keep]
@[simp] theorem State.decideOne_keep (s : State) (ch : Nat) (i : Integral) : (State.decideOne s ch i).keep = s.keep := by
  unfold State.decideOne
  dsimp only
  (repeat' split) <;> (try simp (disch := (intros; (repeat' split) <;> simp)) [apply_ite State.keep])
@[simp] theorem State.commitCls_keep (s : State) (c : Nat) (l : List (Nat × W32)) :
    (State.commitCls s c l).keep = s.keep := by simp [State.commitCls]
@[simp] theorem State.commitCopy_keep (s : State) (c : Nat) (l : List (Nat × W32)) :
    (State.commitCopy s c l).keep = s.keep := by simp [State.commitCopy]
@[simp] theorem State.copyRegs_keep (s : State) (a b : Nat) (l : List Nat) :
    (State.copyRegs s a b l).keep = s.keep := by simp [State.copyRegs]

/-! ### RunnerOps -/

@[simp] theorem State.sendItem_keep (s : State) (p : Nat) (seq : BitVec 16) (b : TxBody) :
    (State.sendItem s p seq b).keep = s.keep := by unfold State.sendItem; (repeat' split) <;> simp
@[simp] theorem State.condInFlight_keep (s : State) (c : Cond) :
    (State.condInFlight s c).keep = s.keep := by simp [State.condInFlight]
@[simp] theorem State.withCast_keep (s : State) (c : CastSync) :
    (State.withCast s c).keep = s.keep := by unfold State.withCast; simp [apply_ite State.keep]
@[simp] theorem State.castAcquire_keep (s : State) : (State.castAcquire s).keep = s.keep := by simp [State.castAcquire]
@[simp] theorem State.castJoin_keep (s : State) (p : Nat) :
    (State.castJoin s p).keep = s.keep := by unfold State.castJoin; (repeat' split) <;> simp
@[simp] theorem State.declareLoss_keep (s : State) (on : Option Nat) (C : Stamp) (over' : Bool) : (s.declareLoss on C over').keep = s.keep := by
  unfold State.declareLoss
  dsimp only
  cases on with
  | none => simp; rw [State.each_keep]; simp; intro s x; split <;> simp
  | some p =>
    dsimp only
    (repeat' split) <;> simp <;> (rw [State.each_keep]; simp; intro s x; split <;> simp)
@[simp] theorem State.lossOf_keep (s : State) (on : Option Nat) (v : Ev) :
    (State.lossOf s on v).keep = s.keep := by simp [State.lossOf]
@[simp] theorem State.offerBlock_keep (s : State) (p : Nat) (via : Option Nat) (dest src : BitVec 6) (v : Ev) :
    (State.offerBlock s p via dest src v).keep = s.keep := by unfold State.offerBlock; simp [apply_ite State.keep]
@[simp] theorem State.exportTo_keep (s : State) (m : Nat) (v : Ev) :
    (State.exportTo s m v).keep = s.keep := by unfold State.exportTo; (repeat' split) <;> simp
@[simp] theorem State.portState_keep (s : State) (p : Nat) (st : PortSt) :
    (State.portState s p st).keep = s.keep := by unfold State.portState; simp [apply_ite State.keep]
@[simp] theorem State.notSent_keep (s : State) (p : Nat) (b : TxBody) :
    (State.notSent s p b).keep = s.keep := by unfold State.notSent; (repeat' split) <;> simp
@[simp] theorem State.portDown_keep (s : State) (p : Nat) (st : PortSt) : (State.portDown s p st).keep = s.keep := by
  unfold State.portDown
  (repeat' split) <;> (try simp (disch := (intros; (repeat' split) <;> simp)) [apply_ite State.keep])
@[simp] theorem State.loadEq_keep (s : State) (p : Nat) :
    (State.loadEq s p).keep = s.keep := by unfold State.loadEq; (repeat' split) <;> simp
@[simp] theorem State.sendTraining_keep (s : State) (p stage : Nat) :
    (State.sendTraining s p stage).keep = s.keep := by simp [State.sendTraining]
@[simp] theorem State.sendFiller_keep (s : State) (p : Nat) : (State.sendFiller s p).keep = s.keep := by simp [State.sendFiller]
@[simp] theorem State.bringUp_keep (s : State) (p : Nat) : (State.bringUp s p).keep = s.keep := by simp [State.bringUp]
@[simp] theorem State.lossesOver_keep (s : State) (p : Nat) : (State.lossesOver s p).keep = s.keep := by simp [State.lossesOver]
@[simp] theorem State.enterEnabled_keep (s : State) (p : Nat) :
    (State.enterEnabled s p).keep = s.keep := by simp [State.enterEnabled]
@[simp] theorem State.enterResync_keep (s : State) (p : Nat) :
    (State.enterResync s p).keep = s.keep := by simp [State.enterResync]
@[simp] theorem State.enterStalled_keep (s : State) (p : Nat) :
    (State.enterStalled s p).keep = s.keep := by simp [State.enterStalled]
@[simp] theorem State.resendAll_keep (s : State) (p : Nat) : (State.resendAll s p).keep = s.keep := by simp [State.resendAll]
@[simp] theorem State.noteSwap_keep (s : State) (p : Nat) (tx : Bool) (k : Nat) :
    (State.noteSwap s p tx k).keep = s.keep := by unfold State.noteSwap; (repeat' split) <;> simp
@[simp] theorem State.rxLaneFault_keep (s : State) (p k : Nat) :
    (State.rxLaneFault s p k).keep = s.keep := by unfold State.rxLaneFault; simp [apply_ite State.keep]
@[simp] theorem State.seeL8_keep (s : State) (p : Nat) (id : Byte) :
    (State.seeL8 s p id).keep = s.keep := by unfold State.seeL8; simp [apply_ite State.keep]
@[simp] theorem State.takeSeq_keep (s : State) (p : Nat) (q : BitVec 16) : (s.takeSeq p q).1.keep = s.keep := by
  unfold State.takeSeq
  dsimp only
  (repeat' split) <;> simp
@[simp] theorem State.noteErrs_keep (s : State) (p : Nat) (l : List (Nat × Nat × Nat)) :
    (State.noteErrs s p l).keep = s.keep := by simp [State.noteErrs]
@[simp] theorem State.judgeErrs_keep (s : State) (p : Nat) :
    (State.judgeErrs s p).keep = s.keep := by unfold State.judgeErrs; simp [apply_ite State.keep]
@[simp] theorem State.judgeHour_keep (s : State) (p : Nat) :
    (State.judgeHour s p).keep = s.keep := by
  unfold State.judgeHour
  refine State.each_keep _ _ _ (fun u k => ?_)
  dsimp only
  (repeat' split) <;> simp
@[simp] theorem State.seeLine_keep (s : State) (p : Nat) (o : LineObs) :
    (State.seeLine s p o).keep = s.keep := by unfold State.seeLine; (repeat' split) <;> simp [apply_ite State.keep]
@[simp] theorem State.takeFrame_keep (s : State) (p ty : Nat) (f : FrameIn) (act : State → State) (h : ∀ u : State, (act u).keep = u.keep) :
    (s.takeFrame p ty f act).keep = s.keep := by
  unfold State.takeFrame
  dsimp only
  (repeat' split) <;> simp [h]
@[simp] theorem State.sendMeas_keep (s : State) (p : Nat) : (State.sendMeas s p).keep = s.keep := by simp [State.sendMeas]
@[simp] theorem State.startMeas_keep (s : State) (p : Nat) : (State.startMeas s p).keep = s.keep := by simp [State.startMeas]
@[simp] theorem State.noteDelay_keep (s : State) (p d : Nat) :
    (State.noteDelay s p d).keep = s.keep := by unfold State.noteDelay; simp [apply_ite State.keep]
@[simp] theorem State.linkLost_keep (s : State) (r : Run) (h : Shot) :
    (State.linkLost s r h).keep = s.keep := by unfold State.linkLost; simp [apply_ite State.keep]

/-! ### Runner -/

@[simp] theorem State.runCtrlEffect_keep (s : State) (p : Nat) (v : W32) :
    (State.runCtrlEffect s p v).keep = s.keep := by unfold State.runCtrlEffect; simp [apply_ite State.keep]
@[simp] theorem State.laneSlipEffect_keep (s : State) (p l : Nat) (aligned : Bool) :
    (State.laneSlipEffect s p l aligned).keep = s.keep := by unfold State.laneSlipEffect; simp [apply_ite State.keep]
@[simp] theorem State.fillMissing_keep (s : State) (p : Nat) :
    (State.fillMissing s p).keep = s.keep := by unfold State.fillMissing; (repeat' split) <;> simp
@[simp] theorem State.stageWith_keep (s : State) (p : Nat) (ok : BitVec 9) (next : State → State) (h : ∀ u : State, (next u).keep = u.keep) :
    (s.stageWith p ok next).keep = s.keep := by
  unfold State.stageWith
  dsimp only
  split
  · simp
  · rw [h]
    exact (State.each_keep _ _ _ (fun u l => by simp)).trans (by simp)
@[simp] theorem State.readTraining_keep (s : State) (p : Nat) (m : BitVec 9) (o : StageObs) :
    (State.readTraining s p m o).keep = s.keep := by unfold State.readTraining; simp [apply_ite State.keep]
@[simp] theorem State.setLaneMap_keep (s : State) (p : Nat) (good : List Nat) (o : StageObs) : (s.setLaneMap p good o).keep = s.keep := by
  unfold State.setLaneMap
  simp only [State.fillMissing_keep, State.setBit_keep]
  exact State.each_keep _ _ _ (fun u l => by simp)
@[simp] theorem State.afterResync_keep (s : State) (p : Nat) :
    (State.afterResync s p).keep = s.keep := by unfold State.afterResync; simp [apply_ite State.keep]
@[simp] theorem State.passAlign_keep (s : State) (p : Nat) (next : State → State) (h : ∀ u : State, (next u).keep = u.keep) :
    (s.passAlign p next).keep = s.keep := by
  unfold State.passAlign
  dsimp only
  split
  · exact State.stageWith_keep _ _ _ _ h
  · rfl
@[simp] theorem State.passOrder_keep (s : State) (p : Nat) (o : StageObs) (next : State → State) (h : ∀ u : State, (next u).keep = u.keep) :
    (s.passOrder p o next).keep = s.keep := by
  unfold State.passOrder
  dsimp only
  split
  · exact State.stageWith_keep _ _ _ _ (fun u => by rw [h]; simp)
  · simp
@[simp] theorem State.passDeskew_keep (s : State) (p : Nat) (o : StageObs) (next : State → State) (h : ∀ u : State, (next u).keep = u.keep) :
    (s.passDeskew p o next).keep = s.keep :=
  State.stageWith_keep _ _ _ _ (fun u => by
    rw [h]
    simp only [State.readTraining_keep, State.fillMissing_keep]
    exact State.each_keep _ _ _ (fun v l => by simp))
@[simp] theorem State.confirm_keep (s : State) (p : Nat) (c : Stamp) :
    (State.confirm s p c).keep = s.keep := by simp [State.confirm]
@[simp] theorem State.moveTxLane_keep (s : State) (p k : Nat) :
    (State.moveTxLane s p k).keep = s.keep := by unfold State.moveTxLane; simp [apply_ite State.keep]
@[simp] theorem State.farErrors_keep (s : State) (p : Nat) (w : W32) :
    (State.farErrors s p w).keep = s.keep := by simp [State.farErrors]
@[simp] theorem State.echoMeas_keep (s : State) (p : Nat) (far : Int) :
    (State.echoMeas s p far).keep = s.keep := by simp [State.echoMeas]
@[simp] theorem State.linkPort_keep (s : State) (u : W64) (p : Nat) :
    (State.linkPort s u p).keep = s.keep := by unfold State.linkPort; simp [apply_ite State.keep]

/-! ### CapOps -/

@[simp] theorem State.capFlag_keep (s : State) (n : Nat) : (State.capFlag s n).keep = s.keep := by simp [State.capFlag]
@[simp] theorem State.capArmUnit_keep (s : State) (session : Option W32) :
    (State.capArmUnit s session).keep = s.keep := by unfold State.capArmUnit; simp [apply_ite State.keep]
@[simp] theorem State.capArmBlock_keep (s : State) :
    (State.capArmBlock s).keep = s.keep := by unfold State.capArmBlock; (repeat' split) <;> simp
@[simp] theorem State.capFireUnit_keep (s : State) (F : Tick) (kind : Nat) :
    (State.capFireUnit s F kind).keep = s.keep := by unfold State.capFireUnit; (repeat' split) <;> simp
@[simp] theorem State.capProposal_keep (s : State) (v : Ev) :
    (State.capProposal s v).keep = s.keep := by unfold State.capProposal; (repeat' split) <;> simp [apply_ite State.keep]
@[simp] theorem State.capStop_keep (s : State) (last : Tick) : (State.capStop s last).keep = s.keep := by simp [State.capStop]
@[simp] theorem State.capAbortUnit_keep (s : State) :
    (State.capAbortUnit s).keep = s.keep := by unfold State.capAbortUnit; (repeat' split) <;> simp
@[simp] theorem State.capReleaseUnit_keep (s : State) :
    (State.capReleaseUnit s).keep = s.keep := by unfold State.capReleaseUnit; (repeat' split) <;> simp
@[simp] theorem State.capCtrlEffect_keep (s : State) (sid : W32) (v : W32) :
    (State.capCtrlEffect s sid v).keep = s.keep := by unfold State.capCtrlEffect; (repeat' split) <;> simp
@[simp] theorem State.capMark_keep (s : State) (m : CapMark) :
    (State.capMark s m).keep = s.keep := by unfold State.capMark; simp [apply_ite State.keep]
theorem State.storeRing_steps (s : State) (base share pos : Nat) (l : List Byte) : s.Steps (s.storeRing base share pos l) := by
  induction l generalizing s pos with
  | nil => exact .of_keep rfl
  | cons b r ih => exact (s.setMem_steps _ b).trans (ih _ _)
theorem State.capProbeClose_steps (s : State) (p : Nat) (written : List CapElem) (span : Option (Nat × Nat)) (from' : Option Nat) :
    s.Steps (s.capProbeClose p written span from') := by
  unfold State.capProbeClose
  extract_lets kind base share off kept inSpan before head first ring skip s1 A pre cut overwritten missed lost s3 marks desc s4 measured words s5 s6
  have h1 : s.Steps s1 := State.storeRing_steps _ _ _ _ _
  have h3 : s.Steps s3 := by
    refine h1.keep ?_
    simp only [s3]
    (repeat' split) <;> simp
  have h4 : s.Steps s4 := h3.trans (State.storeBytes_steps _ _ _)
  have h5 : s.Steps s5 := by
    refine h4.keep ?_
    simp only [s5]
    split <;> simp
  have h6 : s.Steps s6 := h5.trans (State.storeBytes_steps _ _ _)
  exact h6.trans (State.storeBytes_steps _ _ _)
theorem State.capHeader_steps (s : State) : s.Steps s.capHeader := by
  unfold State.capHeader
  dsimp only
  refine State.Steps.trans ?_ (State.storeBytes_steps _ _ _)
  exact .of_keep (by (repeat' split) <;> simp)
theorem State.capFinish_steps (s : State) (stored : List (List SrcVal)) : s.Steps (s.capFinish stored) := by
  unfold State.capFinish
  dsimp only
  generalize hu : State.capHeader _ = u
  have h : s.Steps u := by
    subst hu
    exact (State.each_steps s s.probesOn _ (fun s p => State.capProbeClose_steps s p _ _ _)).trans (State.capHeader_steps _)
  refine h.keep ?_
  clear h hu
  (repeat' split) <;> simp
@[simp] theorem State.tiuTake_keep (s : State) (u k : Nat) (t : Int) (tick : Tick) : (s.tiuTake u k t tick).keep = s.keep := by
  unfold State.tiuTake
  dsimp only
  (repeat' split) <;> first | rfl | simp
@[simp] theorem State.tiuStartUnit_keep (s : State) (u : Nat) :
    (State.tiuStartUnit s u).keep = s.keep := by simp [State.tiuStartUnit]
@[simp] theorem State.tiuAbortUnit_keep (s : State) (u : Nat) :
    (State.tiuAbortUnit s u).keep = s.keep := by unfold State.tiuAbortUnit; simp [apply_ite State.keep]
@[simp] theorem State.tiuCtrlEffect_keep (s : State) (u : Nat) (v : W32) :
    (State.tiuCtrlEffect s u v).keep = s.keep := by unfold State.tiuCtrlEffect; (repeat' split) <;> simp

/-! ### Feedback -/

@[simp] theorem State.latchRound_keep (s : State) (e : Nat) (l : List Ev) : (State.latchRound s e l).keep = s.keep := by
  unfold State.latchRound
  dsimp only
  (repeat' split) <;> (try simp (disch := (intros; (repeat' split) <;> simp)) [apply_ite State.keep])
@[simp] theorem State.jumpRequest_keep (s : State) (t : Nat) (v : Ev) :
    (State.jumpRequest s t v).keep = s.keep := by unfold State.jumpRequest; simp [apply_ite State.keep]
@[simp] theorem State.setFlagNote_keep (s : State) (ch : Nat) (x : FlagNote) :
    (State.setFlagNote s ch x).keep = s.keep := by simp [State.setFlagNote]
@[simp] theorem State.sendFlag_keep (s : State) (v : Ev) : (State.sendFlag s v).keep = s.keep := by simp [State.sendFlag]
@[simp] theorem State.raiseFlag_keep (s : State) (v : Ev) : (State.raiseFlag s v).keep = s.keep := by
  unfold State.raiseFlag
  dsimp only
  (repeat' split) <;> (try simp (disch := (intros; (repeat' split) <;> simp)) [apply_ite State.keep])
@[simp] theorem State.adcStart_keep (s : State) (c : Nat) (v : Ev) :
    (State.adcStart s c v).keep = s.keep := by simp [State.adcStart]
@[simp] theorem State.strobeEvent_keep (s : State) (g : Nat) (v : Ev) :
    (State.strobeEvent s g v).keep = s.keep := by unfold State.strobeEvent; simp [apply_ite State.keep]
@[simp] theorem State.relayOut_keep (s : State) (r : Nat) (v : Ev) :
    (State.relayOut s r v).keep = s.keep := by unfold State.relayOut; simp [apply_ite State.keep]
@[simp] theorem State.trigRequest_keep (s : State) (k : Nat) (v : Ev) :
    (State.trigRequest s k v).keep = s.keep := by unfold State.trigRequest; simp [apply_ite State.keep]
@[simp] theorem State.exportEv_keep (s : State) (v : Ev) : (State.exportEv s v).keep = s.keep := by simp [State.exportEv]
@[simp] theorem State.present_keep (s : State) (i : TaskInput) (l : List Ev) :
    (State.present s i l).keep = s.keep := by unfold State.present; (repeat' split) <;> simp
@[simp] theorem State.swPublish_keep (s : State) (w : W32) : (State.swPublish s w).keep = s.keep := by simp [State.swPublish]
@[simp] theorem State.setTimer_keep (s : State) (i : Nat) (x : TimerRun) :
    (State.setTimer s i x).keep = s.keep := by simp [State.setTimer]
@[simp] theorem State.timerCfgEffect_keep (s : State) (i : Nat) (old : W32) :
    (State.timerCfgEffect s i old).keep = s.keep := by unfold State.timerCfgEffect; simp [apply_ite State.keep]
@[simp] theorem State.lateRemote_keep (s : State) (v : Ev) :
    (State.lateRemote s v).keep = s.keep := by unfold State.lateRemote; simp [apply_ite State.keep]
@[simp] theorem State.deliverRemote_keep (s : State) (v : Ev) :
    (State.deliverRemote s v).keep = s.keep := by unfold State.deliverRemote; simp [apply_ite State.keep]
@[simp] theorem State.routeBlock_keep (s : State) (p : Nat) (dest src : BitVec 6) (v : Ev) :
    (State.routeBlock s p dest src v).keep = s.keep := by unfold State.routeBlock; simp [apply_ite State.keep]

/-! ### RunOps -/

@[simp] theorem State.sendRecords_keep (s : State) (sid : W32) (g : List ResRec) :
    (State.sendRecords s sid g).keep = s.keep := by unfold State.sendRecords; (repeat' split) <;> simp
@[simp] theorem State.offerResults_keep (s : State) (id : W32) :
    (State.offerResults s id).keep = s.keep := by unfold State.offerResults; (repeat' split) <;> simp
@[simp] theorem State.highWater_keep (s : State) :
    (State.highWater s).keep = s.keep := by unfold State.highWater; (repeat' split) <;> simp
@[simp] theorem State.addResult_keep (s : State) (r : ResRec) : (State.addResult s r).keep = s.keep := by simp [State.addResult]
@[simp] theorem State.finishRun_keep (s : State) (id : W32) (cause : Byte) :
    (State.finishRun s id cause).keep = s.keep := by unfold State.finishRun; (repeat' split) <;> simp
@[simp] theorem State.settleRun_keep (s : State) (id : W32) :
    (State.settleRun s id).keep = s.keep := by unfold State.settleRun; (repeat' split) <;> simp [apply_ite State.keep]
@[simp] theorem State.stopRun_keep (s : State) (cause : Byte) (id : W32) :
    (State.stopRun s cause id).keep = s.keep := by simp [State.stopRun]
@[simp] theorem State.restoreFrames_keep (s : State) (e : Nat) (t : Tick) :
    (State.restoreFrames s e t).keep = s.keep := by simp [State.restoreFrames]
@[simp] theorem State.loadCluster_keep (s : State) (r : Run) (k : Nat) (img : List Byte) :
    (State.loadCluster s r k img).keep = s.keep := by unfold State.loadCluster; simp [apply_ite State.keep]
@[simp] theorem State.startEngine_keep (s : State) (id idx : W32) (S : Tick) (e : Nat) :
    (State.startEngine s id idx S e).keep = s.keep := by simp [State.startEngine]
@[simp] theorem State.rangeAtStart_keep (s : State) (h : W32 × W32 × Tick) (e : Nat) : (s.rangeAtStart h e).keep = s.keep := by
  unfold State.rangeAtStart
  apply State.each_keep
  intro s n
  split
  · rfl
  · split <;> simp
@[simp] theorem State.slideStarts_keep (s : State) : (State.slideStarts s).keep = s.keep := by simp [State.slideStarts]
@[simp] theorem State.startShot_keep (s : State) (r : Run) (S : Tick) :
    (State.startShot s r S).keep = s.keep := by unfold State.startShot; simp [apply_ite State.keep]
@[simp] theorem State.endEngine_keep (s : State) (id idx : W32) (E : Tick) (fault : Bool) (e : Nat) :
    (State.endEngine s id idx E fault e).keep = s.keep := by
  unfold State.endEngine
  dsimp only
  (repeat' split) <;> (try simp (disch := (intros; (repeat' split) <;> simp)) [apply_ite State.keep])
@[simp] theorem State.endShot_keep (s : State) (r : Run) (h : Shot) (E : Tick) (fault : Option Cond) :
    (State.endShot s r h E fault).keep = s.keep := by unfold State.endShot; (repeat' split) <;> simp
@[simp] theorem State.writeClosures_keep (s : State) (cause : Byte) :
    (State.writeClosures s cause).keep = s.keep := by unfold State.writeClosures; (repeat' split) <;> simp

/-! ### TimeOps -/

@[simp] theorem State.shiftAnchors_keep (s : State) (d : Tick) :
    (State.shiftAnchors s d).keep = s.keep := by simp [State.shiftAnchors]
@[simp] theorem State.reseedAll_keep (s : State) (t : Tick) : (State.reseedAll s t).keep = s.keep := by simp [State.reseedAll]
@[simp] theorem State.castStepBy_keep (s : State) (theta : Int) :
    (State.castStepBy s theta).keep = s.keep := by simp [State.castStepBy]
@[simp] theorem State.enterHold_keep (s : State) (cause : BitVec 4) :
    (State.enterHold s cause).keep = s.keep := by simp [State.enterHold]
@[simp] theorem State.sysOffset_keep (s : State) (theta : Int) :
    (State.sysOffset s theta).keep = s.keep := by unfold State.sysOffset; simp [apply_ite State.keep]
@[simp] theorem State.sysHold_keep (s : State) (cause : BitVec 4) :
    (State.sysHold s cause).keep = s.keep := by simp [State.sysHold]
@[simp] theorem State.txqPush_keep (s : State) (p : Nat) (x : TxTs) :
    (State.txqPush s p x).keep = s.keep := by unfold State.txqPush; simp [apply_ite State.keep]
@[simp] theorem State.rawRx_keep (s : State) (p : Nat) (frame : List Byte) :
    (State.rawRx s p frame).keep = s.keep := by unfold State.rawRx; (repeat' split) <;> simp
@[simp] theorem State.setMaster_keep (s : State) (p : Nat) (m : Option (Announce × W64)) :
    (State.setMaster s p m).keep = s.keep := by simp [State.setMaster]
@[simp] theorem State.chooseMaster_keep (s : State) (old : Option W64) : (State.chooseMaster s old).keep = s.keep := by
  unfold State.chooseMaster
  dsimp only
  (repeat' split) <;> (try simp (disch := (intros; (repeat' split) <;> simp)) [apply_ite State.keep])
@[simp] theorem State.sysCfgEffect_keep (s : State) (old : W32) :
    (State.sysCfgEffect s old).keep = s.keep := by unfold State.sysCfgEffect; simp [apply_ite State.keep]
@[simp] theorem State.castCfgEffect_keep (s : State) (old : W32) :
    (State.castCfgEffect s old).keep = s.keep := by unfold State.castCfgEffect; (repeat' split) <;> simp [apply_ite State.keep]
@[simp] theorem State.realignEffect_keep (s : State) :
    (State.realignEffect s).keep = s.keep := by unfold State.realignEffect; simp [apply_ite State.keep]

/-! ### Time -/

@[simp] theorem State.timeAsk_keep (s : State) (p : Nat) : (State.timeAsk s p).keep = s.keep := by simp [State.timeAsk]
@[simp] theorem State.holdPort_keep (s : State) :
    (State.holdPort s).keep = s.keep := by unfold State.holdPort; simp [apply_ite State.keep]
@[simp] theorem State.noteTime_keep (s : State) (p : Nat) (f : TimeFrame) :
    (State.noteTime s p f).keep = s.keep := by unfold State.noteTime; (repeat' split) <;> simp
@[simp] theorem State.replySeen_keep (s : State) (p : Nat) (f : TimeFrame) (t4 : FineTick) :
    (State.replySeen s p f t4).keep = s.keep := by simp [State.replySeen]
@[simp] theorem State.adopt_keep (s : State) (theta : Int) :
    (State.adopt s theta).keep = s.keep := by unfold State.adopt; (repeat' split) <;> simp
@[simp] theorem State.timeAnswer_keep (s : State) (p : Nat) (f : TimeFrame) (t4 : FineTick) :
    (State.timeAnswer s p f t4).keep = s.keep := by
  unfold State.timeAnswer
  dsimp only
  (repeat' split) <;> (try simp (disch := (intros; (repeat' split) <;> simp)) [apply_ite State.keep])
@[simp] theorem State.chainOut_keep (s : State) (p : Nat) (f : EthFrame) :
    (State.chainOut s p f).keep = s.keep := by unfold State.chainOut; (repeat' split) <;> simp

/-! ### NetOps -/

@[simp] theorem State.endSession_keep (s : State) (sid : W32) :
    (State.endSession s sid).keep = s.keep := by unfold State.endSession; (repeat' split) <;> simp
@[simp] theorem State.loseSession_keep (s : State) (sid : W32) (cause : Byte) :
    (State.loseSession s sid cause).keep = s.keep := by unfold State.loseSession; (repeat' split) <;> simp
@[simp] theorem State.closeSpent_keep (s : State) : (State.closeSpent s).keep = s.keep := by simp [State.closeSpent]
@[simp] theorem State.ackResults_keep (s : State) (sid ack : W32) : (State.ackResults s sid ack).keep = s.keep := by
  unfold State.ackResults
  (repeat' split) <;> (try simp (disch := (intros; (repeat' split) <;> simp)) [apply_ite State.keep])
@[simp] theorem State.ackUpTo_keep (s : State) (sid ack : W32) (sack : BitVec 16) :
    (State.ackUpTo s sid ack sack).keep = s.keep := by unfold State.ackUpTo; (repeat' split) <;> simp
@[simp] theorem State.resendOne_keep (s : State) (sid seq : W32) :
    (State.resendOne s sid seq).keep = s.keep := by unfold State.resendOne; (repeat' split) <;> simp
@[simp] theorem State.refuseUnknown_keep (s : State) (sid : W32) :
    (State.refuseUnknown s sid).keep = s.keep := by unfold State.refuseUnknown; (repeat' split) <;> simp
@[simp] theorem State.receiveTr_keep (s : State) (x : Session) (t : RxTr) :
    (State.receiveTr s x t).keep = s.keep := by unfold State.receiveTr; (repeat' split) <;> simp

/-! ### SecOps -/

@[simp] theorem State.nvPut_keep (s : State) (cls idx : Nat) (r : List Byte) :
    (State.nvPut s cls idx r).keep = s.keep := by simp [State.nvPut]
@[simp] theorem State.withdraw_keep (s : State) (k : BitVec 256) : (State.withdraw s k).keep = s.keep := by simp [State.withdraw]
@[simp] theorem State.denyClusters_keep (s : State) (k : BitVec 256) (old new : Byte) :
    (State.denyClusters s k old new).keep = s.keep := by simp [State.denyClusters]

/-! ### CmkOps -/

@[simp] theorem State.calPut_keep (s : State) (p : W32 × W32) : (State.calPut s p).keep = s.keep := by
  unfold State.calPut
  dsimp only
  (repeat' split) <;> (try simp (disch := (intros; (repeat' split) <;> simp)) [apply_ite State.keep])
@[simp] theorem State.calSave_keep (s : State) (l : List (W32 × W32)) :
    (State.calSave s l).keep = s.keep := by simp [State.calSave]
@[simp] theorem State.calRefuse_keep (s : State) (r : Byte) (p : W32 × W32) :
    (State.calRefuse s r p).keep = s.keep := by simp [State.calRefuse]
@[simp] theorem State.calAcceptEffect_keep (s : State) (v : W32) :
    (State.calAcceptEffect s v).keep = s.keep := by unfold State.calAcceptEffect; (repeat' split) <;> simp

/-! ### CryOps -/

@[simp] theorem State.routUpdate_keep (s : State) (k : Nat) :
    (State.routUpdate s k).keep = s.keep := by unfold State.routUpdate; simp [apply_ite State.keep]
@[simp] theorem State.crySet_keep (s : State) (n v : Nat) : (State.crySet s n v).keep = s.keep := by simp [State.crySet]
@[simp] theorem State.cryExcite_keep (s : State) (n : Option Nat) :
    (State.cryExcite s n).keep = s.keep := by simp [State.cryExcite]
@[simp] theorem State.cryNext_keep (s : State) (n : Nat) : (State.cryNext s n).keep = s.keep := by simp [State.cryNext]
@[simp] theorem State.cryCtrlEffect_keep (s : State) (old : W32) :
    (State.cryCtrlEffect s old).keep = s.keep := by unfold State.cryCtrlEffect; (repeat' split) <;> simp
@[simp] theorem State.cryChannelEffect_keep (s : State) (n : Nat) :
    (State.cryChannelEffect s n).keep = s.keep := by unfold State.cryChannelEffect; simp [apply_ite State.keep]
@[simp] theorem State.cryRoutEffect_keep (s : State) (k : Nat) (old : W32) :
    (State.cryRoutEffect s k old).keep = s.keep := by unfold State.cryRoutEffect; simp [apply_ite State.keep]

/-! ### PowerOps -/

theorem State.powerOff_keep (s : State) : s.powerOff.keep = (s.pending, s.creds, s.arc, s.fuses, []) := by
  unfold State.powerOff
  dsimp only
  rw [State.each_keep _ _ _ (fun _ _ => by simp), State.each_keep _ _ _ (fun _ _ => by simp),
    State.each_keep _ _ _ (fun _ _ => by simp)]
  rfl

theorem State.powerOff_steps (s : State) : s.Steps s.powerOff := by
  have h := s.powerOff_keep
  simp only [State.keep, Prod.mk.injEq] at h
  obtain ⟨h1, h2, h3, h4, h5⟩ := h
  exact ⟨by simp [State.rest, *], fun _ => by rw [h5]; rfl⟩
@[simp] theorem State.bootClose_keep (s : State) (failStage failCause : Nat) (ingot forced : Bool) :
    (State.bootClose s failStage failCause ingot forced).keep = s.keep := by unfold State.bootClose; (repeat' split) <;> simp
theorem State.startBegin_steps (s : State) (cause : Byte) : s.Steps (s.startBegin cause) := by
  refine s.powerOff_steps.keep ?_
  unfold State.startBegin
  dsimp only
  simp
theorem State.enterIngot_steps (s : State) (failStage failCause : Nat) (forced : Bool) :
    s.Steps (s.enterIngot failStage failCause forced) := by
  have h1 : s.Steps (s.bootClose failStage failCause true forced).logFlush := .of_keep (by simp)
  refine (h1.trans (State.powerOff_steps _)).keep ?_
  unfold State.enterIngot
  dsimp only
  simp
theorem State.failAttempt_steps (s : State) (cause : Byte) : s.Steps (s.failAttempt cause) := by
  unfold State.failAttempt
  dsimp only
  split
  · generalize hu : State.powerOff _ = u
    have h : s.Steps u := hu ▸ State.Steps.trans (.of_keep (by simp)) (State.powerOff_steps _)
    exact h.keep (by simp)
  · exact State.Steps.trans (.of_keep (by simp)) (State.enterIngot_steps _ _ _ _)

@[simp] theorem State.beginStop_keep (s : State) (k : StopKind) (cause : Byte) :
    (State.beginStop s k cause).keep = s.keep := by simp [State.beginStop]
@[simp] theorem State.abortShots_keep (s : State) (E : Tick) (c : Cond) : (State.abortShots s E c).keep = s.keep := by
  unfold State.abortShots
  (repeat' split) <;> (try simp (disch := (intros; (repeat' split) <;> simp)) [apply_ite State.keep])
@[simp] theorem State.assertFault_keep (s : State) (C : Tick) (hold : FaultPath → FaultPath) :
    (State.assertFault s C hold).keep = s.keep := by unfold State.assertFault; (repeat' split) <;> simp
theorem State.orderlyOff_steps (s : State) (cause : Byte) : s.Steps (s.orderlyOff cause) := by
  unfold State.orderlyOff
  dsimp only
  generalize hu : State.powerOff _ = u
  have h : s.Steps u := hu ▸ State.Steps.trans (.of_keep (by simp)) (State.powerOff_steps _)
  split <;> exact h.keep (by simp)
theorem State.finishStop_steps (s : State) (k : StopKind) (D : Tick) : s.Steps (s.finishStop k D) := by
  unfold State.finishStop
  dsimp only
  generalize hu : State.orderlyOff s _ = u
  have h : s.Steps u := hu ▸ State.orderlyOff_steps _ _
  clear hu
  have h2 : ∀ (b : Boot) (p : Supply), s.Steps { u with boot := b, supply := p } := fun b p => h.keep (by simp)
  split
  · exact h.keep (by simp)
  · split
    · exact h2 _ _
    · exact (h2 _ _).trans (State.startBegin_steps _ _)
  · split
    · exact h2 _ _
    · exact (h2 _ _).trans (State.startBegin_steps _ _)
  · split
    · exact (h2 _ _).trans (State.startBegin_steps _ _)
    · split
      · exact (h2 _ _).trans (State.enterIngot_steps _ _ _ _)
      · exact h2 _ _
@[simp] theorem State.stageCause_keep (s : State) (source : Byte) :
    (State.stageCause s source).2.keep = s.keep := by unfold State.stageCause; (repeat' split) <;> simp
theorem State.fatal_steps (s : State) (source : Byte) : s.Steps (s.fatal source) := by
  unfold State.fatal
  dsimp only
  split
  · exact .of_keep (by simp)
  · split
    · refine .of_keep ?_
      split <;> simp
    · exact State.Steps.trans (.of_keep (by simp)) (State.failAttempt_steps _ _)
@[simp] theorem State.levelFour_keep (s : State) (C : Tick) : (State.levelFour s C).keep = s.keep := by
  unfold State.levelFour
  (repeat' split) <;> (try simp (disch := (intros; (repeat' split) <;> simp)) [apply_ite State.keep])
@[simp] theorem State.holdNow_keep (s : State) : (State.holdNow s).keep = s.keep := by simp [State.holdNow]
theorem State.shutDown_steps (s : State) : s.Steps (s.shutDown) := by
  unfold State.shutDown
  dsimp only
  generalize hu : State.orderlyOff _ _ = u
  have h : s.Steps u := hu ▸ State.Steps.trans (.of_keep (by simp)) (State.orderlyOff_steps _ _)
  exact h.keep (by simp)
@[simp] theorem State.alerts_keep (s : State) :
    (State.alerts s).keep = s.keep := by unfold State.alerts; simp [apply_ite State.keep]

/-! ### RegRead -/

@[simp] theorem State.txqTake_keep (s : State) (p : Nat) :
    (State.txqTake s p).2.keep = s.keep := by unfold State.txqTake; (repeat' split) <;> simp
@[simp] theorem State.dragNext_keep (s : State) (c : Nat) :
    (State.dragNext s c).keep = s.keep := by unfold State.dragNext; (repeat' split) <;> simp
@[simp] theorem State.unseen_keep (s : State) (id : RegId) (i : Nat) : (State.unseen s id i).keep = s.keep := by
  unfold State.unseen
  dsimp only
  (repeat' split) <;> (try simp (disch := (intros; (repeat' split) <;> simp)) [apply_ite State.keep])
@[simp] theorem State.readReg_keep (s : State) (sid : W32) (a : Nat) :
    (State.readReg s sid a).2.keep = s.keep := by unfold State.readReg; (repeat' split) <;> simp
@[simp] theorem State.readAll_keep (s : State) (sid : W32) (l : List W32) : (s.readAll sid l).2.keep = s.keep := by
  induction l generalizing s with
  | nil => rfl
  | cons a r ih => simp only [State.readAll]; rw [ih]; simp

/-! ### RegOps -/

@[simp] theorem State.classifierGo_keep (s : State) (c : Nat) :
    (State.classifierGo s c).keep = s.keep := by simp [State.classifierGo]
@[simp] theorem State.commandReset_keep (s : State) :
    (State.commandReset s).keep = s.keep := by unfold State.commandReset; (repeat' split) <;> simp
@[simp] theorem State.writeEffect_keep (s : State) (sid : W32) (f : RegRef) (old v : W32) : (s.writeEffect sid f old v).keep = s.keep := by
  unfold State.writeEffect
  dsimp only
  split <;> first | (simp; done) | (split <;> simp)
@[simp] theorem State.applyWrite_keep (s : State) (sid : W32) (a : Nat) (v : W32) :
    (State.applyWrite s sid a v).keep = s.keep := by unfold State.applyWrite; (repeat' split) <;> simp
@[simp] theorem State.applyFrom_keep (s : State) (sid : W32) (t : Tick) (l : List (Nat × W32)) : (s.applyFrom sid t l).keep = s.keep := by
  induction l generalizing s t with
  | nil => rfl
  | cons e r ih =>
    have h : (s.atTick t (fun s => s.applyWrite sid e.1 e.2)).keep = s.keep := State.atTick_keep _ _ _ (fun u => by simp)
    cases r with
    | nil => exact h
    | cons f r =>
      simp only [State.applyFrom]
      split
      · rw [ih, h]
      · rw [ih]
        simp [h]
@[simp] theorem State.applyAll_keep (s : State) (sid : W32) (l : List (Nat × W32)) :
    (State.applyAll s sid l).keep = s.keep := by simp [State.applyAll]
theorem restsOnKeep_keep (s : State) : RestsOnKeep (fun t => t.keep = s.keep) := fun _ _ h e => h.trans e

theorem State.logPriv_keep (s t : State) (x : Session) (cls : BitVec 16) (details : List (List Byte))
    (h : s.logPriv x cls details = .ok t) : t.keep = s.keep := by
  unfold State.logPriv at h
  split at h
  · cases h
  · split at h
    · cases h
    · cases h
      exact State.each_keep _ _ _ (fun _ _ => by simp)

theorem State.privileged_all (P : State → Prop) (s : State) (x : Session) (cls : BitVec 16) (details : List (List Byte))
    (k : State → Answer) (r : RestsOnKeep P) (hs : P s) (h : ∀ t, t.keep = s.keep → (k t).all P) :
    (s.privileged x cls details k).all P := by
  unfold State.privileged
  split
  · exact h _ (s.logPriv_keep _ x cls details (by assumption))
  · exact r s _ (by simp) hs
  · trivial

theorem State.privilegedL_all (P : State → Prop) (s : State) (x : Session) (l : List (BitVec 16 × List Byte))
    (k : State → Answer) (r : RestsOnKeep P) (hs : P s) (h : ∀ t, t.keep = s.keep → (k t).all P) :
    (s.privilegedL x l k).all P := by
  unfold State.privilegedL
  split
  · trivial
  · split
    · exact r s _ (by simp) hs
    · exact h _ (State.each_keep _ _ _ (fun _ _ => by simp))

theorem State.refusePriv_all (P : State → Prop) (s : State) (x : Session) (cls : BitVec 16) (detail : List Byte) (st : Status)
    (r : RestsOnKeep P) (hs : P s) : (s.refusePriv x cls detail st).all P := r s _ (by simp) hs

theorem State.writeRefused_all (P : State → Prop) (s : State) (x : Session) (l : List (Nat × W32)) (n a : Nat) (c : WrFault)
    (r : RestsOnKeep P) (hs : P s) : (s.writeRefused x l n a c).all P := by
  unfold State.writeRefused
  dsimp only
  have e : (if c.loop then s.count aSprCntB 31 24 1 else s).keep = s.keep := by split <;> simp
  split
  · exact r s _ e hs
  · exact r s _ ((State.logRefused_keep _ _ _ _).trans e) hs

theorem State.regWriteAll_all (P : State → Prop) (s : State) (x : Session) (l : List (Nat × W32)) (r : RestsOnKeep P) (hs : P s) :
    (s.regWriteAll x l).all P := by
  unfold State.regWriteAll
  split
  · trivial
  · split
    · exact s.writeRefused_all P x l _ _ _ r hs
    · split
      · exact r s _ (by simp) hs
      · exact s.privileged_all P x _ _ _ r hs (fun t ht => r s _ (by simp [ht]) hs)

theorem State.regRead_all (P : State → Prop) (s : State) (sid : W32) (l : List W32) (r : RestsOnKeep P) (hs : P s) :
    (s.regRead sid l).all P := by
  unfold State.regRead
  split
  · trivial
  · split
    · trivial
    · split
      · trivial
      · exact r s _ (by simp) hs

@[simp] theorem State.writeOne_keep (s : State) (sid seq : W32) (a : Nat) (v : W32) : (s.writeOne sid seq a v).keep = s.keep :=
  State.request_all (fun t => t.keep = s.keep) s sid seq 0x11 none _ (restsOnKeep_keep s) rfl
    (fun x t h => State.regWriteAll_all _ t x _ (restsOnKeep_keep s) h)

/-! ### Coremaker -/

@[simp] theorem State.drawWord_keep (s : State) : (State.drawWord s).2.keep = s.keep := by simp [State.drawWord]
@[simp] theorem State.cmkCtx_keep (s : State) (c : CmkCtx) : (State.cmkCtx s c).keep = s.keep := by simp [State.cmkCtx]
@[simp] theorem State.retireSub_keep (s : State) (ch sub : Nat) :
    (State.retireSub s ch sub).keep = s.keep := by unfold State.retireSub; (repeat' split) <;> simp
@[simp] theorem State.cmkEndOk_keep (s : State) :
    (State.cmkEndOk s).keep = s.keep := by unfold State.cmkEndOk; (repeat' split) <;> simp
@[simp] theorem State.cmkSeq_keep (s : State) (c : CmkCtx) (w : MicroWord) :
    (State.cmkSeq s c w).keep = s.keep := by unfold State.cmkSeq; (repeat' split) <;> simp
/-- A property of the state that a microword's action leaves. -/
def CmkAct.all (P : State → Prop) (a : CmkAct) : Prop :=
  match a with
  | .go t _ => P t
  | .fail t _ => P t

theorem State.cmkWord_all (P : State → Prop) (s : State) (w : MicroWord) (action : Nat) (act : State → CmkCtx → CmkAct)
    (r : RestsOnKeep P) (hs : P s) (h : ∀ t c, t.keep = s.keep → (act t c).all P) : P (s.cmkWord w action act) := by
  unfold State.cmkWord
  split
  · exact hs
  · rename_i c _
    split
    · exact hs
    · extract_lets t
      have e : t.keep = s.keep := by
        simp only [t]
        split <;> simp
      have ht : P t := r _ _ e hs
      split
      · exact ht
      · have ha := h t c e
        generalize act t c = a at ha
        cases a with
        | fail u n =>
          have hu : P u := ha
          exact r _ _ (by simp) hu
        | go u c' =>
          have hu : P u := ha
          refine r _ _ ?_ hu
          dsimp only
          split <;> simp
@[simp] theorem State.subWorn_keep (s : State) (ch sub : Nat) : (s.subWorn ch sub).keep = s.keep := by
  unfold State.subWorn
  (repeat' split) <;> simp
@[simp] theorem State.subRefused_keep (s : State) (l : List (W32 × W32)) (bad : Bool) :
    (State.subRefused s l bad).keep = s.keep := by unfold State.subRefused; simp [apply_ite State.keep]
@[simp] theorem State.cmkSubmit_keep (s : State) (routine : Byte) : (State.cmkSubmit s routine).keep = s.keep := by
  unfold State.cmkSubmit
  dsimp only
  (repeat' split) <;> (try simp (disch := (intros; (repeat' split) <;> simp)) [apply_ite State.keep])
theorem State.setFuse_parts (s : State) (r : Nat) (v : W64) : (s.setFuse r v).pending = s.pending ∧ (s.setFuse r v).creds = s.creds
    ∧ (s.setFuse r v).arc = s.arc ∧ (s.setFuse r v).dram = s.dram := ⟨rfl, rfl, rfl, rfl⟩
@[simp] theorem State.drawBytes_keep (s : State) (n : Nat) : (s.drawBytes n).2.keep = s.keep := by
  induction n generalizing s with
  | zero => rfl
  | succ k ih => simp only [State.drawBytes]; rw [ih]; simp
@[simp] theorem State.drawScratch_keep (s : State) (n : Nat) : (s.drawScratch n).2.keep = s.keep := by
  induction n with
  | zero => rfl
  | succ k ih => simp only [State.drawScratch]; simp [ih]

/-! ### Power -/

@[simp] theorem State.sensorRound_keep (s : State) (r : List (Option Int)) :
    (State.sensorRound s r).keep = s.keep := by simp [State.sensorRound]
@[simp] theorem State.publishLevel_keep (s : State) (payload : BitVec 16) :
    (State.publishLevel s payload).keep = s.keep := by unfold State.publishLevel; (repeat' split) <;> simp
@[simp] theorem State.levelUp_keep (s : State) (new : Nat) :
    (State.levelUp s new).keep = s.keep := by unfold State.levelUp; simp [apply_ite State.keep]
@[simp] theorem State.levelDown_keep (s : State) :
    (State.levelDown s).keep = s.keep := by unfold State.levelDown; simp [apply_ite State.keep]
@[simp] theorem State.holdStep_keep (s : State) (prevHot : Nat) (wasFailed : Bool) :
    (State.holdStep s prevHot wasFailed).keep = s.keep := by unfold State.holdStep; simp [apply_ite State.keep]
theorem State.thermalShut_steps (s : State) : s.Steps (s.thermalShut) := by
  unfold State.thermalShut
  dsimp only
  generalize hu : State.shutDown _ = u
  have h : s.Steps u := by
    subst hu
    refine State.Steps.trans (.of_keep ?_) (State.shutDown_steps _)
    simp only [State.publishLevel_keep]
    change (ite _ _ _ : State).keep = _
    split <;> simp
  exact h.keep (by simp)
theorem State.levelStep_steps (s : State) : s.Steps (s.levelStep) := by
  unfold State.levelStep
  dsimp only
  generalize hu : (if 95 * 128 ≤ s.thermal.hottestT then State.alert _ 0 else _) = u
  have h : s.Steps u := by
    subst hu
    refine .of_keep ?_
    split <;> simp
  clear hu
  split
  · exact h.trans (State.thermalShut_steps _)
  · refine h.keep ?_
    (repeat' split) <;> simp
@[simp] theorem State.idleBanks_keep (s : State) :
    (State.idleBanks s).keep = s.keep := by unfold State.idleBanks; (repeat' split) <;> simp
@[simp] theorem State.swapBlock_keep (s : State) (b : Nat) :
    (State.swapBlock s b).keep = s.keep := by unfold State.swapBlock; (repeat' split) <;> simp
@[simp] theorem State.starvedBlock_keep (s : State) (r : Nat) (block : Option Nat) :
    (State.starvedBlock s r block).keep = s.keep := by unfold State.starvedBlock; (repeat' split) <;> simp
theorem State.railFault_steps (s : State) (monitors : List Nat) (k : Nat) : s.Steps (s.railFault monitors k) := by
  unfold State.railFault
  dsimp only
  split
  · exact State.Steps.trans (.of_keep (by simp)) (State.fatal_steps _ _)
  · refine .of_keep ?_
    (repeat' split) <;> simp
theorem State.railRound_steps (s : State) (out : BitVec 30) (monitors : List Nat) : s.Steps (s.railRound out monitors) := by
  unfold State.railRound
  refine State.each_steps _ _ _ (fun u k => ?_)
  dsimp only
  generalize (if (out.getLsbD k && s.domains.getLsbD k) = true then min (Tbl.get u.supply.domBad k 0 + 1) 4 else 0) = n
  split
  · exact State.Steps.trans (.of_keep (by simp)) (State.railFault_steps _ _ _)
  · exact .of_keep (by simp)
@[simp] theorem State.needRound_keep (s : State) (l : List (Nat × BitVec 10)) :
    (State.needRound s l).keep = s.keep := by simp [State.needRound]
@[simp] theorem State.cruHit_keep (s : State) (c : Nat) :
    (State.cruHit s c).keep = s.keep := by unfold State.cruHit; simp [apply_ite State.keep]
@[simp] theorem State.holdRound_keep (s : State) :
    (State.holdRound s).keep = s.keep := by unfold State.holdRound; simp [apply_ite State.keep]
@[simp] theorem State.setFeed_keep (s : State) (f : Fin 2) (x : Feed) :
    (State.setFeed s f x).keep = s.keep := by simp [State.setFeed]
@[simp] theorem State.busFell_keep (s : State) :
    (State.busFell s).keep = s.keep := by unfold State.busFell; (repeat' split) <;> simp
@[simp] theorem State.busBack_keep (s : State) :
    (State.busBack s).keep = s.keep := by unfold State.busBack; (repeat' split) <;> simp
theorem State.blackout_steps (s : State) : s.Steps s.blackout := by
  unfold State.blackout
  dsimp only
  refine State.Steps.trans (.of_keep ?_) (State.powerOff_steps _)
  split <;> simp
@[simp] theorem State.starveStep_keep (s : State) (r : Nat) (worst : Int) (alone : Option Nat) :
    (State.starveStep s r worst alone).keep = s.keep := by unfold State.starveStep; simp [apply_ite State.keep]
@[simp] theorem State.installDone_keep (s : State) (kind : Nat) :
    (State.installDone s kind).keep = s.keep := by simp [State.installDone]
@[simp] theorem State.installFailed_keep (s : State) (kind : Nat) :
    (State.installFailed s kind).keep = s.keep := by simp [State.installFailed]

/-! ### Boot -/

@[simp] theorem State.nextStage_keep (s : State) :
    (State.nextStage s).keep = s.keep := by unfold State.nextStage; simp [apply_ite State.keep]
@[simp] theorem State.countFound_keep (s : State) :
    (State.countFound s).keep = s.keep := by unfold State.countFound; simp [apply_ite State.keep]
@[simp] theorem State.macFromFuses_keep (s : State) :
    (State.macFromFuses s).keep = s.keep := by unfold State.macFromFuses; (repeat' split) <;> simp
theorem State.passSupervisor_steps (s : State) (o : StageResult) : s.Steps (s.passSupervisor o) := by
  unfold State.passSupervisor
  dsimp only
  generalize hu : State.countFound _ = u
  have h : u.keep = s.keep := by
    subst hu
    simp
  clear hu
  split
  · exact State.Steps.trans (.of_keep (by simp [h])) (State.enterIngot_steps _ _ _ _)
  · exact .of_keep (by simp [h])
theorem State.passImages_steps (s : State) (o : StageResult) : s.Steps (s.passImages o) := by
  unfold State.passImages
  dsimp only
  generalize hu : (if 0 < _ then State.alert _ 9 else _) = u
  have h : u.keep = s.keep := by
    subst hu
    split
    · simp only [State.alert_keep, State.count_keep]
      exact State.each_keep _ _ _ (fun _ _ => rfl)
    · exact State.each_keep _ _ _ (fun _ _ => rfl)
  clear hu
  split
  · exact State.Steps.trans (.of_keep (by simp [h])) (State.enterIngot_steps _ _ _ _)
  · exact .of_keep (by simp [h])
@[simp] theorem State.passTiming_keep (s : State) : (State.passTiming s).keep = s.keep := by
  unfold State.passTiming
  dsimp only
  (repeat' split) <;> (try simp (disch := (intros; (repeat' split) <;> simp)) [apply_ite State.keep])
@[simp] theorem State.startFaults_keep (s : State) (n : Nat) :
    (State.startFaults s n).keep = s.keep := by simp [State.startFaults]
@[simp] theorem State.replaceEngine_keep (s : State) (e : Nat) :
    (State.replaceEngine s e).keep = s.keep := by unfold State.replaceEngine; simp [apply_ite State.keep]
@[simp] theorem State.replaceCru_keep (s : State) (n : Nat) : (State.replaceCru s n).keep = s.keep := by
  unfold State.replaceCru
  dsimp only
  (repeat' split) <;> (try simp (disch := (intros; (repeat' split) <;> simp)) [apply_ite State.keep])
@[simp] theorem State.restorePair_keep (s : State) (p : Nat × W32) :
    (State.restorePair s p).keep = s.keep := by unfold State.restorePair; (repeat' split) <;> simp
@[simp] theorem State.restoreRecord_keep (s : State) (bad : List (Nat × Nat)) (k : Nat) (r : List Byte) :
    (State.restoreRecord s bad k r).keep = s.keep := by unfold State.restoreRecord; simp [apply_ite State.keep]
@[simp] theorem State.gainsFromFuses_keep (s : State) : (State.gainsFromFuses s).keep = s.keep := by
  unfold State.gainsFromFuses
  (repeat' split) <;> (try simp (disch := (intros; (repeat' split) <;> simp)) [apply_ite State.keep])
@[simp] theorem State.restoreConfig_keep (s : State) (bad : List (Nat × Nat)) :
    (State.restoreConfig s bad).keep = s.keep := by unfold State.restoreConfig; simp [apply_ite State.keep]
@[simp] theorem State.powerOutputs_keep (s : State) :
    (State.powerOutputs s).keep = s.keep := by unfold State.powerOutputs; simp [apply_ite State.keep]
@[simp] theorem State.outputsOn_keep (s : State) (o : StageResult) :
    (State.outputsOn s o).keep = s.keep := by unfold State.outputsOn; simp [apply_ite State.keep]
@[simp] theorem State.closureEnd_keep (s : State) (c : Closure) :
    (State.closureEnd s c).keep = s.keep := by simp [State.closureEnd]
@[simp] theorem State.captureLost_keep (s : State) :
    (State.captureLost s).keep = s.keep := by unfold State.captureLost; (repeat' split) <;> simp
@[simp] theorem State.startRelease_keep (s : State) :
    (State.startRelease s).keep = s.keep := by unfold State.startRelease; simp [apply_ite State.keep]
@[simp] theorem State.complete_keep (s : State) (o : StageResult) : (State.complete s o).keep = s.keep := by simp [State.complete]
theorem State.heldByRst_steps (s : State) : s.Steps (s.heldByRst) := by
  unfold State.heldByRst
  exact s.powerOff_steps.keep (by simp)

/-! ### Efaux -/

@[simp] theorem State.enginePublish_keep (s : State) (e : Nat) (ch : Byte) (dt : BitVec 12) (payload : BitVec 16) :
    (State.enginePublish s e ch dt payload).keep = s.keep := by unfold State.enginePublish; simp [apply_ite State.keep]

/-! ### Net -/

@[simp] theorem State.discardFrame_keep (s : State) (p : Nat) :
    (State.discardFrame s p).keep = s.keep := by unfold State.discardFrame; (repeat' split) <;> simp
@[simp] theorem State.badBody_keep (s : State) (k : SealedPacket) : (State.badBody s k).keep = s.keep := by simp [State.badBody]
@[simp] theorem State.takeTr_keep (s : State) (k : SealedPacket) : (State.takeTr s k).keep = s.keep := by
  unfold State.takeTr
  dsimp only
  (repeat' split) <;> (try simp (disch := (intros; (repeat' split) <;> simp)) [apply_ite State.keep])
@[simp] theorem State.evictFor_keep (s : State) (fuel need : Nat) : (s.evictFor fuel need).keep = s.keep := by
  induction fuel generalizing s with
  | zero => rfl
  | succ n ih =>
    simp only [State.evictFor]
    split
    · rfl
    · split
      · rfl
      · rw [ih]; simp

/-! ### Security -/

@[simp] theorem State.refuseHs_keep (s : State) (hs : W64) (key : BitVec 256) (cause : Byte) :
    (State.refuseHs s hs key cause).keep = s.keep := by simp [State.refuseHs]
@[simp] theorem State.modHs_keep (s : State) (hs : W64) (f : Handshake → Handshake) :
    (State.modHs s hs f).keep = s.keep := by simp [State.modHs]

/-! ### Samples -/

@[simp] theorem State.rfTick_keep (s : State) (ch : Nat) :
    (State.rfTick s ch).keep = s.keep := by unfold State.rfTick; simp [apply_ite State.keep]

/-! ### Tick -/

@[simp] theorem State.tick_keep (s : State) : (State.tick s).keep = s.keep := by
  unfold State.tick
  dsimp only
  (repeat' split) <;> (try simp (disch := (intros; (repeat' split) <;> simp)) [apply_ite State.keep])

end Sys2Proof.Machine
end

