-- ==== Sys2Proof/WellFormed.lean ====
section
/-! DEFINITION. Which commands the outside can physically send: bounds on operands whose Lean type is wider than what the
manual gives them. A command outside them names something that no pin, frame or sensor of the module can carry. -/

namespace Sys2Proof

/-- A sub-tick part lies below one tick of 64,000 units (R261). -/
def FineTick.wellFormed (x : FineTick) : Bool := decide (x.fine.toNat < 64000)
/-- One pattern, one training sequence of 16 symbols and one skew for each of the nine lanes (R233-R235). -/
def StageObs.wellFormed (o : StageObs) : Bool :=
  decide (o.bits.length = 9) && decide (o.train.length = 9) && o.train.all (fun l => decide (l.length = 16)) && decide (o.skew.length = 9)
/-- A header of 7 bytes and a check of 4 (R243). -/
def FrameIn.wellFormed (f : FrameIn) : Bool := decide (f.hdr.length = 7) && decide (f.check.length = 4)
/-- A round reads 64 sensors; the riser bank's charge is a percentage; 136 engines and 34 Crucibles have monitors (R393, R403, R416). -/
def RoundObs.wellFormed (o : RoundObs) : Bool :=
  decide (o.sensors.length = 64) && decide (o.riserPct ≤ 100) && o.monitors.all (fun b => decide (b < 170))
    && o.reqs.all (fun x => decide (x.1 < 170)) && o.cruHits.all (fun c => decide (c < 34))
/-- Samples of a half-period of 36.496 ms at 2 kS/s: 72 or 73 of them (R380, R381). -/
def halfWellFormed (l : List Int) : Bool := decide (72 ≤ l.length) && decide (l.length ≤ 73)
/-- At most one image a cluster and one a Crucible (R28). -/
def RunDesc.wellFormed (d : RunDesc) : Bool := decide (d.clusterImages.length ≤ 8) && decide (d.crucImages.length ≤ 32)

/-- Operands within what the manual gives them. -/
def Instr.wellFormed (i : Instr) : Bool :=
  match i with
  | .runSubmit _ _ d => d.wellFormed
  | .beatWrite _ l => decide (l.length = 64)
  | .bringupStagePass _ o => o.wellFormed
  | .enableFrameReceive r => r.frame.wellFormed
  | .fastPathBlockReceive _ b => decide (b.bytes.length = 23)
  | .runnerAckReceive _ f => f.wellFormed
  | .lossFrameReceive _ h _ c => decide (h.length = 7) && decide (c.length = 4)
  | .measFrameReceive _ f => f.frame.wellFormed
  | .timeRequestReceive _ f a b => f.wellFormed && decide (a.toNat < 64000) && b.wellFormed
  | .timeReplyReceive _ f a => f.wellFormed && decide (a.toNat < 64000)
  | .captureClose l => decide (l.length ≤ 4)
  | .captureFifoRecheck p _ _ => decide (p ≤ 100)
  | .qsfpInsert _ _ c => decide (1 ≤ c) && decide (c ≤ 8)
  | .challengeSigned sig | .attestSigned sig => decide (sig.length = 29792)
  | .excitationReversal l => halfWellFormed l
  | .conversionComplete l _ => halfWellFormed l
  | .housekeepingRound o => o.wellFormed
  | .slackServoStep _ _ _ alone => (match alone with | none => true | some b => decide (b < 136))
  | .dramBankRemap _ b => decide (b < 256)
  | .dramRowRemap _ r => decide (r < 2 ^ 24)
  | .startStageTimeout c => c != 0
  | .fatalFault c => decide (c.toNat < 30) || c == 0xFE
  | _ => true

end Sys2Proof
end

