-- ==== Sys2Proof/Tests/Slice0.lean ====
section
/-! SUPPORT. Tests of the model: witnesses that the hypotheses of the statements can hold, ill-formed commands, and the manual's worked
examples. A hypothesis that no evaluation shows (a packet's tag, a signature) is named in NOTES.md. -/

namespace Sys2Proof.Tests
set_option Elab.async false
open Sys2Proof.Machine

/-! ### Small states -/

/-- A run of engine 0, in its queue. -/
def desc0 : RunDesc := ⟨1, [], [], 1, true, 0, 0, 0, 1⟩
def run0 : Run := ⟨1, desc0, 1, 0, .queued, none, 0, none, 0, 0, false, none, [], 0, 0, []⟩
/-- Engine 0 in shot 0 of run 1, which started at tick 0. -/
def eng0 : Engine := { Engine.init with st := .running, codeCount := 8, shot := some (1, 0, 0), tc := 24 }
def withEng (g : Engine) : State := { State.reset with engines := [(0, g)] }
/-- Engine 0 stands at the word `code`. -/
def eSt (code : W64) : State := { withEng eng0 with prog := [(0, ⟨code, false, false⟩)] }
def runsCode (l : List W64) : Bool := l.all (fun w => (eSt w).executes 0 w)

/-- A session of a role, with request 1 of a type waiting. -/
def sess0 (r : Role) (ty : Byte) : Session :=
  ⟨1, r, 0, 0, 0, 0, [], 0, 1, [], [⟨1, ty, false, []⟩], [], [], 1, [], none, 0, 0, 0, 0, 0, [], none, 0⟩
/-- The state `s` in stage 10 with that session, whose request is the next. -/
def asking (s : State) (r : Role) (ty : Byte) : State :=
  { s with sessions := [sess0 r ty], boot := { s.boot with stage := 10 } }
def atTick (t : Tick) : State := { State.reset with clock := { Clock.init with cast := t } }

/-- The state outside the NV store's temperature window (R345). -/
def hotStore (s : State) : State := { s with thermal := { s.thermal with sensors := [(62, ⟨14081, false, false, false, []⟩)] } }
/-- A fuse row that holds, with its check and its valid marker. -/
def goodRow (c k : Nat) (d : W32) : W64 :=
  let w := BitVec.ofNat 64 (c * 2 ^ 52 + k * 2 ^ 40 + d.toNat * 2 ^ 8)
  (1#64 <<< 63) ||| w ||| BitVec.ofNat 64 (fuseCrc w)

/-! ### Efaux -/

theorem witness_EfauxArithmeticWritesItsResult :
    runsCode ((([0x10, 0x11, 0x12, 0x13, 0x14, 0x15, 0x16, 0x17, 0x18, 0x19, 0x1A] : List Nat).map (fun o => encR o 31 30 29))
      ++ (([0x20, 0x21, 0x22, 0x23, 0x24, 0x25, 0x26, 0x27, 0x28, 0x29, 0x2A] : List Nat).map (fun o => encI o 31 30 0xFFFFFFFF))) = true := by
  decide
theorem witness_EfauxComparesAndTickRegisters :
    runsCode ([encC 0x30 7 31 30 0, encC 0x31 7 31 30 0, encC 0x32 7 31 30 0, encC 0x33 7 31 0 0xFFFFFFFF, encC 0x34 7 31 0 0xFFFFFFFF,
      encC 0x35 7 31 0 0xFFFFFFFF, encT 0x42 7 0 0 0, encT 0x44 7 7 0 (-1), encT 0x45 7 0 0 0, encT 0x46 7 7 0 0, encI 0x38 31 0 0,
      encI 0x38 31 0 1, encI 0x38 31 0 2, encI 0x38 31 0 3]) = true ∧ ((eSt 0).eng 0).shot = some (1, 0, 0) := by decide
theorem witness_EfauxControlAndCursor :
    runsCode ([encB 0x00 0 false 0 0 0, encB 0x01 0 false 0 0 0, encB 0x02 0 false 0 32767 0, encB 0x03 0 false 0 32767 0,
      encB 0x04 0 false 0 0 0, encB 0x05 7 true 0 32767 0, encB 0x06 0 false 31 32767 0, encB 0x07 0 true 31 32767 0xFFFFFFFF,
      encT 0x40 0 0 0 (-1), encT 0x41 0 0 31 0, encT 0x43 0 7 0 (-1)]) = true
      ∧ Tbl.wf (fun _ => (0 : W32)) ((eSt 0).eng 0).v = true := by decide
/-- A cursor 24 ticks ahead of cast time, empty queues. -/
theorem witness_EfauxItemsEnterTheirQueue :
    runsCode ([encF 0x50 7 0 (-1), encF 0x51 7 31 0, encF 0x52 7 0 0xFFFFFFFF, encF 0x53 7 0 1, encF 0x54 7 31 0, encF 0x55 7 0 0,
      encP 7 11 0xFFFFF 4095 0xFFFF, encPR 7 11 31 30 4095, encL 0x68 false 63 true 0 4095 0xFFFF, encL 0x69 false 63 true 31 4095 0,
      encL 0x6A true 0 false 0 4095 0xFFFFF, encL 0x6B true 0 false 31 4095 0, encL 0x6C true 0 false 0 4095 0]) = true
      ∧ (eSt 0).canIssue 0 .drive 0 0 = true ∧ (eSt 0).canIssue 0 .readout 4095 11 = true ∧ (eSt 0).canIssue 0 .fluxBias 4095 0 = true
      ∧ (((eSt 0).eng 0).reg 31).toNat < 2 ^ 20 := by decide
def latch0 : Latch := ⟨0, 0, false, false, false⟩
theorem witness_EfauxEventsAndRecords :
    runsCode ([encA 15 255 4095, encE 0x78 239 0 4095 0xFFFF, encE 0x79 239 31 4095 0, encW 7 31 239 0xFFFFFF, encW 7 31 239 0,
      encR 0x7E 0 31 30]) = true
      ∧ inCursor ((eSt 0).eng 0).start (((eSt 0).eng 0).tc + 4095) = true ∧ ((eSt 0).eng 0).shot = some (1, 0, 0)
      ∧ (withEng { eng0 with latches := [(239, latch0)] } |>.eng 0).latches.find? (fun x => x.1 == 239) = some (239, latch0)
      ∧ ((eSt 0).eng 0).latches.find? (fun x => x.1 == 239) = none
      ∧ ({ eSt 0 with runs := [run0] } : State).run? 1 = some run0 := by decide
theorem witness_EfauxRegisterFileAndExceptions :
    Tbl.wf (fun _ => (0 : W32)) (Engine.init.setReg 31 1).v = true ∧ (31 : Nat) ≠ 0 ∧ Tbl.wf resetWord State.reset.regs = true := by decide

def item0 : Item := ⟨0, 0, .flux 0 false 0⟩
def item24 : Item := ⟨24, 11, .flux 0 false 0⟩
def late0 (t : Tick) (u : EngState) : State := { withEng { eng0 with st := u } with clock := { Clock.init with cast := t } }
theorem witness_EfauxEngineEvents :
    (let s := withEng { eng0 with held := some (.fluxBias, item24), st := .queueFull }; let g := s.eng 0;
      g.held = some (.fluxBias, item24) ∧ g.st = .queueFull ∧ s.inTime 0 = true ∧ (g.queue .fluxBias).items.length < queueDepth .fluxBias
      ∧ 24 ≤ sdiff item24.tick.stamp s.now.stamp ∧ (g.queue .fluxBias).last = none)
    ∧ (let s := late0 1 .queueFull; ¬ 24 ≤ sdiff item24.tick.stamp s.now.stamp ∧ s.inTime 0 = true ∧ (s.eng 0).shot = some (1, 0, 0))
    ∧ ((((withEng { eng0 with qf := ⟨[item0], none⟩ }).eng 0).queue .fluxBias).items = [item0] ∧ sdiff item0.tick.stamp State.reset.now.stamp ≤ 0)
    ∧ (let s := late0 0x1000000 .running;
      (s.eng 0).shot.isSome = true ∧ 0 ≤ (s.now - s.watchTick 0).toInt ∧ s.periodicEnd (s.eng 0) = none ∧ s.watched 0 = true
      ∧ s.inTime 0 = false)
    ∧ ((late0 0 .running).eng 0).st = .running ∧ (late0 0 .running).inTime 0 = true
    ∧ ((withEng { eng0 with memErr := some 32767 }).eng 0).memErr = some (32767 : BitVec 15).toNat
    ∧ (let s := withEng { eng0 with wait := some ⟨7, 31, 239, some 0⟩, st := .waiting };
      (s.eng 0).wait = some ⟨7, 31, 239, some 0⟩ ∧ 0 ≤ sdiff s.now.stamp (0 : Tick).stamp ∧ s.inTime 0 = true) := by decide

/-- An uncorrectable error at address 0 of engine 127 has recurred, with an image retained for its cluster. -/
def rowDue0 (used : Nat) : State :=
  { State.reset with engines := [(127, { Engine.init with memErr := some 0, memErrLast := some 0 })], clusterImg := [(7, [1])]
                     spares := { Spares.init with pmUsed := Tbl.put [] 7 used 0 } }
def cruReady : State := { State.reset.setBit (aMldCruMap 31) 8 true with crus := [(31, { Cru.init with st := .waiting })] }
theorem witness_SparesAreBroughtIn :
    ((rowDue0 31).rowDue (16 * 7 + 15) 0 = true ∧ Tbl.get (rowDue0 31).spares.pmUsed 7 0 < 32 ∧ Tbl.get (rowDue0 31).clusterImg 7 [] ≠ [])
    ∧ ((rowDue0 32).rowDue (16 * 7 + 15) 0 = true ∧ 32 ≤ Tbl.get (rowDue0 32).spares.pmUsed 7 0)
    ∧ (let s : State := State.reset.setBit (aMldPeMap 127) 8 true;
      Tbl.wf resetWord s.regs = true ∧ s.bit (aMldPeMap 127) 8 = true ∧ (s.eng 127).swap = none ∧ s.spareFree (127 / 16) = true
      ∧ s.swapGap 127 = true)
    ∧ (withEng { eng0 with swap := some ⟨0, []⟩ } |>.eng 0).swap = some ⟨0, []⟩
    ∧ (let s := cruReady;
      s.spareCru = some 32 ∧ s.bit (aMldCruMap 31) 8 = true ∧ (s.cru (s.cruPhys 31)).swap = none ∧ (s.adcch 31).quiet s.now = true
      ∧ (s.cru (s.cruPhys 31)).beats = [] ∧ (s.cru (s.cruPhys 31)).st = .waiting ∧ s.bit (aAdcCtrl 31) 1 = false ∧ s.runs = [])
    ∧ (let s : State := { State.reset with crus := [(31, { Cru.init with swap := some (0, 33) })] };
      (s.cru (s.cruPhys 31)).swap = some (0, 33) ∧ s.cruPhys 31 < 32 ∧ (s.cru 31).ahead = [] ∧ (s.adcch 31).quiet s.now = true)
    ∧ (let s : State := { State.reset with crus := [(31, { Cru.init with swap := some (0, 32), st := .fault })] };
      (s.cru (s.cruPhys 31)).swap = some (0, 32) ∧ (s.cru 31).st = .fault) := by decide

/-! ### Pattern store and outputs -/

/-- Segment 0 of 64 samples at D = 8, READY. -/
def seg0 : Seg := { Seg.init with desc := BitVec.ofNat 256 (0xC00000 + 2 * 2 ^ 32 + 8 * 2 ^ 64 + 2 ^ 192), version := 1, st := .ready }
def play0 : Play := ⟨0, 0x7FFF, 0, 11, 0, true, false, false, false, none, [], none, 0, none, [], none⟩
/-- Tone 1023 plays; cast tick 100. -/
def playing (p : Play) : State :=
  { atTick 100 with segs := [(0, seg0)], tones := [(1023, { Tone.init with play := some p, jumps := [⟨100, 5⟩] })] }
/-- A segment that loops to itself, with a pass left on top of the stack. -/
def loop0 (c : BitVec 16) : Play := { play0 with stack := [(0, c)] }
def segLoop : Seg := { seg0 with desc := seg0.desc ||| (5#256 <<< 160) ||| (1#256 <<< 58) }
theorem witness_PlayersWalkTheirSegments :
    (let s : State := withEng { eng0 with qd := ⟨[⟨24, 0, .play 0 0 0⟩], none⟩ };
      (s.queuedPlays 0).drop (s.tone 0).nextPlays.length = (24, 0, 0, 0) :: [] ∧ sdiff ((24 : Tick) - 24).stamp s.now.stamp ≤ 0)
    ∧ (let s := playing play0;
      (s.tone 1023).play = some play0 ∧ play0.chosen = none ∧ reached s.now (play0.segStart + (s.seg 0).commitAt) = true
      ∧ (∀ j ∈ (s.tone 1023).jumps, play0.segStart + (s.seg 0).commitAt ≤ 12 * j.e.toNat)
      ∧ reached s.now (play0.segStart + (s.seg 0).dacLen) = true ∧ play0.granule < (s.seg 0).granules
      ∧ reached s.now (play0.segStart + ((s.seg 0).dacAt (32 * play0.granule) - 16 * (s.seg 0).rateNum / 2 ^ (s.seg 0).rateShift)) = true)
    ∧ (let p : Play := { play0 with chosen := some none }; ((playing p).tone 1023).play = some p)
    ∧ (let p : Play := { play0 with chosen := some (some ⟨0, false⟩), granule := 2 }; let s := playing p;
      (s.tone 1023).play = some p ∧ (s.seg 0).granules ≤ p.granule ∧ p.pre = none ∧ (s.seg 0).sameRate (s.seg 0) = true
      ∧ reached s.now (p.segStart + (s.seg 0).commitAt) = true)
    ∧ (let s : State := { playing play0 with tones := [(1023, { Tone.init with jumps := [⟨100, 5⟩] })] };
      takeJump (s.tone 1023).jumps = some (⟨100, 5⟩, []) ∧ (s.tone 1023).play = none)
    ∧ (let s := playing { play0 with rel := 90 };
      takeJump (s.tone 1023).jumps = some (⟨100, 5⟩, []) ∧ sdiff (100 : Tick).stamp s.now.stamp ≤ 0
      ∧ ({ play0 with rel := 90 } : Play).segStart ≤ 12 * 100 ∧ 12 * 100 < ({ play0 with rel := 90 } : Play).segStart + (s.seg 0).dacLen)
    ∧ (let s : State := { State.reset with hots := [(7, { Hot.init with req := [9] })] };
      (s.hot 7).req.contains 9 = true ∧ (s.hot 7).lines.length < s.hotCap 7) := by decide
/-- A cache all of whose lines but one are retired. -/
theorem witness_PlayersWalkTheirSegments_full :
    (let s : State := { State.reset with hots := [(7, { lines := [5], req := [9], retired := 2079 })] };
      (s.hot 7).req.contains 9 = true ∧ (s.hot 7).lines.length = s.hotCap 7 ∧ (s.hot 7).lines.Nodup
      ∧ (s.hot 7).lines.find? (fun y => !s.hotLocked 7 y) = some 5) := by decide
theorem witness_PlayersWalkTheirSegments_choice :
    segLoop.hasLoop = true ∧ segLoop.loopCount ≠ 0 ∧ seg0.hasLoop = false ∧ play0.pending = none
    ∧ play0.stack.any (fun y => y.1 == play0.seg) = false ∧ (loop0 1).stack = ((loop0 1).seg, 1) :: [] ∧ (loop0 0).stack = ((loop0 0).seg, 0) :: []
    ∧ ({ play0 with pending := some (7, false) } : Play).pending = some (7, false) := by decide

/-- Segment 2^20 - 1 being uploaded by session 1, with all its bytes received. -/
def upSeg : Seg := { seg0 with st := .filling, uploading := true, owner := 1, next := 256 }
def begun (m : W64) : Seg :=
  { Seg.init with desc := seg0.desc, version := 1, st := .filling, owner := 1, lastMsg := m, uploading := true, bad := false }
/-- The next request of session 1 is of a type, with one segment as given. -/
def upload (ty : Byte) (g : Seg) : State := asking { State.reset with segs := [(1048575, g)] } .operator ty
def uploadTaken (ty : Byte) (g : Seg) : State := (upload ty g).taken (sess0 .operator ty) 1
/-- A player walks segment 2^20 - 1. -/
def readNow (ty : Byte) : State := { upload ty seg0 with tones := [(0, { Tone.init with play := some { play0 with seg := 1048575 } })] }
def checkOf (g : Seg) : Nat :=
  ((uploadTaken 0x22 g).profile ((uploadTaken 0x22 g).checkCtx 1048575).profile).finish ((uploadTaken 0x22 g).checkCtx 1048575).value.toNat
theorem witness_PatternUploadsChangeTheirSegment :
    (let s := asking State.reset .operator 0x20; let u := s.taken (sess0 .operator 0x20) 1;
      s.asks (sess0 .operator 0x20) 1 1 0x20 (some .operator) = true ∧ u.beginRefusal 1048575 (begun u.mono) = none
      ∧ (u.beginRefusal 1048575 { begun u.mono with desc := 0 }).isSome = true)
    ∧ (let g := { upSeg with next := 254 }; let s := upload 0x21 g;
      s.asks (sess0 .operator 0x21) 1 1 0x21 (some .operator) = true ∧ (s.seg 1048575).uploading = true ∧ (s.seg 1048575).owner = 1
      ∧ (s.seg 1048575).next = 254 ∧ (s.seg 1048575).next + ([1, 2] : List Byte).length ≤ (s.seg 1048575).bytesLen ∧ Memory.wf s.dram = true)
    ∧ ((upload 0x21 seg0).seg 1048575).uploading = false
    ∧ ((upload 0x22 upSeg).asks (sess0 .operator 0x22) 1 1 0x22 (some .operator) = true ∧ upSeg.bytesLen ≤ upSeg.next
      ∧ checkOf upSeg = (BitVec.ofNat 64 (checkOf upSeg)).toNat ∧ checkOf upSeg ≠ (5 : W64).toNat
      ∧ ({ upSeg with next := 255 } : Seg).next < upSeg.bytesLen)
    ∧ ((upload 0x23 seg0).asks (sess0 .operator 0x23) 1 1 0x23 (some .operator) = true
      ∧ (uploadTaken 0x23 seg0).segActive (BitVec.ofNat 20 1048575) = false ∧ ((uploadTaken 0x23 seg0).seg 1048575).st = .ready
      ∧ ((uploadTaken 0x23 upSeg).seg 1048575).st = .filling ∧ (State.reset.seg 1048575).st = .free
      ∧ ((readNow 0x23).taken (sess0 .operator 0x23) 1).segActive (BitVec.ofNat 20 1048575) = true)
    ∧ ((upload 0x24 seg0).asks (sess0 .operator 0x24) 1 1 0x24 (some .operator) = true
      ∧ (uploadTaken 0x24 seg0).segActive (BitVec.ofNat 20 1048575) = false
      ∧ (uploadTaken 0x24 seg0).pinExceeds 1048575 ((uploadTaken 0x24 seg0).seg 1048575) = false)
    ∧ ((asking State.reset .maker 0x25).asks (sess0 .maker 0x25) 1 1 0x25 none = true ∧ 1048320 + 256 ≤ 2 ^ 20)
    ∧ (let s : State := { State.reset with segs := [(1048575, upSeg)], clock := { Clock.init with mono := 100000000 } };
      (s.seg 1048575).uploading = true ∧ 100000000 ≤ s.since (s.seg 1048575).lastMsg ∧ Tbl.wf (fun _ => Seg.init) s.segs = true) := by
  decide

def rfAt (x : RfChan) : State := { atTick 4000 with rf := [(95, x)] }
theorem witness_RfChannelsMuteSettleAndClear :
    (let s := rfAt { RfChan.init with st := .settling };
      Tbl.wf resetWord s.regs = true ∧ Tbl.wf (fun _ => RfChan.init) s.rf = true ∧ Tbl.wf (fun _ => Tone.init) s.tones = true
      ∧ (s.rfch 95).st = .settling ∧ 4000 ≤ s.ticksSince (s.rfch 95).since)
    ∧ (let s := rfAt { RfChan.init with st := .waitQuiet };
      (s.rfch 95).st = .waitQuiet ∧ ∀ t ∈ chanTones 95, (s.tone t).play = none)
    ∧ (let s := rfAt { RfChan.init with fsSwitch := true };
      (s.rfch 95).fsSwitch = true ∧ (s.rfch 95).st = .muted ∧ (s.setRfch 95 { s.rfch 95 with fsSwitch := false }).muted 95 = true)
    ∧ (let s : State := { (rfAt { RfChan.init with fsSwitch := true }).setBit (aRfCtrl 95) 0 true with
                            banks := [(4, ⟨.on, 0, false⟩)], fault := { FaultPath.init with start := false } };
      (s.setRfch 95 { s.rfch 95 with fsSwitch := false }).muted 95 = false ∧ (s.rfch 95).st = .muted)
    ∧ (let s : State := { atTick 16 with banks := [(4, ⟨.on, 0, false⟩)], tones := [(1023, { Tone.init with acc := 1 })] };
      (s.bank (chanBank (toneChan 1023))).st = .on ∧ s.now.toNat % 16 = 0
      ∧ (s.tone 1023).accNow s.now ≠ accAt (s.tone 1023).freq s.now)
    ∧ (let s := rfAt { RfChan.init with ncoFix := some (4000, [1023]) }; (s.rfch 95).ncoFix = some (s.now, [1023]))
    ∧ (let s : State := { (rfAt { RfChan.init with ncoFix := some (3999, [1023]) }).setBit (aRfCtrl 95) 0 true with
                            banks := [(4, ⟨.on, 0, false⟩)], fault := { FaultPath.init with start := false } };
      (s.rfch 95).ncoFix = some (3999, [1023]) ∧ 0 < (s.now - 3999).toInt ∧ (s.rfch 95).st = .muted
      ∧ (s.setRfch 95 { s.rfch 95 with ncoFix := none }).muted 95 = false)
    ∧ (Tbl.wf (fun _ => FbChan.init) State.reset.fb = true ∧ State.reset.fault.outclrLow = false)
    ∧ (({ State.reset with fault := { FaultPath.init with start := false, outclrLow := true } } : State).fault.asserted = false)
    ∧ (({ State.reset with fault := { FaultPath.init with outclrLow := true } } : State).fault.asserted = true)
    ∧ (let s := playing play0; s.rfBusy 95 = true ∧ (s.rfch 95).line = [] ∧ (s.rfch 95).pipe = [] ∧ (s.rfch 95).queue = []
      ∧ Tbl.wf resetWord s.regs = true ∧ Tbl.wf (fun _ => RfChan.init) s.rf = true) := by decide

def strobe0 : StrobeReq := ⟨2000000, [0], false, false⟩
/-- Group 15 with a strobe due, at tick 2,000,000. -/
def strobing (p : Power) (last : Option Tick) : State :=
  { atTick 2000000 with groups := [(15, { Group.init with st := p, reqs := [strobe0], lastStrobe := last })],
                        fault := { FaultPath.init with start := false } }
def moved0 (T : Tick) (x : FbChan) : State := { atTick T with fb := [(127, x)] }
def grpIn (p : Power) (en : Bool) : State :=
  { State.reset with groups := [(15, { Group.init with st := p, enPending := en })], banks := [(5, ⟨p, 0, en⟩)] }
theorem witness_StrobesBanksAndGroups :
    (let s := strobing .on (some 0);
      earliestReq (s.grp 15).reqs = some strobe0 ∧ (strobe0.tick - s.now).toInt ≤ 0 ∧ s.itemsBefore 15 strobe0.tick = false
      ∧ (s.grp 15).st = .on ∧ (s.grp 15).judged = none ∧ (s.grp 15).lastStrobe = some 0 ∧ 2000000 ≤ (strobe0.tick - 0).toInt
      ∧ 383 ∈ groupChans 15 ∧ s.clearHeld = false ∧ (s.fbch 383).inWindow strobe0.tick = false ∧ 0 ∉ groupChans 15
      ∧ Tbl.wf (fun _ => Group.init) s.groups = true)
    ∧ ((strobing .on (some 1)).grp 15).lastStrobe = some 1 ∧ (strobe0.tick - 1).toInt < 2000000
    ∧ ((strobing .off none).grp 15).st ≠ .on
    ∧ (let s := moved0 4096 { FbChan.init with moves := [⟨0, 0, 1, 63, 4096⟩] };
      (s.fbch 127).moveAt s.now = some ⟨0, 0, 1, 63, 4096⟩ ∧ (⟨0, 0, 1, 63, 4096⟩ : OutMove).runs s.now = false)
    ∧ (let s := moved0 6000 { FbChan.init with window := some (0, 0) };
      (s.fbch 127).window = some (0, 0) ∧ (0 : Tick).toNat + 6000 ≤ s.now.toNat)
    ∧ (((grpIn .shuttingDown false).bank 5).st = .shuttingDown ∧ ((grpIn .shuttingDown false).bank 5).enPending = false
      ∧ ((grpIn .shuttingDown true).bank 5).enPending = true ∧ (grpIn .shuttingDown true).cmk.abort = false
      ∧ ((grpIn .poweringUp false).grp 15).st = .poweringUp ∧ ((grpIn .shuttingDown true).grp 15).st = .shuttingDown
      ∧ ((grpIn .shuttingDown true).grp 15).enPending = true ∧ (⟨15, false⟩ : GroupResult).group = 15) := by decide

/-! ### Acquisition, Crucibles and Sprue -/

def win0 : Win := ⟨15, 255, 0, 0, 8, 0, false, none, false, 3, 1, 8, true, [], false, false, false⟩
def withAdc (t : Tick) (a : AdcChan) : State := { atTick t with adc := [(31, a)] }
def start0 (t : Tick) : WinStart := ⟨t, 255, 0x8000, 1, none⟩
theorem witness_AdcWindowsOpenAndClose :
    (let w := start0 24; let s := withAdc 0 { AdcChan.init with starts := [w] };
      Tbl.wf (fun _ => AdcChan.init) s.adc = true ∧ Tbl.wf resetWord s.regs = true ∧ (s.adcch 31).starts = w :: []
      ∧ 24 ≤ ((w.stamp + BitVec.ofNat 64 (s.fld (aAdcWdly 31 w.ctx.toNat) 19 0)) - s.now).toInt ∧ w.mask = 1#16 <<< (15 : Nat)
      ∧ (s.adcch 31).wins = [])
    ∧ (let w := start0 24; let s := withAdc 0 { AdcChan.init with starts := [w], wins := [{ win0 with bEnd := 10 }] };
      (s.adcch 31).wins = [{ win0 with bEnd := 10 }] ∧ ({ win0 with bEnd := 10 } : Win).meets (s.newWin 31 15 w 24 none) = true
      ∧ ({ win0 with bEnd := 10 } : Win).o ≠ 24)
    ∧ (let w := start0 23; let s := withAdc 0 { AdcChan.init with starts := [w] };
      (s.adcch 31).starts = w :: [] ∧ ((w.stamp + BitVec.ofNat 64 (s.fld (aAdcWdly 31 w.ctx.toNat) 19 0)) - s.now).toInt < 24)
    ∧ (let s := withAdc 0 { AdcChan.init with wins := [win0] };
      (s.adcch 31).wins.find? (fun y => y.tone == 15 && !y.opened && decide (y.o.toNat ≤ s.now.toNat)) = some win0
      ∧ (s.adcch 31).refbuf ≠ .ready)
    ∧ (let y : Win := { win0 with opened := true, nextB := 8 }; y.tone = 15 ∧ y.opened = true ∧ y.bEnd ≤ y.nextB ∧ y.decided = false)
    ∧ (let s := withAdc 80000 { AdcChan.init with refbuf := .starting };
      (s.adcch 31).refbuf = .starting ∧ 80000 ≤ s.ticksSince (s.adcch 31).rOn)
    ∧ (let s := withAdc 0 { AdcChan.init with refbuf := .shuttingDown }; (s.adcch 31).refbuf = .shuttingDown ∧ (s.adcch 31).enPending = false)
    ∧ (let s := withAdc 0 { AdcChan.init with refbuf := .shuttingDown, enPending := true }; (s.adcch 31).enPending = true)
    ∧ (let s := withAdc 0 { AdcChan.init with rangePending := some 0 };
      (s.adcch 31).quiet s.now = true ∧ (s.adcch 31).rangePending = some 0 ∧ (0 : BitVec 2) ≠ (s.adcch 31).range ∧ (s.adcch 31).disPending = false)
    ∧ (let s := withAdc 0 { AdcChan.init with disPending := true };
      (s.adcch 31).quiet s.now = true ∧ (s.adcch 31).rangePending = none ∧ (s.adcch 31).disPending = true)
    ∧ (let s := withAdc 0 { AdcChan.init with rangePending := some 0, disPending := true };
      (s.adcch 31).quiet s.now = true ∧ (s.adcch 31).disPending = true)
    ∧ (let s := withAdc 0 { AdcChan.init with switched := some 0, rangePending := some 3 };
      (s.adcch 31).switched.isSome = true ∧ (s.adcch 31).rangePending = some (s.adcch 31).range)
    ∧ (let s := withAdc 0 { AdcChan.init with switched := some 0, rangePending := some 1 };
      (s.adcch 31).rangePending ≠ some (s.adcch 31).range) := by decide

/-- Tone 15 of channel 31 has an open window; its Crucible is as given. -/
def beatSt (u : Cru) : State := { withAdc 52 { AdcChan.init with wins := [{ win0 with opened := true }] } with crus := [(31, u)] }
def beat0 : Beat := ⟨0, 0, 0x8000, [], []⟩
theorem witness_BlocksBecomeBeats :
    (let s := beatSt { Cru.init with st := .executing };
      Tbl.wf (fun _ => AdcChan.init) s.adc = true ∧ Tbl.wf (fun _ => Cru.init) s.crus = true ∧ Tbl.wf resetWord s.regs = true
      ∧ s.cruPhys 31 < 34 ∧ (s.adcch 31).nextBlock = some 0 ∧ 64 * 0 + 63 + 560 ≤ 12 * s.now.toNat ∧ (s.cru (s.cruPhys 31)).wp < 512
      ∧ (s.cru (s.cruPhys 31)).beats.length < 64 ∧ (s.cru (s.cruPhys 31)).st = .executing)
    ∧ (let s := beatSt { Cru.init with st := .waiting }; (s.cru (s.cruPhys 31)).beats = [] ∧ (s.cru (s.cruPhys 31)).st = .waiting)
    ∧ (let s := beatSt { Cru.init with st := .executing, beats := List.replicate 64 beat0 }; 64 ≤ (s.cru (s.cruPhys 31)).beats.length)
    ∧ (let s := beatSt { Cru.init with st := .stopped }; let w : Win := { win0 with opened := true };
      (s.cru (s.cruPhys 31)).st = .stopped ∧ (s.adcch 31).inBlock 0 = [w] ∧ (s.adcch 31).wins = [w] ∧ w.b0 ≤ 0 ∧ 0 < w.spanEnd) := by decide

def fields0 : CruFields := ⟨0, true, true, false, 0, 0, false, 511⟩
/-- Crucible 33 at a class D instruction; the kernel of lane 15 ends with it, and its window is open. -/
def lane15 : Lane := { Lane.init with kc := 1, opened := true, v := true }
def cruData (op : Nat) (l : Tbl Lane) : State :=
  { State.reset with crus := [(33, { Cru.init with st := .executing, prog := [(0, encM op fields0)], codeCount := 1, lanes := l })] }
theorem witness_CrucibleArithmetic :
    ([0x01, 0x03, 0x04, 0x05, 0x06, 0x07, 0x08, 0x09] : List Nat).all (fun op =>
      let s := cruData op [(15, lane15)]
      Tbl.wf (fun _ => Cru.init) s.crus && Tbl.wf (fun _ => Lane.init) (s.cru 33).lanes && Tbl.wf (fun _ => (0 : W32)) (s.cru 33).work
      && (List.range 15).all (fun t => ((s.cru 33).lane t).kc != 1) && laneOn fields0.cnd ((s.cru 33).lane 15)
      && ((s.cru 33).lane 15).kc == 1 && ((s.cru 33).lane 15).opened && s.cruDataTurn 33 op fields0) = true := by decide
theorem witness_CrucibleArithmetic_window :
    (let s : State := { cruData 1 [(15, lane15)] with adc := [((cruData 1 []).cruChan 33, { AdcChan.init with wins := [{ win0 with opened := true }] })] };
      (s.adcch (s.cruChan 33)).wins.find? (fun w => w.tone == 15 && w.b0 == ((s.cru 33).lane 15).b0) = some { win0 with opened := true }) := by
  decide

def cruAt (w : W32) (b : List Beat) : State :=
  { State.reset with crus := [(33, { Cru.init with st := .executing, prog := [(0, w)], codeCount := 1, beats := b })] }
def beat1 : Beat := ⟨0, 511, 0x8000, [], []⟩
def mark15 : OpenMark := ⟨15, 255, 3, 0, 0⟩
theorem witness_CrucibleControl :
    ([encCruB 0x00 0 0 0, encS 0x20 7 0 0xFFFF, encS 0x21 7 7 0xFFFF, encCruB 0x30 0 0 1023, encCruB 0x31 7 0 1023, encCruB 0x34 0 255 0].all
      (fun w => (cruAt w []).cruExecutes 33 w)) = true
    ∧ ([0x02, 0x0A].all (fun op => (cruAt (encM op { fields0 with cmode := 2 }) [beat1]).cruExecutes 33 (encM op { fields0 with cmode := 2 }))) = true
    ∧ ((cruAt 0 [beat1]).cru 33).beats = beat1 :: [] ∧ ((cruAt 0 [beat1]).cru 33).stopReq = none ∧ ((cruAt 0 []).cru 33).beats = []
    ∧ (∀ n, n < 16 → (((cruAt 0 [beat1]).cru 33).lane n).closing = false)
    ∧ (let b : Beat := { beat1 with opens := [mark15] }; b.opens.find? (fun y => y.tone == 15) = some mark15
      ∧ b.closes.find? (fun y => y.1 == 15) = none ∧ b.opens.find? (fun y => y.tone == 14) = none)
    ∧ (({ Cru.init with stopReq := some 0 } : Cru).stopReq = some 0)
    ∧ Tbl.wf (fun _ => Cru.init) (cruAt 0 [beat1]).crus = true ∧ Tbl.wf (fun _ => (0 : BitVec 16)) ((cruAt 0 [beat1]).cru 33).s = true
    ∧ Tbl.wf (fun _ => (0 : W32)) ((cruAt 0 [beat1]).cru 33).work = true := by decide

def integral0 : Integral := ⟨15, 7, 0, 7, 1, 0, false, true, 15, [0, 0, 0, 0, 0, 0, 0, 0]⟩
def cruIn (u : Cru) (T : Tick) : State := { atTick T with crus := [(31, u)] }
theorem witness_DecisionsAndCrucibleStops :
    (let s := (withAdc 0 { AdcChan.init with integrals := [integral0], wins := [win0] }).setReg (aCruPub 31 15) 0x1EF;
      Tbl.wf (fun _ => AdcChan.init) s.adc = true ∧ Tbl.wf resetWord s.regs = true ∧ s.cruPhys 31 < 34
      ∧ (s.adcch 31).integrals.find? (fun i => i.tone == 15) = some integral0 ∧ integral0.classify = true
      ∧ (s.adcch 31).integrals.filter (fun j => j.beat == integral0.beat) = [integral0]
      ∧ (s.adcch 31).wins.find? (fun z => z.tone == integral0.tone && z.b0 == integral0.b0) = some win0
      ∧ win0.damaged = false ∧ win0.decided = false ∧ win0.tone = 15 ∧ win0.hop.toNat < 16
      ∧ (s.reg (aCruPub (s.cruPhys 31) 15)).getLsbD 8 = true ∧ (s.reg (aCruPub (s.cruPhys 31) 14)).getLsbD 8 = false)
    ∧ (let s := cruIn { Cru.init with pending := some (0, [(0, 1), (511, 2)]) } 0;
      Tbl.wf (fun _ => Cru.init) s.crus = true ∧ (s.cru 31).pending = some (0, [(0, 1), (511, 2)]) ∧ ((0 : Tick) - s.now).toInt ≤ 0
      ∧ (s.cru 31).aheadPending = none
      ∧ (([(0, 1), (511, 2)] : List (Nat × W32)).map Prod.fst).Nodup ∧ ∀ y ∈ ([(0, 1), (511, 2)] : List (Nat × W32)), y.1 < 512)
    ∧ (let s := cruIn { Cru.init with aheadPending := some (0, [(511, 2)]) } 0;
      (s.cru 31).aheadPending = some (0, [(511, 2)]) ∧ (s.cru 31).pending = none)
    ∧ (let s := beatSt { Cru.init with st := .repeating, lanes := [(15, { Lane.init with opened := true })] }; s.cruLogical 31 = some 31 ∧ (s.cru 31).st = .repeating ∧ (s.cru 31).beats = []
      ∧ s.openWins 31 31 = [{ win0 with opened := true }] ∧ win0.closed = false)
    ∧ (let s := cruIn { Cru.init with stopReq := some 0, st := .executing } 20000;
      (s.cru 31).stopReq = some 0 ∧ 20000 ≤ s.ticksSince 0 ∧ (s.cru 31).st ≠ .repeating ∧ s.cruLogical 31 = some 31)
    ∧ ((cruIn { Cru.init with stopReq := some 0, st := .repeating } 0).cru 31).st = .repeating := by decide

def ev0 (ch : Byte) : Ev := ⟨ch, 0, 0, 1, 0, false, false, 0⟩
theorem witness_RoundsArePresentedInOrder :
    (sortEvs [{ ev0 0 with stamp := 1 }, ev0 0])[0]? = some (ev0 0) ∧ (sortEvs [{ ev0 0 with stamp := 1 }, ev0 0])[0 + 1]? = some { ev0 0 with stamp := 1 } := by
  decide
def atInput0 (i : TaskInput) (v : Ev) : State := { State.reset with waiting := [(i, v)] }
theorem witness_SprueEventsReachTheirConsumers :
    (([.latch 127 239, .player 1023, .adcTrig 31, .grpStrobe 15, .relay 63, .trigOut 7, .flag 255, .capTrig, .sendOut 255] : List TaskInput).all
      (fun i => ((atInput0 i (ev0 255)).atInput i).take 1 == [ev0 255])) = true
    ∧ (∀ y ∈ ((atInput0 (.flag 255) (ev0 255)).atInput (.flag 255)).take 1, y.ch = 255)
    ∧ (State.reset.eng 127).swap = none ∧ (State.reset.eng 127).wait = none ∧ (withEng { eng0 with swap := some ⟨0, []⟩ } |>.eng 0).swap = some ⟨0, []⟩
    ∧ (let v : Ev := { ev0 0 with stamp := 24 }; let s := State.reset.setReg (aPlyJtgt (toneChan 1023) (toneIdx 1023) 0) 0x80000000;
      (s.reg (aPlyJtgt (toneChan 1023) (toneIdx 1023) 0)).getLsbD 31 = true ∧ 24 ≤ (Tick.ofStamp s.now v.stamp - s.now).toInt
      ∧ s.fld (aPlyJcfg (toneChan 1023) (toneIdx 1023)) 31 16 = 0 ∧ (s.tone 1023).jumps.length < 8
      ∧ s.fld (aGrpStrb 15) 31 16 = 0 ∧ fieldOf (s.reg (aSprTrig 7)) 23 8 = 0
      ∧ (State.reset.reg (aPlyJtgt (toneChan 1023) (toneIdx 1023) 0)).getLsbD 31 = false)
    ∧ ((State.reset.setReg (aSprRlyCfg 63) 0x80000000).reg (aSprRlyCfg 63)).getLsbD 31 = true
    ∧ (let s : State := { State.reset with clock := { Clock.init with mono := 1000000 }, notes := [(255, ⟨some 0, some (ev0 255)⟩)] };
      (s.flagNote 255).deferred = some (ev0 255) ∧ (s.flagNote 255).last = some 0 ∧ 1000000 ≤ s.since 0)
    ∧ (let s : State := { State.reset with timers := [(15, ⟨some 64⟩)] };
      (s.timer 15).next = some 64 ∧ ((64 : Tick) - s.now).toInt ≤ 64 ∧ Tbl.wf (fun _ => (⟨none⟩ : TimerRun)) s.timers = true)
    ∧ (let s := State.reset.setReg (aSprTrig 7) 0x800000EF;
      (s.reg (aSprTrig 7)).getLsbD 31 = true ∧ (s.reg (aSprTrig 7)).getLsbD 30 = false ∧ true = !(s.reg (aSprTrig 7)).getLsbD 29
      ∧ Tbl.wf resetWord s.regs = true)
    ∧ (let s : State := { atTick 16 with pulses := [(7, ⟨[16], some 0⟩)] };
      takeTick (Tbl.get s.pulses 7 TrigOut.init).due = some (16, []) ∧ 0 ≤ (s.now - 16).toInt ∧ 16 ≤ ((16 : Tick) - 0).toInt
      ∧ (Tbl.get s.pulses 7 TrigOut.init).last = some 0 ∧ Tbl.wf (fun _ => TrigOut.init) s.pulses = true)
    ∧ (let s : State := { atTick 15 with pulses := [(7, ⟨[15], some 0⟩)] };
      takeTick (Tbl.get s.pulses 7 TrigOut.init).due = some (15, []) ∧ (Tbl.get s.pulses 7 TrigOut.init).last = some 0
      ∧ ((15 : Tick) - 0).toInt < 16) := by decide

/-! ### Runner links and time -/

def withPort (x : Port) : State := { State.reset with ports := [(7, x)] }
def linkAt (s : State) (n : W64) : State := { s with clock := { s.clock with link := n } }
def monoAt (s : State) (n : W64) : State := { s with clock := { s.clock with mono := n } }
/-- Lanes of a mask pass SIGNAL; the lanes of `l` show the raw pattern, its inverse on lane 0, and their own training sequences. -/
def stage0 (m : BitVec 9) (l : List Nat) : StageObs :=
  ⟨m, (List.range 9).map (fun k => if l.contains k then (if k = 0 then ~~~rawPattern else rawPattern) else 0xFF),
    (List.range 9).map (fun k => if l.contains k then [0xBC, BitVec.ofNat 8 (0xA0 + k), 5, 7, 0xFF] else []),
    (List.range 9).map (fun k => if l.contains k then 32 else 33)⟩
/-- A frame of a type without body or with the body given, whose check holds. -/
def frame0 (ty : Nat) (body : List Byte) : FrameIn :=
  let b := frameBytes ty 0 body
  ⟨b.take 7, body, b.drop (7 + body.length), ⟨none, []⟩⟩
def lanesUp (m : List Nat) (s : State) : State := m.foldl (fun s l => s.setBit (aRunLaneStat 7 l) 2 true) s
theorem witness_RunnerBringUp :
    (let s := withPort { Port.init with st := .align, search := [(8, 9)] };
      Tbl.wf resetWord s.regs = true ∧ Tbl.wf (fun _ => Port.init) s.ports = true ∧ Tbl.wf (fun _ => (0 : Nat)) (s.port 7).search = true
      ∧ s.cmk.abort = false ∧ (s.port 7).searching = true ∧ s.bit (aRunPortCtrl 7) 2 = false ∧ s.bit (aRunLaneStat 7 8) 2 = false
      ∧ (s.port 7).out.getLsbD 8 = false ∧ Tbl.get (s.port 7).search 8 0 = 9 ∧ Tbl.get (s.port 7).search 7 0 < 9
      ∧ (s.port 7).out = 0 ∧ ({ Port.init with out := 1 } : Port).out ≠ 0)
    ∧ ((lanes9 (0 ||| ~~~(stage0 0x0FF []).signal)).length ≤ 1 ∧ 2 ≤ (lanes9 (0 ||| ~~~(stage0 0x07F []).signal)).length)
    ∧ (let o := stage0 0 [0, 1, 2, 3, 4, 5, 6, 7]; let turned := maskOf (fun k => (laneInverted (o.bits.getD k 0)).isSome);
      (lanes9 (0 ||| ~~~turned)).length = 1 ∧ laneInverted (o.bits.getD 0 0) = some true
      ∧ (lanes9 (0 ||| ~~~(maskOf (fun k => decide (o.skew.getD k 33 ≤ 32))))).length ≤ 1
      ∧ orderFound (ownIds (~~~0) o) o = true ∧ orderFound (ownIds (~~~0) (stage0 0 [0, 1])) (stage0 0 [0, 1]) = false
      ∧ orderFound (ownIds (~~~(0x080#9)) (stage0 0 [0, 1, 2, 3, 4, 5, 6, 8])) (stage0 0 [0, 1, 2, 3, 4, 5, 6, 8]) = true)
    ∧ (let o := stage0 0 [0, 1]; 2 ≤ (lanes9 (0 ||| ~~~(maskOf (fun k => (laneInverted (o.bits.getD k 0)).isSome)))).length
      ∧ 2 ≤ (lanes9 (0 ||| ~~~(maskOf (fun k => decide (o.skew.getD k 33 ≤ 32))))).length)
    ∧ (let s := lanesUp [0, 1, 2, 3, 4, 5, 6, 7] (withPort { Port.init with st := .align }); (lanes9 (s.alignedLanes 7)).length = 8
      ∧ (lanes9 ((withPort { Port.init with st := .align }).alignedLanes 7)).length < 8)
    ∧ (∀ st ∈ ([.signal, .polarity, .align, .laneOrder, .deskew] : List PortSt), ((withPort { Port.init with st := st }).port 7).st = st)
    ∧ (∀ n ∈ [3, 4, 5], (({ Port.init with st := .resync, resyncStage := n, wasUp := true } : Port).resyncStage = n))
    ∧ (let s := withPort { Port.init with st := .measure, measN := 4096, measMax := 16777215, gotEnable := true };
      (s.port 7).st = .measure ∧ 4096 ≤ (s.port 7).measN ∧ (s.port 7).sentEnable = false ∧ (s.port 7).measMax.toNat < 2 ^ 24)
    ∧ (let s := withPort { Port.init with st := .measure, sentEnable := true }; let f := frame0 5 [];
      (s.port 7).hears = true ∧ ((s.seeLine 7 f.line).port 7).hears = true ∧ frameKind f = some 5
      ∧ ((s.seeLine 7 f.line).port 7).st = .measure ∧ ((s.seeLine 7 f.line).port 7).sentEnable = true)
    ∧ (let s := withPort { Port.init with st := .enabled }; ((s.seeLine 7 (frame0 5 []).line).port 7).st ≠ .measure
      ∧ frameKind { frame0 5 [] with check := [] } ≠ some 5)
    ∧ (let s := withPort { Port.init with st := .enabled, swapWant := some 0 }; let o : LineObs := ⟨none, [(1, 8, 0)]⟩;
      ((((s.setFld (aRunLaneStat 7 1) 11 8 1).setFld (aRunLaneStat 7 8) 11 8 0).seeLine 7 o).port 7).hears = false)
    ∧ (Port.init.hears = false)
    ∧ (let s := linkAt (withPort { Port.init with st := .deskew }) 32000;
      s.stageLimit 7 = some 32000 ∧ 32000 ≤ (s.clock.link - (s.port 7).since).toNat)
    ∧ (let s := linkAt ((withPort { Port.init with st := .failed, fails := 1 }).setBit (aRunPortCtrl 7) 0 true) 3200000;
      (s.port 7).st = .failed ∧ s.bit (aRunPortCtrl 7) 0 = true
      ∧ (if (s.port 7).fails ≤ 1 then 3200000 else if (s.port 7).fails = 2 then 32000000 else 3200000000) ≤ (s.clock.link - (s.port
      7).since).toNat) := by
  decide +kernel

def onPort : Port := { Port.init with st := .enabled }
def remote0 : Ev := ⟨239, 0, 0, 15, 0, false, false, 0⟩
def toMe (q : BitVec 16) (d : BitVec 6) : BlockIn := ⟨blockBytes d 0 q remote0, ⟨none, []⟩⟩
def heard0 (x : Port) (b : BlockIn) : Port := ((withPort x).seeLine 7 b.line).port 7
def ack0 (n : BitVec 16) : AckFrame := ⟨0xFFFF, n, 0, 0xFF, 0⟩
theorem witness_RunnerItemsAreSequenced :
    (let s := withPort { onPort with queue := [.loss 0 0, .block 0 0 remote0 none] };
      Tbl.wf resetWord s.regs = true ∧ Tbl.wf (fun _ => Port.init) s.ports = true ∧ (s.port 7).st = .enabled
      ∧ (s.port 7).unacked.length < 8192 ∧ (s.port 7).queue = [.loss 0 0] ++ .block 0 0 remote0 none :: [] ∧ sdiff s.now.stamp remote0.use ≤ 2000)
    ∧ ((withPort { onPort with queue := [.loss 0 0, .loss 1 0] }).port 7).queue = .loss 0 0 :: [.loss 1 0]
    ∧ (2000 < sdiff (atTick 2001).now.stamp remote0.use) ∧ (Port.init.st ≠ .enabled ∧ Port.init.queue = [])
    ∧ (onPort.carries = true ∧ (heard0 onPort (toMe 0 0)).carries = true ∧ (heard0 onPort (toMe 0 0)).rxTop = 0
      ∧ (heard0 onPort (toMe 0 0)).gaps = [] ∧ seqDiff 0xFFFF 0 < 0 ∧ 0 < seqDiff 1 0 ∧ remote0.hop.toNat < 16)
    ∧ (([] : List Byte).length ≠ 23 ∧ (withPort onPort).bit (aRunPortCtrl 7) 1 = false
      ∧ (((withPort onPort).setBit (aRunPortCtrl 7) 1 true).setBit (aSprCh 239) 31 true).bit (aSprCh 239) 31 = true
      ∧ ((withPort onPort).bit (aSprCh 239) 31 = false))
    ∧ (let s := ((withPort onPort).setReg (aRunRoute 5) 0x86) |>.setPort 6 onPort; ((s.route 5 = some 6 ∨ s.route 5 = none)
      ∧ (s.port 6).carries = true)
      ∧ (withPort onPort).route 5 = none)
    ∧ (let g : Gap := ⟨0, 1, 0, .lost⟩; (heard0 { onPort with gaps := [g], rxTop := 1 } (toMe 0 0)).gaps = g :: [] ∧ seqDiff 0 1 < 0)
    ∧ (let f := frame0 1 (ack0 0).body; (onPort.hears = true ∧ ((withPort onPort).seeLine 7 f.line |>.port 7).carries = true
      ∧ frameKind f = some 1 ∧ 8 ≤ (ackOf f.body).swapReq.toNat ∧ seqDiff (ackOf f.body).txNext onPort.rxTop ≤ 0 ∧ onPort.gapHolds = false
      ∧ 0 < seqDiff (ackOf (ack0 1).body).txNext onPort.rxTop ∧ frameKind (frame0 5 []) ≠ some 1))
    ∧ ({ onPort with st := .stalled } : Port).st = .stalled
    ∧ (let g : Gap := ⟨0, 1, 0, .unfilled⟩; let s := linkAt (withPort { onPort with gaps := [g] }) 32000;
      (s.port 7).gaps = g :: [] ∧ g.st = .unfilled ∧ 32000 ≤ (s.clock.link - g.known).toNat)
    ∧ (let g : Gap := ⟨0, 1, 1, .unfilled⟩; let s := linkAt (withPort { onPort with gaps := [g] }) 32000;
      (s.clock.link - g.known).toNat < 32000) := by
  decide +kernel
/-- A LOSS frame whose check holds: its body's layout is left open, its length is not. -/
theorem witness_RunnerItemsAreSequenced_loss :
    frameKind (frame0 4 (List.replicate 8 0)) = some 4 ∧ frameSeq (frame0 4 (List.replicate 8 0)) = onPort.rxTop
    ∧ frameKind (frame0 5 []) ≠ some 4 := by decide +kernel

def txItem0 : TxItem := ⟨0, .loss 0 0, 0, 0, 0⟩
/-- An item overdue on a port of a state, with what else the port shows. -/
def overdue0 (x : Port) : State := linkAt (withPort { x with unacked := [txItem0] }) 6400
/-- Lane 7 carries logical lane 7, and L8 stands free. -/
def lanes78 (x : Port) : State := ((withPort x).setFld (aRunLaneStat 7 7) 11 8 7).setFld (aRunLaneStat 7 8) 11 8 8
def swapAck (k : Byte) : FrameIn := frame0 1 (AckFrame.body ⟨0xFFFF, 0, 0, k, 0⟩)
/-- A lane that has shown 115 code errors in the last hour meets one more. -/
theorem witness_RunnerLinkFaults_hour :
    let s := lanes78 { onPort with hour := [(0, 7, 115)] }; (s.port 7).carries = true ∧ (s.port 7).errs = []
      ∧ (s.port 7).hour = [(0, 7, 115)] ∧ s.since 0 ≤ 3600000000000 ∧ s.laneLogical 7 7 < 8 ∧ s.rxSpareFree 7 = true
      ∧ ((s.seeLine 7 ⟨none, [(7, 0, 1)]⟩).port 7).swapWant = some 7 ∧ ((s.seeLine 7 ⟨none, []⟩).port 7).swapWant = none
      ∧ (s.setFld (aRunLaneStat 7 8) 11 8 6).rxSpareFree 7 = false
      ∧ ((s.setFld (aRunLaneStat 7 8) 11 8 6).seeLine 7 ⟨none, [(7, 0, 1)]⟩).bit aMldAlert 5 = true := by
  decide +kernel

theorem witness_RunnerLinkFaults :
    (let s := overdue0 onPort;
      (s.port 7).unacked = txItem0 :: [] ∧ 6400 ≤ (s.clock.link - txItem0.sent).toNat ∧ (s.port 7).st = .enabled ∧ (s.port 7).swapAt = none
      ∧ (s.port 7).worstLane s.clock.link = none ∧ s.cmk.abort = false)
    ∧ (let s := overdue0 { onPort with errs := [⟨6400, 7, 7, 1⟩] };
      (s.port 7).worstLane s.clock.link = some 7 ∧ s.bit (aRunPortStat 7) 11 = false
      ∧ (s.setBit (aRunPortStat 7) 11 true).bit (aRunPortStat 7) 11 = true)
    ∧ (let s := overdue0 { onPort with swapAt := some 0 }; (s.port 7).swapAt = some 0 ∧ 0 ≤ ((0 : W64) - txItem0.first).toInt)
    ∧ (let s := overdue0 { onPort with st := .stalled, resentAfterResync := true };
      (s.port 7).st = .stalled ∧ (s.port 7).resentAfterResync = true)
    ∧ (let s := overdue0 { onPort with st := .stalled }; (s.port 7).resentAfterResync = false)
    ∧ (∀ n ∈ [0, 32], ({ onPort with fill := n } : Port).buffers = true
      ∧ (({ onPort with fill := n } : Port).fill = 0 ∨ 32 ≤ ({ onPort with fill := n } : Port).fill))
    ∧ (let s := lanes78 onPort; (s.port 7).carries = true ∧ (s.port 7).errs = [] ∧ s.laneLogical 7 7 < 8 ∧ s.rxSpareFree 7 = true
      ∧ s.bit (aRunLaneStat 7 7) 3 = false ∧ (s.port 7).swapWant ≠ some 7 ∧ s.laneLogical 7 8 = 8 ∧ Tbl.wf resetWord s.regs = true)
    ∧ (let s := (lanes78 onPort).setFld (aRunLaneStat 7 8) 11 8 6; s.rxSpareFree 7 = false)
    ∧ ((0xA7 : Byte).toNat = 0xA0 + 7) := by
  decide +kernel
theorem witness_RunnerLinkFaults_more :
    (let x : Port := { Port.init with st := .align }; x.carries = false ∧ x.st ≠ .off ∧ x.st ≠ .failed ∧ x.out = 0
      ∧ ({ x with out := 1 } : Port).out ≠ 0 ∧ ({ x with out := 1 } : Port).out.getLsbD 8 = false)
    ∧ (let s := lanes78 onPort; let f := swapAck 7; (s.port 7).hears = true ∧ frameKind f = some 1
      ∧ (ackOf f.body).swapReq.toNat = 7 ∧ s.bit (aRunPortStat 7) 11 = false
      ∧ ((s.setBit (aRunPortStat 7) 11 true).setFld (aRunPortStat 7) 14 12 7).fld (aRunPortStat 7) 14 12 = 7)
    ∧ (let s := linkAt (withPort { onPort with measN := 4096, measMax := 16777215 }) 3200000000;
      (s.port 7).st = .enabled ∧ 4096 ≤ (s.port 7).measN ∧ 3200000000 ≤ (s.clock.link - (s.port 7).measAt).toNat
      ∧ (s.port 7).measMax.toNat < 2 ^ 24
      ∧ s.fld (aRunPortDacc 7) 23 0 = 0 ∧ (s.setFld (aRunPortDacc 7) 23 0 5).fld (aRunPortDacc 7) 23 0 ≠ 0
      ∧ 5000 < ((16777215 : Int) - 5).natAbs) := by
  decide +kernel
theorem witness_RunnerLinkFaults_meas :
    frameKind (frame0 2 (List.replicate 8 0)) = some 2 ∧ onPort.hears = true ∧ frameKind (frame0 5 []) ≠ some 2 := by decide +kernel
set_option maxRecDepth 10000 in
theorem witness_RunnerLinkFaults_line : (lanes78 onPort).seeLine 7 (swapAck 7).line = lanes78 onPort := by
  rfl

/-- The module at tick 5, its role and upstream port as the word says, port 7 ENABLED, with a request outstanding. -/
def timed (cfg : W32) (c : CastSync) : State :=
  { (withPort onPort).setReg aTimCastCfg cfg with cast := { c with reqs := [(7, 9, ⟨5, 0⟩, 0)] }, clock := { Clock.init with cast := 5 } }
def timeF (reply unlocked : Bool) (t2 : Stamp) : TimeFrame := ⟨reply, 9, 0, unlocked, false, 5, 0, t2, 0, 5, 0⟩
def timeIn (reply unlocked : Bool) (t2 : Stamp) : FrameIn := frame0 3 (timeF reply unlocked t2).body
/-- What the module has noted of a TIME frame on port 7, and the offset that a reply gives. -/
def notedAt (s : State) (f : FrameIn) : State := (s.seeLine 7 f.line).noteTime 7 (timeOf f.body)
def offsetAt (s : State) (f : FrameIn) : Int := (notedAt s f).thetaOf 7 (timeOf f.body) ⟨s.now, 0⟩
def follower (c : CastSync) : State := timed 0x702 c
def root0 (c : CastSync) : State := timed 0x701 c
def fed (st : CastSt) (l : List Int) : CastSync := { CastSync.init with st := st, acq := l, samples := l, refinOk := true, pllLock := true }
theorem witness_CastTimeFollowsItsUpstream :
    (let s := follower CastSync.init; s.castRole = 2 ∧ s.cast.st ≠ .holdover ∧ s.castPort = 7 ∧ s.portUp s.castPort = true
      ∧ Tbl.wf resetWord s.regs = true ∧ Tbl.wf (fun _ => Tone.init) s.tones = true ∧ Tbl.wf (fun _ => peer0) s.cast.peers = true)
    ∧ (let s := follower { CastSync.init with st := .holdover, onBackup := true }; s.portUp (s.fld aTimCastCfg 10 8) = true)
    ∧ (let s := State.reset.setReg aTimCastCfg 0x702; s.castRole = 2 ∧ s.portUp s.castPort = false)
    ∧ ((root0 (fed .adopting [])).castRole = 1 ∧ (root0 (fed .adopting [])).cast.st = .adopting ∧ State.reset.castRole ≠ 2
      ∧ State.reset.castRole ≠ 1)
    ∧ (let s := root0 CastSync.init; let f := timeIn false false 5;
      (s.port 7).hears = true ∧ frameKind f = some 3 ∧ ((s.seeLine 7 f.line).port 7).st = .enabled ∧ (timeOf f.body).reply = false
      ∧ (notedAt s f).castRole = 1 ∧ (timeOf (timeIn true false 5).body).reply = true
      ∧ (notedAt (follower CastSync.init) f).castPort = 7 ∧ (notedAt (timed 0 CastSync.init) f).castRole = 0)
    ∧ (let s := follower (fed .acquiring (List.replicate 62 0)); let f := timeIn true false 5; let n := notedAt s f;
      n.cast.reqs.find? (fun r => r.1 == 7 && r.2.1 == (timeOf f.body).seq && r.2.2.1.tick.stamp == (timeOf f.body).t1) = some (7, 9, ⟨5, 0⟩, 0)
      ∧ s.since 0 ≤ 1000000 ∧ 1000000 < (monoAt s 1000001).since 0 ∧ n.castRole = 2 ∧ n.castPort = 7 ∧ n.cast.st = .acquiring
      ∧ n.cast.stepDue = none ∧ n.cast.acq.length + 1 < 64 ∧ offsetAt s f = 0)
    ∧ (let s := follower { fed .acquiring [] with reqs := [] };
      (notedAt { s with cast := { s.cast with reqs := [] } } (timeIn true false 5)).cast.reqs = [])
    ∧ (64 ≤ (List.replicate 63 (0 : Int)).length + 1 ∧ (medianInt (0 :: List.replicate 63 100)).natAbs ≤ 100
      ∧ 100 < (medianInt (0 :: List.replicate 63 200)).natAbs ∧ (medianInt (0 :: List.replicate 63 1000000)).natAbs ≤ 1000000
      ∧ 1000000 < (medianInt (0 :: List.replicate 63 1000002)).natAbs) := by decide +kernel
theorem witness_CastTimeFollowsItsUpstream_2 :
    (let c := (notedAt (follower (fed .holdover [])) (timeIn true false 5)).cast; c.st = .holdover ∧ c.cause ≠ 2 ∧ c.refinOk = true
      ∧ c.pllLock = true)
    ∧ ((fed .holdover []).moved = false ∧ ({ fed .holdover [] with moved := true } : CastSync).mayStep = false
      ∧ ({ fed .holdover [] with cause := 2 } : CastSync).cause = 2)
    ∧ ((0 :: List.replicate 63 (20 : Int)).sum.natAbs ≤ 20 * 64 ∧ 100 * 64 < (0 :: List.replicate 63 (102 : Int)).sum.natAbs
      ∧ (0 :: List.replicate 63 (20 : Int)).length = 64)
    ∧ (let s := root0 (fed .adopting []); (notedAt s (timeIn true false 5)).castRole = 1 ∧ (timeOf (timeIn true false 5).body).unlocked = false
      ∧ (offsetAt s (timeIn true false 5)).natAbs ≤ 100 ∧ 100 < (offsetAt s (timeIn true false 9)).natAbs)
    ∧ (let s : State := root0 { CastSync.init with stepDue := some 500 };
      s.cast.stepDue = some 500 ∧ s.runningRuns = 0)
    ∧ (let s : State := monoAt (follower { CastSync.init with st := .locked }) 10000001;
      s.castRole = 2 ∧ s.cast.st = .locked ∧ 10000000 < s.since s.cast.lastReply ∧ s.backupUsable = false ∧ s.cast.onBackup = false)
    ∧ (let s : State := timed 0xF602 { CastSync.init with st := .locked, peers := [(7, (false, 0))] };
      s.portUp s.castPort = false ∧ s.backupUsable = true)
    ∧ ((follower { CastSync.init with refinOk := true }).cast.refinOk = true ∧ (root0 { CastSync.init with pllLock := true }).cast.pllLock = true
      ∧ (root0 { CastSync.init with pllLock := true }).castRole ≠ 2) := by decide +kernel
theorem witness_CastTimeFollowsItsUpstream_3 :
    (let s : State := monoAt (root0 { CastSync.init with st := .adopting }) 50000000;
      s.castRole = 1 ∧ s.cast.st = .adopting ∧ s.cast.stepDue = none ∧ 50000000 ≤ s.since s.cast.adoptSince)
    ∧ (let s : State := monoAt ((root0 { CastSync.init with st := .holdover, holdSince := some 0 }).setFld aTimCastHold 15 0 1) 1000001;
      s.cast.st = .holdover ∧ s.cast.holdSince = some 0 ∧ s.fld aTimCastHold 15 0 * 1000000 < s.since 0) := by decide +kernel

/-- PTP on both ports in domain 255, stage 8 reached, and the time and message of a Sync. -/
def ptp (y : SysSync) : State :=
  { State.reset.setReg aTimSysCfg 0xFF004C01 with sys := y, boot := { Boot.init with stage := 8 } }
def ann0 : Announce := ⟨255, 0, 0, 0, 0, 0, 0, 254, 0⟩
def sync0 (t2 : Int) : PtpSync := ⟨255, 0, t2, 0⟩
theorem witness_TaiTimeFollowsItsMaster :
    (let s := ptp { SysSync.init with slavePort := some 1, pathDelay := some 7, dreq := some (3, 9), sync := some (1, 2, 0) };
      s.ptpOn 1 255 = true ∧ s.sys.slavePort = some 1 ∧ s.hostMode = false ∧ s.sys.pathDelay = some 7 ∧ s.sys.stepped = false
      ∧ s.ptpOn 1 (s.fld aTimSysCfg 31 24) = true ∧ s.sys.dreq = some (3, 9) ∧ s.sys.sync = some (1, 2, 0) ∧ Tbl.wf resetWord s.regs = true
      ∧ Tbl.wf (fun _ => (none : Option (Announce × W64))) s.sys.masters = true ∧ s.logTaken < 1000
      ∧ (Tbl.get s.txq 1 []).length < 16 ∧ 16 ≤ (List.replicate 16 0).length)
    ∧ (let s := ptp { SysSync.init with slavePort := some 1, pathDelay := some 7, stepped := true, st := .holdover };
      s.sys.pathDelay = some 7 ∧ s.sys.stepArmed = false ∧ s.sys.st = .holdover ∧ 1000000000 < (((sync0 1000000008).t2 - 0 - 0 - 7 : Int)).natAbs
      ∧ (((sync0 1000000007).t2 - 0 - 0 - 7 : Int)).natAbs ≤ 1000000000)
    ∧ (let r := ((50000 : Int) :: List.replicate 15 (-50000)).take 16; r.length = 16 ∧ ∀ x ∈ r, x.natAbs ≤ 50000)
    ∧ (let s := (ptp SysSync.init).setBit aTimSysCfg 15 true; s.hostMode = true ∧ s.ptpOn 0 255 = true)
    ∧ (let s := ptp { SysSync.init with st := .listening };
      s.ptpOn 1 ann0.domain.toNat = true ∧ s.sys.masters = [] ∧ ann0.steps.toNat < 255 ∧ s.sys.slavePort = none ∧ s.sys.st = .listening)
    ∧ (let s := ptp { SysSync.init with slavePort := some 1, masters := [(1, some ({ ann0 with identity := 5 }, 0))] };
      let n : Announce := { ann0 with identity := 4 };
      s.master 1 = some ({ ann0 with identity := 5 }, 0) ∧ s.master 0 = none
      ∧ lexLt (announceOrder n) (announceOrder { ann0 with identity := 5 }) = true
      ∧ lexLt (announceOrder { ann0 with identity := 6 }) (announceOrder { ann0 with identity := 5 }) = false)
    ∧ (let s := monoAt (ptp { SysSync.init with slavePort := some 1, masters := [(1, some (ann0, 0))] }) 3000000000;
      s.master 1 = some (ann0, 0) ∧ ann0.logInterval = 0 ∧ 3000000000 ≤ s.since 0 ∧ (monoAt s 2999999999).since 0 < 3000000000)
    ∧ (let s : State := { State.reset with clock := { Clock.init with sys := 1000000000 } };
      s.clock.sys.toNat % 1000000000 = 0 ∧ 0 < s.clock.sys.toNat / 1000000000 ∧ s.clock.sysFrac = 0
      ∧ BitVec.ofNat 32 (s.clock.sys.toNat / 1000000000) ≠ s.reg aTimCorrSec) := by decide +kernel
theorem witness_TaiTimeFollowsItsMaster_2 :
    ((ptp SysSync.init).bit aTimSysCfg 14 = true ∧ 8 ≤ (ptp SysSync.init).boot.stage ∧ (ptp SysSync.init).boot.ingot = false) := by decide +kernel
/-- Some destination address is that of neither port. -/
theorem witness_chain_destination : ∃ d : BitVec 48, d ≠ (ptp SysSync.init).portMac 0 ∧ d ≠ (ptp SysSync.init).portMac 1 := by
  generalize (ptp SysSync.init).portMac 0 = a
  generalize (ptp SysSync.init).portMac 1 = b
  by_cases h0 : (0 : BitVec 48) ≠ a ∧ (0 : BitVec 48) ≠ b
  · exact ⟨0, h0⟩
  · by_cases h1 : (1 : BitVec 48) ≠ a ∧ (1 : BitVec 48) ≠ b
    · exact ⟨1, h1⟩
    · refine ⟨2, ?_, ?_⟩ <;> (intro h; subst h; simp at h0 h1; rw [← h0] at h1; exact absurd h1 (by decide))

/-! ### Capture, interval units, runs, sessions and the Flask -/

/-- The unit in a state, probe 3 on as the word says, with its fire condition. -/
def capAt (probe fire : W32) (c : Cap) : State :=
  monoAt { (State.reset.setReg (aCapProbe 3) probe).setReg (aCapFire 3) fire with cap := c } 1000
def armed0 : Cap := { Cap.init with st := .armed }
def prop0 : Proposal := ⟨0, 0, 63, 0⟩
theorem witness_CaptureRecordsAroundItsTrigger :
    (let s := capAt 0x80000000 0x40007FFF armed0;
      s.probeOn 3 = true ∧ fieldOf (s.reg (aCapFire 3)) 31 30 = 1 ∧ (s.reg (aCapFire 3)).getLsbD 29 = false
      ∧ 32766 < sfieldOf (s.reg (aCapFire 3)) 15 0 ∧ sfieldOf (s.reg (aCapFire 3)) 15 0 ≤ 32767 ∧ s.cap.st = .armed ∧ s.cap.fired = false
      ∧ Tbl.wf (fun _ => 0) s.cap.gaps = true ∧ Tbl.wf (fun _ => (0 : Nat)) s.cap.k = true
      ∧ Tbl.wf (fun _ => ([] : List CapElem)) s.cap.decs = true ∧ Memory.wf s.dram = true ∧ Tbl.wf resetWord s.regs = true)
    ∧ (let s : State := { capAt 0x84000000 0x80550000 armed0 with
          adc := [(4, { AdcChan.init with wins := [⟨0, 0x55, 4, 0, 10, 0, true, none, false, 0, 0, 10, false, [], false, false, false⟩] })] };
      fieldOf (s.reg (aCapFire 3)) 31 30 = 2 ∧ (0x55 : Byte).toNat = fieldOf (s.reg (aCapFire 3)) 23 16 ∧ s.sawMarker 3 0x55 4 = true)
    ∧ (let s := capAt 0xE0000000 0xC0150000 { armed0 with decs := [(3, [.decision 7 5 1 0 0 0 0 0])] };
      fieldOf (s.reg (aCapFire 3)) 31 30 = 3 ∧ (5 : BitVec 4).toNat = fieldOf (s.reg (aCapFire 3)) 19 16
      ∧ (1 : BitVec 2).toNat = fieldOf (s.reg (aCapFire 3)) 21 20 ∧ s.sawDecision 3 5 1 7 = true)
    ∧ (let s := capAt 0 0 { armed0 with best := some prop0 }; s.cap.best = some prop0 ∧ 0 ≤ (s.now - prop0.t).toInt ∧ s.probeOn 3 = false)
    ∧ (let s := capAt 0 0 { armed0 with st := .triggered, best := some prop0 };
      s.cap.st = .triggered ∧ s.cap.best = some prop0 ∧ 0 ≤ (s.now - (prop0.t + BitVec.ofNat 64 (s.reg aCapPost).toNat)).toInt)
    ∧ (let s := capAt 0xA0000000 0 armed0;
      1000 ≤ s.since s.cap.lastCheck ∧ s.stepProbe = some 3 ∧ s.bit aCapCfg 31 = false ∧ s.probeOn 3 = true ∧ s.cap.marks = []
      ∧ (s.setBit aCapCfg 31 true).bit aCapCfg 31 = true ∧ (capAt 0xE0000000 0 armed0).stepProbe = none)
    ∧ (let s := asking (State.reset.setFld aMldPatStat 31 28 1) .operator 0x70;
      s.asks (sess0 .operator 0x70) 1 1 0x70 (some .operator) = true ∧ 1073741823 + 1 ≤ s.capBytes)
    ∧ (∀ c ∈ [CapSt.closed, .armed, .triggered], (let s : State := { asking State.reset .operator 0x71 with cap := { Cap.init with st := c } };
      s.asks (sess0 .operator 0x71) 1 1 0x71 (some .operator) = true ∧ (0 : W32) = s.reg aCapRec)) := by decide +kernel

/-- Unit 3 in a state, on input 7 by the field given, the input enabled. -/
def tiuAt (cfg : W32) (x : Tiu) : State := { (State.reset.setReg (aTiuIn 7) 0x10).setReg (aTiuUcfg 3) cfg with tiu := [(3, x)] }
def tiu1 : Tiu := { Tiu.init with running := true, left := 1 }
theorem witness_IntervalUnitsMeasure :
    (let s := tiuAt 0x70 tiu1; s.bit (aTiuIn 7) 4 = true ∧ s.bit (aTiuIn 6) 4 = false ∧ Tbl.get s.tiuLast 7 none = none
      ∧ (s.tiuUnit 3).running = true ∧ (s.tiuUnit 3).t0 = none ∧ s.fld (aTiuUcfg 3) 6 4 = 7 ∧ Tbl.wf (fun _ => Tiu.init) s.tiu = true
      ∧ Tbl.wf (fun _ => (none : Option Int)) s.tiuLast = true)
    ∧ (((8 : Nat) * 500000 - 1 : Int) - 0 < 4000000 ∧ 4000000 ≤ ((8 : Nat) * 500000 : Int) - 0)
    ∧ (let s := tiuAt 0x60 tiu1; (7 : Nat) ≠ s.fld (aTiuUcfg 3) 6 4)
    ∧ (let s := tiuAt 0x700 { tiu1 with t0 := some 5 };
      (s.tiuUnit 3).t0 = some 5 ∧ s.fld (aTiuUcfg 3) 13 12 = 0 ∧ s.fld (aTiuUcfg 3) 10 8 = 7 ∧ 1 ≤ (s.tiuUnit 3).left)
    ∧ (let s := (tiuAt 0x1070 { tiu1 with t0 := some 5, edges := 2 }).setReg (aTiuUn 3) 0x00030000;
      s.fld (aTiuUcfg 3) 13 12 = 1 ∧ s.fld (aTiuUcfg 3) 6 4 = 7 ∧ (s.tiuUnit 3).edges + 1 = s.fld (aTiuUn 3) 31 16)
    ∧ ((tiuAt 0x70 Tiu.init).tiuUnit 3).running = false
    ∧ (let s : State := { tiuAt 0x10070 tiu1 with clock := { Clock.init with cast := 1024 } };
      s.fld (aTiuUcfg 3) 31 16 * 1024 ≤ s.ticksSince (s.tiuUnit 3).begun
      ∧ ({ s with clock := { Clock.init with cast := 1023 } } : State).ticksSince 0 < s.fld (aTiuUcfg 3) 31 16 * 1024) := by decide +kernel

/-- Stage 10, every group and bank of cluster 0 ON, a run in the queue. -/
def ready (r : Run) : State :=
  { asking State.reset .operator 0x34 with
    runs := [r]
    banks := [(0, { Bank.init with st := .on }), (4, { Bank.init with st := .on }), (5, { Bank.init with st := .on })]
    groups := [(0, { Group.init with st := .on }), (8, { Group.init with st := .on })]
    adc := [(0, { AdcChan.init with refbuf := .ready }), (1, { AdcChan.init with refbuf := .ready }),
            (2, { AdcChan.init with refbuf := .ready }), (3, { AdcChan.init with refbuf := .ready })] }
def settledFor (s : State) (r : Run) : State := s.bankSettle (r.clusters.flatMap clusterBanks)
theorem witness_RunsLoadInTurn :
    (let s := ready run0; s.run? 1 = some run0 ∧ s.turnOf run0 = true ∧ run0.shots = [] ∧ run0.clusters.all (settledFor s run0).clusterReady = true
      ∧ s.namedCrucibles run0 = [] ∧ run0.desc.paced = true ∧ s.cmk.abort = false ∧ Tbl.wf (fun _ => Cru.init) s.crus = true
      ∧ Tbl.wf (fun _ => Bank.init) s.banks = true ∧ Tbl.wf (fun _ => Engine.init) s.engines = true)
    ∧ (let r : Run := { run0 with desc := { desc0 with paced := false, startTick := 199999 } }; let s := ready r;
      s.run? 1 = some r ∧ s.turnOf r = true ∧ (r.desc.startTick - s.now).toInt < 200000)
    ∧ (let s : State := { ready run0 with groups := [] }; s.turnOf run0 = true ∧ run0.clusters.all (settledFor s run0).clusterReady = false)
    ∧ (({ State.reset with runs := [{ run0 with phase := .active }, { run0 with id := 2 }] } : State).turnOf { run0 with id := 2 } = false)
    ∧ (let r : Run := { run0 with phase := .loading }; let s := ready r;
      s.run? 1 = some r ∧ s.namedCrucibles r = [] ∧ r.noMore = false ∧ s.swapBusy r = false)
    ∧ (let r : Run := { run0 with turnTick := some 0 }; let s : State := { atTick 20000000 with runs := [r] };
      s.run? 1 = some r ∧ r.phase = .queued ∧ 20000000 ≤ s.ticksSince 0 ∧ (settledFor s r).notOn r ≠ [])
    ∧ (let r : Run := { run0 with turnTick := some 0 }; let s : State := { ready r with clock := { Clock.init with cast := 20000000 } };
      s.run? 1 = some r ∧ 20000000 ≤ s.ticksSince 0 ∧ (settledFor s r).notOn r = []) := by decide +kernel
theorem witness_RunsLoadInTurn_requests :
    (let s := ready run0; s.asks (sess0 .operator 0x34) 1 1 0x34 (some .operator) = true ∧ s.stopping = false ∧ run0.noMore = false
      ∧ run0.phase ≠ .over ∧ s.run? 2 = none)
    ∧ (let r : Run := { run0 with phase := .active, executed := 0, nextStart := some 9 }; r.noMore = false ∧ r.inFlight = false ∧ r.shots = [])
    ∧ (let h : Shot := ⟨0, 0, none, false, []⟩; let r : Run := { run0 with desc := { desc0 with shotCount := 2 }, phase := .active, executed := 1, shots := [h] };
      r.noMore = false ∧ r.inFlight = true)
    ∧ (let h : Shot := ⟨0, 0, some 5, true, []⟩; let r : Run := { run0 with desc := { desc0 with shotCount := 2 }, phase := .active, executed := 1, shots := [h] };
      r.noMore = false ∧ r.inFlight = false ∧ r.shots ≠ [])
    ∧ (({ run0 with phase := .active, executed := 1 } : Run).noMore = true)
    ∧ (let r : Run := { run0 with phase := .over }; let s : State := { asking State.reset .operator 0x35 with runs := [r] };
      s.asks (sess0 .operator 0x35) 1 1 0x35 (some .operator) = true ∧ s.run? 1 = some r)
    ∧ (let s : State := { asking State.reset .operator 0x36 with runs := [run0] };
      s.asks (sess0 .operator 0x36) 1 1 0x36 (some .operator) = true ∧ s.run? 1 = some run0)
    ∧ runDescOk { desc0 with shotCount := 0 } = false := by decide +kernel

/-- The body of a cluster image that holds engine 0 with the one instruction END, and its header. -/
def body0 : List Byte :=
  leBytes 4 576 ++ leBytes 4 1 ++ leBytes 2 0 ++ leBytes 2 0 ++ leBytes 4 576 ++ leBytes 4 584 ++ List.replicate 492 0
    ++ leBytes 8 0x0100000000000000 ++ List.replicate 128 0
def imgHead0 : List Byte := leBytes 4 0x3149574E ++ leBytes 2 1 ++ leBytes 2 1 ++ leBytes 4 712 ++ leBytes 4 0 ++ List.replicate 16 0
def image0 : List Byte := imgHead0 ++ (hashBytes (Config.sha256 body0) ++ body0)
def desc1 : RunDesc := { desc0 with clusterImages := [(0, 1)], period := 2000 }
/-- An operator whose credential holds cluster 0 asks for a run, its image complete. -/
def submitting : State :=
  { asking ((State.reset.setBit (aGrpCtrl 0) 0 true).setBit (aGrpCtrl 8) 0 true) .operator 0x33 with
    creds := [(0, ⟨true, 1, 0, 0⟩)]
    images := [(1, ⟨false, 712, 1, true, image0⟩)] }

theorem image0_len : leNat (slice image0 8 4) = 712 := by decide
theorem image0_body : (image0.take 712).drop 64 = body0 := by
  have h1 : imgHead0.length = 32 := by decide
  have h2 : (hashBytes (Config.sha256 body0)).length = 32 := by simp [hashBytes, leBytes]
  have h3 : body0.length = 648 := by decide +kernel
  rw [List.take_of_length_le (by simp [image0, h1, h2, h3]), image0, ← List.append_assoc]
  exact List.drop_left' (by simp [h1, h2])
theorem image0_field : slice image0 32 32 = hashBytes (Config.sha256 body0) := by
  have h1 : imgHead0.length = 32 := by decide
  have h2 : (hashBytes (Config.sha256 body0)).length = 32 := by simp [hashBytes, leBytes]
  unfold slice
  rw [image0, List.drop_left' h1, List.take_left' h2]
/-- What that operator may publish on. -/
def pub0 : Nat → Bool := fun ch => decide (ch < 240) && Role.operator.holds ((submitting.taken (sess0 .operator 0x33) 1).chAttr ch)
theorem image0_good : clusterFault pub0 image0 0 = none := by
  simp only [clusterFault, image0_len, image0_body, image0_field, bne_self_eq_false]
  decide +kernel
def newRun1 : Run := newRun (sess0 .operator 0x33) (submitting.taken (sess0 .operator 0x33) 1).nextRun desc1
theorem image0_accepted : (submitting.taken (sess0 .operator 0x33) 1).imagesFault (sess0 .operator 0x33) newRun1 = none := by
  have h1 : newRun1.clusters = [0] := by decide
  have h2 : (submitting.taken (sess0 .operator 0x33) 1).imageOf 1 = some ⟨false, 712, 1, true, image0⟩ := by rfl
  have h4 : newRun1.desc.clusterImages = [(0, 1)] := rfl
  have h5 : newRun1.desc.crucImages = [] := rfl
  have h6 := image0_good
  unfold pub0 at h6
  simp only [State.imagesFault, h1, h4, h5, List.findSome?_cons, List.findSome?_nil, List.find?_cons, List.find?_nil]
  have e0 : ((0 : Fin 8).val == 0) = true := rfl
  rw [e0]
  simp only [Option.bind_some, h2, Bool.not_true, Bool.false_eq_true, if_false]
  have e1 : (sess0 .operator 0x33).role = .operator := rfl
  simp only [e1, h6, Option.map_none, Option.bind_none]
  simp
theorem witness_RunsLoadInTurn_submit :
    submitting.asks (sess0 .operator 0x33) 1 1 0x33 (some .operator) = true
    ∧ (submitting.taken (sess0 .operator 0x33) 1).submitRefusal (sess0 .operator 0x33) newRun1 = none := by
  refine ⟨by decide, ?_⟩
  unfold State.submitRefusal
  rw [image0_accepted]
  have a1 : runDescOk newRun1.desc = true := by decide +kernel
  have a2 : newRun1.clusters.any (fun k => !((submitting.taken (sess0 .operator 0x33) 1).credOf (sess0 .operator 0x33)).mask.getLsbD k) = false := by
    decide +kernel
  have a3 : (submitting.taken (sess0 .operator 0x33) 1).holdRuns = false := by decide +kernel
  have a4 : (submitting.taken (sess0 .operator 0x33) 1).stopping = false := by decide +kernel
  have a5 : (submitting.taken (sess0 .operator 0x33) 1).groupOff newRun1.clusters = none := by decide +kernel
  have a6 : (submitting.taken (sess0 .operator 0x33) 1).openRuns.length < 64 := by decide +kernel
  have a7 : (submitting.taken (sess0 .operator 0x33) 1).ratesNow.runs < 10000 := by decide +kernel
  simp only [a1, a2, a3, a4, a5, Bool.not_true, Bool.or_false, Bool.false_eq_true, if_false, Nat.not_le.mpr a6, Nat.not_le.mpr a7]

/-- Run 1 active in a ready module, to start its shot 0 at tick 0, with the conditions of R32. -/
def active0 : Run := { run0 with desc := { desc0 with shotCount := 2, period := 2000 }, phase := .active, nextStart := some 0 }
def shot0 (E : Option Tick) (ended : Bool) : Shot := ⟨0, 0, E, ended, []⟩
def shotRun (h : Shot) : Run := { active0 with nextStart := none, executed := 1, shots := [h] }
def inShot (h : Shot) : State := { withEng eng0 with runs := [shotRun h] }
theorem witness_ShotsStartEndAndClose :
    (let s := ready active0; let r := active0; s.run? 1 = some r ∧ r.nextStart = some 0 ∧ r.phase = .active ∧ 0 ≤ (s.now - 0).toInt
      ∧ r.inFlight = false ∧ r.noMore = false ∧ s.stopping = false ∧ s.holdRuns = false ∧ s.swapBusy r = false
      ∧ s.resReserved + r.maxRecord ≤ resSize ∧ r.has 0 = true ∧ r.deniedAt 0 0 = false ∧ (s.eng 0).hsFault = false
      ∧ Tbl.wf (fun _ => Engine.init) s.engines = true ∧ s.castUnlocked = true ∧ r.desc.paced = true)
    ∧ (let s : State := { ready active0 with fault := { FaultPath.init with clearTick := some 0 } }; s.fault.clearTick ≠ none)
    ∧ ({ active0 with denied := [(0, 0)] } : Run).deniedAt 0 0 = true
    ∧ (let s : State := { ready active0 with thermal := { Thermal.init with level := 3 } }; s.holdRuns = true ∧ active0.executed = 0)
    ∧ (let s : State := { ready active0 with crus := [(0, { Cru.init with swap := some (0, 32) })] }; s.swapBusy active0 = true)
    ∧ (let h := shot0 (some 0) false; let s := inShot h; let r := shotRun h;
      s.run? 1 = some r ∧ r.current = some h ∧ 0 ≤ (s.now - 0).toInt ∧ (s.now - 1).toInt < 0 ∧ r.has 0 = true
      ∧ (s.eng 0).shot = some (r.id, h.index, h.start) ∧ (s.eng 0).st = .running)
    ∧ (let h := shot0 none false; let s : State := { ready (shotRun h) with engines := [(0, { eng0 with st := .ended, doneTick := some 0 })] };
      s.pacedEnd (shotRun h) h = some 0 ∧ (inShot h).pacedEnd (shotRun h) h = none)
    ∧ (let h := shot0 (some 0) true; let r := shotRun h; let s : State := { State.reset with runs := [r] };
      s.run? 1 = some r ∧ r.shots = h :: [] ∧ h.endTick = some 0 ∧ h.ended = true ∧ 0 ≤ (s.now - 0).toInt ∧ s.shotJudged r 0 = true
      ∧ (s.linkLost r h).run? 1 = some r) := by decide +kernel
theorem witness_ShotsStartEndAndClose_2 :
    (let h := shot0 (some 0) true; let r : Run := { shotRun h with executed := 2 }; r.noMore = true ∧ r.phase ≠ .over) := by decide +kernel
/-- The result buffer with `n` bytes in it. -/
def filled (n : Nat) : State := { ready active0 with results := [⟨9, none, List.replicate n 0, none⟩] }
theorem filled_resUsed (n : Nat) : (filled n).resUsed = n := by
  simp only [State.resUsed, filled, List.map_cons, List.map_nil, List.sum_cons, List.sum_nil, List.length_replicate, Nat.add_zero]
theorem filled_has_no_room (n : Nat) : ¬ (filled n).resReserved + active0.maxRecord ≤ n := by
  have h : 0 < active0.maxRecord := by decide +kernel
  have u : n ≤ (filled n).resReserved := by
    unfold State.resReserved
    rw [filled_resUsed]
    exact Nat.le_add_right _ _
  omega
theorem witness_ShotsStartEndAndClose_no_room : ∃ s : State, ¬ s.resReserved + active0.maxRecord ≤ resSize :=
  ⟨filled resSize, filled_has_no_room resSize⟩

def netUp : State := { State.reset.setFld (aNetPortCfg 1) 2 0 5 with boot := { Boot.init with stage := 10 } }
def hs0 (r : Role) (k : BitVec 256) (st : HsSt) : Handshake := ⟨7, r, 0, k, st, 1, 0, 0, 0, [], [], [], 1, 0, 0, 0⟩
def hello0 : HelloMsg := ⟨7, 2, 7, makerCred.keyId, 0, List.replicate 1568 0, 0, 0, 0⟩
theorem maker_slot : netUp.slotOf .maker makerCred.keyId = some 0 := by
  have h : netUp.cred .maker 0 = makerCred := rfl
  simp [State.slotOf, Role.slots, List.range_succ_eq_map, h, makerCred]
theorem no_slot : ({ netUp with creds := [] } : State).slotOf .maker makerCred.keyId = none := by
  have h : ∀ i < 4, (({ netUp with creds := [] } : State).cred .maker i).active = false := by decide
  simp only [State.slotOf, Role.slots, List.find?_eq_none, List.mem_range]
  intro i hi; simp [h i hi]
theorem witness_NetPortsAndHandshakes :
    (Tbl.wf resetWord netUp.regs = true ∧ Tbl.wf (fun _ => ([] : List W64)) netUp.echoes = true ∧ netUp.boot.ingot = false
      ∧ netUp.netOpen 1 = true ∧ netUp.bit (aNetPortCfg 1) 2 = true ∧ Tbl.get netUp.echoes 1 [] = [] ∧ netUp.bit aTimSysCfg 14 = false
      ∧ netUp.flaskState = 1 ∧ State.reset.netOpen 1 = false ∧ netUp.logTaken < 1000)
    ∧ (let s : State := { netUp with echoes := [(1, List.replicate 100 0)] };
      100 ≤ ((Tbl.get s.echoes 1 []).filter (fun t => decide (s.since t < 1000000000))).length)
    ∧ (netUp.handshakes.find? (fun y => y.hs == hello0.hs) = none ∧ netUp.helloRefusal hello0 = none
      ∧ netUp.helloRefusal { hello0 with profile := 8 } ≠ none)
    ∧ (({ netUp with handshakes := [hs0 .maker 0 .signing] } : State).handshakes = hs0 .maker 0 .signing :: [])
    ∧ (let s : State := { netUp with handshakes := [hs0 .maker makerCred.keyId .verifying] };
      s.slotOf .maker makerCred.keyId = some 0 ∧ s.sessions.length < 16 ∧ s.mayLog = true)
    ∧ (HsSt.challenged ≠ .signing ∧ HsSt.finished ≠ .signing
      ∧ (let s : State := { netUp with sessions := List.replicate 16 (sess0 .operator 0) }; 16 ≤ s.sessions.length))
    ∧ (hotStore netUp).mayLog = false
    ∧ ({ netUp with creds := [] } : State).slotOf .maker makerCred.keyId = none
    ∧ (let s := monoAt { netUp with handshakes := [hs0 .maker 0 .verifying] } 10000000000;
      HsSt.verifying ≠ .finished ∧ 10000000000 ≤ s.since 0 ∧ (monoAt s 9999999999).since 0 < 10000000000) := by
  have h : roleOf hello0.role = some .maker := by decide
  have k : hello0.keyId = makerCred.keyId := rfl
  have n : hello0.encapsKey.length = 1568 := List.length_replicate
  refine ⟨by decide +kernel, by decide +kernel, ⟨by decide, ?_, ?_⟩, rfl, ⟨maker_slot, by decide, by decide⟩, by decide +kernel, by decide +kernel, no_slot,
    by decide +kernel⟩
  · simp only [State.helloRefusal, h, k, maker_slot, n]
    decide
  · simp only [State.helloRefusal, h, k, maker_slot, n]
    decide

def tx0 (n : Nat) : TxTr := ⟨1, 0x11, true, false, false, 1, 0, [], 0, 100000000, n, false⟩
def withSess (x : Session) : State := { netUp with sessions := [x] }
def pkt0 : SealedPacket := ⟨1, 1, [], 0, .clean, 0x03, false, 1, 0, 0, [], 0, 0, 0, 0⟩
/-- Everything but the packet's tag, which the cipher alone decides. -/
theorem witness_SessionsDeliverInOrder :
    (let x := sess0 .operator 0x03; let s := withSess x;
      Tbl.wf resetWord s.regs = true ∧ s.sess? pkt0.sid = some x ∧ x.id = pkt0.sid ∧ s.netOpen 1 = true ∧ State.reset.netOpen 1 = false
      ∧ netUp.sess? pkt0.sid = none ∧ pkt0.counter.toNat < 2 ^ 40 ∧ x.txPkt < 2 ^ 40 ∧ x.replayed pkt0.counter.toNat = false
      ∧ pkt0.hdr = .clean ∧ pkt0.content.length ≤ s.contentLimit 1 ∧ pkt0.content = [] ∧ requestTypes.contains pkt0.msgType = true
      ∧ pkt0.continued = false ∧ x.heldTr = [] ∧ x.parts = [])
    ∧ (let x : Session := { sess0 .operator 0x03 with ack := 0, inbox := [] }; let s := withSess x;
      ((s.modSess 1 (fun y => y.accept 1 pkt0 1 s.mono)).ackUpTo 1 pkt0.ack pkt0.sack).sess? 1 = some (x.accept 1 pkt0 1 s.mono)
      ∧ pkt0.seq = nextSeq x.ack ∧ ({ pkt0 with seq := 2 } : SealedPacket).seq ≠ nextSeq x.ack ∧ seqLe 2 x.ack = false
      ∧ ((1024 : W32) - x.ack).toNat ≤ 1024 ∧ 1024 < ((1025 : W32) - x.ack).toNat ∧ seqLe 1025 x.ack = false ∧ seqLe 0 x.ack = true)
    ∧ ({ sess0 .operator 0x03 with rxTop := 1, rxSeen := [1] } : Session).replayed 1 = true
    ∧ (({ sess0 .operator 0x03 with rxTop := 5000 } : Session).replayed 904 = true
      ∧ ({ sess0 .operator 0x03 with rxTop := 5000 } : Session).replayed 905 = false)
    ∧ (seqLe (sess0 .operator 0x03).txSeq 0 = false ∧ seqLe (sess0 .operator 0x03).txSeq 1 = true)
    ∧ (let x : Session := { sess0 .operator 0x03 with unacked := [tx0 19] }; let s := monoAt (withSess x) 100000000;
      x.unacked.find? (fun z => z.seq == 1) = some (tx0 19) ∧ (tx0 19).sacked = false ∧ (tx0 19).interval ≤ s.since (tx0 19).sentAt
      ∧ (tx0 19).resends < 20 ∧ 20 ≤ (tx0 20).resends ∧ (monoAt s 99999999).since (tx0 19).sentAt < (tx0 19).interval)
    ∧ (({ sess0 .operator 0x03 with ackDue := some 0 } : Session).ackDue = some 0 ∧ (sess0 .operator 0x03).ackDue = none)
    ∧ (let s := monoAt (withSess (sess0 .operator 0x03)) 0xFFFFFFFFFFFFFFFF;
      s.fld aNetSessCfg 15 0 * 1000000000 ≤ s.since (sess0 .operator 0x03).lastRx) := by decide +kernel

/-- An operator's request on image 9, of 2 bytes. -/
def img9 (b : List Byte) (done : Bool) (owner : W32) : Image := ⟨false, 2, owner, done, b⟩
def imgReq (ty : Byte) (i : Image) : State := { asking State.reset .operator ty with images := [(9, i)] }
theorem witness_HostRequestsAreServed :
    (let s := asking State.reset .maker 0x03; s.asks (sess0 .maker 0x03) 1 1 0x03 none = true ∧ Tbl.wf (fun _ => ([] : List TxTs)) s.txq = true)
    ∧ (let s := asking State.reset .maker 0x04; s.asks (sess0 .maker 0x04) 1 1 0x04 none = true ∧ s.mayLog = true)
    ∧ (let s := hotStore (asking State.reset .maker 0x04); s.asks (sess0 .maker 0x04) 1 1 0x04 none = true ∧ s.nvWindow = false)
    ∧ (let s := asking State.reset .operator 0x30; let u := s.taken (sess0 .operator 0x30) 1;
      s.asks (sess0 .operator 0x30) 1 1 0x30 (some .operator) = true ∧ u.uploads < 256
      ∧ (s.images.map (fun i => i.2.len)).sum + (1073741824 : W32).toNat ≤ 2 ^ 30
      ∧ Tbl.wf (fun _ => (⟨false, 0, 0, false, []⟩ : Image)) s.images = true)
    ∧ (let s := imgReq 0x30 (img9 [] false 1); let u := s.taken (sess0 .operator 0x30) 1;
      2 ^ 30 < (s.images.map (fun i => i.2.len)).sum + (1073741823 : W32).toNat ∧ ∀ y ∈ s.images, u.evictable y.1 y.2 = false)
    ∧ (let s : State := { State.reset with images := (List.range 256).map (fun k => (k, img9 [] false 1)) }; 256 ≤ s.uploads)
    ∧ (let i := img9 [5] false 1; let s := imgReq 0x31 i;
      s.asks (sess0 .operator 0x31) 1 1 0x31 (some .operator) = true ∧ s.image? 9 = some i ∧ i.done = false ∧ i.owner = 1
      ∧ (1 : W32).toNat = i.bytes.length ∧ i.bytes.length + ([6] : List Byte).length ≤ i.len
      ∧ i.len < i.bytes.length + ([6, 7] : List Byte).length ∧ s.image? 8 = none)
    ∧ (let i := img9 [5, 6] false 1; let s := imgReq 0x32 i;
      s.asks (sess0 .operator 0x32) 1 1 0x32 (some .operator) = true ∧ s.image? 9 = some i ∧ i.len ≤ i.bytes.length
      ∧ (img9 [5] false 1).bytes.length < (img9 [5] false 1).len ∧ (img9 [5, 6] true 1).done = true ∧ (img9 [] false 2).owner ≠ 1
      ∧ ∃ c : W64, (s.profile (s.checkCtx (2 ^ 20 + 9)).profile).finish (s.checkCtx (2 ^ 20 + 9)).value.toNat ≠ c.toNat)
    ∧ (let s := asking (State.reset.setBit aTimSysCfg 15 true) .installer 0x78;
      s.asks (sess0 .installer 0x78) 1 1 0x78 (some .installer) = true ∧ s.hostMode = true ∧ State.reset.hostMode = false) := by decide +kernel

def pend0 : LogPend := ⟨1, 1, 0, 0, 0, 1, 0, []⟩
def rep0 : Report := ⟨1, 1, []⟩
/-- A credential record: active or not, its mask, and a key that begins with a byte, with its check. -/
def credRec (active mask key : Byte) : List Byte :=
  let b : List Byte := leBytes 4 0x4443524B ++ ([active, mask, 0, 0, key] : List Byte) ++ List.replicate 243 0
  b ++ leBytes 4 (crc32c b)
/-- An installer asks to write a credential: operator slot 3 holds a key that begins with 7. -/
def credAsk : State :=
  { asking State.reset .installer 0x61 with creds := [(3, ⟨true, 1, 7, 0⟩), (128, ⟨true, 0xFF, 1, 0⟩)] }
/-- The record stands at an operator's slot (R333, R334). -/
def standsAt (idx : Nat) (r : List Byte) : Bool :=
  let c := credOfRec r
  decide (idx < Role.operator.slots) && credRecOk r
    && (!c.active || [Role.operator, .installer, .maker].all (fun z => (List.range z.slots).all (fun j =>
      (z == .operator && j == idx) || !(credAsk.cred z j).active || (credAsk.cred z j).key != c.key)))
    && decide (0 < ({ credAsk with creds := Tbl.put credAsk.creds idx c Cred.init } : State).activeKeys .maker)
theorem witness_FlaskRequestsAreServed :
    (let s := asking State.reset .operator 0x60;
      s.asks (sess0 .operator 0x60) 1 1 0x60 none = true ∧ s.log.entries.filter (fun e => decide ((e.number - 0).toNat < 1024)) ≠ []
      ∧ s.log.entries.filter (fun e => decide ((e.number - 7).toNat < 1)) = [])
    ∧ (let s : State := { asking State.reset .operator 0x62 with nv := { Nv.init with recs := [(0x0306 * 65536 + 7, [1])] } };
      s.asks (sess0 .operator 0x62) 1 1 0x62 none = true ∧ s.nvRead? 0x0306 7 = some [1] ∧ s.nvRead? 0x0306 8 = none)
    ∧ (let s := asking State.reset .installer 0x61; s.asks (sess0 .installer 0x61) 1 1 0x61 none = true ∧ s.mayLog = true
      ∧ (sess0 .installer 0x61).role = .installer ∧ (1 : Nat) ≤ (3 : BitVec 8).toNat ∧ (3 : BitVec 8).toNat ≤ 3 ∧ s.fw.install = none
      ∧ s.logTaken + 2 ≤ 1000 ∧ Tbl.wf (fun _ => (0 : W32)) s.arc = true ∧ Tbl.get s.fw.proven 3 false = false)
    ∧ (let s := hotStore (asking State.reset .installer 0x61); s.asks (sess0 .installer 0x61) 1 1 0x61 none = true ∧ s.nvWindow = false)
    ∧ (∀ c ∈ nvClasses, ∃ r ∈ [Role.installer, .maker, .operator], nvWriter c ≠ some r)
    ∧ (0x0999 ∉ nvClasses ∧ ({ Firmware.init with install := some (3, 0) } : Firmware).install ≠ none)
    ∧ Tbl.get ({ Firmware.init with proven := [(3, true)] } : Firmware).proven 3 false = true
    ∧ (asking State.reset .maker 0x63).asks (sess0 .maker 0x63) 1 1 0x63 none = true := by decide +kernel
theorem witness_FlaskRequestsAreServed_log :
    (({ State.reset with reports := [rep0] } : State).reports = rep0 :: [] ∧ State.reset.reports = [])
    ∧ (let s : State := { State.reset with log := { Log.init with pend := [pend0] } };
      s.log.pend = pend0 :: [] ∧ s.nv.holding = false ∧ s.nvWindow = true ∧ s.log.entries.length < 65535)
    ∧ (let s : State := monoAt { State.reset with log := { Log.init with merged := [(9, 1)] } } 1000000000;
      s.log.merged ≠ [] ∧ s.log.sec ≠ s.logSec ∧ State.reset.log.merged = []) := by decide +kernel
/-- A saved-configuration record that holds no register, with its check. -/
def saved0 : List Byte := ([0x43, 0x46] : List Byte) ++ List.replicate 250 0
def saved1 : List Byte := saved0 ++ leBytes 4 (crc32c saved0)
theorem witness_FlaskRequestsAreServed_saved : saved1.length = 256 ∧ savedOk 0x0306 saved1 = true ∧ savedOk 0x0306 (List.replicate 256 0) = false := by
  refine ⟨?_, ?_, ?_⟩ <;> decide +kernel
/-- An image held in the other slot is named by its hash. -/
theorem witness_FlaskRequestsAreServed_candidate :
    ∃ (s : State) (sha : BitVec 256) (i : FwImage), s.candidate 1 0 sha = some i ∧ s.fw.install = none := by
  let sha := Config.sha256 ((State.reset).stagedBytes 0) + 1
  let i : FwImage := ⟨sha, 1, true, []⟩
  refine ⟨{ State.reset with fw := { Firmware.init with images := [(3, i)] } }, sha, i, ?_, rfl⟩
  have h0 : (({ State.reset with fw := { Firmware.init with images := [(3, i)] } } : State).stagedBytes 0) = (State.reset).stagedBytes 0 := rfl
  have h1 : ({ State.reset with fw := { Firmware.init with images := [(3, i)] } } : State).fwImage 1
      (1 - ({ State.reset with fw := { Firmware.init with images := [(3, i)] } } : State).fwActive 1) = i := rfl
  have h2 : ({ State.reset with fw := { Firmware.init with images := [(3, i)] } } : State).arcOf (1 - 1) = 0 := rfl
  have h3 : Config.sha256 ((State.reset).stagedBytes 0) ≠ sha := by
    intro h
    simp [sha] at h
  simp only [State.candidate, h0, h1, h2, if_neg h3]
  simp [i]
theorem witness_FlaskRequestsAreServed_credentials :
    (let s := credAsk; s.asks (sess0 .installer 0x61) 1 1 0x61 none = true ∧ s.nvWindow = true ∧ s.logTaken + 2 ≤ 1000
      ∧ (s.cred .operator 3).active = true ∧ (s.cred .operator 4).active = false ∧ (credRec 1 3 9).length = 256)
    ∧ (standsAt 3 (credRec 1 3 9) = true ∧ (credOfRec (credRec 1 3 9)).key ≠ (credAsk.cred .operator 3).key)
    ∧ (standsAt 3 (credRec 1 3 7) = true ∧ (credOfRec (credRec 1 3 7)).key = (credAsk.cred .operator 3).key)
    ∧ (standsAt 3 (credRec 0 0 0) = true ∧ (credOfRec (credRec 0 0 0)).active = false)
    ∧ (standsAt 4 (credRec 1 3 9) = true ∧ standsAt 4 (credRec 1 3 7) = false ∧ standsAt 4 (credRec 0 0 0) = true) := by decide +kernel

/-! ### Registers -/

/-- A write by a role in stage 10 that the checks accept; where it is logged, the log may take it. -/
def writable (s : State) (r : Role) (p : Nat × W32) : Bool :=
  let s := asking s r 0x11
  let x := sess0 r 0x11
  let u := s.taken x 1
  s.asks x 1 1 0x11 none && (u.checkEntry r p.1 p.2).isNone && (u.mayLog || (u.privWrites x [p]).isEmpty)
theorem witness_RegisterWritesAreAppliedAndAnswered :
    ([(aRfStat 95, 0x4000), (aGrpSw 15, 0), (aFlxCfg 127, 0), (aBiaCfg 255, 0), (aAdcCtrl 31, 1), (aAdcCtrl 31, 0), (aAdcCtrl 31, 2),
      (aCruClsThi 31, 0x80000000), (aCruDragData 31, 0), (aSprTmrCfg 15, 0x80000000), (aSprTmrCfg 15, 0), (aTiuUctrl 3, 1),
      (aTiuUctrl 3, 2), (aMldResbufStat, 0x100000), (aSprSwpub, 5), (aCapCtrl, 2), (aCapCtrl, 4), (aCapCtrl, 8)] : List (Nat × W32)).all
      (writable State.reset .operator) = true := by decide +kernel
theorem witness_RegisterWritesAreAppliedAndAnswered_logged :
    (([(aRfCtrl 95, 0), (aGrpCtrl 15, 0), (aCryExc 15, 10), (aCryPins 15, 0), (aRunPortCtrl 7, 1), (aRunPortCtrl 7, 0), (aRunPortCtrl 7, 9),
      (aCryRoutFs 3, 1000), (aCryRoutCfg 3, 0), (aTimSysCtrl, 1), (aCmkReq, 0x10000000), (aCalAccept, 2), (aCryCtrl, 0xA00),
      (aMldReset, 0xA5000001)] : List (Nat × W32)).all (writable State.reset .installer) = true)
    ∧ writable State.reset .maker (aFusProgHi, 0x80000000) = true
    ∧ writable (State.reset.setFld aTimCastCfg 1 0 2) .installer (aTimCastCtrl, 1) = true
    ∧ writable (State.reset.setBit aTimSysCfg 15 true) .installer (aTimSysOfsIn, 5) = true
    ∧ writable ((State.reset.setReg (aCapProbe 0) 0x80000000).setFld aMldPatStat 31 28 1) .operator (aCapCtrl, 1) = true
    ∧ writable { State.reset with cmk := { Cmk.init with setSt := .awaitAccept } } .installer (aCalAccept, 1) = true := by decide +kernel
theorem witness_RegisterWritesAreAppliedAndAnswered_refused :
    (let s := asking State.reset .operator 0x11; let x := sess0 .operator 0x11; let u := s.taken x 1;
      s.asks x 1 1 0x11 none = true ∧ (u.checkEntry x.role (aRfCtrl 95) 0).isSome = true ∧ u.writeFault x 0 [(aFlxCfg 127, 0)] = none
      ∧ writeDetails (u.privWrites x [(aFlxCfg 127, 0)]) = [])
    ∧ (let s := hotStore (asking State.reset .installer 0x11); let x := sess0 .installer 0x11; let u := s.taken x 1;
      s.nvWindow = false ∧ (u.checkEntry x.role (aRfCtrl 95) 0).isNone = true)
    ∧ (let s := asking State.reset .installer 0x11; let x := sess0 .installer 0x11; let u := s.taken x 1;
      u.writeFault x 0 [(aRfCtrl 95, 0)] = none ∧ writeDetails (u.privWrites x [(aRfCtrl 95, 0)]) ≠ []
      ∧ s.logTaken + (writeDetails (u.privWrites x [(aRfCtrl 95, 0)])).length ≤ 1000)
    ∧ (let s : State := { asking State.reset .installer 0x11 with log := { Log.init with inSec := 1000 } }; 1000 ≤ s.logTaken) := by decide +kernel

theorem witness_RegisterReadsRefusalsAndWritableBits :
    (let s := asking State.reset .operator 0x10;
      s.asks (sess0 .operator 0x10) 1 1 0x10 none = true ∧ (findReg aMldAlert).isSome = true ∧ findReg 0x3FFFFF = none ∧ s.boot.ingot = false)
    ∧ (asking State.reset .operator 0x11).asks (sess0 .operator 0x11) 1 1 0x11 none = true
    ∧ (let s := asking { State.reset.setBit (aRunPortCtrl 7) 2 true with ports := [(7, { Port.init with st := .align })] } .installer 0x11;
      let x := sess0 .installer 0x11; let u := s.taken x 1;
      s.asks x 1 1 0x11 none = true ∧ (u.checkEntry x.role (aRunLaneCtrl 7 8) 1).isNone = true
      ∧ u.privWrites x [(aRunLaneCtrl 7 8, 1)] = [(aRunLaneCtrl 7 8, 0, 1)] ∧ u.mayLog = true ∧ (s.port 7).st = .align
      ∧ s.bit (aRunPortCtrl 7) 2 = true) := by decide +kernel
theorem witness_RegisterReadsRefusalsAndWritableBits_checks :
    (let s := asking { State.reset with boot := { Boot.init with ingot := true } } .operator 0x10; s.boot.ingot = true ∧ ingotReads aMldAlert = true
      ∧ ingotReads (aRfStat 95) = false)
    ∧ ((findReg (aRfCtrl 95)).any (fun f => f.row.role == some .installer) = true ∧ Role.operator ≠ .installer)
    ∧ (let s := State.reset; (findReg (aFlxCfg 127)).any (fun f =>
      (s.rangeFault .operator f 3 3).isSome && (s.rangeFault .operator f 1 1).isNone && (s.busyFault f 0 1 1).isNone && !s.servesNone f) = true)
    ∧ (findReg (aPeWdog 135)).any (fun f => f.row.id == .peWdog) = true := by decide +kernel

/-- Group 15 and bank 5 as given, port 7 too. -/
def outAt (g : Group) (b : Bank) (p : Port) : State := { State.reset with groups := [(15, g)], banks := [(5, b)], ports := [(7, p)] }
/-- What the premises of R141-R250's writes ask of a state, and that a write with one word is accepted. -/
def writes0 (s : State) (r : Role) (p : Nat × W32) : Bool :=
  writable s r p && Tbl.wf resetWord s.regs && Tbl.wf (fun _ => Group.init) s.groups && Tbl.wf (fun _ => FbChan.init) s.fb
    && Tbl.wf (fun _ => AdcChan.init) s.adc && Tbl.wf (fun _ => (⟨none⟩ : TimerRun)) s.timers && Tbl.wf (fun _ => Port.init) s.ports
    && Tbl.wf (fun _ => Cru.init) s.crus && Tbl.wf (fun _ => RfChan.init) s.rf && Tbl.wf (fun _ => (0 : W32)) (s.cru 31).drag
    && !s.cmk.abort && s.mayLog
theorem witness_OutputRegisterWritesAct :
    (let s := State.reset; writes0 s .installer (aRfCtrl 95, 0) = true ∧ writes0 s .operator (aRfStat 95, 0x4000) = true
      ∧ writes0 s .operator (aGrpSw 15, 1) = true ∧ writes0 s .installer (aGrpCtrl 15, 1) = true ∧ writes0 s .operator (aFlxCfg 127, 1) = true
      ∧ writes0 s .operator (aBiaCfg 255, 1) = true ∧ writes0 s .operator (aAdcCtrl 31, 1) = true
      ∧ writes0 s .operator (aCruDragData 31, 5) = true ∧ writes0 s .operator (aSprSwpub, 5) = true)
    ∧ (let s := State.reset; writes0 s .operator (aSprTmrCfg 15, 0x80000000) = true ∧ writes0 s .operator (aSprTmrCfg 15, 0) = true
      ∧ writes0 s .installer (aRunPortCtrl 7, 1) = true ∧ writes0 s .installer (aRunPortCtrl 7, 9) = true
      ∧ writes0 s .installer (aRunPortCtrl 7, 0) = true ∧ s.bit (aSprTmrCfg 15) 31 = false ∧ fieldOf 1 1 0 ≠ s.fld (aFlxCfg 127) 1 0
      ∧ (s.grp 15).st = .off ∧ (s.adcch 31).refbuf = .off)
    ∧ (let s := outAt { Group.init with st := .on } { Bank.init with st := .on } { Port.init with st := .enabled };
      writes0 s .installer (aGrpCtrl 15, 0) = true ∧ (s.grp 15).st = .on ∧ (s.bank 5).st = .on ∧ (s.port 7).st = .enabled ∧ (s.port 6).st = .off
      ∧ writes0 s .installer (aRunPortCtrl 7, 9) = true)
    ∧ (let s : State := { outAt { Group.init with st := .shuttingDown } Bank.init { Port.init with st := .failed } with
          adc := [(31, { AdcChan.init with refbuf := .shuttingDown })], rf := [(95, { RfChan.init with st := .live })] };
      (s.grp 15).st = .shuttingDown ∧ (s.bank 5).st ≠ .on ∧ (s.port 7).st ≠ .off ∧ (s.adcch 31).refbuf = .shuttingDown
      ∧ (s.rfch 95).st ≠ .muted) := by decide +kernel

def ctx0 : CmkCtx := ⟨0x10, 0, 100, [], [], none, []⟩
theorem witness_ControlRegisterWritesAct :
    (let T := Tick.ofStamp (atTick 24).now 47; (T - (atTick 24).now).toInt < 24)
    ∧ (let T := Tick.ofStamp (atTick 24).now 48; 24 ≤ (T - (atTick 24).now).toInt)
    ∧ State.reset.portUp State.reset.castPort = false
    ∧ (let s : State := { State.reset with ports := [(0, { Port.init with st := .enabled })] }; s.portUp s.castPort = true)
    ∧ (let s : State := { State.reset with sys := { SysSync.init with stepped := true, stepArmed := true } };
      s.sys.stepped = true ∧ s.sys.stepArmed = true)
    ∧ (let s : State := { State.reset with cap := { Cap.init with st := .armed } }; s.cap.st = .armed ∧ s.cap.fired = false)
    ∧ (let s : State := { State.reset with tiu := [(3, { Tiu.init with running := true })] }; (s.tiuUnit 3).running = true
      ∧ Tbl.wf (fun _ => Tiu.init) s.tiu = true)
    ∧ (State.reset.cmk.running = none ∧ State.reset.cmk.queue = [] ∧ State.reset.cmk.yielded = [])
    ∧ (let s : State := { State.reset with cmk := { Cmk.init with setSt := .awaitAccept, sub := some (0x10, [], 0, 0) } };
      s.cmk.setSt = .awaitAccept ∧ s.cmk.sub = some (0x10, [], 0, 0))
    ∧ (let s := State.reset.setReg (aCryExc 15) 0x8000000A; s.cryScan = false ∧ s.cryEnabled 15 = true)
    ∧ State.reset.boot.stop = none := by decide

theorem witness_ControlRegisterWritesAct_accepted :
    (let s := State.reset; writes0 s .operator (aCruClsThi 31, 0x80000000) = true ∧ writes0 s .installer (aTimSysCtrl, 1) = true
      ∧ writes0 s .operator (aCapCtrl, 2) = true ∧ writes0 s .operator (aTiuUctrl 3, 1) = true ∧ writes0 s .installer (aCmkReq, 0x10000000) = true
      ∧ writes0 s .maker (aFusProgHi, 0x80000000) = true ∧ writes0 s .installer (aCalAccept, 2) = true ∧ writes0 s .installer (aMldReset, 0xA5000001) = true
      ∧ Tbl.wf (fun _ => Tiu.init) s.tiu = true)
    ∧ (let s : State := { State.reset with cmk := { Cmk.init with queue := [⟨0x10, 0⟩] } };
      s.cmk.queue.contains ⟨0x10, 0⟩ = true ∧ s.routineWanted 0x10 0 = true ∧ State.reset.routineWanted 0x10 0 = false)
    ∧ (let s := (State.reset.setReg aCryCtrl 0xA01).setReg (aCryExc 15) 0x8000000A;
      s.cryScan = true ∧ writes0 s .installer (aCryExc 15, 10) = true ∧ s.cryo.active = none
      ∧ ({ s with cryo := { s.cryo with active := some 15 } } : State).cryo.active = some 15)
    ∧ (writes0 State.reset .installer (aCryRoutCfg 3, 0) = true ∧ writes0 State.reset .installer (aCryRoutFs 3, 1000) = true)
    ∧ ((1000000001 : Int).natAbs > 1000000000) := by decide +kernel

/-! ### The Coremaker and the cryostat -/

/-- The Coremaker at a word, with a context. -/
def cmkAt (c : CmkCtx) (w : MicroWord) (k : Nat) : State :=
  { State.reset with cmk := { Cmk.init with store := [(c.pc, MicroCode w k)], running := some c } }
def mw0 : MicroWord := ⟨true, false, 0, false, 0, 4095, 1, 0, 0, 0, 30, 31, 0, 0⟩
def cmkInt0 (n : Nat) (abort : Bool) (w : MicroWord) : State :=
  let s := cmkAt ctx0 w 0
  { s with cmk := { s.cmk with queue := [⟨0x05, 0⟩], yielded := List.replicate n ctx0, abort := abort } }
theorem witness_CoremakerSequencing :
    (([0, 1, 2, 3, 5, 6, 7, 8, 15] : List (BitVec 4)).all (fun k => (cmkAt ctx0 { mw0 with seqk := k } 0).cmkAtWord ctx0 { mw0 with seqk := k } 0)) = true
    ∧ (([11, 15] : List Nat).all (fun k => (cmkAt ctx0 mw0 k).cmkAtWord ctx0 mw0 k)) = true
    ∧ (let c := { ctx0 with stack := [9] }; let w := { mw0 with seqk := 4 }; (cmkAt c w 0).cmkAtWord c w 0 = true ∧ c.stack = 9 :: [])
    ∧ (let c := { ctx0 with stack := [9, 8, 7, 6] }; let w := { mw0 with seqk := 3 }; (cmkAt c w 0).cmkAtWord c w 0 = true ∧ c.stack.length = 4)
    ∧ ((cmkAt ctx0 mw0 0).cmkCond ctx0 { mw0 with seqk := 2 } = true ∨ (cmkAt ctx0 mw0 0).cmkCond ctx0 { mw0 with seqk := 2 } = false)
    ∧ (cmkAt ctx0 mw0 0).cmkCond ctx0 { mw0 with seqk := 2, pol := false } ≠ (cmkAt ctx0 mw0 0).cmkCond ctx0 { mw0 with seqk := 2, pol := true }
    ∧ (State.reset.cmk.running = none ∧ microAction ((cmkAt ctx0 mw0 1).microAt 100) < 11 ∧ (cmkAt ctx0 mw0 1).microAt 100 ≠ MicroCode mw0 0
      ∧ ctx0.routine ≠ 0x09 ∧ ({ ctx0 with waiting := some 0 } : CmkCtx).waiting ≠ none)
    ∧ (∀ n ∈ [2, 3], let s := cmkInt0 n false mw0; s.cmk.running = some ctx0 ∧ ctx0.waiting = none ∧ s.microAt 100 = MicroCode mw0 0
      ∧ mw0.safe = true ∧ s.cmkInt = true) := by decide +kernel
theorem witness_CoremakerSequencing_abort : (cmkInt0 0 true mw0).cmkInt = true ∧ (cmkInt0 0 true mw0).cmk.abort = true := by decide +kernel

theorem witness_CoremakerAluAndData :
    (([0, 6, 13, 14, 63] : List (BitVec 6)).all (fun f =>
      let w := { mw0 with alu := f, imm := 31 }; (cmkAt ctx0 w 3).cmkAtWord ctx0 w 3)) = true
    ∧ (let w := { mw0 with alu := 7, imm := 32 }; (cmkAt ctx0 w 3).cmkAtWord ctx0 w 3 = true ∧ 32 ≤ w.imm.toNat)
    ∧ (let w := { mw0 with addr := BitVec.ofNat 32 (aEqTap 95 15) }; (cmkAt ctx0 w 1).cmkAtWord ctx0 w 1 = true
      ∧ (findReg w.addr.toNat).isSome = true ∧ (cmkAt ctx0 w 1).cmk.journal.length < 1024)
    ∧ (let w := { mw0 with addr := 0x80000000 }; (cmkAt ctx0 w 1).cmkAtWord ctx0 w 1 = true ∧ 2 ^ 31 ≤ w.addr.toNat)
    ∧ (let s := cmkAt ctx0 mw0 1; let s : State := { s with cmk := { s.cmk with journal := List.replicate 1024 (0, 0) } };
      s.cmkAtWord ctx0 mw0 1 = true ∧ 1024 ≤ s.cmk.journal.length)
    ∧ (cmkAt ctx0 mw0 2).cmkAtWord ctx0 mw0 2 = true ∧ (cmkAt ctx0 mw0 4).cmkAtWord ctx0 mw0 4 = true
    ∧ (cmkAt ctx0 mw0 10).cmkAtWord ctx0 mw0 10 = true := by decide +kernel
theorem witness_CoremakerAluAndData_set :
    (let s := cmkAt ctx0 mw0 4; let s : State := { s with cmk := { s.cmk with set := List.replicate 1024 (0, 0) } };
      s.cmkAtWord ctx0 mw0 4 = true ∧ 1024 ≤ s.cmk.set.length ∧ (cmkAt ctx0 mw0 4).cmk.set.length < 1024)
    ∧ fuseGood (goodRow 3 5 7) = true ∧ fuseRec [(4095, goodRow 3 5 7)] 3 5 = some 7
    ∧ (Tbl.wf (fun _ => (0 : W32)) ctx0.m = true ∧ Tbl.wf (fun _ => (0 : W32)) State.reset.cmk.trims = true ∧ findReg 0x3FFFFF = none) := by
  decide +kernel

theorem witness_FailedRoutineUndoesItsWrites :
    let w := { mw0 with seqk := 7 }
    let j : List (W32 × W32) := [(BitVec.ofNat 32 (aEqTap 95 15), 5), (BitVec.ofNat 32 (aTgain 95 0), 7)]
    let s : State := { cmkAt ctx0 w 0 with cmk := { (cmkAt ctx0 w 0).cmk with journal := j } }
    s.cmkAtWord ctx0 w 0 = true ∧ w.log = false ∧ Tbl.wf resetWord s.regs = true ∧ (s.cmk.journal.map Prod.fst).Nodup
      ∧ s.cmk.journal.all (fun e => decide (e.1.toNat < 2 ^ 31) && (findReg e.1.toNat).isSome && e.1.toNat != aCmkCnt) = true := by decide +kernel

/-- Every sensor at 20 degrees. -/
def mild (s : State) : State :=
  { s with thermal := { s.thermal with sensors := [(62, ⟨2560, false, false, false, []⟩), (63, ⟨2560, false, false, false, []⟩)] } }
/-- The round read the programming rail at 1.8 V, in the fuse window's temperature. -/
def fuseReady (w : MicroWord) (fuses : Tbl W64) : State :=
  let s := mild (cmkAt ctx0 w 6)
  { s with fuses := fuses, supply := { s.supply with progMv := 1800 } }
theorem witness_CoremakerIrreversibleWords :
    (let s := cmkAt ctx0 mw0 5; s.cmkAtWord ctx0 mw0 5 = true ∧ mw0.safe = true ∧ (s.setFault [] = none) ∧ s.setFault [(0, 0)] = some (0, 0))
    ∧ (let w := { mw0 with safe := false }; [5, 6, 7, 8].all (fun k => (cmkAt ctx0 w k).cmkAtWord ctx0 w k) = true)
    ∧ (let s := fuseReady mw0 [(0, 0)]; s.cmkAtWord ctx0 mw0 6 = true ∧ s.fuseWindow = true ∧ s.nextRow = some 0)
    ∧ (let s := mild (cmkAt ctx0 mw0 6); s.cmkAtWord ctx0 mw0 6 = true ∧ s.fuseWindow = false)
    ∧ (let s := mild (cmkAt ctx0 mw0 7); s.cmkAtWord ctx0 mw0 7 = true ∧ s.nvWindow = true)
    ∧ (let s := hotStore (cmkAt ctx0 mw0 7); s.cmkAtWord ctx0 mw0 7 = true ∧ s.nvWindow = false)
    ∧ ([(0xFFFF00F0 : W32), 0xFFFF00F9].all (fun i => let w := { mw0 with imm := i }; (cmkAt ctx0 w 8).cmkAtWord ctx0 w 8
      && decide (240 ≤ fieldOf w.imm 7 0) && decide (fieldOf w.imm 7 0 < 250)) = true)
    ∧ (let w := { mw0 with addr := BitVec.ofNat 32 (aRunLaneCtrl 7 8) };
      let s : State := { cmkAt ctx0 w 9 with ports := [(7, { Port.init with st := .align })] };
      s.cmkAtWord ctx0 w 9 = true ∧ w.addr.toNat = aRunLaneCtrl 7 8 ∧ (s.port 7).searching = true ∧ (s.port 6).searching = false) := by
  decide +kernel
/-- Every fuse row used. -/
def usedRows (a n : Nat) : Tbl W64 :=
  match n with
  | 0 => []
  | k + 1 => (a, 1) :: usedRows (a + 1) k
theorem usedRows_get (n : Nat) : ∀ a r d, a ≤ r → r < a + n → Tbl.get (usedRows a n) r d = 1 := by
  induction n with
  | zero => intro a r d h1 h2; omega
  | succ k ih =>
    intro a r d h1 h2
    unfold usedRows Tbl.get
    by_cases h : a = r
    · rw [if_pos h]
    · rw [if_neg h]
      exact ih (a + 1) r d (by omega) (by omega)
theorem witness_CoremakerIrreversibleWords_no_row : ({ State.reset with fuses := usedRows 0 4096 } : State).nextRow = none := by
  unfold State.nextRow
  rw [List.find?_eq_none]
  intro r h
  have h2 : fuseRowOf (usedRows 0 4096) r = 1 := usedRows_get 4096 0 r _ (Nat.zero_le r) (by have := List.mem_range.mp h; omega)
  simp only [h2]
  decide

theorem witness_RoutinesStartWaitAndAbort :
    (let q : CmkReq := ⟨0x10, 0⟩; let y : CmkReq := ⟨0x12, 0⟩;
      let s : State := { State.reset with cmk := { Cmk.init with queue := [q, y] } };
      s.cmk.queue = q :: [y] ∧ s.cmkEligible q = true ∧ s.cmkEligible y = true ∧ routinePriority q.routine ≤ routinePriority y.routine)
    ∧ (let s : State := { State.reset with cmk := { Cmk.init with yielded := [ctx0] } };
      s.cmk.running = none ∧ s.cmk.yielded = [ctx0] ∧ s.cmkEligible ⟨ctx0.routine, ctx0.target⟩ = true)
    ∧ (let s := monoAt (asking State.reset .operator 0) 86400000000000; s.boot.stage = 10 ∧ s.boot.stop = none ∧ s.cmk.running = none
      ∧ 10000000000 ≤ s.since s.cmk.lastTiu ∧ 86400000000000 ≤ s.since s.cmk.lastScrub ∧ s.cmk.queue = [])
    ∧ (let w := { mw0 with seqk := 2 }; let c := { ctx0 with waiting := some 0 };
      let s : Bool → State := fun b => monoAt (cmkAt c { w with pol := b } 0) 0xFFFFFFFFFFFFFFFF;
      microOf ((s true).microAt c.pc) = { w with pol := true } ∧ waitLimit w ≤ (s true).since 0
      ∧ (s true).cmkCond c { w with pol := true } ≠ (s false).cmkCond c { w with pol := false })
    ∧ (let s := monoAt (cmkAt ctx0 mw0 0) 200000; let s : State := { s with cmk := { s.cmk with intSince := some 0, abort := true } };
      s.cmk.running = some ctx0 ∧ s.cmkInt = true ∧ 200000 ≤ s.since 0)
    ∧ (let c := { ctx0 with routine := 0x11 }; let s := cmkAt c mw0 0; let s : State := { s with cmk := { s.cmk with queue := [⟨0x01, 0⟩] } };
      s.microAt c.pc = MicroCode mw0 0 ∧ s.cmk.abort = false ∧ s.cmkOutranked = true ∧ s.cmk.yielded.length < 3)
    ∧ State.reset.cast.refinOk = false := by decide +kernel
theorem witness_RoutinesStartWaitAndAbort_more :
    (State.reset.cmk.running = none ∧ State.reset.cmk.queue = [] ∧ State.reset.cmk.yielded = [] ∧ State.reset.cmk.asks = [] ∧ State.reset.cmk.abort = false)
    ∧ (let s : State := { monoAt (asking State.reset .operator 0) 5 with banks := [(5, { Bank.init with st := .on })] };
      (s.bank 5).st = .on ∧ (∀ r ∈ [(0x0A : Byte), 0x21, 0x08], (s.cmkRequest r 0).isSome = true) ∧ s.routineWanted 8 0 = false)
    ∧ (let w := { mw0 with seqk := 2, cond := 1, addr := 0x80000000 }; let c := { ctx0 with waiting := some 0 };
      let s : Bool → State := fun b => cmkAt c { w with pol := b } 0;
      (∃ b ∈ [true, false], (s b).cmkCond c { w with pol := b } = false) ∧ w.cond = 1 ∧ w.addr.getLsbD 31 = true) := by decide +kernel

def set0 : List (W32 × W32) := [(BitVec.ofNat 32 (aTgain 95 0), 7)]
/-- An hour after the start, a set of routine 0x10 submitted at 0, due at tick 0. -/
def waitSet (st : SetSt) : State := { monoAt State.reset 60000000000 with cmk := { Cmk.init with setSt := st, sub := some (0x10, set0, 0, 0) } }
theorem witness_CalibrationSetsCommitAtOneTick :
    (let s := waitSet .awaitAccept; s.cmk.setSt = .awaitAccept ∧ s.cmk.sub = some (0x10, set0, 0, 0) ∧ 60000000000 ≤ s.since 0
      ∧ (monoAt s 59999999999).since 0 < 60000000000 ∧ State.reset.cmk.sub = none ∧ Tbl.wf resetWord s.regs = true
      ∧ Tbl.wf (fun _ => (0 : W32)) s.cmk.trims = true)
    ∧ (let s := waitSet .awaitTick; (0 : Tick).toNat ≤ s.now.toNat ∧ s.nvWindow = true ∧ set0.all (fun p => s.calTickOk p s.now) = true
      ∧ (set0.map Prod.fst).Nodup ∧ (hotStore s).nvWindow = false)
    ∧ (([aTgain 95 0, aEqTap 95 15, aDemPhs 31 7] : List Nat).all (fun a => (calTarget a).isSome)) = true
    ∧ (let a := BitVec.ofNat 32 (aTgain 0 0); let r : Run := { run0 with phase := .active, executed := 1 };
      let s : State := { waitSet .awaitTick with runs := [r] };
      ([(a, (7 : W32))] : List (W32 × W32)).all (fun p => s.calTickOk p s.now) = false) := by decide +kernel

/-- Channel 15 under conversion in a half-period, which is over; output 3 follows it. -/
def scanAt (ph : CryPhase) (h : Nat) (sum : Int) : State :=
  { monoAt ((State.reset.setReg (aCryExc 15) 0x8008000A).setReg (aCryRoutCfg 3) 0x800F0000) 100000000 with cryo := ⟨some 15, ph, h, sum, 1, 0, none⟩ }
def lastHalf : Nat := (scanAt .convert 0 0).cryHalves 15 - 1
theorem witness_CryostatScanConverts :
    (let s := scanAt .convert 0 0; s.cryo.phase = .convert ∧ 0 + 1 < s.cryHalves 15 ∧ 0 / 2 < s.crySettle 15 ∧ Tbl.wf resetWord s.regs = true
      ∧ s.cryo.active = some 15 ∧ s.cryHalfOver = true ∧ (monoAt s 1).cryHalfOver = false ∧ State.reset.cryo.active = none)
    ∧ (let s := scanAt .convert (lastHalf - 1) 0; s.cryo.half + 1 < s.cryHalves 15 ∧ s.crySettle 15 ≤ s.cryo.half / 2)
    ∧ ((scanAt .probe 0 0).cryo.phase = .probe ∧ (scanAt .probe 0 0).cryHalfOver = true)
    ∧ (∀ sum ∈ [(1000000 : Int), -1000000], let s := scanAt .convert lastHalf sum; s.cryo.half + 1 = s.cryHalves 15
      ∧ 2 * s.cryAvg 15 * s.fld (aCryExc 15) 16 0 ≠ 0 ∧ s.fld (aCryRoutCfg 3) 19 16 = 15 ∧ s.bit (aCryRoutCfg 3) 31 = true)
    ∧ (let s := scanAt .convert lastHalf 0; let d := addFrac (1000000, 1) (-0, 72);
      0 ≤ nearest d.1 (2 * s.cryAvg 15 * s.fld (aCryExc 15) 16 0 * d.2))
    ∧ (let s := scanAt .convert lastHalf 0; let d := addFrac (-1000000, 1) (-0, 72);
      nearest d.1 (2 * s.cryAvg 15 * s.fld (aCryExc 15) 16 0 * d.2) < 0) := by decide +kernel

/-! ### Temperature, supply, starts and faults -/

/-- A round in which every sensor reads `v`. -/
def round0 (v : Int) : RoundObs := ⟨List.replicate 64 (some v), 4800, 4800, 0, 1000, 100, 1800, [], [], []⟩
def boot10 : Boot := { Boot.init with stage := 10 }
/-- The module in a temper level, in stage 10, its domains on. -/
def atLevel (n fall : Nat) : State :=
  { State.reset with
    thermal := { Thermal.init with level := n, fallCount := fall }
    boot := boot10
    supply := { Supply.init with domOn := 0x3FFFFFFF } }
def afterRound (s : State) (o : RoundObs) : Option State := match execHousekeepingRound o s with
  | .next t => some t
  | _ => none
/-- What holds after a round that reads `v` everywhere. -/
def roundGives (s : State) (v : Int) (p : State → Bool) : Bool := (afterRound s (round0 v)).any p
theorem witness_HousekeepingRoundsMoveTheTemperLevel :
    ((atLevel 0 0).supply.unpowered = false ∧ ({ Supply.init with unpowered := true } : Supply).unpowered = true)
    ∧ (let s := atLevel 0 0; Tbl.wf (fun _ => Sensor.init) s.thermal.sensors = true ∧ Tbl.wf resetWord s.regs = true
      ∧ Tbl.wf (fun _ => (0 : Nat)) s.supply.domBad = true ∧ (s.sensor 63).failed = false ∧ s.failsNow (round0 2560).sensors 63 = false
      ∧ (round0 2560).sensors.getD 63 none = some 2560 ∧ s.acting = true ∧ s.supply.domOn.getLsbD 29 = true)
    ∧ (let s := atLevel 0 0; let o := { round0 2560 with sensors := List.replicate 63 (some (2560 : Int)) ++ [none] };
      s.failsNow o.sensors 63 = true ∧ o.sensors.getD 62 none = some (2560 : Int))
    ∧ (let s := atLevel 0 0; s.failsNow (List.replicate 64 none) 63 = true ∧ (neighboursOf 63).all (fun j => s.failsNow (List.replicate 64 none) j) = true)
    ∧ roundGives (atLevel 3 0) (114 * 128) (fun t => decide (t.thermal.hottestT = 114 * 128) && decide (t.thermal.level = 4) && t.fault.temper) = true
    ∧ roundGives (atLevel 4 0) (118 * 128) (fun t => decide (118 * 128 ≤ t.thermal.hottestT) && t.thermal.shutdown) = true
    ∧ roundGives (atLevel 1 999) (97 * 128) (fun t => t.thermal.hold == false && fallOk 1 t.thermal.hottestT t.thermal.rate
        && decide (t.thermal.level = 0)) = true
    ∧ roundGives (atLevel 1 998) (97 * 128) (fun t => decide (t.thermal.level = 1)) = true := by decide +kernel
theorem witness_HousekeepingRoundsMoveTheTemperLevel_rails :
    (let s := atLevel 0 0; let s : State := { s with supply := { s.supply with domBad := [(28, 2)] } };
      Tbl.get s.supply.domBad 28 0 = 2 ∧ fatalSources.contains (28 : Byte) = true ∧ s.boot.stage = 10 ∧ s.boot.stop = none ∧ s.acting = true)
    ∧ (let o := { round0 2560 with reqs := [(0, 700), (169, 700)], cruHits := [33] };
      (o.reqs.map Prod.fst).Nodup ∧ (∀ x ∈ o.reqs, x.1 < 170) ∧ o.cruHits = [33] ∧ o.railsOut = 0 ∧ o.wellFormed = true)
    ∧ (let s : State := { atLevel 0 0 with spares := { Spares.init with cruHits := [(33, List.replicate 63 0)] } };
      (afterRound s { round0 2560 with cruHits := [33] }).any (fun t => (Tbl.get t.spares.cruHits 33 []).length == 64)) = true := by decide +kernel

/-- Stage 10 at 100 s of TB_MONO, the supply as given; and so stopped, or stopping. -/
def supp (f : Supply → Supply) : State := { monoAt State.reset 100000000000 with supply := f Supply.init, boot := boot10 }
def supp0 : State := supp (fun x => x)
def stopped (k : StopKind) (d : Bool) : State := { supp0 with boot := { boot10 with stop := some (k, 0, d) } }
theorem witness_SupplyEventsStopAndRestart :
    (supp0.supply.unpowered = false ∧ (supp0.feed 1).ok = true ∧ Tbl.wf resetWord supp0.regs = true)
    ∧ (let s := supp (fun x => { x with feedB := ⟨0, false, false, none⟩ }); (s.feed 1).ok = false ∧ (s.feed 1).isolated = false)
    ∧ (let s := supp (fun x => { x with feedB := ⟨0, false, true, some 0⟩ }); (s.feed 1).isolated = true ∧ (s.feed 1).backSince = some 0
      ∧ ¬ s.since 0 < 1000000000 ∧ (monoAt s 999999999).since 0 < 1000000000)
    ∧ (let s := supp (fun x => { x with feedA := ⟨0, false, false, none⟩, feedB := ⟨0, false, false, none⟩, lowSince := some 0 });
      s.busLow = true ∧ 10000000 ≤ s.since 0 ∧ s.supply.brownout = none ∧ s.boot.stop = none ∧ s.acting = true ∧ s.supply.lowSince = some 0
      ∧ (monoAt s 10000000).since 0 ≤ 10000000)
    ∧ (let s := stopped .brownout false; s.boot.stop = some (.brownout, 0, false) ∧ s.anyInFlight = false ∧ s.boot.rstLow = false
      ∧ s.boot.rstWaits = false ∧ s.nv.holding = false ∧ s.now.toNat < (0 : Tick).toNat + 4000000)
    ∧ (let h : Shot := ⟨0, 0, some 9, false, []⟩; let s : State := { stopped .rst false with runs := [{ run0 with phase := .active, shots := [h] }] };
      s.anyInFlight = true)
    ∧ ((stopped .command false).boot.stop = some (.command, 0, false) ∧ (stopped .rst false).boot.stop = some (.rst, 0, false)
      ∧ ({ boot10 with rstLow := true } : Boot).rstLow = true)
    ∧ (let s : State := { stopped .fatal false with boot := { boot10 with stop := some (.fatal, 0, false), found := 0xF2, counter := 3 } };
      s.boot.found = 0xF2 ∧ ingotThreshold s.boot.straps ≤ s.boot.counter.toNat) := by decide +kernel
theorem witness_SupplyEventsStopAndRestart_restarts :
    (let s : State := { stopped .brownout true with supply := { Supply.init with okSince := some 0 } };
      s.boot.stop = some (.brownout, 0, true) ∧ s.supply.okSince = some 0 ∧ 100000000 ≤ s.since 0 ∧ s.boot.rstLow = false)
    ∧ (let s : State := { stopped .thermal true with thermal := { Thermal.init with shutdown := true, coolSince := some 0, shutdowns := [0, 0] } };
      s.thermal.coolSince = some 0 ∧ s.thermal.shutdown = true ∧ 60000000000 ≤ s.since 0 ∧ s.shutdowns24 < 3)
    ∧ (let s : State := { stopped .thermal true with thermal := { Thermal.init with coolSince := some 0, shutdowns := [0, 0, 0] } };
      3 ≤ s.shutdowns24)
    ∧ (let s := supp0; s.supply.stages.getD 9 false = true ∧ 8 < s.stagesOk)
    ∧ (let s := supp (fun x => { x with stages := [false, false, false, false, true, true, true, true, true, true] });
      s.supply.stages.getD 9 false = true ∧ s.stagesOk = 6 ∧ s.acting = true)
    ∧ (let s := supp (fun x => { x with stages := [false, false, true, true, true, true, true, true, true, true] }); s.stagesOk = 8) := by decide +kernel

/-- Rail 0 at its top, its slack low, as the flag and the times say. -/
def railAt (flag : Bool) (starve heal : Tbl (Option W64)) : State :=
  { monoAt (State.reset.setBit (aPwrSlk 0) 31 flag) 1000000 with
    supply := { Supply.init with domOn := 0x7FF801, rail := [(0, 1800)], starveSince := starve, healSince := heal } }
theorem witness_SlackServoMovesItsRail :
    (State.reset.domains.getLsbD (railDomain 12) = true ∧ State.reset.railOf 12 = 1240 ∧ State.reset.domains.getLsbD (railDomain 0) = false)
    ∧ (let s := railAt false [(0, some 900000)] []; s.domains.getLsbD (railDomain 0) = true ∧ s.railOf 0 = 1800
      ∧ Tbl.wf (fun _ => 1240) s.supply.rail = true ∧ Tbl.wf (fun _ => (0 : Int)) s.supply.slack = true ∧ Tbl.wf resetWord s.regs = true
      ∧ Tbl.wf (fun _ => (none : Option W64)) s.supply.starveSince = true ∧ Tbl.wf (fun _ => (none : Option W64)) s.supply.healSince = true
      ∧ s.bit (aPwrSlk 0) 31 = false ∧ 100000 ≤ s.since 900000 ∧ s.since 900001 < 100000
      ∧ Tbl.get s.supply.starveSince 0 none = some 900000)
    ∧ (let s := railAt false [] []; Tbl.get s.supply.starveSince 0 none = none ∧ (7 : Int) < 8 ∧ 1800 ≤ (1800 : Int) + 20)
    ∧ (let s := railAt true [] [(0, some 0)]; s.bit (aPwrSlk 0) 31 = true ∧ Tbl.get s.supply.healSince 0 none = some 0 ∧ ¬ s.since 0 < 1000000
      ∧ s.since 1 < 1000000)
    ∧ (peRail 0 = 0 ∧ State.reset.peLogical 0 = some 0 ∧ (List.range 34).any (fun c => cruRail c == 8) = true) := by decide +kernel

theorem witness_SparesAndInstallsTakeOver :
    (State.reset.spares.standby = true ∧ State.reset.boot.stage ≠ 0 ∧ Tbl.get State.reset.spares.dramUsed 31 0 < 240)
    ∧ (let s : State := { State.reset with spares := { Spares.init with dramUsed := [(31, 240)], dramBanks := [31 * 256] } };
      Tbl.wf (fun _ => 0) s.spares.dramUsed = true ∧ 240 ≤ Tbl.get s.spares.dramUsed 31 0 ∧ s.spares.dramBanks.any (fun b => b / 256 == 31) = true)
    ∧ (let s : State := { State.reset with hots := [(7, { Hot.init with lines := [5] })] };
      (s.hot 7).lines.contains 5 = true ∧ s.hotLocked 7 5 = false ∧ Tbl.wf (fun _ => Hot.init) s.hots = true ∧ Tbl.get s.spares.hotUsed 7 0 < 32
      ∧ Tbl.get ([(7, 32)] : Tbl Nat) 7 0 = 32)
    ∧ (let s : BitVec 8 → State := fun k => { monoAt State.reset 60000000000 with fw := { Firmware.init with install := some (k, 0) } };
      (s 1).fw.install = some (1, 0) ∧ (s 1).spares.standby = true ∧ (s 2).cmk.running = none ∧ (s 2).cmk.yielded = []
      ∧ Tbl.wf (fun _ => 0) (s 3).fw.active = true ∧ 60000000000 ≤ (s 2).since 0)
    ∧ ({ State.reset with spares := { Spares.init with standby := false } } : State).spares.standby = false := by decide +kernel

/-- A start in a stage, with the straps. -/
def stageAt (n : Nat) (straps : BitVec 2) : State := { State.reset with boot := { Boot.init with stage := n, straps := straps } }
/-- The fuse records without which no start goes on: serial number, MAC and a key hash. -/
def essentials : Tbl W64 :=
  (List.range 8).map (fun k => (4085 + k, goodRow 3 k 0)) ++ [(4093, goodRow 1 0 0), (4094, goodRow 1 1 0), (4095, goodRow 2 0 0)]
/-- No block and no record failed. -/
def passed0 : StageResult := ⟨0, 0, 0, [], [], [], [], []⟩
def imageSlots : Tbl FwImage := [(2, ⟨0, 1, true, []⟩), (3, ⟨0, 0, true, []⟩), (4, ⟨0, 1, true, []⟩), (6, ⟨0, 1, true, []⟩)]
theorem witness_StartsGoThroughTheirStages :
    (let s : State := { stageAt 1 0 with fuses := essentials }; s.boot.stop = none ∧ s.boot.ingot = false ∧ s.supply.unpowered = false
      ∧ s.boot.found = 0 ∧ s.essentialFuses = true ∧ Tbl.wf resetWord s.regs = true ∧ Tbl.wf (fun _ => Bank.init) s.banks = true)
    ∧ (let s : State := { stageAt 1 0 with boot := { Boot.init with stage := 1, found := 0xF0, counter := 3 } };
      s.boot.found = 0xF0 ∧ ingotThreshold s.boot.straps ≤ (counterUp s.boot.counter).toNat)
    ∧ (forcedIngot (stageAt 2 2).boot.straps = false ∧ forcedIngot (stageAt 2 1).boot.straps = true)
    ∧ (let s : State := { stageAt 2 2 with fw := { Firmware.init with images := imageSlots }, arc := [(0, 1), (1, 1), (2, 1)] };
      (∀ k ∈ [1, 2, 3], s.imageReady k (StageSlot passed0 k) = true) ∧ s.imageReady 1 (StageSlot { passed0 with slotB := 7 } 1) = false)
    ∧ (let s : State := { stageAt 3 0 with supply := { Supply.init with riserPct := 95 } }; 95 ≤ s.supply.riserPct ∧ s.thermal.hottestT < 95 * 128)
    ∧ (((List.range 64).filter (fun k => ((stageAt 5 0).sensor k).failed)).length ≤ 8
      ∧ (let s : State := { stageAt 5 0 with thermal := { Thermal.init with
            sensors := (List.range 9).map (fun k => (k, ⟨0, true, false, false, []⟩)) } };
        8 < ((List.range 64).filter (fun k => (s.sensor k).failed)).length))
    ∧ ((stageAt 7 0).spareFree 7 = true ∧ (stageAt 7 0).nv.recs = [] ∧ (stageAt 8 0).cmk.abort = false ∧ ((stageAt 8 0).bank 5).st = .off)
    ∧ (let s : State := { stageAt 9 0 with nv := { Nv.init with closures := [⟨1, 5, 0, 0, 0⟩] } }; s.nv.closures ≠ []) := by decide +kernel
theorem witness_StartsGoThroughTheirStages_ends :
    ((stageCauses 8).contains 0x80 = true ∧ (counterUp 0).toNat < ingotThreshold 0 ∧ ingotThreshold 2 ≤ (counterUp 0).toNat
      ∧ ingotThreshold 0 ≤ (counterUp 2).toNat)
    ∧ (let s : State := { monoAt (stageAt 10 0) 60000000000 with boot := { boot10 with completeAt := some 0 } };
      s.boot.completeAt = some 0 ∧ s.boot.stage = 10 ∧ s.boot.settling = true ∧ 60000000000 ≤ s.since 0)
    ∧ (let s : State := { stopped .failedStart true with boot := { Boot.init with stage := 0, stop := some (.failedStart, 0, true), restartAt := some 0 } };
      s.boot.stop = some (.failedStart, 0, true) ∧ s.boot.restartAt = some 0 ∧ 0 ≤ s.mono ∧ s.boot.rstLow = false) := by decide +kernel
/-- Some fuses lack the serial number. -/
theorem witness_StartsGoThroughTheirStages_noFuses : ∃ t : Tbl W64, fuseRec t 1 0 = none := by
  have h : ∀ n a, a + n = 4096 → ∀ m, m ≤ n → fuseBelow (usedRows 0 4096) 1 0 m = none := by
    intro n a hn m hm
    induction m with
    | zero => rfl
    | succ k ih =>
      have hk : fuseRowOf (usedRows 0 4096) k = 1 := usedRows_get 4096 0 k _ (Nat.zero_le k) (by omega)
      have hg : fuseGood 1 = false := by decide +kernel
      unfold fuseBelow
      simp only [hk, hg, Bool.false_and, Bool.false_eq_true, if_false]
      exact ih (by omega)
  exact ⟨usedRows 0 4096, h 4096 0 rfl 4096 (Nat.le_refl _)⟩

def bootIn (b : Boot) : State := { State.reset with boot := b }
theorem witness_ResetsAndFatalFaults :
    (let s : State := { State.reset with supply := { Supply.init with unpowered := true } };
      s.supply.unpowered = true ∧ s.busLow = false ∧ s.boot.rstLow = false ∧ ({ s with boot := { s.boot with rstLow := true } } : State).boot.rstLow = true)
    ∧ (let s := bootIn boot10; s.supply.unpowered = false ∧ s.boot.stop = none ∧ s.boot.ingot = false
      ∧ s.boot.stage = 10 ∧ fatalSources.contains 0xFE = true ∧ fatalSources.contains 0x1E = false ∧ s.boot.rstWaits = false)
    ∧ ((bootIn { Boot.init with ingot := true }).boot.ingot = true ∧ (bootIn { boot10 with stage := 8 }).boot.stage = 8)
    ∧ (∀ k ∈ [StopKind.fatal, .failedStart, .brownout, .thermal], let s := stopped k true;
      s.boot.rstLow = false ∧ s.supply.unpowered = false ∧ s.boot.stop = some (k, 0, true))
    ∧ ((stopped .brownout false).boot.stop = some (.brownout, 0, false) ∧ StopKind.brownout ≠ .failedStart ∧ StopKind.brownout ≠ .fatal)
    ∧ (let s := bootIn { Boot.init with stage := 0, stop := some (.rst, 0, true), rstLow := true };
      s.boot.rstLow = true ∧ s.boot.stop = some (.rst, 0, true) ∧ s.boot.restartAt = none)
    ∧ (let s : State := { bootIn { Boot.init with stage := 0, stop := some (.thermal, 0, true), rstLow := true } with
        thermal := { Thermal.init with shutdown := true } }; s.thermal.shutdown = true ∧ s.shutdowns24 < 3)
    ∧ (let s := bootIn { Boot.init with stage := 0, stop := some (.fatal, 0, true), restartAt := some 0 };
      s.boot.restartAt = some 0 ∧ 0 ≤ s.mono ∧ s.boot.rstWaits = false ∧ s.boot.rstLow = false) := by decide +kernel

/-! ### The module as a whole -/

theorem witness_StatusShowsTheFirstCondition :
    ([.powerAbort, .temperAbort, .engineFault, .roleDenied, .timeUnlocked, .outputCleared, .linkLost, .checkFail, .eventLoop,
      .decisionLate, .lateRelease, .patternUnderrun, .rangeChange, .refbufNotReady, .acqOverflow] : List Cond)
      = [.powerAbort, .temperAbort] ++ .engineFault :: [.roleDenied, .timeUnlocked, .outputCleared, .linkLost, .checkFail, .eventLoop,
      .decisionLate, .lateRelease, .patternUnderrun, .rangeChange, .refbufNotReady, .acqOverflow]
    ∧ (let m : BitVec 16 := 1#16 <<< Cond.engineFault.code; m.getLsbD Cond.engineFault.code = true
      ∧ ([.powerAbort, .temperAbort] : List Cond).all (fun d => !m.getLsbD d.code) = true) := by decide
theorem witness_SoftwarePublishMakesOneEvent :
    (let s := asking State.reset .operator 0x11; s.asks (sess0 .operator 0x11) 1 1 0x11 none = true
      ∧ Role.operator.holds (s.chAttr 239) = true ∧ fieldOf (239 : W32) 7 0 < 240 ∧ 240 ≤ fieldOf (240 : W32) 7 0)
    ∧ (let s := asking (State.reset.setReg (aSprCh 239) 0x08000000) .operator 0x11; Role.operator.holds (s.chAttr 239) = false) := by
  decide +kernel
theorem witness_RateOfRiseIsTheLargestOfTheValidSensors :
    (let s : State := { State.reset with thermal := { Thermal.init with sensors := [(63, ⟨2560, false, false, false, List.replicate 100 2560⟩)] } };
      s.supply.unpowered = false ∧ (s.sensor 63).hist[99]? = some 2560
      ∧ roundGives s 2570 (fun t => !(t.sensor 63).failed && decide (t.thermal.rate = 100)) = true) := by decide +kernel
theorem witness_SpareBlocksAnswerReadsAndRefuseWrites :
    (sess0 .operator 0x11).role = .operator ∧ State.reset.peLogical 135 = none ∧ State.reset.cruLogical 33 = none
    ∧ (asking State.reset .operator 0x11).asks (sess0 .operator 0x11) 1 1 0x11 none = true
    ∧ (asking State.reset .operator 0x10).asks (sess0 .operator 0x10) 1 1 0x10 none = true ∧ (findReg (aPeWdog 135)).isSome = true := by
  decide +kernel
/-- A waiting command, and an idle step with the clocks running and halted. -/
theorem witness_AStepIsOneCommandOrOneTick :
    ({ State.reset with pending := [.rstFall] } : State).pending = .rstFall :: []
    ∧ (State.reset.pending = [] ∧ State.reset.supply.unpowered = false ∧ State.reset.clock.castRuns = false)
    ∧ (let s : State := { State.reset with clock := { Clock.init with castRuns := true, linkFrac := 49999999 } };
      s.pending = [] ∧ s.supply.unpowered = false ∧ s.clock.castRuns = true ∧ s.clock.linkFrac < 50000000 ∧ Tbl.wf resetWord s.regs = true
      ∧ Tbl.wf (fun _ => RfChan.init) s.rf = true ∧ Tbl.wf (fun _ => Tone.init) s.tones = true ∧ Tbl.wf (fun _ => Port.init) s.ports = true
      ∧ (s.port 7).buffers = false ∧ (s.bank 5).st ≠ .on ∧ (s.rfch 95).ncoFix = none)
    ∧ (let x : Session := { sess0 .operator 0 with txPkt := 2 ^ 40 }; let s : State := { State.reset with sessions := [x] };
      x ∈ s.sessions ∧ 2 ^ 40 ≤ x.txPkt)
    ∧ (let s : State := { State.reset with supply := { Supply.init with unpowered := true } }; s.pending = [] ∧ s.supply.unpowered = true) := by
  decide +kernel
theorem witness_CommandsLeaveTheQueueAlone : ∃ t, exec .rstFall State.reset = .next t := ⟨_, rfl⟩
theorem witness_MemoryFormIsKept : Memory.wf State.reset.dram = true ∧ ∃ t, step State.reset = .next t := ⟨rfl, _, rfl⟩
theorem witness_FusesCountersAndCredentialsKeep :
    Tbl.wf (fun _ => (0 : W32)) State.reset.arc = true ∧ ∃ t, exec .rstFall State.reset = .next t := ⟨rfl, _, rfl⟩
theorem witness_StoredBytesAreReadBack : Memory.wf State.reset.dram = true ∧ Memory.wf (State.reset.storeBytes 0xFFFFFFFFF [7]).dram = true := by
  decide +kernel
/-- A record that issues operator slot 4 changes the credentials. -/
def issued : Option State := match execNvWrite 1 1 0x0101 4 (credRec 1 3 9) credAsk with
  | .next t => some t
  | _ => none
theorem witness_FusesCountersAndCredentialsKeep_creds : issued.any (fun t => decide (t.creds.length = 3)) = true := by decide +kernel

/-! ### Ill-formed commands are refused by their check -/

def stageObs : StageObs := stage0 0x1FF []
def trained : StageObs := { stageObs with train := List.replicate 9 (List.replicate 16 0) }
def frameOk : FrameIn := frame0 3 (timeF true false 0).body
def fine0 : FineTick := ⟨0, 63999⟩
def fine1 : FineTick := ⟨0, 64000⟩
theorem test_wf_runSubmit : (Instr.runSubmit 1 1 { desc0 with clusterImages := List.replicate 9 (0, 1) }).wellFormed = false
    ∧ (Instr.runSubmit 1 1 { desc0 with crucImages := List.replicate 33 (0, none) }).wellFormed = false
    ∧ (Instr.runSubmit 1 1 desc0).wellFormed = true := by decide
theorem test_wf_beatWrite : (Instr.beatWrite 0 []).wellFormed = false := by decide
theorem test_wf_bringupStagePass : (Instr.bringupStagePass 0 trained).wellFormed = true
    ∧ (Instr.bringupStagePass 0 { trained with bits := [] }).wellFormed = false
    ∧ (Instr.bringupStagePass 0 { trained with train := [] }).wellFormed = false
    ∧ (Instr.bringupStagePass 0 { trained with train := List.replicate 9 [] }).wellFormed = false
    ∧ (Instr.bringupStagePass 0 { trained with skew := [] }).wellFormed = false := by decide
theorem test_wf_frames : (Instr.enableFrameReceive ⟨0, frameOk⟩).wellFormed = true
    ∧ (Instr.enableFrameReceive ⟨0, { frameOk with hdr := [] }⟩).wellFormed = false
    ∧ (Instr.runnerAckReceive 0 { frameOk with check := [] }).wellFormed = false
    ∧ (Instr.measFrameReceive 0 ⟨{ frameOk with hdr := [] }, 0⟩).wellFormed = false
    ∧ (Instr.fastPathBlockReceive 0 ⟨List.replicate 22 0, ⟨none, []⟩⟩).wellFormed = false
    ∧ (Instr.fastPathBlockReceive 0 ⟨List.replicate 23 0, ⟨none, []⟩⟩).wellFormed = true
    ∧ (Instr.lossFrameReceive 0 [] [] []).wellFormed = false
    ∧ (Instr.lossFrameReceive 0 (List.replicate 7 0) [] (List.replicate 4 0)).wellFormed = true := by decide +kernel
theorem test_wf_time : (Instr.timeRequestReceive 0 frameOk 63999 fine0).wellFormed = true
    ∧ (Instr.timeRequestReceive 0 frameOk 64000 fine0).wellFormed = false ∧ (Instr.timeRequestReceive 0 frameOk 0 fine1).wellFormed = false
    ∧ (Instr.timeReplyReceive 0 frameOk 64000).wellFormed = false ∧ (Instr.timeReplyReceive 0 frameOk 63999).wellFormed = true := by decide +kernel
theorem test_wf_capture : (Instr.captureClose (List.replicate 5 [])).wellFormed = false ∧ (Instr.captureClose []).wellFormed = true
    ∧ (Instr.captureFifoRecheck 101 0 0).wellFormed = false ∧ (Instr.captureFifoRecheck 100 0 0).wellFormed = true := by decide
theorem test_wf_qsfpInsert : (Instr.qsfpInsert 0 0 0).wellFormed = false ∧ (Instr.qsfpInsert 0 0 9).wellFormed = false
    ∧ (Instr.qsfpInsert 0 0 8).wellFormed = true := by decide
theorem test_wf_signatures : (Instr.challengeSigned []).wellFormed = false ∧ (Instr.attestSigned []).wellFormed = false := by decide
theorem test_wf_cryostat : (Instr.excitationReversal (List.replicate 71 0)).wellFormed = false
    ∧ (Instr.excitationReversal (List.replicate 72 0)).wellFormed = true ∧ (Instr.conversionComplete (List.replicate 74 0) false).wellFormed = false := by
  decide
theorem test_wf_housekeepingRound : (round0 0).wellFormed = true ∧ ({ round0 0 with sensors := [] } : RoundObs).wellFormed = false
    ∧ ({ round0 0 with riserPct := 101 } : RoundObs).wellFormed = false ∧ ({ round0 0 with monitors := [170] } : RoundObs).wellFormed = false
    ∧ ({ round0 0 with reqs := [(170, 0)] } : RoundObs).wellFormed = false ∧ ({ round0 0 with cruHits := [34] } : RoundObs).wellFormed = false := by
  decide
theorem test_wf_power : (Instr.slackServoStep 0 0 true (some 136)).wellFormed = false ∧ (Instr.slackServoStep 0 0 true none).wellFormed = true
    ∧ (Instr.dramBankRemap 0 256).wellFormed = false ∧ (Instr.dramBankRemap 0 255).wellFormed = true
    ∧ (Instr.dramRowRemap 0 0x1000000).wellFormed = false ∧ (Instr.dramRowRemap 0 0xFFFFFF).wellFormed = true
    ∧ (Instr.startStageTimeout 0).wellFormed = false ∧ (Instr.startStageTimeout 0x10).wellFormed = true
    ∧ (Instr.fatalFault 30).wellFormed = false ∧ (Instr.fatalFault 29).wellFormed = true ∧ (Instr.fatalFault 0xFE).wellFormed = true := by decide

/-! ### The manual's worked examples -/

/-- R50, example of chapter 3: `play f1, seg=0x0_3A12, dt=8, sub=5, amp=0x4000`. -/
theorem test_word_play : encP 1 5 0x03A12 8 0x4000 = 0x602A03A120084000 := by decide
/-- Example of chapter 6: `shiftp f1, 0xC000_0000`. -/
theorem test_word_shiftp : encF 0x53 1 0 0xC0000000 = 0x53200000C0000000 := by decide
/-- R182, example of chapter 9: `macb a0, kern+, vk, ring n=0` and its fields; `j 0`. -/
theorem test_word_macb : encM 2 ⟨2, false, true, false, 0, 0, false, 0⟩ = 0x0A400000
    ∧ decM 0x0A400000 = ⟨2, false, true, false, 0, 0, false, 0⟩ ∧ encCruB 0x30 0 0 0 = 0xC0000000 := by decide
/-- Example of chapter 0: ticks 0x00_0000_0100 and 0xFF_FFFF_FF00 lie 512 apart across the wrap. -/
theorem test_tick_difference : sdiff 0x0000000100 0xFFFFFFFF00 = 512 := by decide
/-- Examples of chapter 20: PE_LEAD of engine 21 after and before its swap; the player status of engine 8's frame f2. -/
theorem test_addresses : aPeLead 33 = 0x121014 ∧ aPeLead (State.reset.pePhys 21) = 0x116014
    ∧ aPlyStat (toneChan (toneOf 8 2)) (toneIdx (toneOf 8 2)) = 0x444894 := by decide +kernel
/-- Example of chapter 8: a window that opens at 1,241,040 for 150 blocks lasts to 800 ticks later. -/
theorem test_window : firstBlock 1241040 = 232695 ∧ blockTick (232695 + 150 - 1) = 1241839 := by decide
/-- Example of chapter 9: the window that opens at S + 2336 and its decision's stamp, S = 3,200,000. -/
theorem test_decision_stamp : firstBlock 3202336 = 600438 ∧ blockTick 600587 = 3203135 ∧ kernelLen 0x08096000 = 150
    ∧ kernelBase 0x08096000 = 0 := by decide
/-- Example of chapter 5: segment A has 256 pattern samples of one tick each, and its commit point is at tick 240. -/
theorem test_commit_point :
    (let a : Seg := { Seg.init with desc := BitVec.ofNat 256 (8 * 2 ^ 32 + 12 * 2 ^ 64) };
      a.len = 256 ∧ a.dacLen / 12 = 256 ∧ a.commitAt / 12 = 240) := by decide
/-- Example of chapter 6: an on-time SETF of 0x3333_3333_3333 at tick 1,000,003 gives 0.2000 turn. -/
theorem test_seed : (accAt 0x333333333333 1000003).extractLsb' 32 16 = 0x3333 := by decide
/-- Example of chapter 17: 8,472.315 ohms on an output of 20,000 ohms full scale gives code 27,762. -/
theorem test_rout : (let s := ((State.reset.setReg (aCryRes 3) 8472315).setReg (aCryRoutFs 0) 20000).setReg (aCryRoutCfg 0) 0x80030000;
    (((s.setFld (aCryCst 3) 2 0 2).routUpdate 0).reg (aCryRoutOut 0)) = 27762) := by decide +kernel
/-- R119: the taps of a phase add up to 1 within their rounding, and phase 0 is even in k. -/
theorem test_taps : (([0, 1, 512, 1023] : List Nat).all (fun mu => decide ((((List.range 32).map (fun n => resamplerCoef mu ((n : Int) - 15))).sum - 131072).natAbs ≤ 16))) = true := by
  decide +kernel
theorem test_taps_mirror : (List.range 16).all (fun n => resamplerCoef 0 n == resamplerCoef 0 (-(n : Int))) = true := by decide +kernel

end Sys2Proof.Tests
end

section
/-! PROOF. The status field carries the first condition of the mask, and no condition is lost (R8). -/

namespace Sys2Proof.Machine

/-! ### The conditions of a shot (R6, R8) -/

/-- The conditions in the order in which the status field picks among them (R8). -/
def condOrder : List Cond :=
  [.powerAbort, .temperAbort, .engineFault, .roleDenied, .timeUnlocked, .outputCleared, .linkLost, .checkFail, .eventLoop,
    .decisionLate, .lateRelease, .patternUnderrun, .rangeChange, .refbufNotReady, .acqOverflow]

theorem statusOrder_eq_map_code : statusOrder = condOrder.map Cond.code := rfl

theorem Cond.mem_condOrder (c : Cond) : c ∈ condOrder := by cases c <;> decide

theorem Cond.code_lt_16 (c : Cond) : c.code < 16 := by cases c <;> decide

/-- Conditions have different codes: the codes of the order, which holds every condition, repeat none. -/
theorem Cond.code_inj {c d : Cond} (h : c.code = d.code) : c = d :=
  List.inj_on_of_nodup_map (f := Cond.code) (l := condOrder) (by decide) c.mem_condOrder d.mem_condOrder h

/-- A mask with none of the order's conditions before `c` and with `c` itself shows `c`. -/
theorem statusOf_eq_code {mask : BitVec 16} {before after : List Cond} {c : Cond} (horder : condOrder = before ++ c :: after)
    (hc : mask.getLsbD c.code = true) (hbefore : ∀ d ∈ before, mask.getLsbD d.code = false) : statusOf mask = c.code := by
  have hnone : (before.map Cond.code).find? (fun n => mask.getLsbD n) = none := by
    simpa [List.find?_eq_none] using hbefore
  simp [statusOf, statusOrder_eq_map_code, horder, List.find?_append, hnone, hc]

theorem statusOf_eq_zero {mask : BitVec 16} (h : ∀ d : Cond, mask.getLsbD d.code = false) : statusOf mask = 0 := by
  have hnone : (condOrder.map Cond.code).find? (fun n => mask.getLsbD n) = none := by
    simpa [List.find?_eq_none] using fun d _ => h d
  simp [statusOf, statusOrder_eq_map_code, hnone]

/-- The bit of one condition is set in its own mask and in no other condition's. -/
theorem getLsbD_condMask (c d : Cond) : (1#16 <<< c.code).getLsbD d.code = decide (d = c) := by
  have hd := d.code_lt_16
  rcases eq_or_ne d c with rfl | hne
  · simp [hd]
  · have hcode : d.code ≠ c.code := fun h => hne (Cond.code_inj h)
    simp [hd, hne]
    omega

theorem Entry.getLsbD_add_mask (x : Entry) (c d : Cond) (start tick : Tick) :
    (x.add c start tick).mask.getLsbD d.code = (x.mask.getLsbD d.code || decide (d = c)) := by
  rw [Entry.add, BitVec.getLsbD_or, getLsbD_condMask]

/-- Settles O50: the status field is the first hit of a search along the order, and adding a condition sets its bit alone. -/
theorem statusShowsTheFirstCondition : Obligations.StatusShowsTheFirstCondition := by
  intro mask before after c x start tick horder
  exact ⟨statusOf_eq_code horder, statusOf_eq_zero, fun d => x.getLsbD_add_mask c d start tick⟩

end Sys2Proof.Machine
end

section
/-! SUPPORT. How a request of a session is answered, and what the write of one register does: the rules that the statements about register
writes cite (R2, R5, R320, R321, R348, R462). -/

namespace Sys2Proof.Machine

/-! ### Requests -/

/-- The reply that an answer to a request gives; a refusal leaves the state `u` in which the request was acted on (R325). -/
def Answer.reply (r : Answer) (u : State) (sid seq : W32) (ty : Byte) : State :=
  match r with
  | .done t content => t.reply sid seq ty .ok content
  | .refuse st d => u.reply sid seq ty st d.bytes
  | .failed t st d => t.reply sid seq ty st d.bytes

/-- A request that `asks` names is acted on once it has left its session's inbox. -/
theorem State.request_of_asks {s : State} {x : Session} {sid seq : W32} {ty : Byte} {role : Option Role}
    (h : s.asks x sid seq ty role = true) (k : Session → State → Answer) :
    s.request sid seq ty role k = (k x (s.taken x sid)).reply (s.taken x sid) sid seq ty := by
  unfold State.asks at h
  simp only [Bool.and_eq_true, beq_iff_eq] at h
  obtain ⟨⟨⟨hsess, hinbox⟩, hboot⟩, hrole⟩ := h
  cases hq : x.inbox with
  | nil => simp [hq] at hinbox
  | cons q rest =>
    simp only [hq, Bool.and_eq_true, beq_iff_eq, Bool.not_eq_true'] at hinbox
    obtain ⟨⟨hseq, hty⟩, hcont⟩ := hinbox
    have hserved : ((s.taken x sid).boot.ingot && !ingotServes ty) = false := by
      simpa [State.taken, State.modSess, or_iff_not_imp_left] using hboot
    have htaken : s.modSess sid (fun y => { y with inbox := rest }) = s.taken x sid := by simp [State.taken, hq]
    simp only [State.request, hsess, hq, hseq, hty, and_self, if_true, htaken, hserved, hcont, Bool.false_eq_true, if_false]
    cases role with
    | none => rfl
    | some r =>
      have hopen : (r != x.role) = false := by simpa using hrole
      simp only [hopen, Bool.false_eq_true, if_false]
      rfl

/-- The state with other sessions and another log. -/
def State.withLog (s : State) (l : List Session) (g : Log) : State := { s with sessions := l, log := g }

/-- What taking a request and writing to the log do: they leave everything but the sessions and the log as it was. -/
def State.SameButLog (s w : State) : Prop := ∃ l g, w = s.withLog l g

theorem State.sameButLog_taken (s : State) (x : Session) (sid : W32) : s.SameButLog (s.taken x sid) := ⟨_, s.log, rfl⟩

theorem State.logNow_eq (s : State) (x : Session) (cls : BitVec 16) (flags : Byte) (d : List Byte) :
    s.logNow x cls flags d = { s with log := (s.logNow x cls flags d).log } := by
  unfold State.logNow State.logFlush
  split <;> rfl

theorem State.SameButLog.logNow {s w : State} (h : s.SameButLog w) (x : Session) (cls : BitVec 16) (flags : Byte) (d : List Byte) :
    s.SameButLog (w.logNow x cls flags d) := by
  obtain ⟨l, g, rfl⟩ := h
  exact ⟨l, _, State.logNow_eq _ _ _ _ _⟩

/-! ### Privileged changes (R348, R351, R375) -/

theorem State.privileged_of_window {s : State} (hw : s.nvWindow = true) {l : List (List Byte)} (hn : s.logTaken + l.length ≤ 1000)
    (x : Session) (cls : BitVec 16) (k : State → Answer) :
    s.privileged x cls l k = k (s.each l (fun w b => w.logNow x cls 0 b)) := by
  simp [State.privileged, State.logPriv, hw, Nat.not_lt.mpr hn]

theorem State.privileged_outside_window {s : State} (hw : s.nvWindow = false) (x : Session) (cls : BitVec 16) (l : List (List Byte))
    (k : State → Answer) : s.privileged x cls l k = .refuse .state noDetail := by
  simp [State.privileged, State.logPriv, hw]

theorem State.privileged_log_full {s : State} (hw : s.nvWindow = true) {l : List (List Byte)} (hn : 1000 < s.logTaken + l.length)
    (x : Session) (cls : BitVec 16) (k : State → Answer) :
    s.privileged x cls l k = .failed (s.count aFlkCnt 15 8 1) .rate noDetail := by
  simp [State.privileged, State.logPriv, hw, hn]

/-! ### A REG_WRITE of one entry (R321) -/

/-- The address names an /I or /M register. -/
def isPrivileged (a : Nat) : Bool := (findReg a).any (fun f => f.row.role == some .installer || f.row.role == some .maker)

/-- The detail of a class 0x0001 entry for one write: the address, the old word and the new one (R350). -/
def State.writeLine (s : State) (a : Nat) (v : W32) : List Byte :=
  leBytes 4 1 ++ (leBytes 4 a ++ leBytes 4 (s.liveAt a).toNat ++ leBytes 4 v.toNat)

theorem writeDetails_nil : writeDetails [] = [] := rfl

theorem State.writeDetails_singleton (s : State) (a : Nat) (v : W32) : writeDetails [(a, s.liveAt a, v)] = [s.writeLine a v] := by
  simp [writeDetails, chunksOf, State.writeLine]

theorem State.privWrites_singleton (s : State) (x : Session) (a : Nat) (v : W32) :
    s.privWrites x [(a, v)] = if isPrivileged a then [(a, s.liveAt a, v)] else [] := by
  cases hf : findReg a with
  | none => simp [State.privWrites, isPrivileged, hf]
  | some f => simp [State.privWrites, isPrivileged, hf]

/-- The present tick is the one at which the command stands. -/
theorem State.atTick_now (s : State) (f : State → State) : s.atTick s.now f = f s := by
  have hd : s.now - s.now = 0 := BitVec.sub_self _
  have hc : ∀ r : State, { r with clock := { r.clock with cast := r.clock.cast - 0 } } = r := by simp
  simp only [State.atTick, hd]
  exact hc (f s)

theorem State.applyAll_singleton (s : State) (sid : W32) (a : Nat) (v : W32) : s.applyAll sid [(a, v)] = s.applyWrite sid a v :=
  s.atTick_now (fun s => s.applyWrite sid a v)

theorem State.writeFault_singleton (s : State) (x : Session) (a : Nat) (v : W32) :
    s.writeFault x 0 [(a, v)] = (s.checkEntry x.role a v).map (fun b => (0, a, b)) := by
  simp only [State.writeFault]
  cases s.checkEntry x.role a v <;> rfl

/-- A list of 1 to 256 entries that pass their checks, none of them privileged, is applied. -/
theorem State.regWriteAll_unlogged {s : State} {x : Session} {l : List (Nat × W32)} (h1 : l ≠ []) (h256 : l.length ≤ 256)
    (hf : s.writeFault x 0 l = none) (hl : writeDetails (s.privWrites x l) = []) :
    s.regWriteAll x l = .done (s.applyAll x.id l) [] := by
  simp [State.regWriteAll, h1, Nat.not_lt.mpr h256, hf, hl]

/-- A list of 1 to 256 entries that pass their checks is logged first where it has privileged ones. -/
theorem State.regWriteAll_logged {s : State} {x : Session} {l : List (Nat × W32)} (h1 : l ≠ []) (h256 : l.length ≤ 256)
    (hf : s.writeFault x 0 l = none) (hl : writeDetails (s.privWrites x l) ≠ []) : s.regWriteAll x l =
      s.privileged x 0x0001 (writeDetails (s.privWrites x l)) (fun w => .done (w.applyAll x.id l) []) := by
  cases hd : writeDetails (s.privWrites x l) with
  | nil => exact absurd hd hl
  | cons d ds => simp [State.regWriteAll, h1, Nat.not_lt.mpr h256, hf, hd]

theorem State.regWriteAll_of_length {s : State} {x : Session} {l : List (Nat × W32)} (h : l = [] ∨ 256 < l.length) :
    s.regWriteAll x l = .refuse .range noDetail := by
  simp [State.regWriteAll, h]

/-- An accepted entry of a register that is neither /I nor /M is applied. -/
theorem State.regWriteAll_unprivileged {s : State} {x : Session} {a : Nat} {v : W32} (hc : s.checkEntry x.role a v = none)
    (hp : isPrivileged a = false) : s.regWriteAll x [(a, v)] = .done (s.applyWrite x.id a v) [] := by
  have hf : s.writeFault x 0 [(a, v)] = none := by simp [State.writeFault_singleton, hc]
  have hl : writeDetails (s.privWrites x [(a, v)]) = [] := by rw [State.privWrites_singleton, hp]; rfl
  rw [State.regWriteAll_unlogged (by simp) (by simp) hf hl, State.applyAll_singleton]

/-- An accepted entry of an /I or /M register is applied once its line is in the log. -/
theorem State.regWriteAll_privileged {s : State} {x : Session} {a : Nat} {v : W32} (hc : s.checkEntry x.role a v = none)
    (hp : isPrivileged a = true) : s.regWriteAll x [(a, v)]
      = s.privileged x 0x0001 [s.writeLine a v] (fun w => .done (w.applyWrite x.id a v) []) := by
  have hf : s.writeFault x 0 [(a, v)] = none := by simp [State.writeFault_singleton, hc]
  have hl : writeDetails (s.privWrites x [(a, v)]) = [s.writeLine a v] := by
    rw [State.privWrites_singleton, hp, if_pos rfl, State.writeDetails_singleton]
  rw [State.regWriteAll_logged (by simp) (by simp) hf (by simp [hl]), hl]
  simp only [State.applyAll_singleton]

/-- A refused entry counts where the loop rule refused it, and is logged where its register is privileged (R218, R325, R348). -/
theorem State.regWriteAll_refused {s : State} {x : Session} {a : Nat} {v : W32} {b : WrFault} (hc : s.checkEntry x.role a v = some b) :
    s.regWriteAll x [(a, v)] =
      let w := if b.loop then s.count aSprCntB 31 24 1 else s
      .failed (if isPrivileged a = true then w.logRefused x 0x0001 (w.writeLine a v) else w) b.st { detailAddr a with index := 0 } := by
  have hf : s.writeFault x 0 [(a, v)] = some (0, a, b) := by simp [State.writeFault_singleton, hc]
  have hw : s.regWriteAll x [(a, v)] = s.writeRefused x [(a, v)] 0 a b := by simp [State.regWriteAll, hf]
  rw [hw]
  unfold State.writeRefused isPrivileged
  cases hr : findReg a with
  | none => simp [hr, writeDetails_nil]
  | some f =>
    by_cases hp : (f.row.role == some .installer || f.row.role == some .maker) = true
    · simp only [List.filterMap_cons, List.filterMap_nil, hr, hp, if_true, State.writeDetails_singleton, Option.any_some]
      rfl
    · simp only [List.filterMap_cons, List.filterMap_nil, hr, hp, Bool.false_eq_true, if_false, Option.any_some]
      rfl

end Sys2Proof.Machine
end

section
/-! SUPPORT. The registers that commands of their own write: where the map has them, and what an accepted write of each does (R5, R437). -/

namespace Sys2Proof.Machine

/-! ### A command that writes one register -/

/-- What the command `c`, the write of the word `v` at the address `a`, answers when it is the next request of its session: `E` is what an
accepted write does (R5, R218, R321, R325, R348). -/
def WriteAnswers (s : State) (x : Session) (sid seq : W32) (c : Instr) (a : Nat) (v : W32) (E : State → State) : Prop :=
  let u := s.taken x sid
  s.asks x sid seq 0x11 none = true →
    (u.checkEntry x.role a v = none →
      (isPrivileged a = false → exec c s = .next ((E u).reply sid seq 0x11 .ok []))
      ∧ (isPrivileged a = true → s.mayLog = true →
        exec c s = .next ((E (u.logNow x 0x0001 0 (u.writeLine a v))).reply sid seq 0x11 .ok []))
      ∧ (isPrivileged a = true → s.nvWindow = false → exec c s = .next (u.reply sid seq 0x11 .state noDetail.bytes))
      ∧ (isPrivileged a = true → s.nvWindow = true → 1000 ≤ s.logTaken →
        exec c s = .next ((u.count aFlkCnt 15 8 1).reply sid seq 0x11 .rate noDetail.bytes)))
    ∧ (∀ b, u.checkEntry x.role a v = some b →
      let w := if b.loop then u.count aSprCntB 31 24 1 else u
      exec c s = .next ((if isPrivileged a = true then w.logRefused x 0x0001 (w.writeLine a v) else w).reply sid seq 0x11 b.st
        { detailAddr a with index := 0 }.bytes))

/-- A command that is the write of one register answers as `WriteAnswers` says, `E` being what the register's write does in a state that
differs from `s` in its sessions and its log alone. -/
theorem writeOne_answers {s : State} {x : Session} {sid seq : W32} {c : Instr} {a : Nat} {v : W32} {E : State → State}
    (hc : exec c s = .next (s.writeOne sid seq a v))
    (hE : ∀ l g, (s.withLog l g).applyWrite x.id a v = E (s.withLog l g)) :
    WriteAnswers s x sid seq c a v E := by
  intro hask
  have hreq : exec c s = .next (((s.taken x sid).regWriteAll x [(a, v)]).reply (s.taken x sid) sid seq 0x11) := by
    rw [hc, State.writeOne, State.request_of_asks hask]
  have happly : ∀ w, s.SameButLog w → w.applyWrite x.id a v = E w := by
    rintro _ ⟨l, g, rfl⟩
    exact hE l g
  have hu : s.SameButLog (s.taken x sid) := s.sameButLog_taken x sid
  refine ⟨fun hck => ⟨fun hp => ?_, fun hp hmay => ?_, fun hp hw => ?_, fun hp hw hfull => ?_⟩, fun b hck => ?_⟩
  · rw [hreq, State.regWriteAll_unprivileged hck hp, happly _ hu]
    rfl
  · simp only [State.mayLog, Bool.and_eq_true, decide_eq_true_eq] at hmay
    obtain ⟨hw, hn⟩ := hmay
    rw [hreq, State.regWriteAll_privileged hck hp, State.privileged_of_window (s := s.taken x sid) (l := [_]) hw hn,
      ← happly _ (hu.logNow x _ _ _)]
    rfl
  · rw [hreq, State.regWriteAll_privileged hck hp, State.privileged_outside_window (s := s.taken x sid) hw]
    rfl
  · rw [hreq, State.regWriteAll_privileged hck hp, State.privileged_log_full (s := s.taken x sid) (l := [_]) hw (Nat.lt_succ_of_le hfull)]
    rfl
  · rw [hreq, State.regWriteAll_refused hck]
    rfl

/-! ### A write by the register it names -/

/-- The register and the indices that the map has at an address. -/
def registerAt (a : Nat) : Option (RegId × List Nat) := (findReg a).map (fun f => (f.row.id, f.idx))

/-- The state with the word stored that a write of `v` at the address `a` leaves (R2, R5). -/
def State.storeWord (s : State) (a : Nat) (v : W32) : State := s.setReg a (((findReg a).map (fun f => f.stored (s.reg a) v)).getD 0)

/-- A register by its name and indices alone: all that decides what a write of it does. -/
def RegRef.ofId (id : RegId) (idx : List Nat) : RegRef := ⟨⟨id, 0, [], none, 0, 0, 0, 0, 0⟩, idx⟩

theorem State.writeEffect_ofId (s : State) (sid : W32) (f : RegRef) (old v : W32) :
    s.writeEffect sid f old v = s.writeEffect sid (.ofId f.row.id f.idx) old v := rfl

/-- A write at an address of the map stores its word, then does what its register's write does. -/
theorem State.applyWrite_registerAt (s : State) (sid v : W32) {a : Nat} {id : RegId} {idx : List Nat}
    (hmap : registerAt a = some (id, idx)) (hid : id ≠ .cruDragData) :
    s.applyWrite sid a v = (s.storeWord a v).writeEffect sid (.ofId id idx) (s.reg a) v := by
  obtain ⟨f, hf, hfid⟩ := Option.map_eq_some_iff.mp hmap
  obtain ⟨rfl, rfl⟩ := Prod.mk.inj hfid
  rw [← State.writeEffect_ofId]
  simp only [State.applyWrite, State.storeWord, hf, Option.map_some, Option.getD_some]

/-- The word of Drag data is not stored: the write acts on Drag memory (R202). -/
theorem State.applyWrite_cruDragData (s : State) (sid v : W32) {a : Nat} {idx : List Nat}
    (hmap : registerAt a = some (.cruDragData, idx)) :
    s.applyWrite sid a v = s.writeEffect sid (.ofId .cruDragData idx) (s.reg a) v := by
  obtain ⟨f, hf, hfid⟩ := Option.map_eq_some_iff.mp hmap
  obtain ⟨hid, rfl⟩ := Prod.mk.inj hfid
  rw [← hid, ← State.writeEffect_ofId]
  simp only [State.applyWrite, hf, hid]

/-- A command that writes the register `id` acts as that register's write does. -/
theorem writeOne_acts {s : State} {x : Session} {sid seq : W32} {c : Instr} {a : Nat} {v : W32} {E : State → State} {id : RegId}
    {idx : List Nat} (hmap : registerAt a = some (id, idx)) (hc : exec c s = .next (s.writeOne sid seq a v)) (hid : id ≠ .cruDragData)
    (hE : ∀ l g, ((s.withLog l g).storeWord a v).writeEffect x.id (.ofId id idx) (s.reg a) v = E (s.withLog l g)) :
    WriteAnswers s x sid seq c a v E :=
  writeOne_answers hc (fun l g => ((s.withLog l g).applyWrite_registerAt x.id v hmap hid).trans (hE l g))

/-! ### Where the map has the registers (R437) -/

theorem registerAt_rfStat (ch : Fin 96) : registerAt (aRfStat ch) = some (.rfStat, [ch.val]) := by revert ch; decide +kernel
theorem registerAt_rfCtrl (ch : Fin 96) : registerAt (aRfCtrl ch) = some (.rfCtrl, [ch.val]) := by revert ch; decide +kernel
theorem registerAt_grpSw (g : Fin 16) : registerAt (aGrpSw g) = some (.grpSw, [g.val]) := by revert g; decide +kernel
theorem registerAt_grpCtrl (g : Fin 16) : registerAt (aGrpCtrl g) = some (.grpCtrl, [g.val]) := by revert g; decide +kernel
theorem registerAt_flxCfg (n : Fin 128) : registerAt (aFlxCfg n) = some (.flxCfg, [n.val]) := by revert n; decide +kernel
theorem registerAt_biaCfg (n : Fin 256) : registerAt (aBiaCfg n) = some (.biaCfg, [n.val]) := by revert n; decide +kernel
theorem registerAt_adcCtrl (ch : Fin 32) : registerAt (aAdcCtrl ch) = some (.adcCtrl, [ch.val]) := by revert ch; decide +kernel
theorem registerAt_cruClsThi (c : Fin 34) : registerAt (aCruClsThi c) = some (.cruClsThi, [c.val]) := by revert c; decide +kernel
theorem registerAt_cruDragData (c : Fin 34) : registerAt (aCruDragData c) = some (.cruDragData, [c.val]) := by revert c; decide +kernel
theorem registerAt_sprTmrCfg (i : Fin 16) : registerAt (aSprTmrCfg i) = some (.sprTmrCfg, [i.val]) := by revert i; decide +kernel
theorem registerAt_cryExc (i : Fin 16) : registerAt (aCryExc i) = some (.cryExc, [i.val]) := by revert i; decide +kernel
theorem registerAt_cryPins (i : Fin 16) : registerAt (aCryPins i) = some (.cryPins, [i.val]) := by revert i; decide +kernel
theorem registerAt_runPortCtrl (p : Fin 8) : registerAt (aRunPortCtrl p) = some (.runPortCtrl, [p.val]) := by revert p; decide +kernel
theorem registerAt_tiuUctrl (k : Fin 4) : registerAt (aTiuUctrl k) = some (.tiuUctrl, [k.val]) := by revert k; decide +kernel
theorem registerAt_cryRoutFs (k : Fin 4) : registerAt (aCryRoutFs k) = some (.cryRoutFs, [k.val]) := by revert k; decide +kernel
theorem registerAt_cryRoutCfg (k : Fin 4) : registerAt (aCryRoutCfg k) = some (.cryRoutCfg, [k.val]) := by revert k; decide +kernel
theorem registerAt_mldResbufStat : registerAt aMldResbufStat = some (.mldResbufStat, []) := by decide
theorem registerAt_sprSwpub : registerAt aSprSwpub = some (.sprSwpub, []) := by decide
theorem registerAt_timCastCtrl : registerAt aTimCastCtrl = some (.timCastCtrl, []) := by decide
theorem registerAt_timSysCtrl : registerAt aTimSysCtrl = some (.timSysCtrl, []) := by decide
theorem registerAt_timSysOfsIn : registerAt aTimSysOfsIn = some (.timSysOfsIn, []) := by decide
theorem registerAt_capCtrl : registerAt aCapCtrl = some (.capCtrl, []) := by decide
theorem registerAt_cmkReq : registerAt aCmkReq = some (.cmkReq, []) := by decide
theorem registerAt_fusProgHi : registerAt aFusProgHi = some (.fusProgHi, []) := by decide
theorem registerAt_calAccept : registerAt aCalAccept = some (.calAccept, []) := by decide
theorem registerAt_cryCtrl : registerAt aCryCtrl = some (.cryCtrl, []) := by decide
theorem registerAt_mldReset : registerAt aMldReset = some (.mldReset, []) := by decide

/-! ### Bits and fields that a row sets -/

theorem getLsbD_eq_fieldOf (w : W32) (n : Nat) : w.getLsbD n = decide (fieldOf w n n = 1) := by
  simp [fieldOf, BitVec.getLsbD, Nat.testBit_eq_decide_div_mod_eq]

theorem getLsbD_withBit_same (w : W32) {n : Nat} (h : n ≤ 31) (b : Bool) : (withBit w n b).getLsbD n = b := by
  rw [getLsbD_eq_fieldOf, withBit, fieldOf_withField w n n (bitN b) (Nat.le_refl n) h]
  cases b <;> simp [bitN]

theorem getLsbD_withBit_below (w : W32) {n k : Nat} (h : n ≤ 31) (hk : k < n) (b : Bool) :
    (withBit w n b).getLsbD k = w.getLsbD k := by
  rw [getLsbD_eq_fieldOf, getLsbD_eq_fieldOf, withBit,
    fieldOf_withField_below w n n (bitN b) k k (Nat.le_refl n) h (Nat.le_refl k) hk]

end Sys2Proof.Machine
end

section
/-! PROOF. An accepted register write is applied once and answered OK, and logged first if privileged. -/

namespace Sys2Proof.Machine

/-! ### What the writes of single registers do -/

theorem State.writeEffect_cruClsThi_go (s : State) (sid old : W32) (c : Nat) {v : W32} (h : v.getLsbD 31 = true) :
    s.writeEffect sid (.ofId .cruClsThi [c]) old v = s.classifierGo c := if_pos h

theorem State.writeEffect_fusProgHi_go (s : State) (sid old : W32) {v : W32} (h : v.getLsbD 31 = true) :
    s.writeEffect sid (.ofId .fusProgHi []) old v = (s.cmkRequest 0x20 0).getD s := if_pos h

/-- A write of Drag data stores the word at the Drag address, in Drag memory and its copy, and the address moves on (R202). -/
theorem State.applyWrite_cruDragData_at (s : State) (sid v : W32) (c : Fin 34) : s.applyWrite sid (aCruDragData c) v =
    let m := s.reg (aCruDragAddr c)
    ((s.setCru c ((s.cru c).setDrag (fieldOf m 15 12) (fieldOf m 11 0) v)).copyWrite c (65536 + fieldOf m 15 0) v).dragNext c := by
  rw [s.applyWrite_cruDragData sid v (registerAt_cruDragData c)]
  simp only [State.writeEffect, RegRef.ofId, List.headD_cons]

theorem State.writeEffect_runPortCtrl_enable (s : State) (sid old : W32) (p : Nat) {v : W32} (h : v.getLsbD 0 = true) :
    s.writeEffect sid (.ofId .runPortCtrl [p]) old v =
      if (s.port p).st = .off then s.bringUp p
      else if v.getLsbD 3 = true ∧ (s.port p).st = .enabled then s.enterResync p else s := if_pos h

theorem State.writeEffect_runPortCtrl_disable (s : State) (sid old : W32) (p : Nat) {v : W32} (h : v.getLsbD 0 = false) :
    s.writeEffect sid (.ofId .runPortCtrl [p]) old v = if (s.port p).st = .off then s else s.portDown p .off :=
  if_neg (Bool.eq_false_iff.mp h)

theorem ofNat_fieldOf_inj {w : Nat} {a b : W32} {hi lo : Nat} (h : hi - lo + 1 ≤ w) :
    BitVec.ofNat w (fieldOf a hi lo) = BitVec.ofNat w (fieldOf b hi lo) ↔ fieldOf a hi lo = fieldOf b hi lo := by
  have hlt (c : W32) : fieldOf c hi lo < 2 ^ w :=
    lt_of_lt_of_le (Nat.mod_lt _ (by positivity)) (Nat.pow_le_pow_right (by decide) h)
  rw [← BitVec.toNat_inj, BitVec.toNat_ofNat, BitVec.toNat_ofNat, Nat.mod_eq_of_lt (hlt a), Nat.mod_eq_of_lt (hlt b)]

/-- The ranges of a flux channel in two states are the same where the fields of its register are (R139). -/
theorem State.fbRange_eq_iff_flux (s t : State) {n : Nat} (h : n < 128) :
    s.fbRange n = t.fbRange n ↔ fieldOf (s.reg (aFlxCfg n)) 1 0 = fieldOf (t.reg (aFlxCfg n)) 1 0 := by
  simp only [State.fbRange, State.fld, h, if_true, ofNat_fieldOf_inj (w := 2) (hi := 1) (lo := 0) (by decide)]

/-- The ranges of a bias channel in two states are the same where the fields of its register are (R139). -/
theorem State.fbRange_eq_iff_bias (s t : State) {n : Nat} (h : ¬ n < 128) :
    s.fbRange n = t.fbRange n ↔ fieldOf (s.reg (aBiaCfg (n - 128))) 0 0 = fieldOf (t.reg (aBiaCfg (n - 128))) 0 0 := by
  simp only [State.fbRange, State.fld, h, if_false, ofNat_fieldOf_inj (w := 2) (hi := 0) (lo := 0) (by decide)]

/-- A write of a flux channel's range that changes it opens the channel's window (R152). -/
theorem State.writeEffect_flxCfg (s t : State) (sid v : W32) {n : Nat} (h : n < 128) :
    t.writeEffect sid (.ofId .flxCfg [n]) (s.reg (aFlxCfg n)) v = if s.fbRange n = t.fbRange n then t else t.openWindow n :=
  if_congr (s.fbRange_eq_iff_flux t h).symm rfl rfl

/-- A write of a bias channel's range that changes it opens the channel's window (R152). -/
theorem State.writeEffect_biaCfg (s t : State) (sid v : W32) {n : Nat} (h : ¬ n < 128) :
    t.writeEffect sid (.ofId .biaCfg [n - 128]) (s.reg (aBiaCfg (n - 128))) v
      = if s.fbRange n = t.fbRange n then t else t.openWindow n := by
  have hn : 128 + (n - 128) = n := by omega
  have hw : t.writeEffect sid (.ofId .biaCfg [n - 128]) (s.reg (aBiaCfg (n - 128))) v
      = if fieldOf (s.reg (aBiaCfg (n - 128))) 0 0 = fieldOf (t.reg (aBiaCfg (n - 128))) 0 0 then t
        else t.openWindow (128 + (n - 128)) := rfl
  rw [hw, hn]
  exact if_congr (s.fbRange_eq_iff_bias t h).symm rfl rfl

/-! ### REG_WRITE of a list (R321) -/

/-- A REG_WRITE that `asks` names is answered as its entries are judged. -/
theorem exec_regWrite_of_asks {s : State} {x : Session} {sid seq : W32} (h : s.asks x sid seq 0x11 none = true) (l : List (W32 × W32)) :
    exec (.regWrite sid seq l) s = .next (((s.taken x sid).regWriteAll x (l.map (fun e => (e.1.toNat, e.2)))).reply
      (s.taken x sid) sid seq 0x11) :=
  congrArg Host.Outcome.next (State.request_of_asks h _)

/-- Settles O33: each of the commands is the write of one register, so its clause follows from where the map has the register and from what
the register's write does in a state that differs in its sessions and log alone; REG_WRITE's clauses are `regWriteAll`'s cases. -/
theorem registerWritesAreAppliedAndAnswered : Obligations.RegisterWritesAreAppliedAndAnswered := by
  intro s x sid seq v l u asked ok refused priv line writes keep acts pairs lines
  have answers {c a v E} (h : WriteAnswers s x sid seq c a v E) : writes c a v E := h
  have act {c a v id idx E} (hmap : registerAt a = some (id, idx)) (hc : exec c s = .next (s.writeOne sid seq a v))
      (hid : id ≠ .cruDragData)
      (hE : ∀ l g, ((s.withLog l g).storeWord a v).writeEffect x.id (.ofId id idx) (s.reg a) v = E (keep (s.withLog l g) a v)) :
      acts c a v E := answers (E := fun w => E (keep w a v)) (writeOne_acts hmap hc hid hE)
  clear_value acts writes
  refine ⟨fun ch => ⟨?_, ?_⟩, fun g => ⟨?_, ?_⟩, fun n => ?_, fun ch => ⟨?_, ?_, ?_, ?_⟩, fun c => ⟨?_, ?_⟩,
    fun i => ⟨?_, ?_, ?_, ?_⟩, fun p => ⟨?_, ?_, ?_⟩, fun k => ⟨?_, ?_, ?_, ?_⟩,
    ?_, ?_, ?_, ?_, ?_, ?_, ?_, ?_, ?_, ?_, ?_, ?_, ?_, ?_, ?_, ?_, ?_, ?_⟩
  · exact act (registerAt_rfStat ch) rfl (by decide) (fun _ _ => rfl)
  · exact act (registerAt_rfCtrl ch) rfl (by decide) (fun _ _ => rfl)
  · exact act (registerAt_grpSw g) rfl (by decide) (fun _ _ => rfl)
  · exact act (registerAt_grpCtrl g) rfl (by decide) (fun _ _ => rfl)
  · intro a
    by_cases hn : n.val < 128
    · have ha : a = aFlxCfg n := if_pos hn
      have hc : exec (.rangeWrite sid seq n v) s = .next (s.writeOne sid seq a v) := rfl
      rw [ha] at hc ⊢
      exact act (registerAt_flxCfg ⟨n, hn⟩) hc (by decide) (fun _ _ => State.writeEffect_flxCfg s _ _ _ hn)
    · have ha : a = aBiaCfg (n.val - 128) := if_neg hn
      have hc : exec (.rangeWrite sid seq n v) s = .next (s.writeOne sid seq a v) := rfl
      rw [ha] at hc ⊢
      exact act (registerAt_biaCfg ⟨n.val - 128, by omega⟩) hc (by decide) (fun _ _ => State.writeEffect_biaCfg s _ _ _ hn)
  · exact act (registerAt_adcCtrl ch) rfl (by decide) (fun _ _ => rfl)
  · exact act (registerAt_adcCtrl ch) rfl (by decide) (fun _ _ => rfl)
  · exact act (registerAt_adcCtrl ch) rfl (by decide) (fun _ _ => rfl)
  · exact act (registerAt_adcCtrl ch) rfl (by decide) (fun _ _ => rfl)
  · exact act (registerAt_cruClsThi c) rfl (by decide)
      (fun _ _ => State.writeEffect_cruClsThi_go _ _ _ _ (getLsbD_withBit_same v (by decide) true))
  · exact answers (writeOne_answers rfl (fun _ _ => State.applyWrite_cruDragData_at _ _ _ c))
  · exact act (registerAt_sprTmrCfg i) rfl (by decide) (fun _ _ => rfl)
  · exact act (registerAt_sprTmrCfg i) rfl (by decide) (fun _ _ => rfl)
  · exact act (registerAt_cryExc i) rfl (by decide) (fun _ _ => rfl)
  · exact act (registerAt_cryPins i) rfl (by decide) (fun _ _ => rfl)
  · exact act (registerAt_runPortCtrl p) rfl (by decide)
      (fun _ _ => State.writeEffect_runPortCtrl_enable _ _ _ _ (getLsbD_withBit_same v (by decide) true))
  · exact act (registerAt_runPortCtrl p) rfl (by decide) (fun _ _ => State.writeEffect_runPortCtrl_enable _ _ _ _
      ((getLsbD_withBit_below _ (by decide) (by decide) true).trans (getLsbD_withBit_same v (by decide) true)))
  · exact act (registerAt_runPortCtrl p) rfl (by decide)
      (fun _ _ => State.writeEffect_runPortCtrl_disable _ _ _ _ (getLsbD_withBit_same v (by decide) false))
  · exact act (registerAt_tiuUctrl k) rfl (by decide) (fun _ _ => rfl)
  · exact act (registerAt_tiuUctrl k) rfl (by decide) (fun _ _ => rfl)
  · exact act (registerAt_cryRoutFs k) rfl (by decide) (fun _ _ => rfl)
  · exact act (registerAt_cryRoutCfg k) rfl (by decide) (fun _ _ => rfl)
  · exact act registerAt_mldResbufStat rfl (by decide) (fun _ _ => rfl)
  · exact act registerAt_sprSwpub rfl (by decide) (fun _ _ => rfl)
  · exact act registerAt_timCastCtrl rfl (by decide) (fun _ _ => rfl)
  · exact act registerAt_timSysCtrl rfl (by decide) (fun _ _ => rfl)
  · exact act registerAt_timSysOfsIn rfl (by decide) (fun _ _ => rfl)
  · exact act registerAt_capCtrl rfl (by decide) (fun _ _ => rfl)
  · exact act registerAt_capCtrl rfl (by decide) (fun _ _ => rfl)
  · exact act registerAt_capCtrl rfl (by decide) (fun _ _ => rfl)
  · exact act registerAt_capCtrl rfl (by decide) (fun _ _ => rfl)
  · exact act registerAt_cmkReq rfl (by decide) (fun _ _ => rfl)
  · exact act registerAt_fusProgHi rfl (by decide)
      (fun _ _ => State.writeEffect_fusProgHi_go _ _ _ (getLsbD_withBit_same v (by decide) true))
  · exact act registerAt_calAccept rfl (by decide) (fun _ _ => rfl)
  · exact act registerAt_calAccept rfl (by decide) (fun _ _ => rfl)
  · exact act registerAt_cryCtrl rfl (by decide) (fun _ _ => rfl)
  · exact act registerAt_mldReset rfl (by decide) (fun _ _ => rfl)
  · intro hask h1 h256 hf
    have hlen : pairs.length = l.length := List.length_map _
    have hne : pairs ≠ [] := List.ne_nil_of_length_pos (by omega)
    have hle : pairs.length ≤ 256 := by omega
    refine ⟨fun hl => ?_, fun hl hw hn => ?_⟩
    · exact (exec_regWrite_of_asks hask l).trans (by rw [State.regWriteAll_unlogged hne hle hf hl]; rfl)
    · exact (exec_regWrite_of_asks hask l).trans
        (by rw [State.regWriteAll_logged hne hle hf hl, State.privileged_of_window (s := u) hw hn]; rfl)
  · intro hask hlen
    have hlen' : pairs = [] ∨ 256 < pairs.length := by simpa [pairs] using hlen
    exact (exec_regWrite_of_asks hask l).trans (by rw [State.regWriteAll_of_length hlen']; rfl)
  · exact fun a => State.applyAll_singleton _ _ _ _

end Sys2Proof.Machine
end

section
/-! SUPPORT. Reads of registers, the checks of a write, and the bits that a write changes (R2, R68, R321, R440, R442). -/

namespace Sys2Proof.Machine

/-! ### REG_READ (R321, R440, R442) -/

/-- The search that names the first entry that fails a test: it finds none where all pass. -/
theorem find?_zipIdx_eq_none {α : Type} {p : α → Bool} {l : List α} (h : ∀ a ∈ l, p a = false) :
    l.zipIdx.find? (fun e => p e.1) = none := by
  rw [List.find?_eq_none]
  intro e he
  simp [h e.1 (List.fst_mem_of_mem_zipIdx he)]

/-- The search that names the first entry that fails a test: it finds the one behind those that pass, with its place. -/
theorem find?_zipIdx_append {α : Type} {p : α → Bool} {l : List α} {a : α} (m : List α) (h : ∀ b ∈ l, p b = false)
    (ha : p a = true) :
    (l ++ a :: m).zipIdx.find? (fun e => p e.1) = some (a, l.length) := by
  rw [List.zipIdx_append, List.find?_append, find?_zipIdx_eq_none h]
  simp [ha]

theorem State.regRead_of_length (s : State) (sid : W32) {l : List W32} (h : l = [] ∨ 256 < l.length) :
    s.regRead sid l = .refuse .range noDetail := by
  simp [State.regRead, h]

/-- Every address of the list names a register. -/
def AllNamed (l : List W32) : Prop := ∀ a ∈ l, (findReg a.toNat).isSome = true

theorem AllNamed.isNone_eq_false {l : List W32} (h : AllNamed l) : ∀ a ∈ l, (findReg a.toNat).isNone = false := by
  intro a ha
  simpa using h a ha

theorem State.regRead_unnamed (s : State) (sid : W32) {l m : List W32} {a : W32} (hlen : (l ++ a :: m).length ≤ 256) (hl : AllNamed l)
    (ha : findReg a.toNat = none) :
    s.regRead sid (l ++ a :: m) = .refuse .address { noDetail with index := BitVec.ofNat 32 l.length, addr := a } := by
  have hfind : (l ++ a :: m).zipIdx.find? (fun e => (findReg e.1.toNat).isNone) = some (a, l.length) :=
    find?_zipIdx_append (p := fun a : W32 => (findReg a.toNat).isNone) m hl.isNone_eq_false (by simp [ha])
  simp only [State.regRead, List.isEmpty_eq_false_iff.mpr (List.append_ne_nil_of_right_ne_nil l (List.cons_ne_nil a m)),
    Nat.not_lt.mpr hlen, hfind, Bool.false_eq_true, or_self, if_false]

theorem State.regRead_unserved (s : State) (sid : W32) {l m : List W32} {a : W32} (hlen : (l ++ a :: m).length ≤ 256)
    (hn : AllNamed (l ++ a :: m)) (hi : s.boot.ingot = true) (hl : ∀ b ∈ l, ingotReads b.toNat = true)
    (ha : ingotReads a.toNat = false) :
    s.regRead sid (l ++ a :: m) = .refuse .ingot { noDetail with index := BitVec.ofNat 32 l.length, addr := a } := by
  have hnamed : (l ++ a :: m).zipIdx.find? (fun e => (findReg e.1.toNat).isNone) = none :=
    find?_zipIdx_eq_none (p := fun a : W32 => (findReg a.toNat).isNone) hn.isNone_eq_false
  have hfind : (l ++ a :: m).zipIdx.find? (fun e => !ingotReads e.1.toNat) = some (a, l.length) :=
    find?_zipIdx_append (p := fun a : W32 => !ingotReads a.toNat) m (fun b hb => by simp [hl b hb]) (by simp [ha])
  simp only [State.regRead, List.isEmpty_eq_false_iff.mpr (List.append_ne_nil_of_right_ne_nil l (List.cons_ne_nil a m)),
    Nat.not_lt.mpr hlen, hnamed, hi, hfind, Bool.false_eq_true, or_self, if_false, if_true]

/-- A list of 1 to 256 registers that the module serves is read in order. -/
theorem State.regRead_all_of_served (s : State) (sid : W32) {l : List W32} (h1 : l ≠ []) (h256 : l.length ≤ 256) (hn : AllNamed l)
    (hs : s.boot.ingot = false ∨ ∀ a ∈ l, ingotReads a.toNat = true) :
    s.regRead sid l = .done (s.readAll sid l).2 ((s.readAll sid l).1.flatMap (fun v => leBytes 4 v.toNat)) := by
  have hnamed : l.zipIdx.find? (fun e => (findReg e.1.toNat).isNone) = none :=
    find?_zipIdx_eq_none (p := fun a : W32 => (findReg a.toNat).isNone) hn.isNone_eq_false
  have hserved : (if s.boot.ingot then l.zipIdx.find? (fun e => !ingotReads e.1.toNat) else none) = none := by
    rcases hs with hi | hl
    · simp [hi]
    · simp [find?_zipIdx_eq_none (p := fun a : W32 => !ingotReads a.toNat) (l := l) (fun a ha => by simp [hl a ha])]
  simp only [State.regRead, List.isEmpty_eq_false_iff.mpr h1, Nat.not_lt.mpr h256, hnamed, hserved, Bool.false_eq_true, or_self, if_false]

/-- One register that the module serves. -/
theorem State.regRead_singleton_of_served (s : State) (sid : W32) {a : W32} (hn : AllNamed [a])
    (hs : s.boot.ingot = false ∨ ∀ b ∈ [a], ingotReads b.toNat = true) :
    s.regRead sid [a] = .done (s.readReg sid a.toNat).2 (leBytes 4 (s.readReg sid a.toNat).1.toNat) := by
  rw [s.regRead_all_of_served sid (by simp) (by simp) hn hs]
  simp [State.readAll]

/-! ### The checks of a write (R321) -/

theorem State.checkEntry_unnamed {s : State} {r : Role} {a : Nat} {v : W32} (h : findReg a = none) :
    s.checkEntry r a v = some ⟨.address, false⟩ := by
  simp [State.checkEntry, h]

theorem State.checkEntry_role {s : State} {r : Role} {a : Nat} {v : W32} {f : RegRef} (h : findReg a = some f)
    (hr : ∃ q, f.row.role = some q ∧ q ≠ r) : s.checkEntry r a v = some ⟨.roleDenied, false⟩ := by
  obtain ⟨q, hq, hne⟩ := hr
  simp [State.checkEntry, h, hq, hne]

/-- Past the address and the role, an entry is judged by its unit, its range, what stands against it, and the loop rule, in that order. -/
theorem State.checkEntry_allowed {s : State} {r : Role} {a : Nat} {v : W32} {f : RegRef} (h : findReg a = some f)
    (hr : ∀ q, f.row.role = some q → q = r) : s.checkEntry r a v =
      let w := f.stored (s.reg a) v
      if s.servesNone f = true then some ⟨.state, false⟩
      else (((s.rangeFault r f v w).or (s.busyFault f (s.reg a) v w)).map (fun st => ⟨st, false⟩)).or
        (if loopJudged f.row.id = true ∧ s.loopRefused (s.setReg a w) = true then some ⟨.loop, true⟩ else none) := by
  have hrole : f.row.role = none ∨ f.row.role = some r := by
    cases hq : f.row.role with
    | none => exact .inl rfl
    | some q => exact .inr (by rw [hr q hq])
  cases hrange : s.rangeFault r f v (f.stored (s.reg a) v) with
  | some st => rcases hrole with hq | hq <;> simp [State.checkEntry, h, hq, hrange]
  | none =>
    cases hbusy : s.busyFault f (s.reg a) v (f.stored (s.reg a) v) with
    | some st => rcases hrole with hq | hq <;> simp [State.checkEntry, h, hq, hrange, hbusy]
    | none => rcases hrole with hq | hq <;> simp [State.checkEntry, h, hq, hrange, hbusy]

/-! ### The bits that a write changes (R2, R68) -/

/-- Bit by bit: a RW bit takes the bit written, a written 1 clears a W1C bit, any other bit stays. -/
theorem RegRef.getLsbD_stored {f : RegRef} (hid : f.row.id ≠ .peWdog) (old v : W32) {k : Nat} (hk : k < 32) :
    (f.stored old v).getLsbD k =
      (((old.getLsbD k && !f.rwMask.getLsbD k) || (v.getLsbD k && f.rwMask.getLsbD k)) && !(v.getLsbD k && f.row.w1c.getLsbD k)) := by
  have hstored : f.stored old v = ((old &&& ~~~f.rwMask) ||| (v &&& f.rwMask)) &&& ~~~(v &&& f.row.w1c) := by
    unfold RegRef.stored
    split
    · contradiction
    · rfl
  rw [hstored]
  simp [hk]

theorem findReg_peWdog (e : Fin 136) : findReg (aPeWdog e)
    = some ⟨⟨.peWdog, 0x100008, [⟨0, 136, 0x1000⟩], some .operator, 0xFFFFFF, 0, 0, 0, 0x4000⟩, [e.val]⟩ := by
  revert e; decide +kernel

theorem fieldOf_23_0 (w : W32) : fieldOf w 23 0 = (w &&& 0xFFFFFF).toNat := by
  have h : (0xFFFFFF : W32).toNat = 2 ^ 24 - 1 := by decide
  rw [BitVec.toNat_and, h, Nat.and_two_pow_sub_one_eq_mod]
  simp [fieldOf]

end Sys2Proof.Machine
end

section
/-! SUPPORT. The limit of PE_WDOG, what a reply leaves alone, and what a bit-slip does (R68, R236, R313). -/

namespace Sys2Proof.Machine

/-! ### PE_WDOG (R68) -/

/-- What a masked write leaves of the masked bits is what was written. -/
theorem masked_write_and_mask (old v m : W32) : ((old &&& ~~~m) ||| (v &&& m)) &&& m = v &&& m := by
  ext i hi
  cases hm : m[i] <;> simp [hm]

/-- PE_WDOG takes the limit written, and 1 for a limit of 0 (R68). -/
theorem RegRef.fieldOf_stored_peWdog {f : RegRef} (hid : f.row.id = .peWdog) (hrw : f.row.rw = 0xFFFFFF) (hw1c : f.row.w1c = 0)
    (old v : W32) : fieldOf (f.stored old v) 23 0 = if fieldOf v 23 0 = 0 then 1 else fieldOf v 23 0 := by
  have hmask : f.rwMask = 0xFFFFFF := by simp only [RegRef.rwMask, hid, hrw]
  have hv : fieldOf (((old &&& ~~~0xFFFFFF) ||| (v &&& 0xFFFFFF)) &&& ~~~(v &&& 0)) 23 0 = fieldOf v 23 0 := by
    have h0 : (0 : W32) = 0#32 := rfl
    rw [h0, BitVec.and_zero, BitVec.not_zero, BitVec.and_allOnes, fieldOf_23_0, fieldOf_23_0, masked_write_and_mask]
  simp only [RegRef.stored, hid, hmask, hw1c, hv]
  split
  · exact fieldOf_withField _ 23 0 1 (by decide) (by decide)
  · exact hv

/-! ### What a reply leaves alone (R313) -/

/-- The state with other sessions and other outputs. -/
def State.withSent (s : State) (l : List Session) (n : List Sent) : State := { s with sessions := l, sent := n }

theorem State.sendOne_eq (s : State) (sid : W32) (ty : Byte) (reply note cont : Bool) (ref : W32) (st : Byte) (content : List Byte) :
    ∃ l n, s.sendOne sid ty reply note cont ref st content = s.withSent l n := by
  unfold State.sendOne
  split
  · exact ⟨s.sessions, s.sent, rfl⟩
  · exact ⟨_, _, rfl⟩

theorem State.sendParts_eq (s : State) (sid : W32) (ty : Byte) (reply note : Bool) (ref : W32) (st : Byte) (parts : List (List Byte)) :
    ∃ l n, s.sendParts sid ty reply note ref st parts = s.withSent l n := by
  induction parts generalizing s with
  | nil => exact ⟨s.sessions, s.sent, rfl⟩
  | cons p r ih =>
    cases r with
    | nil => exact s.sendOne_eq sid ty reply note false ref st p
    | cons q r =>
      obtain ⟨l, n, h⟩ := s.sendOne_eq sid ty reply note true ref st p
      obtain ⟨l', n', h'⟩ := ih (s.withSent l n)
      refine ⟨l', n', ?_⟩
      rw [State.sendParts, h, h']
      · rfl
      · simp

/-- A reply changes the sessions and what has left the module, and nothing else. -/
theorem State.reply_eq (s : State) (sid seq : W32) (ty : Byte) (st : Status) (content : List Byte) :
    ∃ l n, s.reply sid seq ty st content = s.withSent l n := by
  unfold State.reply State.sendMsg
  dsimp only
  split
  · exact ⟨_, s.sent, rfl⟩
  · exact State.sendParts_eq _ _ _ _ _ _ _ _

/-! ### A bit-slip (R236) -/

theorem registerAt_runLaneCtrl (p : Fin 8) (n : Fin 9) : registerAt (aRunLaneCtrl p n) = some (.runLaneCtrl, [p.val, n.val]) := by
  revert p n; decide +kernel
theorem isPrivileged_aRunLaneCtrl (p : Fin 8) (n : Fin 9) : isPrivileged (aRunLaneCtrl p n) = true := by revert p n; decide +kernel

theorem aRunLaneStat_ne_aRunLaneCtrl (p n : Nat) : aRunLaneStat p n ≠ aRunLaneCtrl p n := by unfold aRunLaneStat aRunLaneCtrl; omega
theorem aRunPortCtrl_ne_aRunLaneCtrl (p n : Nat) : aRunPortCtrl p ≠ aRunLaneCtrl p n := by unfold aRunPortCtrl aRunLaneCtrl; omega

theorem State.regs_wf_setFld (s : State) (a hi lo v : Nat) (h : Tbl.wf resetWord s.regs = true) :
    Tbl.wf resetWord (s.setFld a hi lo v).regs = true := s.regs_wf_setReg a _ h
theorem State.regs_wf_setBit (s : State) (a n : Nat) (b : Bool) (h : Tbl.wf resetWord s.regs = true) :
    Tbl.wf resetWord (s.setBit a n b).regs = true := s.regs_wf_setFld a n n _ h

/-- Writing one bit of a register leaves a field above it alone. -/
theorem State.fld_setBit_above (s : State) (a n hi lo : Nat) (b : Bool) (h : Tbl.wf resetWord s.regs = true)
    (hn : n ≤ 31) (hlo : n < lo) :
    (s.setBit a n b).fld a hi lo = s.fld a hi lo := by
  simp only [State.setBit, State.setFld, State.fld]
  rw [State.reg_setReg_same s a _ h, fieldOf_withField_above _ n n _ hi lo (Nat.le_refl n) hn hlo]

/-- A bit-slip is acted on: the port searches for its symbol boundary, and the alignment is manual. -/
def State.slips (s : State) (p : Nat) : Prop := (s.port p).searching = true ∧ s.bit (aRunPortCtrl p) 2 = true

theorem State.laneSlipEffect_of_slips {s : State} {p : Nat} (h : s.slips p) (n : Nat) (aligned : Bool) :
    s.laneSlipEffect p n aligned =
      (s.setFld (aRunLaneStat p n) 15 12 (min (s.fld (aRunLaneStat p n) 15 12 + 1) 15)).setBit (aRunLaneStat p n) 2 aligned := if_pos h
theorem State.laneSlipEffect_of_not_slips {s : State} {p : Nat} (h : ¬ s.slips p) (n : Nat) (aligned : Bool) :
    s.laneSlipEffect p n aligned = s := if_neg h

/-- What an accepted bit-slip leaves: the write's own effect with the free value `drawn`, then the boundary's place as the row has it. -/
def State.laneSlipped (s : State) (p n : Nat) (drawn aligned : Bool) : State :=
  let t := (s.storeWord (aRunLaneCtrl p n) 1).draw.2.laneSlipEffect p n drawn
  if (s.port p).searching && s.bit (aRunPortCtrl p) 2 then t.setBit (aRunLaneStat p n) 2 aligned else t

/-- A write of the lane's control register is not one of the words that decide whether a slip is acted on. -/
theorem State.slips_storeWord (s : State) (p n : Nat) (v : W32) :
    (s.storeWord (aRunLaneCtrl p n) v).draw.2.slips p ↔ s.slips p := by
  have hbit : (s.storeWord (aRunLaneCtrl p n) v).bit (aRunPortCtrl p) 2 = s.bit (aRunPortCtrl p) 2 := by
    simp only [State.bit, State.fld, State.storeWord, State.reg_setReg_other s _ _ _ (aRunPortCtrl_ne_aRunLaneCtrl p n)]
  exact and_congr Iff.rfl (iff_of_eq (congrArg (· = true) hbit))

theorem State.laneSlipped_of_slips {s : State} {p : Nat} (h : s.slips p) (n : Nat) (drawn aligned : Bool) :
    s.laneSlipped p n drawn aligned =
      let t := (s.storeWord (aRunLaneCtrl p n) 1).draw.2
      let a := aRunLaneStat p n
      ((t.setFld a 15 12 (min (t.fld a 15 12 + 1) 15)).setBit a 2 drawn).setBit a 2 aligned := by
  have hs : ((s.port p).searching && s.bit (aRunPortCtrl p) 2) = true := Bool.and_eq_true_iff.mpr h
  simp only [State.laneSlipped, hs, if_true, State.laneSlipEffect_of_slips ((s.slips_storeWord p n 1).mpr h)]

theorem State.laneSlipped_of_not_slips {s : State} {p : Nat} (h : ¬ s.slips p) (n : Nat) (drawn aligned : Bool) :
    s.laneSlipped p n drawn aligned = (s.storeWord (aRunLaneCtrl p n) 1).draw.2 := by
  have hs : ((s.port p).searching && s.bit (aRunPortCtrl p) 2) = false := by
    rw [Bool.eq_false_iff, Ne, Bool.and_eq_true]
    exact h
  simp only [State.laneSlipped, hs, Bool.false_eq_true, if_false,
    State.laneSlipEffect_of_not_slips (mt (s.slips_storeWord p n 1).mp h)]

/-- A bit-slip that is acted on moves the lane's boundary by one, saturating, and the boundary stands where the row says. -/
theorem State.laneSlipped_stat {s : State} {p : Nat} (hwf : Tbl.wf resetWord s.regs = true) (h : s.slips p) (n : Nat)
    (drawn aligned : Bool) :
    (s.laneSlipped p n drawn aligned).bit (aRunLaneStat p n) 2 = aligned
      ∧ (s.laneSlipped p n drawn aligned).fld (aRunLaneStat p n) 15 12 = min (s.fld (aRunLaneStat p n) 15 12 + 1) 15 := by
  rw [State.laneSlipped_of_slips h]
  dsimp only
  have ht : (s.storeWord (aRunLaneCtrl p n) 1).draw.2.fld (aRunLaneStat p n) 15 12 = s.fld (aRunLaneStat p n) 15 12 :=
    congrArg (fieldOf · 15 12) (s.reg_setReg_other _ _ _ (aRunLaneStat_ne_aRunLaneCtrl p n))
  have hwt : Tbl.wf resetWord (s.storeWord (aRunLaneCtrl p n) 1).draw.2.regs = true := s.regs_wf_setReg _ _ hwf
  generalize (s.storeWord (aRunLaneCtrl p n) 1).draw.2 = t at ht hwt
  rw [ht]
  have hA := t.regs_wf_setFld (aRunLaneStat p n) 15 12 (min (s.fld (aRunLaneStat p n) 15 12 + 1) 15) hwt
  have hB := State.regs_wf_setBit _ (aRunLaneStat p n) 2 drawn hA
  refine ⟨State.bit_setBit_same _ _ _ _ hB (by decide), ?_⟩
  rw [State.fld_setBit_above _ _ _ _ _ _ hB (by decide) (by decide), State.fld_setBit_above _ _ _ _ _ _ hA (by decide) (by decide),
    State.fld_setFld_same _ _ _ _ _ hwt (by decide) (by decide)]
  exact Nat.mod_eq_of_lt (by omega)

/-- A bit-slip changes registers and the free values drawn, and nothing else. -/
theorem State.laneSlipped_eq (s : State) (p n : Nat) (drawn aligned : Bool) :
    ∃ r k, s.laneSlipped p n drawn aligned = { s with regs := r, free := k } := by
  by_cases h : s.slips p
  · rw [State.laneSlipped_of_slips h]
    exact ⟨_, _, rfl⟩
  · rw [State.laneSlipped_of_not_slips h]
    exact ⟨_, _, rfl⟩

end Sys2Proof.Machine
end

section
/-! PROOF. Reads answer the word read; reserved addresses are refused; which bits a write changes. -/

namespace Sys2Proof.Machine

/-- A REG_READ that `asks` names is answered as its list is judged. -/
theorem exec_regRead_of_asks {s : State} {x : Session} {sid seq : W32} (h : s.asks x sid seq 0x10 none = true) (l : List W32) :
    exec (.regRead sid seq l) s = .next (((s.taken x sid).regRead sid l).reply (s.taken x sid) sid seq 0x10) :=
  congrArg Host.Outcome.next (State.request_of_asks h _)

theorem findReg_isSome_of_registerAt {a : Nat} {r : RegId × List Nat} (h : registerAt a = some r) : (findReg a).isSome = true := by
  obtain ⟨f, hf, -⟩ := Option.map_eq_some_iff.mp h
  rw [hf]
  rfl

theorem registerAt_timTxqId (q : Fin 2) : registerAt (aTimTxqId q) = some (.timTxqId, [q.val]) := by revert q; decide +kernel

theorem aTimTxqId_lt (q : Fin 2) : aTimTxqId q < 2 ^ 32 := by unfold aTimTxqId; omega
theorem aCruDragData_lt (c : Fin 34) : aCruDragData c < 2 ^ 32 := by unfold aCruDragData; omega

/-- The read of one register of the map, outside ingot mode, answers its word. -/
theorem State.request_read_of_asks {s : State} {x : Session} {sid seq : W32} (h : s.asks x sid seq 0x10 none = true)
    (hi : s.boot.ingot = false) {a : Nat} {r : RegId × List Nat} (hmap : registerAt a = some r) (ha : a < 2 ^ 32) :
    s.request sid seq 0x10 none (fun _ t => t.regRead sid [BitVec.ofNat 32 a]) =
      ((s.taken x sid).readReg sid a).2.reply sid seq 0x10 .ok (leBytes 4 ((s.taken x sid).readReg sid a).1.toNat) := by
  have hnat : (BitVec.ofNat 32 a).toNat = a := by rw [BitVec.toNat_ofNat, Nat.mod_eq_of_lt ha]
  have hnamed : AllNamed [BitVec.ofNat 32 a] := by
    intro b hb
    rw [List.mem_singleton.mp hb, hnat]
    exact findReg_isSome_of_registerAt hmap
  rw [State.request_of_asks h, State.regRead_singleton_of_served (s.taken x sid) sid hnamed (.inl hi), hnat]
  rfl

/-- An accepted bit-slip is logged, then does what `laneSlipped` says, and is answered. -/
theorem exec_laneSlip_of_accepted {s : State} {x : Session} {sid seq : W32} {p : Fin 8} {n : Fin 9} (aligned : Bool)
    (hask : s.asks x sid seq 0x11 none = true) (hck : (s.taken x sid).checkEntry x.role (aRunLaneCtrl p n) 1 = none)
    (hmay : s.mayLog = true) : ∃ l g drawn, exec (.laneSlip sid seq p n aligned) s
      = .next (((s.withLog l g).laneSlipped p n drawn aligned).reply sid seq 0x11 .ok []) := by
  simp only [State.mayLog, Bool.and_eq_true, decide_eq_true_eq] at hmay
  obtain ⟨hw, hn⟩ := hmay
  obtain ⟨l, g, hlog⟩ := (s.sameButLog_taken x sid).logNow x 0x0001 0 ((s.taken x sid).writeLine (aRunLaneCtrl p n) 1)
  have hwrite : (s.taken x sid).regWriteAll x [(aRunLaneCtrl p n, 1)]
      = .done ((s.withLog l g).applyWrite x.id (aRunLaneCtrl p n) 1) [] := by
    rw [State.regWriteAll_privileged hck (isPrivileged_aRunLaneCtrl p n),
      State.privileged_of_window (s := s.taken x sid) (l := [_]) hw hn, ← hlog]
    rfl
  have heffect : (s.withLog l g).applyWrite x.id (aRunLaneCtrl p n) 1
      = ((s.withLog l g).storeWord (aRunLaneCtrl p n) 1).draw.2.laneSlipEffect p n (s.draw.1.getLsbD 0) :=
    (s.withLog l g).applyWrite_registerAt x.id 1 (registerAt_runLaneCtrl p n) (by decide)
  refine ⟨l, g, s.draw.1.getLsbD 0, congrArg Host.Outcome.next ?_⟩
  rw [State.request_of_asks hask]
  simp only [hwrite, heffect]
  rfl

/-- Settles O34: REG_READ and the commands that read one register by what `regRead` finds first in their list, a bit-slip by what an accepted
one leaves, the checks by their order in `checkEntry`, and the bits by the word that `stored` leaves. -/
theorem registerReadsRefusalsAndWritableBits : Obligations.RegisterReadsRefusalsAndWritableBits := by
  refine ⟨fun s x sid seq v a al l m p n f st => ?_, fun f old v k hid => ?_, fun e old v => ?_⟩
  · refine ⟨?_, ?_, ?_, ?_, ?_, ?_, ?_, ?_, ?_, ?_, ?_⟩
    · intro hask h1 h256 hn hs
      rw [exec_regRead_of_asks hask, State.regRead_all_of_served (s.taken x sid) sid h1 h256 hn hs]
      rfl
    · intro hask hn hs
      rw [exec_regRead_of_asks hask, State.regRead_singleton_of_served (s.taken x sid) sid hn hs]
      rfl
    · intro hask hlen
      rw [exec_regRead_of_asks hask, State.regRead_of_length (s.taken x sid) sid hlen]
      rfl
    · intro hask hlen hn ha
      rw [exec_regRead_of_asks hask, State.regRead_unnamed (s.taken x sid) sid hlen hn ha]
      rfl
    · intro hask hlen hn hi hs ha
      have hl : ∀ b ∈ l, ingotReads b.toNat = true := hs.resolve_left (by simp [hi])
      rw [exec_regRead_of_asks hask, State.regRead_unserved (s.taken x sid) sid hlen hn hi hl ha]
      rfl
    · exact fun hask hi q => congrArg Host.Outcome.next (State.request_read_of_asks hask hi (registerAt_timTxqId q) (aTimTxqId_lt q))
    · exact fun hask hi c => congrArg Host.Outcome.next (State.request_read_of_asks hask hi (registerAt_cruDragData c) (aCruDragData_lt c))
    · intro hask hck hmay
      obtain ⟨sl, g, drawn, hexec⟩ := exec_laneSlip_of_accepted al hask hck hmay
      obtain ⟨rl, rn, hreply⟩ := State.reply_eq ((s.withLog sl g).laneSlipped p n drawn al) sid seq 0x11 .ok []
      refine ⟨_, hexec, fun hwf hacts => ?_, fun hacts => ?_, ?_⟩
      · rw [hreply]
        exact State.laneSlipped_stat (s := s.withLog sl g) hwf hacts n drawn al
      · rw [hreply]
        have hregs := congrArg State.regs (State.laneSlipped_of_not_slips (s := s.withLog sl g) hacts n drawn al)
        exact hregs
      · obtain ⟨r, k, hslip⟩ := (s.withLog sl g).laneSlipped_eq p n drawn al
        rw [hreply, hslip]
        rfl
    · exact State.checkEntry_unnamed
    · exact State.checkEntry_role
    · intro hf hr
      refine ⟨fun hs => ?_, fun hs hrange => ?_, fun hs hrange hbusy => ?_, fun hs hrange hbusy => ?_⟩
      · simp [State.checkEntry_allowed hf hr, hs]
      · simp [State.checkEntry_allowed hf hr, hs, hrange]
      · simp [State.checkEntry_allowed hf hr, hs, hrange, hbusy]
      · simp [State.checkEntry_allowed hf hr, hs, hrange, hbusy]
  · rw [RegRef.getLsbD_stored hid old v k.isLt]
    refine ⟨fun hrw hw1c => ?_, fun hrw hw1c => ?_, fun hrw hw1c => ?_⟩
    · rw [hrw, hw1c]
      simp
    · rw [hrw, hw1c]
      simp
    · rw [hrw, hw1c]
      simp
  · exact ⟨_, findReg_peWdog e, RegRef.fieldOf_stored_peWdog rfl rfl rfl old v⟩

end Sys2Proof.Machine
end

section
/-! PROOF. What the manual states of the start: the time bases, the units and the registers' reset words (R21, R257, R278, R281, R419, R461). -/

namespace Sys2Proof.Machine

/-! ### Reset words (R21, R68, R161, R390) -/

theorem State.reg_reset (a : Nat) : State.reset.reg a = resetWord a := rfl

theorem resetWord_mldPeMap (n : Fin 128) : resetWord (aMldPeMap n) = BitVec.ofNat 32 (17 * (n.val / 16) + n.val % 16) := by
  revert n; decide +kernel
theorem resetWord_mldCruMap (n : Fin 32) : resetWord (aMldCruMap n) = BitVec.ofNat 32 n := by revert n; decide +kernel
theorem resetWord_peWdog (p : Fin 136) : resetWord (aPeWdog p) = 0x4000 := by
  rw [resetWord, findReg_peWdog p]

/-- A field that begins at bit 0 holds a number that fits it, whatever lies above. -/
theorem fieldOf_ofNat_low {hi v : Nat} (hhi : hi ≤ 31) (hv : v < 2 ^ (hi + 1)) : fieldOf (BitVec.ofNat 32 v) hi 0 = v := by
  have hword : v < 2 ^ 32 := hv.trans_le (Nat.pow_le_pow_right (by decide) (by omega))
  rw [fieldOf, BitVec.toNat_ofNat, Nat.mod_eq_of_lt hword, Nat.pow_zero, Nat.div_one, Nat.sub_zero, Nat.mod_eq_of_lt hv]

/-- Logical engine n of cluster n / 16 starts on the n-th engine of the cluster's 17 (R21). -/
theorem State.pePhys_reset (n : Fin 128) : State.reset.pePhys n = 17 * (n.val / 16) + n.val % 16 := by
  rw [State.pePhys, State.fld, State.reg_reset, resetWord_mldPeMap, fieldOf_ofNat_low (by decide) (by omega)]

theorem State.cruPhys_reset (n : Fin 32) : State.reset.cruPhys n = n := by
  rw [State.cruPhys, State.fld, State.reg_reset, resetWord_mldCruMap, fieldOf_ofNat_low (by decide) (by omega)]

theorem State.peWdog_reset (p : Fin 136) : State.reset.fld (aPeWdog p) 23 0 = 0x4000 := by
  rw [State.fld, State.reg_reset, resetWord_peWdog]
  decide

/-- Settles O57: the units and time bases stand in `State.reset` as they start, and a register that nothing has written shows its reset word. -/
theorem resetLeavesWhatTheManualStates : Obligations.ResetLeavesWhatTheManualStates := by
  have hcry : State.reset.fld aCryCtrl 12 8 = 10 := by decide
  have hadc : State.reset.fld (aAdcCtrl 0) 9 8 = 3 := by decide
  have hdepth : State.reset.castDepth = 0x3F := by decide
  have hcap : State.reset.reg aCapRec = 0 := by decide
  exact ⟨rfl, rfl, rfl, rfl, rfl, rfl, rfl, rfl, rfl, rfl, rfl, State.pePhys_reset, State.cruPhys_reset, rfl, hdepth, rfl, rfl, hcap,
    rfl, rfl, rfl, State.peWdog_reset, hcry, hadc⟩

end Sys2Proof.Machine
end

section
/-! PROOF. What an item-issuing instruction does: its item enters the queue on time and the engine goes on (R10, R13, R14, R47, R49, R52,
R55-R58). -/

namespace Sys2Proof.Machine

/-! ### An engine that runs (R44, R52) -/

/-- An engine that runs reads back as it was written, in any table: it is not what an unlisted engine reads as. -/
theorem State.eng_setEng_running (s : State) (e : Nat) {x : Engine} (h : x.st = .running) : (s.setEng e x).eng e = x := by
  have hne : x ≠ Engine.init := by rintro rfl; cases h
  rw [State.setEng, State.eng, Tbl.put, if_neg hne]
  exact Tbl.get_insert_same _ _ _ _

/-- An engine that executes a word is running. -/
theorem State.running_of_executes {s : State} {e : Nat} {code : W64} (h : s.executes e code = true) : (s.eng e).st = .running := by
  simp only [State.executes, Engine.ready, Bool.and_eq_true, beq_iff_eq] at h
  exact h.1.1.1.1.1

/-- A fetch acts on the word at the engine's PC, free of bit errors, without a change of its own (R46, R52). -/
theorem State.fetch_of_executes {s : State} {e : Nat} {code : W64} (h : s.executes e code = true) (k : State → State) :
    s.fetch e code k = k s := by
  simp only [State.executes, Bool.and_eq_true, decide_eq_true_eq, beq_iff_eq] at h
  obtain ⟨⟨⟨⟨hready, htime⟩, hpc⟩, hcount⟩, hword⟩ := h
  have hrange : ¬ ((s.eng e).pc > 32767 ∨ (s.eng e).pc ≥ (s.eng e).codeCount) := by omega
  simp [State.fetch, hready, htime, hrange, hword]

/-! ### The wall latches an item (R10, R13, R75, R78, R86) -/

@[simp] theorem Engine.queue_setQueue_same (g : Engine) (q : Queue) (x : RelQueue) : (g.setQueue q x).queue q = x := by cases q <;> rfl
@[simp] theorem Engine.setQueue_st (g : Engine) (q : Queue) (x : RelQueue) : (g.setQueue q x).st = g.st := by cases q <;> rfl
@[simp] theorem Engine.setQueue_pc (g : Engine) (q : Queue) (x : RelQueue) : (g.setQueue q x).pc = g.pc := by cases q <;> rfl
@[simp] theorem Engine.setQueue_tc (g : Engine) (q : Queue) (x : RelQueue) : (g.setQueue q x).tc = g.tc := by cases q <;> rfl
@[simp] theorem Engine.setQueue_v (g : Engine) (q : Queue) (x : RelQueue) : (g.setQueue q x).v = g.v := by cases q <;> rfl
@[simp] theorem Engine.setQueue_held (g : Engine) (q : Queue) (x : RelQueue) : (g.setQueue q x).held = g.held := by cases q <;> rfl

/-- What the wall notes in an engine: the shot's smallest lead and first late queue, and the last release (R86, R87). -/
def Engine.withNotes (g : Engine) (lead : Option Int) (late : Option Queue) (rel : Option Tick) : Engine :=
  { g with shotMin := lead, firstLateQ := late, lastRel := rel }

@[simp] theorem Engine.withNotes_queue (g : Engine) (lead : Option Int) (late : Option Queue) (rel : Option Tick) (q : Queue) :
    (g.withNotes lead late rel).queue q = g.queue q := by cases q <;> rfl

@[simp] theorem Engine.withNotes_st (g : Engine) (lead : Option Int) (late : Option Queue) (rel : Option Tick) :
    (g.withNotes lead late rel).st = g.st := rfl
@[simp] theorem Engine.withNotes_pc (g : Engine) (lead : Option Int) (late : Option Queue) (rel : Option Tick) :
    (g.withNotes lead late rel).pc = g.pc := rfl
@[simp] theorem Engine.withNotes_tc (g : Engine) (lead : Option Int) (late : Option Queue) (rel : Option Tick) :
    (g.withNotes lead late rel).tc = g.tc := rfl
@[simp] theorem Engine.withNotes_v (g : Engine) (lead : Option Int) (late : Option Queue) (rel : Option Tick) :
    (g.withNotes lead late rel).v = g.v := rfl
@[simp] theorem Engine.withNotes_held (g : Engine) (lead : Option Int) (late : Option Queue) (rel : Option Tick) :
    (g.withNotes lead late rel).held = g.held := rfl

@[simp] theorem Engine.advance_st (g : Engine) : g.advance.st = g.st := rfl
@[simp] theorem Engine.advance_pc (g : Engine) : g.advance.pc = g.pc + 1 := rfl
@[simp] theorem Engine.advance_tc (g : Engine) : g.advance.tc = g.tc := rfl
@[simp] theorem Engine.advance_v (g : Engine) : g.advance.v = g.v := rfl
@[simp] theorem Engine.advance_held (g : Engine) : g.advance.held = g.held := rfl
@[simp] theorem Engine.advance_queue (g : Engine) (q : Queue) : g.advance.queue q = g.queue q := by cases q <;> rfl

/-- The item is behind the last one accepted (R13). -/
def RelQueue.behind (rq : RelQueue) (i : Item) : Bool :=
  match rq.last with
  | none => false
  | some u => itemBefore i.tick i.sub u

/-- An item arrives on time at tick `now`: 24 ticks ahead at the least, and behind no item accepted before (R10, R13). -/
def RelQueue.onTime (rq : RelQueue) (i : Item) (now : Tick) : Prop :=
  24 ≤ sdiff i.tick.stamp now.stamp ∧ ∀ u, rq.last = some u → itemBefore i.tick i.sub u = false

theorem RelQueue.onTime_iff (rq : RelQueue) (i : Item) (now : Tick) :
    rq.onTime i now ↔ ¬ (sdiff i.tick.stamp now.stamp < 24 ∨ rq.behind i = true) := by
  unfold RelQueue.onTime RelQueue.behind
  cases rq.last <;> simp

/-- The later of an engine's last release and an item's tick (R87). -/
def Engine.relWith (g : Engine) (i : Item) : Option Tick :=
  let later : Bool := match g.lastRel with | none => true | some t => decide (sdiff i.tick.stamp t.stamp ≥ 0)
  if later then some i.tick else g.lastRel

/-- The entry that an item on time takes, in a queue that stood at `rq`; an on-time play requests the first blocks of its segment (R13,
R111). -/
def State.admitItem (s : State) (e : Nat) (q : Queue) (rq : RelQueue) (i : Item) : State :=
  let s := s.setEng e (({ s.eng e with lastRel := (s.eng e).relWith i } : Engine).setQueue q ⟨rq.items ++ [i], some (i.tick, i.sub)⟩)
  match i.kind with
  | .play _ seg _ => s.hotRequest (e / 16) (s.seg seg.toNat).firstTwo
  | _ => s

/-- The record of a late item: it is counted, and the shot takes LATE_RELEASE (R78, R86). -/
def State.refuseItem (s : State) (e : Nat) (q : Queue) (shot : Option (W32 × W32 × Tick)) : State :=
  match shot with
  | none => s.noteLate e q
  | some h => (s.noteLate e q).lateIn h e (s.noteLate e q).now

/-- The wall notes an item's lead, then admits an item on time and refuses a late one (R10, R13). -/
theorem State.latchItem_eq (s : State) (e : Nat) (q : Queue) (i : Item) : s.latchItem e q i =
    if sdiff i.tick.stamp s.now.stamp < 24 ∨ ((s.eng e).queue q).behind i = true
    then (s.noteLead e (sdiff i.tick.stamp s.now.stamp)).refuseItem e q (s.eng e).shot
    else (s.noteLead e (sdiff i.tick.stamp s.now.stamp)).admitItem e q ((s.eng e).queue q) i := rfl

/-- Noting a lead changes the shot's smallest lead in the engine, and PE_LEAD (R86). -/
theorem State.noteLead_eq (s : State) (e : Nat) (lead : Int) : ∃ m r, s.noteLead e lead
    = { s.setEng e ((s.eng e).withNotes m (s.eng e).firstLateQ (s.eng e).lastRel) with regs := r } := by
  unfold State.noteLead
  dsimp only
  split
  · exact ⟨_, _, rfl⟩
  · exact ⟨_, _, rfl⟩

/-- Admitting an item changes its queue and the last release in the engine, and the requests of the hot caches. -/
theorem State.admitItem_eq (s : State) (e : Nat) (q : Queue) (rq : RelQueue) (i : Item) : ∃ h, s.admitItem e q rq i
    = { s.setEng e (({ s.eng e with lastRel := (s.eng e).relWith i } : Engine).setQueue q ⟨rq.items ++ [i], some (i.tick, i.sub)⟩)
        with hots := h } := by
  unfold State.admitItem
  dsimp only
  split
  · exact ⟨_, rfl⟩
  · exact ⟨s.hots, rfl⟩

/-- An item on time stands last in its queue and is the last accepted; beside the queue the wall's notes, PE_LEAD and the requests of the hot
caches change (R13, R75, R86, R111). -/
theorem State.latchItem_of_onTime {s : State} {e : Nat} {q : Queue} {i : Item} (hrun : (s.eng e).st = .running)
    (htime : ((s.eng e).queue q).onTime i s.now) : ∃ m l, (s.latchItem e q i).eng e
        = ((s.eng e).withNotes m (s.eng e).firstLateQ l).setQueue q ⟨((s.eng e).queue q).items ++ [i], some (i.tick, i.sub)⟩
      ∧ s.latchItem e q i
        = { s with engines := (s.latchItem e q i).engines, regs := (s.latchItem e q i).regs, hots := (s.latchItem e q i).hots } := by
  obtain ⟨m, r, hnote⟩ := s.noteLead_eq e (sdiff i.tick.stamp s.now.stamp)
  have heng : (s.noteLead e (sdiff i.tick.stamp s.now.stamp)).eng e
      = (s.eng e).withNotes m (s.eng e).firstLateQ (s.eng e).lastRel := by
    rw [hnote]
    exact s.eng_setEng_running e hrun
  obtain ⟨h, hadmit⟩ := (s.noteLead e (sdiff i.tick.stamp s.now.stamp)).admitItem_eq e q ((s.eng e).queue q) i
  rw [State.latchItem_eq, if_neg ((RelQueue.onTime_iff _ _ _).mp htime), hadmit, heng]
  refine ⟨m, _, State.eng_setEng_running _ e (by rw [Engine.setQueue_st]; exact hrun), ?_⟩
  rw [hnote]
  rfl

/-! ### Issuing an item (R14, R33, R47, R48) -/

/-- An item that the engine can issue enters its queue stamped at the cursor plus `dt`, and the next instruction follows. -/
theorem State.enqueue_of_canIssue {s : State} {e : Nat} {q : Queue} {dt : Nat} {sub : BitVec 4} (hrun : (s.eng e).st = .running)
    (h : s.canIssue e q dt sub = true) (k : ItemKind) :
    (((s.enqueue e q dt sub k).eng e).queue q).items
        = ((s.eng e).queue q).items ++ [⟨(s.eng e).tc + BitVec.ofNat 64 dt, sub, k⟩]
      ∧ ((s.enqueue e q dt sub k).eng e).pc = (s.eng e).pc + 1 ∧ ((s.enqueue e q dt sub k).eng e).tc = (s.eng e).tc
      ∧ ((s.enqueue e q dt sub k).eng e).v = (s.eng e).v := by
  simp only [State.canIssue, Bool.and_eq_true, decide_eq_true_eq] at h
  obtain ⟨⟨⟨⟨hcursor, hend⟩, hroom⟩, hlead⟩, hlast⟩ := h
  have hissue : s.enqueue e q dt sub k = (s.latchItem e q ⟨(s.eng e).tc + BitVec.ofNat 64 dt, sub, k⟩).setEng e
      ((s.latchItem e q ⟨(s.eng e).tc + BitVec.ofNat 64 dt, sub, k⟩).eng e).advance := by
    have hfull : ¬ ((s.eng e).queue q).items.length ≥ queueDepth q := Nat.not_le.mpr hroom
    cases hp : s.periodicEnd (s.eng e) with
    | none => simp [State.enqueue, hcursor, hp, hfull]
    | some x =>
      have hx : ((s.eng e).tc + BitVec.ofNat 64 dt - x).toInt < 0 := by simpa only [hp, decide_eq_true_eq] using hend
      simp only [State.enqueue, hcursor, hp, hfull, ge_iff_le, not_le.mpr hx, Bool.not_true, decide_false, Bool.false_eq_true, if_false]
  have htime : ((s.eng e).queue q).onTime ⟨(s.eng e).tc + BitVec.ofNat 64 dt, sub, k⟩ s.now :=
    ⟨hlead, fun u hu => by simpa [hu] using hlast⟩
  obtain ⟨m, l, heng, -⟩ := State.latchItem_of_onTime hrun htime
  rw [hissue, heng, State.eng_setEng_running _ _ (by simpa using hrun)]
  simp

/-! ### The instructions (R55-R58) -/

/-- The command of an item-issuing instruction: the word that it acts on, and the item that it issues (R51, R55-R58). -/
theorem State.fetch_enqueue_of_canIssue {s : State} {e : Nat} {code : W64} {q : Queue} {dt : Nat} {sub : BitVec 4} {k : ItemKind}
    {act : State → State} (hexec : s.executes e code = true) (hissue : s.canIssue e q dt sub = true)
    (hact : act s = s.enqueue e q dt sub k) :
    ∃ t, Host.Outcome.next (s.fetch e code act) = (Host.Outcome.next t : Out)
      ∧ ((t.eng e).queue q).items = ((s.eng e).queue q).items ++ [⟨(s.eng e).tc + BitVec.ofNat 64 dt, sub, k⟩]
      ∧ (t.eng e).pc = (s.eng e).pc + 1 ∧ (t.eng e).tc = (s.eng e).tc ∧ (t.eng e).v = (s.eng e).v :=
  ⟨s.enqueue e q dt sub k, by rw [State.fetch_of_executes hexec, hact],
    State.enqueue_of_canIssue (State.running_of_executes hexec) hissue k⟩

/-- Settles O4: each instruction's word is fetched and what it does is `enqueue` of its item, which `enqueue_of_canIssue` describes. -/
theorem efauxItemsEnterTheirQueue : Obligations.EfauxItemsEnterTheirQueue := by
  intro s e f ra rb imm w sub seg dt amp edge ue sel bcode
  have issues := @State.fetch_enqueue_of_canIssue s e
  exact ⟨fun h i => issues h i rfl, fun h i => issues h i rfl, fun h i => issues h i rfl, fun h i => issues h i rfl,
    fun h i => issues h i rfl, fun h i => issues h i rfl, fun h i => issues h i rfl,
    fun hseg h i => issues h i (if_neg (Nat.not_le.mpr hseg)),
    fun h i => issues h i rfl, fun h i => issues h i rfl, fun h i => issues h i rfl, fun h i => issues h i rfl, fun h i => issues h i rfl⟩

end Sys2Proof.Machine
end

section
/-! PROOF. How a Coremaker routine starts, resumes, waits and is aborted, and how routines are asked for (R23, R357-R359, R361). -/

namespace Sys2Proof.Machine

/-! ### Each command is its own function -/

theorem exec_routineStart (s : State) : exec .routineStart s = execRoutineStart s := rfl
theorem exec_routinePeriodicRequest (r : Byte) (s : State) : exec (.routinePeriodicRequest r) s = execRoutinePeriodicRequest r s := rfl
theorem exec_cmkWaitTimeout (s : State) : exec .cmkWaitTimeout s = execCmkWaitTimeout s := rfl
theorem exec_cmkWaitSatisfied (s : State) : exec .cmkWaitSatisfied s = execCmkWaitSatisfied s := rfl
theorem exec_forcedAbort (s : State) : exec .forcedAbort s = execForcedAbort s := rfl
theorem exec_refinReturn (s : State) : exec .refinReturn s = execRefinReturn s := rfl

/-! ### The choice of a routine (R358, R359, R361) -/

/-- In a list, the first of the elements that `may`, ordered by `f`, that has the least `f`: those before it have more. -/
theorem find?_filter_first {α : Type} {may : α → Bool} {f : α → Nat} {before after : List α} {x : α} (hx : may x = true)
    (hbefore : ∀ z ∈ before, may z = true → f x < f z) :
    ((before ++ x :: after).filter may).find? (fun z => f z == f x) = some x := by
  have hnone : (before.filter may).find? (fun z => f z == f x) = none := by
    simp only [List.find?_eq_none, List.mem_filter, beq_iff_eq]
    exact fun z hz hfz => absurd hfz (hbefore z hz.1 hz.2).ne'
  simp [List.filter_append, hx, List.find?_append, hnone]

/-- The yielded routines that may resume, and the queued ones that may start (R361, R364). -/
def State.mayResume (s : State) : List CmkCtx := s.cmk.yielded.filter (fun c => s.cmkEligible ⟨c.routine, c.target⟩)
def State.mayStart (s : State) : List CmkReq := s.cmk.queue.filter s.cmkEligible
/-- The priorities of the routines that may run. -/
def State.candidatePrios (s : State) : List Nat :=
  s.mayResume.map (fun c => routinePriority c.routine) ++ s.mayStart.map (fun r => routinePriority r.routine)

/-- A yielded routine resumes with its context and its set (R361, R365). -/
def State.resume (s : State) (c : CmkCtx) : State :=
  { s with cmk := { s.cmk with running := some c, yielded := s.cmk.yielded.erase c, journal := [], set := c.set } }
/-- A routine starts at its entry with scratch registers `m` (R355, R358). -/
def State.enterRoutine (s : State) (r : CmkReq) (m : Tbl W32) : State :=
  { s with cmk := { s.cmk with running := some ⟨r.routine, r.target, (Config.routineEntry r.routine).toNat, m, [], none, []⟩
                               queue := s.cmk.queue.erase r, journal := [], set := [] } }

/-- The 31 scratch registers take the next free values. -/
theorem State.drawScratch_snd (s : State) (n : Nat) : (s.drawScratch n).2 = { s with free := s.free + n } := by
  induction n with
  | zero => rfl
  | succ n ih => simp [State.drawScratch, State.drawWord, State.draw, ih, Nat.add_assoc]

theorem exec_routineStart_of_running {s : State} {c : CmkCtx} (h : s.cmk.running = some c) : exec .routineStart s = .next s := by
  simp [exec_routineStart, execRoutineStart, h]

theorem exec_routineStart_of_no_candidate {s : State} (hy : s.mayResume = []) (hq : s.mayStart = []) :
    exec .routineStart s = .next s := by
  unfold State.mayResume at hy
  unfold State.mayStart at hq
  simp [exec_routineStart, execRoutineStart, hy, hq]

/-- The routine of the best priority: a yielded one of it, else a queued one (R361). -/
theorem exec_routineStart_of_best {s : State} {best : Nat} (hidle : s.cmk.running = none) (hmem : best ∈ s.candidatePrios)
    (hle : ∀ p ∈ s.candidatePrios, best ≤ p) : exec .routineStart s = .next (
      match s.mayResume.find? (fun c => routinePriority c.routine == best) with
      | some c => s.resume c
      | none => match s.mayStart.find? (fun r => routinePriority r.routine == best) with
        | none => s
        | some r => ((s.drawScratch 31).2.enterRoutine r (s.drawScratch 31).1).asksAgain) := by
  have hmin : s.candidatePrios.min? = some best := List.min?_eq_some_iff.mpr ⟨hmem, hle⟩
  simp only [exec_routineStart, execRoutineStart, hidle, Option.isSome_none, Bool.false_eq_true, if_false]
  change Host.Outcome.next (match s.candidatePrios with | [] => s | p :: r => _) = _
  cases hps : s.candidatePrios with
  | nil => simp [hps] at hmem
  | cons p r =>
    rw [hps, List.min?_cons', Option.some.injEq] at hmin
    rw [← hmin]
    rfl

/-- A queued routine that comes first among those of the best priority starts, where no yielded one has as high a priority. -/
theorem exec_routineStart_queued {s : State} {q : CmkReq} {before after : List CmkReq} (hidle : s.cmk.running = none)
    (hqueue : s.cmk.queue = before ++ q :: after) (hq : s.cmkEligible q = true)
    (hbefore : ∀ z ∈ before, s.cmkEligible z = true → routinePriority q.routine < routinePriority z.routine)
    (hafter : ∀ z ∈ after, s.cmkEligible z = true → routinePriority q.routine ≤ routinePriority z.routine)
    (hyielded : ∀ z ∈ s.cmk.yielded, s.cmkEligible ⟨z.routine, z.target⟩ = true → routinePriority q.routine < routinePriority z.routine) :
    exec .routineStart s = .next ((s.drawScratch 31).2.enterRoutine q (s.drawScratch 31).1).asksAgain := by
  have hqmem : q ∈ s.mayStart := List.mem_filter.mpr ⟨by simp [hqueue], hq⟩
  have hbest : ∀ p ∈ s.candidatePrios, routinePriority q.routine ≤ p := by
    simp only [State.candidatePrios, List.mem_append, List.mem_map]
    rintro p (⟨z, hz, rfl⟩ | ⟨z, hz, rfl⟩)
    · obtain ⟨hmem, hmay⟩ := List.mem_filter.mp hz
      exact (hyielded z hmem hmay).le
    · obtain ⟨hmem, hmay⟩ := List.mem_filter.mp hz
      rw [hqueue, List.mem_append, List.mem_cons] at hmem
      rcases hmem with hmem | rfl | hmem
      · exact (hbefore z hmem hmay).le
      · exact le_rfl
      · exact hafter z hmem hmay
  have hnone : s.mayResume.find? (fun c => routinePriority c.routine == routinePriority q.routine) = none := by
    simp only [List.find?_eq_none, State.mayResume, List.mem_filter, beq_iff_eq]
    exact fun z hz hprio => absurd hprio (hyielded z hz.1 hz.2).ne'
  have hsome : s.mayStart.find? (fun r => routinePriority r.routine == routinePriority q.routine) = some q := by
    rw [State.mayStart, hqueue]
    exact find?_filter_first (f := fun r : CmkReq => routinePriority r.routine) hq hbefore
  rw [exec_routineStart_of_best hidle (List.mem_append_right _ (List.mem_map_of_mem hqmem)) hbest, hnone, hsome]

/-- A yielded routine that comes first among those of the best priority resumes, before a queued one of its priority. -/
theorem exec_routineStart_yielded {s : State} {c : CmkCtx} {before after : List CmkCtx} (hidle : s.cmk.running = none)
    (hyielded : s.cmk.yielded = before ++ c :: after) (hc : s.cmkEligible ⟨c.routine, c.target⟩ = true)
    (hbefore : ∀ z ∈ before, s.cmkEligible ⟨z.routine, z.target⟩ = true → routinePriority c.routine < routinePriority z.routine)
    (hafter : ∀ z ∈ after, s.cmkEligible ⟨z.routine, z.target⟩ = true → routinePriority c.routine ≤ routinePriority z.routine)
    (hqueue : ∀ z ∈ s.cmk.queue, s.cmkEligible z = true → routinePriority c.routine ≤ routinePriority z.routine) :
    exec .routineStart s = .next (s.resume c) := by
  have hcmem : c ∈ s.mayResume := List.mem_filter.mpr ⟨by simp [hyielded], hc⟩
  have hbest : ∀ p ∈ s.candidatePrios, routinePriority c.routine ≤ p := by
    simp only [State.candidatePrios, List.mem_append, List.mem_map]
    rintro p (⟨z, hz, rfl⟩ | ⟨z, hz, rfl⟩)
    · obtain ⟨hmem, hmay⟩ := List.mem_filter.mp hz
      rw [hyielded, List.mem_append, List.mem_cons] at hmem
      rcases hmem with hmem | rfl | hmem
      · exact (hbefore z hmem hmay).le
      · exact le_rfl
      · exact hafter z hmem hmay
    · obtain ⟨hmem, hmay⟩ := List.mem_filter.mp hz
      exact hqueue z hmem hmay
  have hsome : s.mayResume.find? (fun z => routinePriority z.routine == routinePriority c.routine) = some c := by
    rw [State.mayResume, hyielded]
    exact find?_filter_first (may := fun z : CmkCtx => s.cmkEligible ⟨z.routine, z.target⟩) (f := fun z => routinePriority z.routine)
      hc hbefore
  rw [exec_routineStart_of_best hidle (List.mem_append_left _ (List.mem_map_of_mem hcmem)) hbest, hsome]

/-! ### Requests for routines (R358, R359) -/

/-- A state whose Coremaker, registers, log, banks and groups are replaced: what a routine's end, yield or request can change. -/
def State.withCmk (s : State) (k : Cmk) (r : Tbl W32) (l : Log) (b : Tbl Bank) (g : Tbl Group) : State :=
  { s with cmk := k, regs := r, log := l, banks := b, groups := g }

/-- What the end or the yield of a routine, and an interrupt, leave of the requests. -/
def Cmk.SameRequests (k k' : Cmk) : Prop := k'.queue = k.queue ∧ k'.asks = k.asks

/-- An operation on the running routine: it changes what `withCmk` replaces, and leaves the requests. -/
def State.CmkStep (s t : State) : Prop := ∃ k r l b g, t = s.withCmk k r l b g ∧ s.cmk.SameRequests k

theorem State.CmkStep.trans {s t u : State} (h : s.CmkStep t) (h' : t.CmkStep u) : s.CmkStep u := by
  obtain ⟨k, r, l, b, g, rfl, hq, ha⟩ := h
  obtain ⟨k', r', l', b', g', rfl, hq', ha'⟩ := h'
  exact ⟨k', r', l', b', g', rfl, hq'.trans hq, ha'.trans ha⟩

theorem State.CmkStep.refl (s : State) : s.CmkStep s := ⟨_, _, _, _, _, rfl, rfl, rfl⟩
theorem State.cmkStep_count (s : State) (a hi lo n : Nat) : s.CmkStep (s.count a hi lo n) := ⟨_, _, _, _, _, rfl, rfl, rfl⟩
theorem State.cmkStep_logEvent (s : State) (block code : Nat) (data : List Byte) : s.CmkStep (s.logEvent block code data) := by
  unfold State.logEvent State.logOwn State.logAs
  split
  · exact ⟨_, _, _, _, _, rfl, rfl, rfl⟩
  · exact ⟨_, _, _, _, _, rfl, rfl, rfl⟩
theorem State.cmkStep_cmk (s : State) {k : Cmk} (h : s.cmk.SameRequests k) : s.CmkStep { s with cmk := k } :=
  ⟨_, _, _, _, _, rfl, h⟩

theorem State.cmkStep_cmkPoke (s : State) (a : Nat) (v : W32) : s.CmkStep (s.cmkPoke a v) := by
  unfold State.cmkPoke
  split
  · exact ⟨_, _, _, _, _, rfl, rfl, rfl⟩
  · split
    · exact .refl s
    · exact ⟨_, _, _, _, _, rfl, rfl, rfl⟩

theorem State.cmkStep_cmkUndo (s : State) : s.CmkStep s.cmkUndo :=
  (State.each_inv (fun u => s.CmkStep u) s.cmk.journal (fun s e => s.cmkPoke e.1.toNat e.2) (fun u _ h => h.trans (u.cmkStep_cmkPoke _ _))
    s (.refl s)).trans (State.cmkStep_cmk _ ⟨rfl, rfl⟩)

theorem State.cmkStep_routineUndone (s : State) (r : Byte) (target : BitVec 24) : s.CmkStep (s.routineUndone r target) := by
  unfold State.routineUndone
  dsimp only
  split
  · exact ⟨_, _, _, _, _, rfl, rfl, rfl⟩
  · split
    · exact ⟨_, _, _, _, _, rfl, rfl, rfl⟩
    · exact .refl s

theorem State.cmkStep_cmkEnd (s : State) (ok : Bool) (result : Byte) : s.CmkStep (s.cmkEnd ok result) := by
  unfold State.cmkEnd
  split
  · exact .refl s
  · next c _ =>
    cases ok with
    | true => exact s.cmkStep_cmk ⟨rfl, rfl⟩
    | false =>
      have hundo := (s.cmkStep_cmkUndo.trans (State.cmkStep_count _ aCmkCnt 31 24 1)).trans
        (State.cmkStep_logEvent _ 0x0007 1 [c.routine, result])
      exact (hundo.trans (State.cmkStep_cmk _ ⟨rfl, rfl⟩)).trans (State.cmkStep_routineUndone _ _ _)

theorem State.cmkStep_cmkTakeInt (s : State) : s.CmkStep s.cmkTakeInt := by
  unfold State.cmkTakeInt State.cmkYield
  split
  · exact s.cmkStep_cmkEnd false 0xFD
  · split
    · split
      · exact .refl s
      · exact (s.cmkStep_count aCmkCnt 15 8 1).trans (State.cmkStep_cmk _ ⟨rfl, rfl⟩)
    · exact s.cmkStep_cmk ⟨rfl, rfl⟩

theorem State.cmkStep_cmkNotice (s : State) : s.CmkStep s.cmkNotice := by
  unfold State.cmkNotice
  split
  · exact .refl s
  · split
    · exact .refl s
    · split
      · exact s.cmkStep_cmkTakeInt
      · exact s.cmkStep_cmk ⟨rfl, rfl⟩

/-- A routine is queued, yielded or running with a target: a request for it is merged (R359). -/
def State.routineStands (s : State) (r : Byte) (target : BitVec 24) : Bool :=
  let same := fun (c : CmkCtx) => c.routine == r && c.target == target
  s.cmk.queue.any (fun q => q.routine == r && q.target == target) || s.cmk.yielded.any same
    || (match s.cmk.running with | none => false | some c => same c)

/-- A request enters the queue, and an interrupt that it means is noticed (R359, R361). -/
def State.queueRoutine (s : State) (q : CmkReq) : State := State.cmkNotice { s with cmk := { s.cmk with queue := s.cmk.queue ++ [q] } }

theorem State.cmkRequest_eq (s : State) (r : Byte) (target : BitVec 24) : s.cmkRequest r target =
    if s.routineStands r target = true then some (s.count aCmkCnt 7 0 1)
    else if 16 ≤ s.cmk.queue.length then none else some (s.queueRoutine ⟨r, target⟩) := rfl

theorem State.queueRoutine_queue (s : State) (q : CmkReq) : (s.queueRoutine q).cmk.queue = s.cmk.queue ++ [q] := by
  obtain ⟨k, r, l, b, g, h, hqueue, -⟩ := State.cmkStep_cmkNotice { s with cmk := { s.cmk with queue := s.cmk.queue ++ [q] } }
  rw [State.queueRoutine, h]
  exact hqueue

/-- A request that is taken is merged with one that stands, and counted, or it stands last in the queue. -/
theorem State.cmkRequest_cases {s t : State} {r : Byte} {target : BitVec 24} (h : s.cmkRequest r target = some t) :
    (s.routineStands r target = true ∧ t = s.count aCmkCnt 7 0 1)
      ∨ (s.routineStands r target = false ∧ t = s.queueRoutine ⟨r, target⟩) := by
  rw [State.cmkRequest_eq] at h
  split at h
  · next hstands => exact .inl ⟨hstands, (Option.some.inj h).symm⟩
  · next hnew =>
    split at h
    · cases h
    · exact .inr ⟨Bool.eq_false_iff.mpr hnew, (Option.some.inj h).symm⟩

theorem CmkReq.contains_eq_any (l : List CmkReq) (r : Byte) (target : BitVec 24) :
    l.contains ⟨r, target⟩ = l.any (fun q => q.routine == r && q.target == target) := by
  induction l with
  | nil => rfl
  | cons q l ih =>
    have hhead : ((⟨r, target⟩ : CmkReq) == q) = (q.routine == r && q.target == target) := by
      obtain ⟨qr, qt⟩ := q
      rw [Bool.eq_iff_iff, beq_iff_eq, Bool.and_eq_true, beq_iff_eq, beq_iff_eq, CmkReq.mk.injEq]
      exact ⟨fun ⟨hr, ht⟩ => ⟨hr.symm, ht.symm⟩, fun ⟨hr, ht⟩ => ⟨hr.symm, ht.symm⟩⟩
    rw [List.contains_cons, List.any_cons, ih, hhead]

/-- A request is wanted where it stands, or is kept to be made again (R359). -/
theorem State.routineWanted_eq (s : State) (r : Byte) (target : Nat) : s.routineWanted r target
    = (s.routineStands r (BitVec.ofNat 24 target) || s.cmk.asks.contains ⟨r, BitVec.ofNat 24 target⟩) := by
  unfold State.routineWanted State.routineStands
  dsimp only
  rw [CmkReq.contains_eq_any s.cmk.queue]
  cases s.cmk.running with
  | none => simp [Bool.or_comm, Bool.or_left_comm]
  | some c => simp [Bool.or_comm, Bool.or_left_comm]

/-- Whether a request stands is told by the Coremaker's lists and its running routine. -/
theorem State.routineWanted_congr {s t : State} (hq : t.cmk.queue = s.cmk.queue) (ha : t.cmk.asks = s.cmk.asks)
    (hy : t.cmk.yielded = s.cmk.yielded) (hr : t.cmk.running = s.cmk.running) (r : Byte) (target : Nat) :
    t.routineWanted r target = s.routineWanted r target := by
  unfold State.routineWanted
  rw [hq, ha, hy, hr]

/-- A request that is taken is wanted from then on. -/
theorem State.routineWanted_of_cmkRequest {s t : State} {r : Byte} {target : Nat}
    (h : s.cmkRequest r (BitVec.ofNat 24 target) = some t) : t.routineWanted r target = true := by
  rcases State.cmkRequest_cases h with ⟨hstands, rfl⟩ | ⟨-, rfl⟩
  · refine (State.routineWanted_congr (s := s) rfl rfl rfl rfl r target).trans ?_
    rw [State.routineWanted_eq, hstands, Bool.true_or]
  · simp [State.routineWanted, State.queueRoutine_queue]

theorem State.cmkRequest_withCmk {s t : State} {r : Byte} {target : BitVec 24} (h : s.cmkRequest r target = some t) :
    ∃ k g l b u, t = s.withCmk k g l b u := by
  rcases State.cmkRequest_cases h with ⟨-, rfl⟩ | ⟨-, rfl⟩
  · exact ⟨_, _, _, _, _, rfl⟩
  · obtain ⟨k, g, l, b, u, hnotice, -⟩ := State.cmkStep_cmkNotice { s with cmk := { s.cmk with queue := s.cmk.queue ++ [⟨r, target⟩] } }
    exact ⟨k, g, l, b, u, hnotice⟩

/-- A request that the module makes itself is wanted from then on: taken, or kept to be made again. -/
theorem State.routineWanted_routineAsk (s : State) (r : Byte) (target : Nat) : (s.routineAsk r target).routineWanted r target = true := by
  unfold State.routineAsk
  dsimp only
  split
  · next t h => exact State.routineWanted_of_cmkRequest h
  · have hask : (if s.cmk.asks.contains ⟨r, BitVec.ofNat 24 target⟩ = true then s.cmk.asks
        else s.cmk.asks ++ [⟨r, BitVec.ofNat 24 target⟩]).contains ⟨r, BitVec.ofNat 24 target⟩ = true := by
      split
      · assumption
      · simp
    rw [State.routineWanted_eq, hask, Bool.or_true]

/-- What a request leaves of the rest of the module (R359). -/
theorem State.cast_routineAsk (s : State) (r : Byte) (target : Nat) : (s.routineAsk r target).cast = s.cast := by
  unfold State.routineAsk
  dsimp only
  split
  · next t h =>
    obtain ⟨k, g, l, b, u, rfl⟩ := State.cmkRequest_withCmk h
    rfl
  · rfl

/-! ### Periodic requests (R358) -/

/-- A request that comes periodically: TIU_CAL, NV_SCRUB and, on the next channel, ADC_BG. -/
def State.periodicTarget (s : State) (r : Byte) : Nat := if r = 0x08 then s.cmk.bgNext else 0
/-- The occasion of a periodic request: its period has passed, or the ADC bank is ON. -/
def State.periodicDue (s : State) (r : Byte) : Prop :=
  r = 0x0A ∧ 10000000000 ≤ s.since s.cmk.lastTiu ∨ r = 0x21 ∧ 86400000000000 ≤ s.since s.cmk.lastScrub ∨ r = 0x08 ∧ (s.bank 5).st = .on
/-- The module makes periodic requests: it is up and no stop is under way. -/
def State.isUp (s : State) : Prop := s.boot.stage = 10 ∧ s.boot.stop = none
/-- The mark of a periodic request that was taken in state `s`: its period begins anew, or the next channel's turn comes. -/
def State.markPeriodic (s t : State) (r : Byte) : State :=
  if r = 0x0A then { t with cmk := { t.cmk with lastTiu := s.mono } }
  else if r = 0x21 then { t with cmk := { t.cmk with lastScrub := s.mono } }
  else { t with cmk := { t.cmk with bgNext := (s.cmk.bgNext + 1) % 32 } }

/-- What a periodic request leaves: marked where it was taken, else the state as it was. -/
def State.afterPeriodic (s : State) (r : Byte) (taken : Option State) : State :=
  match taken with
  | none => s
  | some t => s.markPeriodic t r

theorem exec_routinePeriodicRequest_of_due {s : State} {r : Byte} (hup : s.isUp) (hdue : s.periodicDue r) :
    exec (.routinePeriodicRequest r) s
      = .next (s.afterPeriodic r (s.cmkRequest r (BitVec.ofNat 24 (s.periodicTarget r)))) := by
  obtain ⟨hstage, hstop⟩ := hup
  have hrunning : ¬ (s.boot.stage ≠ 10 ∨ s.boot.stop.isSome = true) := by simp [hstage, hstop]
  rw [exec_routinePeriodicRequest, execRoutinePeriodicRequest, if_neg hrunning]
  rcases hdue with ⟨rfl, hdue⟩ | ⟨rfl, hdue⟩ | ⟨rfl, hdue⟩
  · rw [if_pos ⟨rfl, hdue⟩]
    rfl
  · rw [if_neg (by simp), if_pos ⟨rfl, hdue⟩]
    rfl
  · rw [if_neg (by simp), if_neg (by simp), if_pos ⟨rfl, hdue⟩]
    rfl

theorem exec_routinePeriodicRequest_of_not_due {s : State} {r : Byte} (h : ¬ s.isUp ∨ ¬ s.periodicDue r) :
    exec (.routinePeriodicRequest r) s = .next s := by
  rw [exec_routinePeriodicRequest, execRoutinePeriodicRequest]
  by_cases hrunning : s.boot.stage ≠ 10 ∨ s.boot.stop.isSome = true
  · rw [if_pos hrunning]
  · have hup : s.isUp := by simpa [State.isUp] using hrunning
    have hdue := h.resolve_left (not_not_intro hup)
    simp only [State.periodicDue, not_or] at hdue
    obtain ⟨htiu, hscrub, hbg⟩ := hdue
    rw [if_neg hrunning, if_neg htiu, if_neg hscrub, if_neg hbg]

/-- A periodic request that is not taken changes nothing: due or not, it comes again. -/
theorem exec_routinePeriodicRequest_of_refused {s : State} {r : Byte}
    (h : s.cmkRequest r (BitVec.ofNat 24 (s.periodicTarget r)) = none) : exec (.routinePeriodicRequest r) s = .next s := by
  by_cases hoccasion : s.isUp ∧ s.periodicDue r
  · rw [exec_routinePeriodicRequest_of_due hoccasion.1 hoccasion.2, h]
    rfl
  · exact exec_routinePeriodicRequest_of_not_due (not_and_or.mp hoccasion)

/-- The mark of a periodic request changes neither whether a request is wanted nor the queue. -/
theorem State.routineWanted_markPeriodic (s t : State) (r r' : Byte) (target : Nat) :
    (s.markPeriodic t r).routineWanted r' target = t.routineWanted r' target := by
  unfold State.markPeriodic
  split
  · exact State.routineWanted_congr rfl rfl rfl rfl r' target
  · split
    · exact State.routineWanted_congr rfl rfl rfl rfl r' target
    · exact State.routineWanted_congr rfl rfl rfl rfl r' target

theorem State.queue_markPeriodic (s t : State) (r : Byte) : (s.markPeriodic t r).cmk.queue = t.cmk.queue := by
  unfold State.markPeriodic
  split
  · rfl
  · split
    · rfl
    · rfl

/-- A mark changes the Coremaker's periods alone. -/
theorem State.markPeriodic_withCmk (s t : State) (r : Byte) : ∃ k, s.markPeriodic t r = { t with cmk := k } := by
  unfold State.markPeriodic
  split
  · exact ⟨_, rfl⟩
  · split
    · exact ⟨_, rfl⟩
    · exact ⟨_, rfl⟩

/-- With no routine running, a request that does not stand enters the queue last. -/
theorem State.cmkRequest_queue_of_idle {s t : State} {r : Byte} {target : Nat} (h : s.cmkRequest r (BitVec.ofNat 24 target) = some t)
    (hnew : s.routineWanted r target = false) : t.cmk.queue = s.cmk.queue ++ [⟨r, BitVec.ofNat 24 target⟩] := by
  rcases State.cmkRequest_cases h with ⟨hstands, -⟩ | ⟨-, rfl⟩
  · rw [State.routineWanted_eq, hstands, Bool.true_or] at hnew
    cases hnew
  · exact s.queueRoutine_queue _

/-! ### Waits and aborts (R357, R361) -/

section
variable {s : State} {c : CmkCtx} {t0 : W64}

theorem exec_cmkWaitTimeout_of_passed (hrun : s.cmk.running = some c) (hwait : c.waiting = some t0)
    (hlimit : waitLimit (microOf (s.microAt c.pc)) ≤ s.since t0) (hcond : s.cmkCond c (microOf (s.microAt c.pc)) = false) :
    exec .cmkWaitTimeout s
      = .next ((s.count aCmkCnt 23 16 1).cmkCtx { c with pc := (microOf (s.microAt c.pc)).alt.toNat, waiting := none }) := by
  simp [exec_cmkWaitTimeout, execCmkWaitTimeout, hrun, hwait, hlimit, hcond]

theorem exec_cmkWaitTimeout_of_not_waiting (h : s.cmk.running = none ∨ s.cmk.running = some c ∧ c.waiting = none) :
    exec .cmkWaitTimeout s = .next s := by
  rcases h with hidle | ⟨hrun, hwait⟩
  · simp [exec_cmkWaitTimeout, execCmkWaitTimeout, hidle]
  · simp [exec_cmkWaitTimeout, execCmkWaitTimeout, hrun, hwait]

theorem exec_cmkWaitTimeout_of_early (hrun : s.cmk.running = some c) (hwait : c.waiting = some t0)
    (h : s.since t0 < waitLimit (microOf (s.microAt c.pc)) ∨ s.cmkCond c (microOf (s.microAt c.pc)) = true) :
    exec .cmkWaitTimeout s = .next s := by
  have hstay : ¬ (waitLimit (microOf (s.microAt c.pc)) ≤ s.since t0 ∧ (!s.cmkCond c (microOf (s.microAt c.pc))) = true) := by
    rintro ⟨hlimit, hcond⟩
    rcases h with h | h
    · omega
    · simp [h] at hcond
  simp only [exec_cmkWaitTimeout, execCmkWaitTimeout, hrun, hwait, if_neg hstay]

theorem exec_cmkWaitSatisfied_of_cond (hrun : s.cmk.running = some c) (hwait : c.waiting = some t0)
    (hcond : s.cmkCond c (microOf (s.microAt c.pc)) = true) :
    exec .cmkWaitSatisfied s = .next (s.cmkCtx { c with pc := (microOf (s.microAt c.pc)).next.toNat, waiting := none }) := by
  simp [exec_cmkWaitSatisfied, execCmkWaitSatisfied, hrun, hwait, hcond]

/-- A wait on a bit among the internal trims: the command sets the bit and the routine goes on (R357). -/
theorem exec_cmkWaitSatisfied_of_trim (hrun : s.cmk.running = some c) (hwait : c.waiting = some t0) {w : MicroWord}
    (hw : microOf (s.microAt c.pc) = w) (hcond : s.cmkCond c w = false) (hbit : w.cond = 1) (htrim : w.addr.getLsbD 31 = true) :
    exec .cmkWaitSatisfied s = .next (State.cmkCtx
      (s.cmkPoke w.addr.toNat (withField (s.cmkPeek w.addr) (w.count.toNat % 32) (w.count.toNat % 32) (if w.pol = true then 0 else 1)))
      { c with pc := w.next.toNat, waiting := none }) := by
  have hpol : bitN (!w.pol) = if w.pol = true then 0 else 1 := by cases w.pol <;> rfl
  simp only [exec_cmkWaitSatisfied, execCmkWaitSatisfied, hrun, hwait, hw, hcond, hbit, htrim, hpol, Option.isNone_some, Bool.false_eq_true, if_false,
    and_self, if_true]

theorem exec_cmkWaitSatisfied_of_not_waiting (h : s.cmk.running = none ∨ s.cmk.running = some c ∧ c.waiting = none) :
    exec .cmkWaitSatisfied s = .next s := by
  rcases h with hidle | ⟨hrun, hwait⟩
  · simp [exec_cmkWaitSatisfied, execCmkWaitSatisfied, hidle]
  · simp [exec_cmkWaitSatisfied, execCmkWaitSatisfied, hrun, hwait]

theorem exec_cmkWaitSatisfied_of_unmet (hrun : s.cmk.running = some c) (hwait : c.waiting = some t0)
    (hcond : s.cmkCond c (microOf (s.microAt c.pc)) = false)
    (h : (microOf (s.microAt c.pc)).cond ≠ 1 ∨ (microOf (s.microAt c.pc)).addr.getLsbD 31 = false) :
    exec .cmkWaitSatisfied s = .next s := by
  have hstay : ¬ ((microOf (s.microAt c.pc)).cond = 1 ∧ (microOf (s.microAt c.pc)).addr.getLsbD 31 = true) := by
    rintro ⟨hbit, htrim⟩
    rcases h with h | h
    · exact h hbit
    · exact Bool.false_ne_true (h.symm.trans htrim)
  simp only [exec_cmkWaitSatisfied, execCmkWaitSatisfied, hrun, hwait, hcond, hstay, Option.isNone_some, Bool.false_eq_true, if_false]

theorem exec_forcedAbort_of_passed (hsince : s.cmk.intSince = some t0) (hint : s.cmkInt = true) (hpassed : 200000 ≤ s.since t0) :
    exec .forcedAbort s = .next (s.cmkEnd false 0xFD) := by
  simp [exec_forcedAbort, execForcedAbort, hsince, hint, hpassed]

theorem exec_forcedAbort_of_not (h : s.cmk.intSince = none ∨ s.cmkInt = false ∨ s.cmk.intSince = some t0 ∧ s.since t0 < 200000) :
    exec .forcedAbort s = .next s := by
  rcases h with hnone | hint | ⟨hsince, hearly⟩
  · simp [exec_forcedAbort, execForcedAbort, hnone]
  · cases hsince : s.cmk.intSince with
    | none => simp [exec_forcedAbort, execForcedAbort, hsince]
    | some t => simp [exec_forcedAbort, execForcedAbort, hsince, hint]
  · simp [exec_forcedAbort, execForcedAbort, hsince, Nat.not_le.mpr hearly]

end

/-! ### The reference returns (R23, R266, R268) -/

theorem State.cast_condAt (s : State) (e : Nat) (k : Cond) (t : Tick) : (s.condAt e k t).cast = s.cast := by
  unfold State.condAt
  split
  · rfl
  · rfl

/-- A new synchronisation state stands, whatever shots in flight take from it. -/
theorem State.cast_withCast (s : State) (c : CastSync) : (s.withCast c).cast = c := by
  unfold State.withCast
  dsimp only
  split
  · exact State.each_keeps State.cast _ _ (fun u _ => u.cast_condAt _ _ _) _
  · rfl

/-- The reference's return: the locked domains relock, a holdover keeps its cause, and PLL_LOCK is wanted. -/
theorem exec_refinReturn_of_lost {s : State} (h : s.cast.refinOk = false) : ∃ t, exec .refinReturn s = .next t
    ∧ t.cast = { s.cast with refinOk := true, pllLock := true, cause := if s.cast.st = .holdover then s.cast.cause else 0 }
    ∧ t.routineWanted 0x02 0 = true := by
  refine ⟨_, by rw [exec_refinReturn, execRefinReturn, h, if_neg Bool.false_ne_true], ?_, State.routineWanted_routineAsk _ _ _⟩
  rw [State.cast_routineAsk, State.cast_withCast]

theorem exec_refinReturn_of_ok {s : State} (h : s.cast.refinOk = true) : exec .refinReturn s = .next s := by
  simp [exec_refinReturn, execRefinReturn, h]

/-- Settles O41: a start by the best priority among the routines that may run, a periodic request by what `cmkRequest` leaves, and the rest
by the occasion of each command. -/
theorem routinesStartWaitAndAbort : Obligations.RoutinesStartWaitAndAbort := by
  intro s q l1 l2 c y1 y2 t0 r w v b waits idle may prio top up due target lock
  refine ⟨?_, ?_, ?_, ?_, ?_, ?_, ?_, ?_, ?_, ?_, ?_, ?_, ?_, ?_, ?_⟩
  · intro hidle hqueue hq hbefore hafter hyielded
    refine ⟨(s.drawScratch 31).1, ?_⟩
    rw [exec_routineStart_queued hidle hqueue hq hbefore hafter hyielded, State.drawScratch_snd]
    rfl
  · exact exec_routineStart_yielded
  · rintro (hrun | ⟨hyielded, hqueue⟩)
    · exact exec_routineStart_of_running hrun
    · exact exec_routineStart_of_no_candidate (List.filter_eq_nil_iff.mpr hyielded)
        (List.filter_eq_nil_iff.mpr fun z hz => by simp [hqueue z hz])
  · intro hasks
    rw [State.asksAgain, hasks]
    rfl
  · intro hup hdue hreq
    obtain ⟨t, ht⟩ := Option.isSome_iff_exists.mp hreq
    refine ⟨s.markPeriodic t r, ?_, fun _ => ?_, ?_, fun hidle hnew => ?_, ?_, ?_, ?_⟩
    · rw [exec_routinePeriodicRequest_of_due hup hdue]
      exact congrArg (fun x => Host.Outcome.next (s.afterPeriodic r x)) ht
    · rw [State.routineWanted_markPeriodic]
      exact State.routineWanted_of_cmkRequest ht
    · obtain ⟨k, g, l, b, u, rfl⟩ := State.cmkRequest_withCmk ht
      obtain ⟨k', hmark⟩ := s.markPeriodic_withCmk (s.withCmk k g l b u) r
      rw [hmark]
      rfl
    · rw [State.queue_markPeriodic]
      exact State.cmkRequest_queue_of_idle ht hnew
    · rintro rfl
      rfl
    · rintro rfl
      rfl
    · rintro rfl
      rfl
  · rintro (hup | hdue | hreq)
    · exact exec_routinePeriodicRequest_of_not_due (.inl hup)
    · exact exec_routinePeriodicRequest_of_not_due (.inr hdue)
    · exact exec_routinePeriodicRequest_of_refused (Option.not_isSome_iff_eq_none.mp (Bool.eq_false_iff.mp hreq))
  · rintro ⟨hrun, hwait⟩
    exact exec_cmkWaitTimeout_of_passed hrun hwait
  · rintro (hidle | hrun | ⟨⟨hrun, hwait⟩, h⟩)
    · exact exec_cmkWaitTimeout_of_not_waiting (c := c) (.inl hidle)
    · exact exec_cmkWaitTimeout_of_not_waiting (.inr hrun)
    · exact exec_cmkWaitTimeout_of_early hrun hwait h
  · rintro ⟨hrun, hwait⟩
    exact exec_cmkWaitSatisfied_of_cond hrun hwait
  · rintro ⟨hrun, hwait⟩
    exact exec_cmkWaitSatisfied_of_trim hrun hwait rfl
  · rintro (hidle | hrun | ⟨⟨hrun, hwait⟩, hcond, h⟩)
    · exact exec_cmkWaitSatisfied_of_not_waiting (c := c) (.inl hidle)
    · exact exec_cmkWaitSatisfied_of_not_waiting (.inr hrun)
    · exact exec_cmkWaitSatisfied_of_unmet hrun hwait hcond h
  · exact exec_forcedAbort_of_passed
  · exact exec_forcedAbort_of_not
  · exact fun hlost _ => exec_refinReturn_of_lost hlost
  · exact exec_refinReturn_of_ok

end Sys2Proof.Machine
end

section
/-! PROOF. A step is the command at the front of the queue, or one tick of the time bases and of the RF channels (R23, R46, R117, R124, R257;
log entry 3). -/

namespace Sys2Proof.Machine

/-! ### The clock (R23, R257) -/

theorem offsetOf_bounds (u n : Nat) : -(n : Int) ≤ offsetOf u n ∧ offsetOf u n ≤ n := by
  have hmod : u % (2 * n + 1) < 2 * n + 1 := Nat.mod_lt _ (by omega)
  unfold offsetOf
  omega

/-- The watch oscillator moves TB_MONO alone. -/
theorem Clock.monoTick_eq (c : Clock) (e : Int) : ∃ m f p, c.monoTick e = { c with mono := m, monoFrac := f, monoPhase := p } := by
  unfold Clock.monoTick
  dsimp only
  split
  · exact ⟨_, _, _, rfl⟩
  · exact ⟨_, _, _, rfl⟩

theorem Clock.monoTick_castRuns (c : Clock) (e : Int) : (c.monoTick e).castRuns = c.castRuns := by
  obtain ⟨m, f, p, h⟩ := c.monoTick_eq e
  rw [h]

/-- All time bases but TB_CAST in a tick (R257): the independent oscillators are off by `e` and `f` tenths of a ppm. -/
def Clock.freeTick (c : Clock) (e f rate castRate : Int) : Clock := ((c.monoTick e).linkTick f).sysTick rate castRate

theorem Clock.freeTick_cast (c : Clock) (e f rate castRate : Int) : (c.freeTick e f rate castRate).cast = c.cast := by
  obtain ⟨m, n, p, h⟩ := c.monoTick_eq e
  rw [Clock.freeTick, h]
  rfl

/-- TB_LINK moves by eight fifths of a column in a tick, within 200 ppm of its own reference (R23). -/
theorem Clock.freeTick_link (c : Clock) (e rate castRate : Int) {f : Int} (hlo : -2001 ≤ f) (hhi : f ≤ 2001) (hfrac : c.linkFrac < 50000000) :
    c.linkFrac + 79983992 ≤ 50000000 * ((c.freeTick e f rate castRate).link - c.link).toNat + (c.freeTick e f rate castRate).linkFrac
      ∧ 50000000 * ((c.freeTick e f rate castRate).link - c.link).toNat + (c.freeTick e f rate castRate).linkFrac
        ≤ c.linkFrac + 80016008 := by
  have hlink : (c.freeTick e f rate castRate).link = c.link + BitVec.ofNat 64 ((c.linkFrac + (8 * (10000000 + f)).toNat) / 50000000) := by
    obtain ⟨m, n, p, h⟩ := c.monoTick_eq e
    rw [Clock.freeTick, h]
    rfl
  have hlinkFrac : (c.freeTick e f rate castRate).linkFrac = (c.linkFrac + (8 * (10000000 + f)).toNat) % 50000000 := by
    obtain ⟨m, n, p, h⟩ := c.monoTick_eq e
    rw [Clock.freeTick, h]
    rfl
  rw [hlink, hlinkFrac, add_sub_cancel_left, BitVec.toNat_ofNat]
  omega

/-! ### Sessions with spent packet numbers (R306) -/

/-- No session of the module has this number. -/
def State.noSession (s : State) (sid : W32) : Prop := ∀ y ∈ s.sessions, y.id ≠ sid

theorem State.sessions_failUpload (s : State) (n : Nat) (failed : Bool) : (s.failUpload n failed).sessions = s.sessions := rfl
theorem State.sessions_logAs (s : State) (role : Byte) (sid : W32) (key : W64) (cls : BitVec 16) (d : List Byte) :
    (s.logAs role sid key cls d).sessions = s.sessions := by
  unfold State.logAs
  split
  · rfl
  · rfl

/-- A session that ends is gone, and the others stay. -/
theorem State.sessions_endSession (s : State) (sid : W32) : (s.endSession sid).sessions = s.sessions.filter (fun y => y.id != sid) := by
  unfold State.endSession
  split
  · next h =>
    have hall := List.find?_eq_none.mp h
    exact (List.filter_eq_self.mpr fun y hy => by simpa using hall y hy).symm
  · have hkeep := State.each_keeps State.sessions (s.segs.filter (fun g => g.2.uploading && g.2.owner == sid))
      (fun s g => s.failUpload g.1 false) (fun u g => u.sessions_failUpload g.1 false) s
    exact congrArg (List.filter (fun y => y.id != sid)) hkeep

theorem State.sessions_loseSession (s : State) (sid : W32) (cause : Byte) :
    (s.loseSession sid cause).sessions = s.sessions.filter (fun y => y.id != sid) := by
  unfold State.loseSession
  split
  · next h =>
    have hall := List.find?_eq_none.mp h
    exact (List.filter_eq_self.mpr fun y hy => by simpa using hall y hy).symm
  · rw [State.sessions_endSession, State.sessions_logAs]

/-- Sessions lost one after the other: the last lost are gone, and so are those that were gone. -/
theorem State.noSession_each_loseSession (l : List W32) (s : State) {sid : W32} (h : sid ∈ l ∨ s.noSession sid) :
    (s.each l (fun s id => s.loseSession id 4)).noSession sid := by
  induction l generalizing s with
  | nil => exact h.resolve_left (by simp)
  | cons id l ih =>
    refine ih (s.loseSession id 4) ?_
    rcases h with hmem | hnone
    · rcases List.mem_cons.mp hmem with rfl | hmem
      · right
        intro y hy
        rw [State.sessions_loseSession] at hy
        simpa using (List.mem_filter.mp hy).2
      · exact .inl hmem
    · right
      intro y hy
      rw [State.sessions_loseSession] at hy
      exact hnone y (List.mem_filter.mp hy).1

theorem State.closeSpent_of_unspent {s : State} (h : ∀ x ∈ s.sessions, x.txPkt < 2 ^ 40) : s.closeSpent = s := by
  have hnone : s.sessions.filter (fun x => decide (2 ^ 40 ≤ x.txPkt)) = [] :=
    List.filter_eq_nil_iff.mpr fun x hx => by simpa using h x hx
  rw [State.closeSpent, hnone]
  rfl

theorem State.noSession_closeSpent {s : State} {x : Session} (hx : x ∈ s.sessions) (h : 2 ^ 40 ≤ x.txPkt) :
    s.closeSpent.noSession x.id :=
  State.noSession_each_loseSession _ s (.inl (List.mem_map_of_mem (List.mem_filter.mpr ⟨hx, by simpa using h⟩)))

/-! ### The RF channels in a tick (R117-R130) -/

/-- A property that steps keep for the elements of a list, a fold over the list keeps. -/
theorem State.each_inv_mem {α : Type} (P : State → Prop) (l : List α) (f : State → α → State) (h : ∀ s, ∀ a ∈ l, P s → P (f s a)) (s : State)
    (hs : P s) : P (s.each l f) := by
  induction l generalizing s with
  | nil => exact hs
  | cons a l ih => exact ih (fun s b hb => h s b (List.mem_cons_of_mem a hb)) (f s a) (h s a List.mem_cons_self hs)

/-- The state with other RF channels, registers and tones: what a tick of an RF channel changes. -/
def State.withRf (s : State) (r : Tbl RfChan) (g : Tbl W32) (x : Tbl Tone) : State := { s with rf := r, regs := g, tones := x }

theorem State.clearPast_eq (s : State) (l : List Nat) : ∃ x, s.each l (fun s t =>
    if (s.tone t).past = [] then s else s.setTone t { s.tone t with past := [] }) = { s with tones := x } := by
  refine State.each_inv (fun u => ∃ x, u = { s with tones := x }) l _ ?_ s ⟨s.tones, rfl⟩
  rintro u t ⟨x, rfl⟩
  dsimp only
  split
  · exact ⟨x, rfl⟩
  · exact ⟨_, rfl⟩

/-- A tick of a channel whose plays have nothing to make or to drain. -/
theorem State.rfTick_of_idle {s : State} {ch : Nat} (h : s.rfBusy ch = false) : s.rfTick ch = s := by
  simp [State.rfTick, h]

/-- Every RF channel's block begins at a multiple of 4 KiB. -/
theorem rfBase_mod (ch : Nat) : rfBase ch % 0x1000 = 0 := by unfold rfBase; split <;> omega

/-- A tick's saturated samples are counted in CLIP and set STAT.clip (R128). -/
def State.clipped (s : State) (k n : Nat) : State := (s.count (aRfClip k) 31 0 n).setBit (aRfStat k) 16 true

theorem State.clipped_eq (s : State) (k n : Nat) : ∃ g, s.clipped k n = { s with regs := g } := ⟨_, rfl⟩

theorem State.reg_clipped (s : State) (k n : Nat) {a : Nat} (h4 : a % 0x1000 ≠ 4) (h8 : a % 0x1000 ≠ 8) :
    (s.clipped k n).reg a = s.reg a := by
  have hbase := rfBase_mod k
  have hstat : a ≠ aRfStat k := by unfold aRfStat; omega
  have hclip : a ≠ aRfClip k := by unfold aRfClip; omega
  exact (State.reg_setReg_other _ _ _ _ hstat).trans (State.reg_setReg_other _ _ _ _ hclip)

/-- What a channel holds after a tick (R117): its delay line, the codes under way and the sample queue. -/
def State.rfNext (s : State) (ch : Nat) : RfChan :=
  { s.rfch ch with
    line := settled ((s.rfLine ch).drop 12)
    pipe := settled ((s.rfPipe ch).drop 12)
    queue := settled ((padded 24 (s.rfch ch).queue ++ ((s.rfPipe ch).take 12).map (clampInt (-8192) 8191)).drop 12) }

/-- A tick of a busy channel, up to what it clears of its tones and counts of its clips. -/
theorem State.rfTick_of_busy {s : State} {ch : Nat} (h : s.rfBusy ch = true) : s.rfTick ch =
    let t := (s.setRfch ch (s.rfNext ch)).each (chanTones ch) (fun s t =>
      if (s.tone t).past = [] then s else s.setTone t { s.tone t with past := [] })
    if s.rfClips ch = 0 then t else t.clipped ch (s.rfClips ch) := by
  simp only [State.rfTick, State.rfNext, State.clipped, h, if_true]

theorem State.rfTick_eq (s : State) (ch : Nat) : ∃ r g x, s.rfTick ch = s.withRf r g x := by
  cases h : s.rfBusy ch with
  | false => exact ⟨s.rf, s.regs, s.tones, s.rfTick_of_idle h⟩
  | true =>
    obtain ⟨x, hx⟩ := (s.setRfch ch (s.rfNext ch)).clearPast_eq (chanTones ch)
    rw [State.rfTick_of_busy h, hx]
    dsimp only
    split
    · exact ⟨_, s.regs, x, rfl⟩
    · obtain ⟨g, hclipped⟩ := State.clipped_eq { s.setRfch ch (s.rfNext ch) with tones := x } ch (s.rfClips ch)
      exact ⟨_, g, x, hclipped⟩

/-- The channels after a tick of one: that one alone has moved. -/
theorem State.rfTick_rf (s : State) (ch : Nat) :
    (s.rfTick ch).rf = if s.rfBusy ch = true then (s.setRfch ch (s.rfNext ch)).rf else s.rf := by
  split
  · next h =>
    obtain ⟨x, hx⟩ := (s.setRfch ch (s.rfNext ch)).clearPast_eq (chanTones ch)
    rw [State.rfTick_of_busy h, hx]
    dsimp only
    split
    · rfl
    · rfl
  · next h => rw [State.rfTick_of_idle (Bool.eq_false_iff.mpr h)]

theorem State.rfch_rfTick_other (s : State) {ch k : Nat} (h : ch ≠ k) : (s.rfTick k).rfch ch = s.rfch ch := by
  rw [State.rfch, State.rfTick_rf]
  split
  · exact s.rfch_setRfch_other k ch _ h
  · rfl

theorem State.rfch_rfTick_same {s : State} (hwf : Tbl.wf (fun _ => RfChan.init) s.rf = true) (ch : Nat) :
    (s.rfTick ch).rfch ch = if s.rfBusy ch = true then s.rfNext ch else s.rfch ch := by
  rw [State.rfch, State.rfTick_rf]
  split
  · exact s.rfch_setRfch_same ch _ hwf
  · rfl

theorem State.rf_wf_rfTick {s : State} (hwf : Tbl.wf (fun _ => RfChan.init) s.rf = true) (ch : Nat) :
    Tbl.wf (fun _ => RfChan.init) (s.rfTick ch).rf = true := by
  rw [State.rfTick_rf]
  split
  · exact s.rf_wf_setRfch ch _ hwf
  · exact hwf

/-- A tick of a channel leaves its NCO correction. -/
theorem State.ncoFix_rfTick {s : State} (hwf : Tbl.wf (fun _ => RfChan.init) s.rf = true) (ch k : Nat) :
    ((s.rfTick k).rfch ch).ncoFix = (s.rfch ch).ncoFix := by
  rcases eq_or_ne ch k with rfl | hne
  · rw [State.rfch_rfTick_same hwf]
    split
    · rfl
    · rfl
  · rw [s.rfch_rfTick_other hne]

/-! ### What a channel's tick depends on -/

/-- The tones of a channel are its own. -/
theorem toneChan_of_mem {ch t : Nat} (h : t ∈ chanTones ch) : toneChan t = ch := by
  unfold chanTones at h
  unfold toneChan
  split at h
  · obtain ⟨i, hi, rfl⟩ := List.mem_map.mp h
    have := List.mem_range.mp hi
    rw [if_pos (by omega)]
    omega
  · obtain ⟨i, hi, rfl⟩ := List.mem_map.mp h
    have := List.mem_range.mp hi
    rw [if_neg (by omega)]
    omega

/-- Two states are alike for channel `ch`: what its tick reads is the same. -/
structure State.AlikeFor (ch : Nat) (s t : State) : Prop where
  chan : t.rfch ch = s.rfch ch
  tone : ∀ i ∈ chanTones ch, t.tone i = s.tone i
  reg : ∀ a, a % 0x1000 ≠ 4 → a % 0x1000 ≠ 8 → t.reg a = s.reg a
  segs : t.segs = s.segs
  dram : t.dram = s.dram
  banks : t.banks = s.banks
  clock : t.clock = s.clock

theorem State.AlikeFor.trans {ch : Nat} {s t u : State} (h : State.AlikeFor ch s t) (h' : State.AlikeFor ch t u) : State.AlikeFor ch s u where
  chan := h'.chan.trans h.chan
  tone i hi := (h'.tone i hi).trans (h.tone i hi)
  reg a h4 h8 := (h'.reg a h4 h8).trans (h.reg a h4 h8)
  segs := h'.segs.trans h.segs
  dram := h'.dram.trans h.dram
  banks := h'.banks.trans h.banks
  clock := h'.clock.trans h.clock

/-- Clearing the walks that ended in the tick leaves the tones of other channels. -/
theorem State.tone_clearPast_other (s : State) {l : List Nat} {i : Nat} (h : i ∉ l) : (s.each l (fun s t =>
    if (s.tone t).past = [] then s else s.setTone t { s.tone t with past := [] })).tone i = s.tone i := by
  refine State.each_inv_mem (fun u => u.tone i = s.tone i) l _ ?_ s rfl
  intro u t ht hu
  dsimp only
  split
  · exact hu
  · exact (u.tone_setTone_other t i _ (ne_of_mem_of_not_mem ht h).symm).trans hu

theorem State.alikeFor_clipped (s : State) (ch k n : Nat) : State.AlikeFor ch s (s.clipped k n) := by
  have hreg : ∀ a, a % 0x1000 ≠ 4 → a % 0x1000 ≠ 8 → (s.clipped k n).reg a = s.reg a := fun _ h4 h8 => s.reg_clipped k n h4 h8
  obtain ⟨g, hg⟩ := s.clipped_eq k n
  rw [hg] at hreg ⊢
  exact ⟨rfl, fun _ _ => rfl, hreg, rfl, rfl, rfl, rfl⟩

/-- A tick of another channel leaves what the tick of channel `ch` reads. -/
theorem State.alikeFor_rfTick (s : State) {ch k : Nat} (h : ch ≠ k) : State.AlikeFor ch s (s.rfTick k) := by
  cases hbusy : s.rfBusy k with
  | false =>
    rw [State.rfTick_of_idle hbusy]
    exact ⟨rfl, fun _ _ => rfl, fun _ _ _ => rfl, rfl, rfl, rfl, rfl⟩
  | true =>
    have htones : ∀ i ∈ chanTones ch, i ∉ chanTones k := fun i hi hk => h ((toneChan_of_mem hi).symm.trans (toneChan_of_mem hk))
    obtain ⟨x, hx⟩ := (s.setRfch k (s.rfNext k)).clearPast_eq (chanTones k)
    have htone : ∀ i ∈ chanTones ch, Tbl.get x i Tone.init = s.tone i := fun i hi => by
      have := (s.setRfch k (s.rfNext k)).tone_clearPast_other (htones i hi)
      rwa [hx] at this
    have halike : State.AlikeFor ch s { s.setRfch k (s.rfNext k) with tones := x } :=
      ⟨s.rfch_setRfch_other k ch _ h, htone, fun _ _ _ => rfl, rfl, rfl, rfl, rfl⟩
    rw [State.rfTick_of_busy hbusy, hx]
    dsimp only
    split
    · exact halike
    · exact halike.trans (State.alikeFor_clipped _ ch k _)

/-- Channel `ch` makes the same samples in alike states. -/
theorem State.AlikeFor.envelope {ch : Nat} {s t : State} (h : State.AlikeFor ch s t) (p : Play) (m : Nat) :
    t.envelope p m = s.envelope p m := by
  have hmem : ∀ a n, t.loadBytes a n = s.loadBytes a n := fun a n => by simp only [State.loadBytes, State.mem, h.dram]
  have hseg : ∀ n, t.seg n = s.seg n := fun n => by simp only [State.seg, h.segs]
  have hpat : ∀ j, t.patSample p j = s.patSample p j := fun j => by simp only [State.patSample, State.storedSample, hmem, hseg]
  simp only [State.envelope, hpat, hseg]

theorem State.AlikeFor.toneSample {ch : Nat} {s t : State} (h : State.AlikeFor ch s t) {i : Nat} (hi : i ∈ chanTones ch) (n : Nat) :
    t.toneSample i n = s.toneSample i n := by
  have hgain : t.reg (aTgain (toneChan i) (toneIdx i)) = s.reg (aTgain (toneChan i) (toneIdx i)) := by
    have hbase := rfBase_mod (toneChan i)
    have hidx : toneIdx i < 16 := by unfold toneIdx; split <;> omega
    apply h.reg
    · unfold aTgain; omega
    · unfold aTgain; omega
  simp only [State.toneSample, State.fld, State.now, h.tone i hi, h.envelope, hgain, h.clock]

theorem State.AlikeFor.rfNext {ch : Nat} {s t : State} (h : State.AlikeFor ch s t) : t.rfNext ch = s.rfNext ch := by
  have hruns : t.rfRuns ch = s.rfRuns ch := by simp only [State.rfRuns, State.bank, h.banks]
  have hsum : ∀ n, t.chanSum ch n = s.chanSum ch n := fun n =>
    congrArg List.sum (List.map_congr_left fun i hi => h.toneSample hi n)
  have htap : ∀ k < 16, t.eqTap ch k = s.eqTap ch k := fun k hk => by
    have hbase := rfBase_mod ch
    have hreg : t.reg (aEqTap ch k) = s.reg (aEqTap ch k) := by
      apply h.reg
      · unfold aEqTap; omega
      · unfold aEqTap; omega
    simp only [State.eqTap, State.fld, hreg]
  have hline : t.rfLine ch = s.rfLine ch := by simp only [State.rfLine, State.now, hruns, hsum, h.chan, h.clock]
  have hequalise : ∀ l, t.equalise ch l = s.equalise ch l := fun l =>
    congrArg List.sum (List.map_congr_left fun k hk => by rw [htap k (List.mem_range.mp hk)])
  have hpipe : t.rfPipe ch = s.rfPipe ch := by simp only [State.rfPipe, State.rfRaw, hline, hequalise, h.chan]
  simp only [State.rfNext, h.chan, hline, hpipe]

theorem State.AlikeFor.rfBusy {ch : Nat} {s t : State} (h : State.AlikeFor ch s t) : t.rfBusy ch = s.rfBusy ch := by
  have htones : (chanTones ch).any (fun i => (t.tone i).play.isSome || (t.tone i).past != [])
      = (chanTones ch).any (fun i => (s.tone i).play.isSome || (s.tone i).past != []) := by
    rw [Bool.eq_iff_iff, List.any_eq_true, List.any_eq_true]
    exact exists_congr fun i => and_congr_right fun hi => by rw [h.tone i hi]
  simp only [State.rfBusy, h.chan, htones]

/-- The tick of channel `ch` gives the channel the same state from alike states. -/
theorem State.AlikeFor.rfTick {ch : Nat} {s t : State} (h : State.AlikeFor ch s t) (hs : Tbl.wf (fun _ => RfChan.init) s.rf = true)
    (ht : Tbl.wf (fun _ => RfChan.init) t.rf = true) : (t.rfTick ch).rfch ch = (s.rfTick ch).rfch ch := by
  rw [State.rfch_rfTick_same ht, State.rfch_rfTick_same hs, h.rfNext, h.rfBusy, h.chan]

/-- Ticks of other channels leave what the tick of channel `ch` reads. -/
theorem State.alikeFor_each_rfTick {ch : Nat} {l : List Nat} (h : ch ∉ l) (s : State) : State.AlikeFor ch s (s.each l State.rfTick) :=
  State.each_inv_mem (fun u => State.AlikeFor ch s u) l State.rfTick
    (fun u _ hk hu => hu.trans (u.alikeFor_rfTick (ne_of_mem_of_not_mem hk h).symm)) s
    ⟨rfl, fun _ _ => rfl, fun _ _ _ => rfl, rfl, rfl, rfl, rfl⟩

theorem State.rf_wf_each_rfTick {s : State} (hwf : Tbl.wf (fun _ => RfChan.init) s.rf = true) (l : List Nat) :
    Tbl.wf (fun _ => RfChan.init) (s.each l State.rfTick).rf = true :=
  State.each_inv (fun u => Tbl.wf (fun _ => RfChan.init) u.rf = true) l State.rfTick (fun _ k hu => State.rf_wf_rfTick hu k) s hwf

/-- When each of some channels has had its tick, channel `ch` among them stands as its own tick leaves it in a state alike for it. -/
theorem State.rfch_each_rfTick {s t : State} {ch : Nat} {l : List Nat} (hnodup : l.Nodup) (hmem : ch ∈ l)
    (h : State.AlikeFor ch s t) (hs : Tbl.wf (fun _ => RfChan.init) s.rf = true) (ht : Tbl.wf (fun _ => RfChan.init) t.rf = true) :
    (t.each l State.rfTick).rfch ch = (s.rfTick ch).rfch ch := by
  obtain ⟨before, after, rfl⟩ := List.append_of_mem hmem
  have hout : ch ∉ before ++ after := (List.nodup_middle.mp hnodup).notMem
  rw [List.mem_append, not_or] at hout
  have hbefore := State.alikeFor_each_rfTick hout.1 t
  have hafter := (State.alikeFor_each_rfTick hout.2 ((t.each before State.rfTick).rfTick ch)).chan
  have hsplit : t.each (before ++ ch :: after) State.rfTick = ((t.each before State.rfTick).rfTick ch).each after State.rfTick := by
    simp only [State.each, List.foldl_append, List.foldl_cons]
  rw [hsplit, hafter, (h.trans hbefore).rfTick hs (State.rf_wf_each_rfTick ht before)]

theorem State.ncoFix_each_rfTick {s : State} (hwf : Tbl.wf (fun _ => RfChan.init) s.rf = true) (l : List Nat) (ch : Nat) :
    ((s.each l State.rfTick).rfch ch).ncoFix = (s.rfch ch).ncoFix :=
  (State.each_inv (fun u => Tbl.wf (fun _ => RfChan.init) u.rf = true ∧ (u.rfch ch).ncoFix = (s.rfch ch).ncoFix) l State.rfTick
    (fun _ k ⟨hu, hfix⟩ => ⟨State.rf_wf_rfTick hu k, (State.ncoFix_rfTick hu ch k).trans hfix⟩) s ⟨hwf, rfl⟩).2

theorem State.each_rfTick_eq (s : State) (l : List Nat) : ∃ r g x, s.each l State.rfTick = s.withRf r g x := by
  refine State.each_inv (fun u => ∃ r g x, u = s.withRf r g x) l State.rfTick ?_ s ⟨s.rf, s.regs, s.tones, rfl⟩
  rintro u ch ⟨r, g, x, rfl⟩
  obtain ⟨r', g', x', h⟩ := (s.withRf r g x).rfTick_eq ch
  exact ⟨r', g', x', h⟩

/-! ### NCO corrections, ADC channels and Runner links in a tick (R124, R157, R230) -/

/-- The state with other RF channels, tones and runs: what an NCO correction and a change of mute can change. -/
def State.withMute (s : State) (r : Tbl RfChan) (x : Tbl Tone) (l : List Run) : State := { s with rf := r, tones := x, runs := l }

theorem State.playCleared_eq (s : State) (t n : Nat) (tick : Tick) : ∃ l, s.playCleared t n tick = { s with runs := l } := by
  unfold State.playCleared
  split
  · exact ⟨s.runs, rfl⟩
  · exact ⟨_, rfl⟩

theorem State.muteHits_eq (s : State) (ch : Nat) (tick : Tick) : ∃ l, s.muteHits ch tick = { s with runs := l } := by
  refine State.each_inv (fun u => ∃ l, u = { s with runs := l }) (chanTones ch) _ ?_ s ⟨s.runs, rfl⟩
  rintro u t ⟨l, rfl⟩
  dsimp only
  refine State.each_inv (fun u => ∃ l, u = { s with runs := l }) _ _ ?_ _ ?_
  · rintro u q ⟨l', rfl⟩
    obtain ⟨l'', h⟩ := State.playCleared_eq { s with runs := l' } t q.1 _
    exact ⟨l'', h⟩
  · split
    · exact ⟨l, rfl⟩
    · next p _ =>
      obtain ⟨l'', h⟩ := State.playCleared_eq { s with runs := l } t p.begin _
      exact ⟨l'', h⟩

theorem State.reseed_eq (s : State) (l : List Nat) (t : Tick) :
    ∃ x, s.each l (fun s i => s.setTone i ((s.tone i).reseed t)) = { s with tones := x } := by
  refine State.each_inv (fun u => ∃ x, u = { s with tones := x }) l _ ?_ s ⟨s.tones, rfl⟩
  rintro u i ⟨x, rfl⟩
  exact ⟨_, rfl⟩

/-- An operation on channel `ch` alone: other tones and runs may change with it, and no other channel. -/
def State.MuteStep (ch : Nat) (s t : State) : Prop := ∃ r x l, t = s.withMute r x l ∧ ∀ k, k ≠ ch → Tbl.get r k RfChan.init = s.rfch k

theorem State.MuteStep.refl (ch : Nat) (s : State) : State.MuteStep ch s s := ⟨s.rf, s.tones, s.runs, rfl, fun _ _ => rfl⟩
theorem State.MuteStep.trans {ch : Nat} {s t u : State} (h : State.MuteStep ch s t) (h' : State.MuteStep ch t u) : State.MuteStep ch s u := by
  obtain ⟨r, x, l, rfl, hr⟩ := h
  obtain ⟨r', x', l', rfl, hr'⟩ := h'
  exact ⟨r', x', l', rfl, fun k hk => (hr' k hk).trans (hr k hk)⟩

theorem State.muteStep_setRfch (s : State) (ch : Nat) (y : RfChan) : State.MuteStep ch s (s.setRfch ch y) :=
  ⟨_, _, _, rfl, fun k hk => s.rfch_setRfch_other ch k y hk⟩
theorem State.muteStep_tones (s : State) (ch : Nat) (x : Tbl Tone) : State.MuteStep ch s { s with tones := x } :=
  ⟨_, _, _, rfl, fun _ _ => rfl⟩
theorem State.muteStep_runs (s : State) (ch : Nat) (l : List Run) : State.MuteStep ch s { s with runs := l } :=
  ⟨_, _, _, rfl, fun _ _ => rfl⟩

/-- A judgement of a channel's mute changes the channel, its tones, and the shots that the mute meets (R133, R135). -/
theorem State.muteStep_judgeMute (s : State) (ch : Nat) (tick : Tick) : State.MuteStep ch s (s.judgeMute ch tick) := by
  unfold State.judgeMute
  dsimp only
  split
  · split
    · exact .refl ch s
    · obtain ⟨l, h⟩ := State.muteHits_eq (s.setRfch ch { s.rfch ch with st := .muted, since := tick }) ch tick
      rw [h]
      exact (s.muteStep_setRfch ch _).trans (State.muteStep_runs _ ch l)
  · split
    · obtain ⟨x, h⟩ := s.reseed_eq (chanTones ch) tick
      rw [h]
      exact (s.muteStep_tones ch x).trans (State.muteStep_setRfch _ ch _)
    · exact .refl ch s

theorem State.ncoStep_of_none {s : State} {ch : Nat} (h : (s.rfch ch).ncoFix = none) : s.ncoStep ch = s := by
  simp [State.ncoStep, h]

/-- An NCO correction re-seeds its tones and mutes or releases its channel (R124). -/
theorem State.muteStep_ncoStep (s : State) (ch : Nat) : State.MuteStep ch s (s.ncoStep ch) := by
  unfold State.ncoStep
  split
  · exact .refl ch s
  · next f ts _ =>
    split
    · obtain ⟨x, h⟩ := s.reseed_eq ts f
      rw [h]
      exact (s.muteStep_tones ch x).trans (State.muteStep_judgeMute _ ch _)
    · split
      · exact (s.muteStep_setRfch ch _).trans (State.muteStep_judgeMute _ ch _)
      · exact .refl ch s

theorem State.each_ncoStep_eq (s : State) (l : List Nat) : ∃ r x runs, s.each l State.ncoStep = s.withMute r x runs := by
  refine State.each_inv (fun u => ∃ r x runs, u = s.withMute r x runs) l State.ncoStep ?_ s ⟨s.rf, s.tones, s.runs, rfl⟩
  rintro u ch ⟨r, x, runs, rfl⟩
  obtain ⟨r', x', runs', h, -⟩ := (s.withMute r x runs).muteStep_ncoStep ch
  exact ⟨r', x', runs', h⟩

/-- A channel with no correction under way is left as it is. -/
theorem State.rfch_each_ncoStep {s : State} {ch : Nat} (h : (s.rfch ch).ncoFix = none) (l : List Nat) :
    (s.each l State.ncoStep).rfch ch = s.rfch ch := by
  refine State.each_inv (fun u => u.rfch ch = s.rfch ch) l State.ncoStep (fun u k hu => ?_) s rfl
  rcases eq_or_ne ch k with rfl | hne
  · rw [State.ncoStep_of_none (by rw [hu, h]), hu]
  · obtain ⟨r, x, runs, hstep, hr⟩ := u.muteStep_ncoStep k
    rw [hstep]
    exact (hr ch hne).trans hu

theorem State.each_ncoStep_of_none {s : State} (h : ∀ ch, (s.rfch ch).ncoFix = none) (l : List Nat) : s.each l State.ncoStep = s :=
  State.each_inv (fun u => u = s) l State.ncoStep (fun u k hu => by rw [hu, State.ncoStep_of_none (h k)]) s rfl

theorem State.adcTick_eq (s : State) : ∃ a, s.adcTick = { s with adc := a } := by
  unfold State.adcTick
  split
  · refine State.each_inv (fun u => ∃ a, u = { s with adc := a }) (List.range 32) _ ?_ s ⟨s.adc, rfl⟩
    rintro u ch ⟨a, rfl⟩
    exact ⟨_, rfl⟩
  · exact ⟨s.adc, rfl⟩

theorem State.adcTick_of_off {s : State} (h : (s.bank 5).st ≠ .on) : s.adcTick = s := if_neg h

/-- The state with other ports and things sent: what a tick of a Runner link can change. -/
def State.withLinks (s : State) (p : Tbl Port) (x : List Sent) : State := { s with ports := p, sent := x }

/-- The fill of a port's buffers after a tick: the drift of the two ends, and what a filler sequence brings back (R231). -/
def Port.drifted (x : Port) (u : W64) (p : Nat) : Port :=
  let drift := match (u.toNat / 4 ^ p) % 4 with | 1 => x.fill + 1 | 2 => x.fill - 1 | _ => x.fill
  let come := u.getLsbD (16 + p)
  let fill := if !come then drift else if drift < 12 then drift + 2 else if 20 < drift then drift - 2 else drift
  { x with fill := min fill 32 }

theorem State.linkPort_of_buffers {s : State} {p : Nat} (h : (s.port p).buffers = true) (u : W64) : s.linkPort u p =
    let t := s.setPort p ((s.port p).drifted u p)
    if (s.port p).carries = true ∧ 4000 ≤ t.cols (s.port p).lastFiller then t.sendFiller p else t := by
  unfold State.linkPort
  rw [if_pos h]
  rfl

/-- An operation on port `p` alone. -/
def State.LinkStep (p : Nat) (s t : State) : Prop := ∃ l x, t = s.withLinks l x ∧ ∀ k, k ≠ p → Tbl.get l k Port.init = s.port k

theorem State.LinkStep.trans {p : Nat} {s t u : State} (h : State.LinkStep p s t) (h' : State.LinkStep p t u) : State.LinkStep p s u := by
  obtain ⟨l, x, rfl, hl⟩ := h
  obtain ⟨l', x', rfl, hl'⟩ := h'
  exact ⟨l', x', rfl, fun k hk => (hl' k hk).trans (hl k hk)⟩

theorem State.linkStep_setPort (s : State) (p : Nat) (y : Port) : State.LinkStep p s (s.setPort p y) :=
  ⟨_, _, rfl, fun k hk => s.port_setPort_other p k y hk⟩
theorem State.linkStep_sendFiller (s : State) (p : Nat) : State.LinkStep p s (s.sendFiller p) :=
  ⟨_, _, rfl, fun k hk => s.port_setPort_other p k _ hk⟩

theorem State.linkPort_of_no_buffers {s : State} {p : Nat} (h : (s.port p).buffers = false) (u : W64) : s.linkPort u p = s :=
  if_neg (by simp [h])

/-- A tick of port `p`'s link changes that port alone (R230, R231). -/
theorem State.linkStep_linkPort (s : State) (u : W64) (p : Nat) : State.LinkStep p s (s.linkPort u p) := by
  cases hbuf : (s.port p).buffers with
  | false =>
    rw [State.linkPort_of_no_buffers hbuf]
    exact ⟨s.ports, s.sent, rfl, fun _ _ => rfl⟩
  | true =>
    rw [State.linkPort_of_buffers hbuf]
    dsimp only
    split
    · exact (s.linkStep_setPort p _).trans (State.linkStep_sendFiller _ p)
    · exact s.linkStep_setPort p _

/-- A tick of the links leaves every port without buffers. -/
theorem State.each_linkPort_eq (s : State) (u : W64) (l : List Nat) : ∃ ports x, s.each l (fun t p => t.linkPort u p) = s.withLinks ports x
    ∧ ∀ k, (s.port k).buffers = false → Tbl.get ports k Port.init = s.port k := by
  refine State.each_inv (fun t => ∃ ports x, t = s.withLinks ports x
    ∧ ∀ k, (s.port k).buffers = false → Tbl.get ports k Port.init = s.port k) l _ ?_ s ⟨s.ports, s.sent, rfl, fun _ _ => rfl⟩
  rintro t p ⟨ports, x, rfl, hports⟩
  cases hbuf : ((s.withLinks ports x).port p).buffers with
  | false =>
    rw [State.linkPort_of_no_buffers hbuf]
    exact ⟨ports, x, rfl, hports⟩
  | true =>
    obtain ⟨ports', x', h, hother⟩ := (s.withLinks ports x).linkStep_linkPort u p
    refine ⟨ports', x', h, fun k hk => ?_⟩
    have hne : k ≠ p := by
      rintro rfl
      have hsame : (s.withLinks ports x).port k = s.port k := hports k hk
      rw [hsame, hk] at hbuf
      cases hbuf
    exact (hother k hne).trans (hports k hk)

/-! ### A tick (R257) -/

/-- The state in which the RF channels make the tick's samples: three free values are drawn, held starts have moved, and bit errors may have
come to program memory, of the value `u`, and to an accumulator, of `v` (R31, R46, R124). -/
def State.tickStart (s : State) (u v : W64) : State :=
  { s with free := s.free + 3, runs := s.slideStarts.runs, prog := upsetProg u s.prog, tones := upsetTone v s.tones }

/-- The clock of PD27 after a tick, with the free value `u` for the independent oscillators. -/
def State.tickClock (s : State) (u : Nat) : Clock :=
  let c := s.clock.freeTick (offsetOf u 1001) (offsetOf (u / 2 ^ 32) 2001) s.sys.servo.rate s.cast.servo.rate
  { c with cast := c.cast + 1 }

/-- The values that tell of bit errors in a tick, in program memory and in an accumulator. -/
def State.progUpset (s : State) : W64 := Config.freeValue (s.free + 1)
def State.toneUpset (s : State) : W64 := Config.freeValue (s.free + 2)

/-- The clock at another time. -/
def State.withClock (s : State) (c : Clock) : State := { s with clock := c }
/-- NCO corrections come, and the ADC channels take their samples (R124, R157). -/
def State.correct (s : State) : State := (s.each (s.rf.map (fun x => x.1)) State.ncoStep).adcTick
/-- The Runner links move, by one more free value (R230, R231). -/
def State.moveLinks (s : State) : State := s.draw.2.each (s.ports.map (fun x => x.1)) (fun t p => t.linkPort s.draw.1 p)

/-- The RF channels have made the tick's samples, and the clock has moved. -/
def State.sampled (s : State) : State :=
  ((s.tickStart s.progUpset s.toneUpset).each (List.range 96) State.rfTick).withClock (s.tickClock (Config.freeValue s.free).toNat)

/-- A tick with the PLLs locked. -/
def State.lockedTick (s : State) : State := s.sampled.correct.moveLinks

theorem State.tick_of_locked {s : State} (hpower : s.supply.unpowered = false) (hlocked : s.closeSpent.clock.castRuns = true) :
    s.tick = s.closeSpent.lockedTick := by
  have hruns := (s.closeSpent.clock.monoTick_castRuns (offsetOf s.closeSpent.draw.1.toNat 1001)).trans hlocked
  unfold State.tick
  rw [if_neg (by simp [hpower])]
  exact if_pos hruns

theorem State.tick_of_unlocked {s : State} (hpower : s.supply.unpowered = false) (hlocked : s.closeSpent.clock.castRuns = false) :
    s.tick = { s.closeSpent with
      free := s.closeSpent.free + 1
      clock := s.closeSpent.clock.monoTick (offsetOf (Config.freeValue s.closeSpent.free).toNat 1001) } := by
  have hruns := (s.closeSpent.clock.monoTick_castRuns (offsetOf s.closeSpent.draw.1.toNat 1001)).trans hlocked
  unfold State.tick
  rw [if_neg (by simp [hpower])]
  exact if_neg fun h => Bool.false_ne_true (hruns.symm.trans h)

theorem State.correct_eq (s : State) : ∃ r x l a, s.correct = { s.withMute r x l with adc := a } := by
  obtain ⟨r, x, l, h⟩ := s.each_ncoStep_eq (s.rf.map (fun x => x.1))
  obtain ⟨a, ha⟩ := (s.withMute r x l).adcTick_eq
  refine ⟨r, x, l, a, ?_⟩
  rw [State.correct, h, ha]

theorem State.adc_correct {s : State} (h : (s.bank 5).st ≠ .on) : s.correct.adc = s.adc := by
  obtain ⟨r, x, l, hnco⟩ := s.each_ncoStep_eq (s.rf.map (fun x => x.1))
  rw [State.correct, hnco, State.adcTick_of_off (s := s.withMute r x l) h]
  rfl

theorem State.rfch_correct {s : State} {ch : Nat} (h : (s.rfch ch).ncoFix = none) : s.correct.rfch ch = s.rfch ch := by
  obtain ⟨a, hadc⟩ := (s.each (s.rf.map (fun x => x.1)) State.ncoStep).adcTick_eq
  rw [State.correct, hadc]
  exact State.rfch_each_ncoStep h _

theorem State.runs_correct {s : State} (h : ∀ ch, (s.rfch ch).ncoFix = none) : s.correct.runs = s.runs := by
  obtain ⟨a, hadc⟩ := s.adcTick_eq
  rw [State.correct, State.each_ncoStep_of_none h, hadc]

theorem State.moveLinks_eq (s : State) : ∃ ports x, s.moveLinks = s.draw.2.withLinks ports x
    ∧ ∀ k, (s.port k).buffers = false → Tbl.get ports k Port.init = s.port k :=
  State.each_linkPort_eq s.draw.2 s.draw.1 _

theorem State.rfch_moveLinks (s : State) (ch : Nat) : s.moveLinks.rfch ch = s.rfch ch := by
  obtain ⟨ports, x, h, -⟩ := s.moveLinks_eq
  rw [h]
  rfl
theorem State.port_moveLinks {s : State} {k : Nat} (h : (s.port k).buffers = false) : s.moveLinks.port k = s.port k := by
  obtain ⟨ports, x, hlinks, hports⟩ := s.moveLinks_eq
  rw [hlinks]
  exact hports k h

theorem State.adc_moveLinks (s : State) : s.moveLinks.adc = s.adc := by
  obtain ⟨ports, x, h, -⟩ := s.moveLinks_eq
  rw [h]
  rfl
theorem State.runs_moveLinks (s : State) : s.moveLinks.runs = s.runs := by
  obtain ⟨ports, x, h, -⟩ := s.moveLinks_eq
  rw [h]
  rfl

theorem State.rfch_withClock (s : State) (c : Clock) (ch : Nat) : (s.withClock c).rfch ch = s.rfch ch := rfl

theorem State.sampled_eq (s : State) : ∃ r g x, s.sampled
    = ((s.tickStart s.progUpset s.toneUpset).withRf r g x).withClock (s.tickClock (Config.freeValue s.free).toNat) := by
  obtain ⟨r, g, x, h⟩ := (s.tickStart s.progUpset s.toneUpset).each_rfTick_eq (List.range 96)
  refine ⟨r, g, x, ?_⟩
  rw [State.sampled, h]

/-- What a tick with the PLLs locked leaves as it was, and the clock and program memory after it. -/
theorem State.lockedTick_frame (s : State) : s.lockedTick.clock = s.tickClock (Config.freeValue s.free).toNat
    ∧ s.lockedTick.dram = s.dram ∧ s.lockedTick.sys = s.sys ∧ s.lockedTick.pending = s.pending
    ∧ s.lockedTick.prog = upsetProg s.progUpset s.prog ∧ s.lockedTick.sessions = s.sessions := by
  obtain ⟨ports, sent, hlinks, -⟩ := s.sampled.correct.moveLinks_eq
  obtain ⟨r, x, l, a, hcorrect⟩ := s.sampled.correct_eq
  obtain ⟨r', g, x', hsampled⟩ := s.sampled_eq
  rw [State.lockedTick, hlinks, hcorrect, hsampled]
  exact ⟨rfl, rfl, rfl, rfl, rfl, rfl⟩

/-- A port without buffers is left as it is. -/
theorem State.port_lockedTick {s : State} {k : Nat} (h : (s.port k).buffers = false) : s.lockedTick.port k = s.port k := by
  have hsame : s.sampled.correct.port k = s.port k := by
    obtain ⟨r, x, l, a, hcorrect⟩ := s.sampled.correct_eq
    obtain ⟨r', g, x', hsampled⟩ := s.sampled_eq
    rw [hcorrect, hsampled]
    rfl
  rw [State.lockedTick, State.port_moveLinks (by rw [hsame, h]), hsame]

/-- With the ADC bank not ON the ADC channels stand still. -/
theorem State.adc_lockedTick {s : State} (h : (s.bank 5).st ≠ .on) : s.lockedTick.adc = s.adc := by
  obtain ⟨r, g, x, hsampled⟩ := s.sampled_eq
  rw [State.lockedTick, State.adc_moveLinks, hsampled]
  exact State.adc_correct h

section
variable {s : State} (hrf : Tbl.wf (fun _ => RfChan.init) s.rf = true)
include hrf

/-- The NCO correction of a channel is what it was when the samples have been made. -/
theorem State.ncoFix_sampled (ch : Nat) : (s.sampled.rfch ch).ncoFix = (s.rfch ch).ncoFix := by
  rw [State.sampled, State.rfch_withClock, State.ncoFix_each_rfTick (s := s.tickStart s.progUpset s.toneUpset) hrf]
  rfl

/-- A channel with no NCO correction under way stands as its own tick leaves it. -/
theorem State.rfch_lockedTick {ch : Nat} (hch : ch < 96) (hfix : (s.rfch ch).ncoFix = none) :
    s.lockedTick.rfch ch = (State.rfTick { s with tones := upsetTone s.toneUpset s.tones } ch).rfch ch := by
  have halike : State.AlikeFor ch { s with tones := upsetTone s.toneUpset s.tones } (s.tickStart s.progUpset s.toneUpset) :=
    ⟨rfl, fun _ _ => rfl, fun _ _ _ => rfl, rfl, rfl, rfl, rfl⟩
  rw [State.lockedTick, State.rfch_moveLinks, State.rfch_correct ((State.ncoFix_sampled hrf ch).trans hfix), State.sampled,
    State.rfch_withClock, State.rfch_each_rfTick List.nodup_range (List.mem_range.mpr hch) halike hrf hrf]

/-- With no NCO correction under way the runs change by their held starts alone. -/
theorem State.runs_lockedTick (hfix : ∀ ch, (s.rfch ch).ncoFix = none) : s.lockedTick.runs = s.slideStarts.runs := by
  obtain ⟨r, g, x, hsampled⟩ := s.sampled_eq
  rw [State.lockedTick, State.runs_moveLinks, State.runs_correct fun ch => (State.ncoFix_sampled hrf ch).trans (hfix ch), hsampled]
  rfl

end

/-! ### A step -/

/-- No command stops: each goes on with a next state. -/
theorem exec_goesOn (c : Instr) (s : State) : ∃ t, exec c s = .next t := by
  cases c <;> exact ⟨_, rfl⟩

theorem step_of_empty {s : State} (h : s.pending = []) : step s = .next s.tick := by
  rw [step, h]

theorem step_of_waiting {s : State} {c : Instr} {rest : List Instr} (h : s.pending = c :: rest) :
    step s = exec c { s with pending := rest } := by
  rw [step, h]

theorem step_goesOn (s : State) : ∃ t, step s = .next t := by
  cases h : s.pending with
  | nil => exact ⟨_, step_of_empty h⟩
  | cons c rest =>
    rw [step_of_waiting h]
    exact exec_goesOn c _

/-- A tick of a powered module ends the sessions with spent packet numbers and no others. -/
theorem State.sessions_tick {s : State} (hpower : s.supply.unpowered = false) : s.tick.sessions = s.closeSpent.sessions := by
  cases hlocked : s.closeSpent.clock.castRuns with
  | true =>
    obtain ⟨-, -, -, -, -, hsessions⟩ := s.closeSpent.lockedTick_frame
    rw [State.tick_of_locked hpower hlocked, hsessions]
  | false => rw [State.tick_of_unlocked hpower hlocked]

/-- Settles O54: a command at the front is run by `step`, and with none a tick passes, whose parts keep what they do not make. -/
theorem aStepIsOneCommandOrOneTick : Obligations.AStepIsOneCommandOrOneTick := by
  refine ⟨fun s c rest => step_of_waiting, ?_, ?_, ?_, ?_, step_goesOn⟩
  · intro s hempty hpower
    rw [step_of_empty hempty, State.tick, if_pos hpower]
  · intro s hempty hpower hunspent hlocked
    obtain ⟨hlo, hhi⟩ := offsetOf_bounds (Config.freeValue s.free).toNat 1001
    refine ⟨_, hlo, hhi, ?_⟩
    have hsame := State.closeSpent_of_unspent hunspent
    rw [step_of_empty hempty, State.tick_of_unlocked hpower (hsame.symm ▸ hlocked), hsame]
  · intro s hempty hpower hunspent hlocked _ hrf _ _
    obtain ⟨helo, hehi⟩ := offsetOf_bounds (Config.freeValue s.free).toNat 1001
    obtain ⟨hflo, hfhi⟩ := offsetOf_bounds ((Config.freeValue s.free).toNat / 2 ^ 32) 2001
    obtain ⟨hclock, hdram, hsys, hpending, hprog, -⟩ := s.lockedTick_frame
    refine ⟨s.lockedTick, _, _, s.progUpset, s.toneUpset, ?_, helo, hehi, hflo, hfhi, ?_, fun hfrac => ?_, hdram, hsys,
      hpending.trans hempty, hprog, fun ch hch => State.rfch_lockedTick hrf hch, State.runs_lockedTick hrf,
      fun p => State.port_lockedTick, State.adc_lockedTick⟩
    · have hsame := State.closeSpent_of_unspent hunspent
      rw [step_of_empty hempty, State.tick_of_locked hpower (hsame.symm ▸ hlocked), hsame]
    · rw [hclock, State.tickClock, Clock.freeTick_cast]
      rfl
    · rw [hclock]
      exact s.clock.freeTick_link _ s.sys.servo.rate s.cast.servo.rate hflo hfhi hfrac
  · intro s x hempty hpower hx hspent
    refine ⟨s.tick, step_of_empty hempty, ?_⟩
    rw [State.sessions_tick hpower]
    exact State.noSession_closeSpent hx hspent

end Sys2Proof.Machine
end

section
/-! PROOF. Spares are brought in: a program row, an engine and a Crucible (R20, R67, R87-R91, R199, R201, R411, R413). -/

namespace Sys2Proof.Machine

/-! ### What the swaps share -/

/-- A field above a number's bits reads 0. -/
theorem fieldOf_ofNat_above {hi lo v : Nat} (hlo : lo ≤ 31) (hv : v < 2 ^ lo) : fieldOf (BitVec.ofNat 32 v) hi lo = 0 := by
  have hword : v < 2 ^ 32 := hv.trans_le (Nat.pow_le_pow_right (by decide) (by omega))
  rw [fieldOf, BitVec.toNat_ofNat, Nat.mod_eq_of_lt hword, Nat.div_eq_of_lt hv, Nat.zero_mod]

theorem leBytes_one (v : Nat) : leBytes 1 v = [BitVec.ofNat 8 v] := by simp [leBytes]
theorem leBytes_three (x y z : Nat) : leBytes 1 x ++ leBytes 1 y ++ leBytes 1 z = [BitVec.ofNat 8 x, BitVec.ofNat 8 y, BitVec.ofNat 8 z] := by
  simp only [leBytes_one, List.cons_append, List.nil_append]

/-- The entry that the module makes of an event depends on the log and the clock alone. -/
theorem State.logEvent_congr {s t : State} (hlog : t.log = s.log) (hclock : t.clock = s.clock) (block code : Nat) (data : List Byte) :
    t.logEvent block code data = { t with log := (s.logEvent block code data).log } := by
  have hmono : t.mono = s.mono := congrArg Clock.mono hclock
  have htaken : t.logTaken = s.logTaken := by rw [State.logTaken, State.logTaken, State.logSec, State.logSec, hlog, hmono]
  simp only [State.logEvent, State.logOwn, State.logAs, State.logTake, State.logSec, htaken, hlog, hclock, hmono]
  split
  · rfl
  · rfl

/-! ### A program row (R67, R411, R413) -/

/-- What the image says of an address, and outside the program's code what the address holds. -/
def State.imageWord (s : State) (o space : Nat) (img : List Byte) (a : Nat) : W64 :=
  if a < leNat (slice img (64 + 32 * space + 4) 4) then imgWord img space a else (s.progAt o a).code

/-- The first `n` words of a row, written from the image. -/
def State.writeRow (s : State) (o space row : Nat) (img : List Byte) (n : Nat) : State :=
  s.each (List.range n) (fun s i => s.setProg o (64 * row + i) ⟨s.imageWord o space img (64 * row + i), false, false⟩)

theorem progKey_inj {o a b : Nat} (h : progKey o a = progKey o b) : a = b := Nat.add_left_cancel h

theorem State.writeRow_succ (s : State) (o space row : Nat) (img : List Byte) (n : Nat) :
    s.writeRow o space row img (n + 1) = (s.writeRow o space row img n).setProg o (64 * row + n)
      ⟨(s.writeRow o space row img n).imageWord o space img (64 * row + n), false, false⟩ := by
  simp [State.writeRow, State.each, List.range_succ]

/-- A row is written word by word: only program memory changes, at the row's own addresses. -/
theorem State.writeRow_spec {s : State} (hwf : Tbl.wf (fun _ => progWord0) s.prog = true) (o space row : Nat) (img : List Byte) (n : Nat) :
    ∃ p, s.writeRow o space row img n = { s with prog := p } ∧ Tbl.wf (fun _ => progWord0) p = true
      ∧ (∀ i < n, Tbl.get p (progKey o (64 * row + i)) progWord0 = ⟨s.imageWord o space img (64 * row + i), false, false⟩)
      ∧ ∀ a, (∀ i < n, a ≠ 64 * row + i) → Tbl.get p (progKey o a) progWord0 = s.progAt o a := by
  induction n with
  | zero => exact ⟨s.prog, rfl, hwf, fun i hi => absurd hi (Nat.not_lt_zero i), fun _ _ => rfl⟩
  | succ n ih =>
    obtain ⟨p, hp, hwfp, hin, hout⟩ := ih
    have hold : State.imageWord { s with prog := p } o space img (64 * row + n) = s.imageWord o space img (64 * row + n) := by
      have hcode := hout (64 * row + n) fun i hi => by omega
      rw [State.imageWord, State.imageWord, State.progAt, hcode]
    refine ⟨_, by rw [State.writeRow_succ, hp, hold]; rfl, Tbl.wf_put _ _ _ _ hwfp, fun i hi => ?_, fun a ha => ?_⟩
    · rcases Nat.lt_succ_iff_lt_or_eq.mp hi with hlt | rfl
      · rw [Tbl.get_put_other _ _ _ _ _ _ fun h => by have := progKey_inj h; omega]
        exact hin i hlt
      · exact Tbl.get_put_same _ _ _ _ hwfp
    · rw [Tbl.get_put_other _ _ _ _ _ _ fun h => ha n (Nat.lt_succ_self n) (progKey_inj h)]
      exact hout a fun i hi => ha i (Nat.lt_succ_of_lt hi)

/-- The engine forgets a failed instruction of a row that has been written anew. -/
def Engine.forgetRow (g : Engine) (row : Nat) : Engine :=
  { g with memErr := if g.memErr.map (fun a => a / 64) = some row then none else g.memErr }

/-- One more spare row of cluster `k`, after `used` others, is in use for the row of key `key`. -/
def Spares.useRow (p : Spares) (k key used : Nat) : Spares :=
  { p with pmUsed := Tbl.put p.pmUsed k (used + 1) 0, pmRows := key :: p.pmRows, pmHits := Tbl.put p.pmHits key [] [] }

/-- A spare row takes the place of an engine's row, which has been written (R413). -/
def State.takeRow (u : State) (o row k key used : Nat) : State :=
  let t := u.setEng o ((u.eng o).forgetRow row)
  { t with spares := t.spares.useRow k key used }

section
variable {s : State} {k : Fin 8} {space : Fin 16} {row : Fin 512} (hdue : s.rowDue (16 * k.val + space.val) row.val = true)
include hdue

theorem exec_programRowRemap_of_spare {o key : Nat} (ho : o = 16 * k.val + space.val) (hkey : key = pmRowKey o (64 * row.val))
    (hused : Tbl.get s.spares.pmUsed k.val 0 < 32) (himg : Tbl.get s.clusterImg k.val [] ≠ []) :
    exec (.programRowRemap k space row) s = .next (((s.writeRow o space row (Tbl.get s.clusterImg k.val []) 64).takeRow o row k
      key (Tbl.get s.spares.pmUsed k.val 0)).logEvent 0x0012 0x0001 (leBytes 4 key)) := by
  subst ho hkey
  have hempty : (Tbl.get s.clusterImg k.val []).isEmpty = false := by simpa using himg
  show execProgramRowRemap k space row s = _
  rw [execProgramRowRemap, if_neg (by simp [hdue]), if_neg (Nat.not_le.mpr hused)]
  simp only [hempty, Bool.false_eq_true, if_false]
  rfl

theorem exec_programRowRemap_of_none_left (hused : 32 ≤ Tbl.get s.spares.pmUsed k.val 0) :
    exec (.programRowRemap k space row) s = .next ((s.alert 5).logEvent 0x0012 0x0002
      (leBytes 4 (pmRowKey (16 * k.val + space.val) (64 * row.val)))) := by
  show execProgramRowRemap k space row s = _
  rw [execProgramRowRemap, if_neg (by simp [hdue]), if_pos hused]

end

/-! ### An engine (R87-R91) -/

theorem exec_engineSwapBegin_of_gap {s : State} {e : Fin 128} (hpending : s.bit (aMldPeMap e) 8 = true) (hswap : (s.eng e).swap = none)
    (hspare : s.spareFree (e.val / 16) = true) (hgap : s.swapGap e = true) :
    exec (.engineSwapBegin e) s = .next (s.setEng e { s.eng e with swap := some ⟨s.now, []⟩ }) := by
  show execEngineSwapBegin e s = _
  rw [execEngineSwapBegin, if_pos ⟨hpending, by rw [hswap]; rfl, hspare, hgap⟩]

/-- One round of held events reaches the engine's latches. -/
def Engine.latchRound (g : Engine) (l : List Ev) : Engine := l.foldl (fun g v => g.deliver v (decide (1 < l.length))) g

/-- The state with other registers. -/
def State.withRegs (s : State) (r : Tbl W32) : State := { s with regs := r }

theorem State.countJoined_eq (s : State) (multi : Bool) : ∃ r, s.countJoined multi = s.withRegs r
    ∧ ∀ a, a ≠ aSprCntA → Tbl.get r a (resetWord a) = s.reg a := by
  cases multi with
  | false => exact ⟨s.regs, rfl, fun _ _ => rfl⟩
  | true => exact ⟨_, rfl, fun a ha => s.reg_setReg_other aSprCntA a _ ha⟩

/-- The state with other registers and engines. -/
def State.withLatch (s : State) (r : Tbl W32) (g : Tbl Engine) : State := { s with regs := r, engines := g }

/-- The rounds of held events reach the engine's latches in order; the count of joined events alone changes besides. -/
theorem State.each_latchEvents (ls : List (List Ev)) (e : Nat) {s : State} (hwf : Tbl.wf (fun _ => Engine.init) s.engines = true) :
    ∃ r g, s.each ls (fun s l => s.latchEvents e l) = s.withLatch r g
      ∧ Tbl.get g e Engine.init = ls.foldl Engine.latchRound (s.eng e) ∧ (∀ e', e' ≠ e → Tbl.get g e' Engine.init = s.eng e')
      ∧ ∀ a, a ≠ aSprCntA → Tbl.get r a (resetWord a) = s.reg a := by
  induction ls generalizing s with
  | nil => exact ⟨s.regs, s.engines, rfl, rfl, fun _ _ => rfl, fun _ _ => rfl⟩
  | cons l ls ih =>
    obtain ⟨r, hr, hother⟩ := s.countJoined_eq (decide (1 < l.length))
    have hstep : s.latchEvents e l = (s.withRegs r).setEng e ((s.eng e).latchRound l) := by
      rw [State.latchEvents, hr]
      rfl
    obtain ⟨r', g, h, hlatched, heng, hreg⟩ := ih (s := (s.withRegs r).setEng e ((s.eng e).latchRound l))
      (State.engines_wf_setEng _ _ _ hwf)
    rw [State.eng_setEng_same _ _ _ (by exact hwf)] at hlatched
    refine ⟨r', g, (congrArg (fun t => State.each t ls (fun s l => s.latchEvents e l)) hstep).trans h, hlatched, fun e' he' => ?_,
      fun a ha => (hreg a ha).trans (hother a ha)⟩
    rw [heng e' he', State.eng_setEng_other _ _ _ _ he']
    rfl

/-- The registers after an engine swap: the spare has the watchdog limit, and the map names it. -/
def State.mapEngine (s : State) (e new : Nat) : State :=
  (s.setReg (aPeWdog new) (s.reg (aPeWdog (s.pePhys e)))).setReg (aMldPeMap e) (BitVec.ofNat 32 new)

/-- A swap has ended, up to the held events: the map names the spare, and the old engine has retired (R88, R90). -/
def State.retireEngine (s : State) (e new : Nat) : State :=
  let t := s.mapEngine e new
  State.setEng { t with spares := { t.spares with retiredPe := s.pePhys e :: t.spares.retiredPe } } e
    { s.eng e with swap := none, hsFault := false }

/-- The state with other registers, engines, spares and log: what an engine's swap changes. -/
def State.withSwap (s : State) (r : Tbl W32) (g : Tbl Engine) (x : Spares) (l : Log) : State :=
  { s with regs := r, engines := g, spares := x, log := l }

theorem State.logEvent_withSwap (s : State) (r : Tbl W32) (g : Tbl Engine) (x : Spares) (block code : Nat) (data : List Byte) :
    (s.withSwap r g x s.log).logEvent block code data = s.withSwap r g x (s.logEvent block code data).log :=
  State.logEvent_congr (s := s) (t := s.withSwap r g x s.log) rfl rfl block code data

theorem State.withSwap_withLatch (s : State) (r r' : Tbl W32) (g g' : Tbl Engine) (x : Spares) (l : Log) :
    (s.withSwap r g x l).withLatch r' g' = s.withSwap r' g' x l := rfl

theorem State.retireEngine_eq (s : State) (e new : Nat) : s.retireEngine e new = s.withSwap (s.mapEngine e new).regs
    (s.setEng e { s.eng e with swap := none, hsFault := false }).engines
    { s.spares with retiredPe := s.pePhys e :: s.spares.retiredPe } s.log := by rfl

theorem State.regs_retireEngine (s : State) (e new : Nat) : (s.retireEngine e new).regs = (s.mapEngine e new).regs := by
  rw [State.retireEngine_eq]
  rfl

theorem State.eng_retireEngine (s : State) (e new e' : Nat) :
    (s.retireEngine e new).eng e' = (s.setEng e { s.eng e with swap := none, hsFault := false }).eng e' := by
  rw [State.retireEngine_eq]
  rfl

/-- The registers that a swap changes are the map and the spare's watchdog limit, and a count besides. -/
theorem State.reg_retireEngine {s : State} (hregs : Tbl.wf resetWord s.regs = true) {e new : Nat} (h : aPeWdog new ≠ aMldPeMap e) :
    (s.retireEngine e new).reg (aMldPeMap e) = BitVec.ofNat 32 new
      ∧ (s.retireEngine e new).reg (aPeWdog new) = s.reg (aPeWdog (s.pePhys e)) := by
  simp only [State.reg, State.regs_retireEngine]
  refine ⟨State.reg_setReg_same _ _ _ (s.regs_wf_setReg _ _ hregs), ?_⟩
  exact (State.reg_setReg_other _ _ _ _ h).trans (s.reg_setReg_same _ _ hregs)

theorem State.engines_wf_retireEngine {s : State} (heng : Tbl.wf (fun _ => Engine.init) s.engines = true) (e new : Nat) :
    Tbl.wf (fun _ => Engine.init) (s.retireEngine e new).engines = true := by
  rw [State.retireEngine_eq]
  exact s.engines_wf_setEng e _ heng

/-- What the end of a swap leaves, where one is under way (R88-R90). -/
def State.endSwap (s : State) (e : Nat) (swap : Option SwapNow) : State :=
  match swap with
  | none => s
  | some w => ((s.retireEngine e (17 * (e / 16) + 16)).each (heldRounds w.held) (fun s l => s.latchEvents e l)).logEvent 0x0010 0x0002
      (leBytes 1 e ++ leBytes 1 (s.pePhys e) ++ leBytes 1 (17 * (e / 16) + 16))

theorem exec_engineSwapComplete (s : State) (e : Fin 128) : exec (.engineSwapComplete e) s = .next (s.endSwap e (s.eng e).swap) := by rfl

/-! ### A Crucible (R87, R187, R199, R201) -/

theorem exec_crucibleSwapBegin_of_ready {s : State} {n : Fin 32} {sp : Nat} (hspare : s.spareCru = some sp)
    (hpending : s.bit (aMldCruMap n) 8 = true) (hswap : (s.cru (s.cruPhys n)).swap = none) (hquiet : (s.adcch n).quiet s.now = true)
    (hbeats : (s.cru (s.cruPhys n)).beats = []) (hst : (s.cru (s.cruPhys n)).st = .waiting ∨ (s.cru (s.cruPhys n)).st = .fault)
    (htrig : s.bit (aAdcCtrl n) 1 = false ∨ s.claimed (n.val / 4) = false)
    (hgap : ∀ r ∈ s.runs, r.holds = true → r.clusters.contains (n.val / 4) = true → s.gapLong r = true) :
    exec (.crucibleSwapBegin n) s = .next (s.setCru (s.cruPhys n) { s.cru (s.cruPhys n) with
      swap := some (s.now, sp), st := if (s.cru (s.cruPhys n)).st = .waiting then .stopped else .fault }) := by
  have htrigOk : (!s.bit (aAdcCtrl n) 1 || !s.claimed (n.val / 4)) = true := by rcases htrig with h | h <;> simp [h]
  have hseqOk : ((s.cru (s.cruPhys n)).st == .waiting || (s.cru (s.cruPhys n)).st == .fault) = true := by
    rcases hst with h | h <;> rw [h] <;> rfl
  have hcru : (if (s.cru (s.cruPhys n)).st = .waiting then .stopped else .fault)
      = if (s.cru (s.cruPhys n)).st = .waiting then .stopped else (s.cru (s.cruPhys n)).st := by
    rcases hst with h | h <;> simp [h]
  rw [hcru]
  show execCrucibleSwapBegin n s = _
  cases hfind : s.runs.find? (fun r => r.holds && r.clusters.contains (n.val / 4)) with
  | none =>
    simp only [execCrucibleSwapBegin, hspare, hpending, hswap, hquiet, hbeats, hseqOk, htrigOk, hfind, Option.isNone_none,
      List.isEmpty_nil, Bool.and_self, if_true]
  | some r =>
    obtain ⟨hholds, hcluster⟩ := Bool.and_eq_true_iff.mp (List.find?_some (p := fun r : Run => r.holds && r.clusters.contains (n.val / 4)) hfind)
    have hlong := hgap r (List.mem_of_find?_eq_some hfind) hholds hcluster
    simp only [execCrucibleSwapBegin, hspare, hpending, hswap, hquiet, hbeats, hseqOk, htrigOk, hfind, hlong, Option.isNone_none,
      List.isEmpty_nil, Bool.and_self, if_true]

/-- The words of a block reach another block that lies apart from it, and no other register changes. -/
theorem State.copyRegs_spec {a b : Nat} (l : List Nat) (hapart : ∀ x ∈ l, ∀ y ∈ l, a + x ≠ b + y) {s : State}
    (hwf : Tbl.wf resetWord s.regs = true) :
    ∃ r, s.copyRegs a b l = { s with regs := r } ∧ Tbl.wf resetWord r = true
      ∧ (∀ x ∈ l, Tbl.get r (b + x) (resetWord (b + x)) = s.reg (a + x))
      ∧ ∀ y, (∀ x ∈ l, y ≠ b + x) → Tbl.get r y (resetWord y) = s.reg y := by
  induction l generalizing s with
  | nil => exact ⟨s.regs, rfl, hwf, fun x hx => absurd hx (List.not_mem_nil), fun _ _ => rfl⟩
  | cons o l ih =>
    have hapart' : ∀ x ∈ l, ∀ y ∈ l, a + x ≠ b + y := fun x hx y hy => hapart x (List.mem_cons_of_mem o hx) y (List.mem_cons_of_mem o hy)
    obtain ⟨r, hr, hwfr, hin, hout⟩ := ih hapart' (s := s.setReg (b + o) (s.reg (a + o))) (s.regs_wf_setReg _ _ hwf)
    refine ⟨r, hr, hwfr, fun x hx => ?_, fun y hy => ?_⟩
    · by_cases hmem : x ∈ l
      · rw [hin x hmem, s.reg_setReg_other _ _ _ (hapart x hx o List.mem_cons_self)]
      · obtain rfl : x = o := (List.mem_cons.mp hx).resolve_right hmem
        rw [hout (b + x) fun z hz h => hmem (Nat.add_left_cancel h ▸ hz), s.reg_setReg_same _ _ hwf]
    · rw [hout y fun x hx => hy x (List.mem_cons_of_mem o hx), s.reg_setReg_other _ _ _ (hy o List.mem_cons_self)]

/-- The registers of a Crucible's block that a swap copies. -/
def cruOffsets : List Nat :=
  (List.range 16).map (fun t => 0x100 + 4 * t) ++ (List.range 256).map (fun k => 0x400 + 4 * k)
    ++ (List.range 512).map (fun k => 0x1000 + 4 * k) ++ (List.range 512).map (fun k => 0x2000 + 4 * k) ++ [0x18, 0x1C]

theorem mem_cruOffsets {x : Nat} : x ∈ cruOffsets ↔ (∃ t < 16, 0x100 + 4 * t = x) ∨ (∃ k < 256, 0x400 + 4 * k = x)
    ∨ (∃ k < 512, 0x1000 + 4 * k = x) ∨ (∃ k < 512, 0x2000 + 4 * k = x) ∨ x = 0x18 ∨ x = 0x1C := by
  simp [cruOffsets]

theorem cruOffset_lt {x : Nat} (h : x ∈ cruOffsets) : x < 0x10000 := by
  rcases mem_cruOffsets.mp h with ⟨t, ht, rfl⟩ | ⟨k, hk, rfl⟩ | ⟨k, hk, rfl⟩ | ⟨k, hk, rfl⟩ | rfl | rfl <;> omega

/-- The state in which the spare takes the place of the Crucible `u` (R199, R201). -/
def Cru.movedTo (u : Cru) (goesOn : CruSt) : Cru :=
  if u.st = .fault then { Cru.init with st := .executing, beatRule := u.beatRule, prog := u.prog, codeCount := u.codeCount, drag := u.drag,
                                        pending := u.pending }
  else { u with swap := none, retired := false, stopReq := none, st := goesOn }

/-- The spare has the state `new` and the old Crucible's image, and the old Crucible is retired (R201). -/
def State.moveCru (s : State) (c sp : Nat) (new : Cru) : State :=
  let t := { s.setCru sp new with cruImg := Tbl.put s.cruImg sp (Tbl.get s.cruImg c []) [] }
  t.setCru c { t.cru c with swap := none, retired := true, ahead := [], aheadPending := none }

section
variable {s : State} (hcru : Tbl.wf (fun _ => Cru.init) s.crus = true) {c sp : Nat} (hapart : c ≠ sp) (new : Cru)
include hcru hapart

theorem State.cru_moveCru_spare : (s.moveCru c sp new).cru sp = new :=
  (State.cru_setCru_other _ c sp _ hapart.symm).trans (s.cru_setCru_same sp new hcru)

theorem State.cru_moveCru_old :
    (s.moveCru c sp new).cru c = { s.cru c with swap := none, retired := true, ahead := [], aheadPending := none } := by
  have hkept : (s.setCru sp new).cru c = s.cru c := s.cru_setCru_other sp c new hapart
  rw [← hkept]
  exact State.cru_setCru_same _ c _ (s.crus_wf_setCru sp new hcru)

end

theorem exec_crucibleSwapComplete_of_quiet {s : State} {n : Fin 32} {T : Tick} {c sp : Nat} {r : Tbl W32} (hc : s.cruPhys n = c)
    (hswap : (s.cru c).swap = some (T, sp)) (hahead : (s.cru c).ahead = []) (hquiet : (s.adcch n).quiet s.now = true)
    (hcopy : s.copyRegs (0x200000 + 0x10000 * c) (0x200000 + 0x10000 * sp) cruOffsets = s.withRegs r) :
    exec (.crucibleSwapComplete n) s = .next (
      (((s.withRegs r).moveCru c sp ((s.cru c).movedTo (if s.loadNames n then .stopped else .executing))).setReg
        (aMldCruMap n) (BitVec.ofNat 32 sp)).logEvent 0x0013 0x0005 [BitVec.ofNat 8 n, BitVec.ofNat 8 c, BitVec.ofNat 8 sp]) := by
  subst hc
  unfold cruOffsets at hcopy
  show execCrucibleSwapComplete n s = _
  simp only [execCrucibleSwapComplete, Cru.movedTo, hswap, hahead, hquiet, hcopy, leBytes_three, if_true, State.each, List.foldl_nil,
    List.isEmpty_nil]
  rfl

/-! ### The parts of the statement -/

/-- The state with other program memory, engines, spares and log: what the remap of a program row changes. -/
def State.withRow (s : State) (p : Tbl ProgWord) (g : Tbl Engine) (x : Spares) (l : Log) : State :=
  { s with prog := p, engines := g, spares := x, log := l }

/-- A due row of a cluster with a spare row and a retained image is written anew, into a spare row. -/
theorem programRowRemap_writes {s : State} {k : Fin 8} {space : Fin 16} {row : Fin 512}
    (heng : Tbl.wf (fun _ => Engine.init) s.engines = true) (hprog : Tbl.wf (fun _ => progWord0) s.prog = true)
    (hdue : s.rowDue (16 * k.val + space.val) row.val = true) (hused : Tbl.get s.spares.pmUsed k.val 0 < 32)
    (himg : Tbl.get s.clusterImg k.val [] ≠ []) :
    let o := 16 * k.val + space.val
    let img := Tbl.get s.clusterImg k.val []
    let key := pmRowKey o (64 * row.val)
    ∃ t, exec (.programRowRemap k space row) s = .next t
      ∧ (∀ i < 64, t.progAt o (64 * row.val + i) = ⟨s.imageWord o space img (64 * row.val + i), false, false⟩)
      ∧ (∀ a, a / 64 ≠ row.val → t.progAt o a = s.progAt o a)
      ∧ t.eng o = (s.eng o).forgetRow row
      ∧ t.spares = s.spares.useRow k key (Tbl.get s.spares.pmUsed k.val 0)
      ∧ t.log = (s.logEvent 0x0012 0x0001 (leBytes 4 key)).log
      ∧ t = { s with prog := t.prog, engines := t.engines, spares := t.spares, log := t.log } := by
  intro o img key
  obtain ⟨p, hwrite, -, hin, hout⟩ := s.writeRow_spec hprog o space row img 64
  have hexec : exec (.programRowRemap k space row) s = .next (s.withRow p (s.setEng o ((s.eng o).forgetRow row)).engines
      (s.spares.useRow k key (Tbl.get s.spares.pmUsed k.val 0)) (s.logEvent 0x0012 0x0001 (leBytes 4 key)).log) := by
    rw [exec_programRowRemap_of_spare hdue rfl rfl hused himg, hwrite]
    exact congrArg Host.Outcome.next (State.logEvent_congr (s := s) (by rfl) (by rfl) _ _ _)
  exact ⟨_, hexec, hin, fun a ha => hout a fun i hi => by omega, s.eng_setEng_same _ _ heng, rfl, rfl, rfl⟩

/-- At the end of a swap the map names the spare, which has the watchdog limit, and the held events are in the latches. -/
theorem engineSwapComplete_swaps {s : State} {e : Fin 128} {w : SwapNow} {old new : Nat} {entry : List Byte} (hold : old = s.pePhys e)
    (hnew : new = 17 * (e.val / 16) + 16) (hentry : entry = [BitVec.ofNat 8 e, BitVec.ofNat 8 old, BitVec.ofNat 8 new])
    (hregs : Tbl.wf resetWord s.regs = true) (heng : Tbl.wf (fun _ => Engine.init) s.engines = true) (h : (s.eng e).swap = some w) :
    ∃ t, exec (.engineSwapComplete e) s = .next t ∧ t.reg (aMldPeMap e) = BitVec.ofNat 32 new
      ∧ t.reg (aPeWdog new) = s.reg (aPeWdog old) ∧ t.spares = { s.spares with retiredPe := old :: s.spares.retiredPe }
      ∧ t.eng e = (heldRounds w.held).foldl Engine.latchRound { s.eng e with swap := none, hsFault := false }
      ∧ (∀ e', e' ≠ e.val → t.eng e' = s.eng e')
      ∧ t.log = (s.logEvent 0x0010 0x0002 entry).log
      ∧ t = { s with regs := t.regs, engines := t.engines, spares := t.spares, log := t.log } := by
  subst hold hnew hentry
  have hmap : aMldPeMap e ≠ aSprCntA := by unfold aMldPeMap aSprCntA; omega
  have hwdog : aPeWdog (17 * (e.val / 16) + 16) ≠ aSprCntA := by unfold aPeWdog aSprCntA; omega
  have hapart : aPeWdog (17 * (e.val / 16) + 16) ≠ aMldPeMap e := by unfold aPeWdog aMldPeMap; omega
  obtain ⟨hnamed, hlimit⟩ := State.reg_retireEngine hregs hapart
  obtain ⟨r, g, hlatch, hg, hother, hr⟩ := State.each_latchEvents (heldRounds w.held) e
    (State.engines_wf_retireEngine heng e (17 * (e.val / 16) + 16))
  have hexec : exec (.engineSwapComplete e) s = .next (s.withSwap r g { s.spares with retiredPe := s.pePhys e :: s.spares.retiredPe }
      (s.logEvent 0x0010 0x0002 [BitVec.ofNat 8 e, BitVec.ofNat 8 (s.pePhys e), BitVec.ofNat 8 (17 * (e.val / 16) + 16)]).log) := by
    have hstate : (s.retireEngine e (17 * (e.val / 16) + 16)).each (heldRounds w.held) (fun s l => s.latchEvents e l)
        = s.withSwap r g { s.spares with retiredPe := s.pePhys e :: s.spares.retiredPe } s.log := by
      rw [hlatch, State.retireEngine_eq, State.withSwap_withLatch]
    rw [exec_engineSwapComplete, h, State.endSwap, hstate, leBytes_three, State.logEvent_withSwap]
  rw [← hr _ hmap] at hnamed
  rw [← hr _ hwdog] at hlimit
  refine ⟨_, hexec, hnamed, hlimit, rfl, ?_, fun e' he' => ?_, rfl, rfl⟩
  · rwa [State.eng_retireEngine, s.eng_setEng_same e _ heng] at hg
  · have hsame := hother e' he'
    rwa [State.eng_retireEngine, s.eng_setEng_other e e' _ he'] at hsame

/-- The state with other registers, Crucibles, Crucible images and log: what a Crucible's swap changes. -/
def State.withCruSwap (s : State) (r : Tbl W32) (x : Tbl Cru) (i : Tbl (List Byte)) (l : Log) : State :=
  { s with regs := r, crus := x, cruImg := i, log := l }

/-- At the end of a swap the map names the spare, which has the copied registers of the old Crucible and the state it goes on with. -/
theorem crucibleSwapComplete_swaps {s : State} {n : Fin 32} {T : Tick} {c sp : Nat} (hc : s.cruPhys n = c) (hapart : c ≠ sp)
    (hregs : Tbl.wf resetWord s.regs = true) (hcru : Tbl.wf (fun _ => Cru.init) s.crus = true)
    (hswap : (s.cru c).swap = some (T, sp)) (hahead : (s.cru c).ahead = []) (hquiet : (s.adcch n).quiet s.now = true) :
    ∃ t, exec (.crucibleSwapComplete n) s = .next t ∧ t.reg (aMldCruMap n) = BitVec.ofNat 32 sp
      ∧ (∀ x ∈ cruOffsets, t.reg (0x200000 + 0x10000 * sp + x) = s.reg (0x200000 + 0x10000 * c + x))
      ∧ t.cru sp = (s.cru c).movedTo (if s.loadNames n then .stopped else .executing)
      ∧ t.cru c = { s.cru c with swap := none, retired := true, ahead := [], aheadPending := none }
      ∧ t = { s with regs := t.regs, crus := t.crus, cruImg := t.cruImg, log := t.log } := by
  have hblocks : ∀ x ∈ cruOffsets, ∀ y ∈ cruOffsets, 0x200000 + 0x10000 * c + x ≠ 0x200000 + 0x10000 * sp + y := fun x hx y hy => by
    have := cruOffset_lt hx
    have := cruOffset_lt hy
    omega
  obtain ⟨r, hcopy, hwf, hin, -⟩ := s.copyRegs_spec cruOffsets hblocks hregs
  have hmap : ∀ x ∈ cruOffsets, 0x200000 + 0x10000 * sp + x ≠ aMldCruMap n := fun x _ => by unfold aMldCruMap; omega
  have hexec : exec (.crucibleSwapComplete n) s = .next (s.withCruSwap ((s.withRegs r).setReg (aMldCruMap n) (BitVec.ofNat 32 sp)).regs
      (s.moveCru c sp ((s.cru c).movedTo (if s.loadNames n then .stopped else .executing))).crus
      (Tbl.put s.cruImg sp (Tbl.get s.cruImg c []) [])
      (s.logEvent 0x0013 0x0005 [BitVec.ofNat 8 n, BitVec.ofNat 8 c, BitVec.ofNat 8 sp]).log) := by
    rw [exec_crucibleSwapComplete_of_quiet hc hswap hahead hquiet hcopy]
    exact congrArg Host.Outcome.next (State.logEvent_congr (s := s) (by rfl) (by rfl) _ _ _)
  refine ⟨_, hexec, (s.withRegs r).reg_setReg_same _ _ hwf, fun x hx => ?_, ?_, ?_, rfl⟩
  · exact ((s.withRegs r).reg_setReg_other _ _ _ (hmap x hx)).trans (hin x hx)
  · exact State.cru_moveCru_spare hcru hapart _
  · exact State.cru_moveCru_old hcru hapart _

/-- Settles O8: each command by the equation of its effective case, and what a swap copies or keeps by the lemma of its fold. -/
theorem sparesAreBroughtIn : Obligations.SparesAreBroughtIn := by
  intro s e n k space row w sp T hregs heng hprog hcru _ _ _ g old new o key used img c u free
  refine ⟨fun hdue hused himg => ?_, exec_programRowRemap_of_none_left, exec_engineSwapBegin_of_gap, fun hswap => ?_,
    exec_crucibleSwapBegin_of_ready, fun hswap hsp hc hahead hquiet => ?_⟩
  · obtain ⟨t, ht, hin, hout, hg, hspares, hlog, hframe⟩ := programRowRemap_writes heng hprog hdue hused himg
    refine ⟨t, ht, fun i hi hcode => ?_, fun i hi hcode => ?_, fun a ha _ => hout a ha, fun hrow => ?_, hspares, hlog, hframe⟩
    · rw [hin i hi, State.imageWord, if_pos hcode]
    · rw [hin i hi, State.imageWord, if_neg (Nat.not_lt.mpr hcode)]
    · rw [hg]
      exact if_pos hrow
  · obtain ⟨t, ht, hmap, hrest⟩ := engineSwapComplete_swaps rfl rfl rfl hregs heng hswap
    refine ⟨t, ht, ?_, ?_, hrest⟩
    · rw [State.pePhys, State.fld, hmap, fieldOf_ofNat_low (by decide) (by omega)]
    · rw [State.bit, State.fld, hmap, fieldOf_ofNat_above (by decide) (by omega)]
      rfl
  · obtain ⟨t, ht, hmap, hcopied, hnew, hold, hframe⟩ := crucibleSwapComplete_swaps rfl (by omega) hregs hcru hswap hahead hquiet
    have hcopy : ∀ {o a b : Nat}, o ∈ cruOffsets → a = 0x200000 + 0x10000 * sp + o → b = 0x200000 + 0x10000 * c + o →
        t.reg a = s.reg b := fun ho ha hb => by rw [ha, hb, hcopied _ ho]
    refine ⟨t, ht, ?_, ?_, fun x hx => ?_, fun x hx => ?_, fun x y z hx hy hz => ⟨?_, ?_⟩, fun hst => ?_, fun hst => ?_, hold, hframe⟩
    · rw [State.cruPhys, State.fld, hmap, fieldOf_ofNat_low (by decide) (by omega)]
    · rw [State.bit, State.fld, hmap, fieldOf_ofNat_above (by decide) (by omega)]
      rfl
    · exact hcopy (mem_cruOffsets.mpr (.inl ⟨x, hx, rfl⟩)) (by unfold aCruPub; omega) (by unfold aCruPub; omega)
    · exact hcopy (mem_cruOffsets.mpr (.inr (.inl ⟨x, hx, rfl⟩))) (by unfold aCruCtx; omega) (by unfold aCruCtx; omega)
    · exact hcopy (mem_cruOffsets.mpr (.inr (.inr (.inl ⟨32 * x + 8 * y + z, by omega, rfl⟩)))) (by unfold aCruCls; omega)
        (by unfold aCruCls; omega)
    · exact hcopy (mem_cruOffsets.mpr (.inr (.inr (.inr (.inl ⟨32 * x + 8 * y + z, by omega, rfl⟩))))) (by unfold aCruClsIn; omega)
        (by unfold aCruClsIn; omega)
    · rw [hnew]
      exact if_pos hst
    · rw [hnew]
      exact if_neg hst

end Sys2Proof.Machine
end

section
/-! PROOF. Events of the engines: a waiting enqueue, a release, the watchdog, a handshake fault, a rewrite of program memory, and the deadline
of a WAITE (R10, R14, R58, R61, R64, R67, R68, R75, R104). -/

namespace Sys2Proof.Machine

/-! ### A late item (R78, R86) -/

theorem aPeLate_ne_aPeLead (p : Nat) : aPeLate p ≠ aPeLead p := by unfold aPeLate aPeLead; omega
theorem aMldPeMap_ne_aPeLead (e : Fin 128) (p : Nat) : aMldPeMap e ≠ aPeLead p := by unfold aMldPeMap aPeLead; omega

section
variable {s : State} (hregs : Tbl.wf resetWord s.regs = true)
include hregs

/-- Noting a lead changes no register but PE_LEAD. -/
theorem State.reg_noteLead (e : Nat) (lead : Int) : Tbl.wf resetWord (s.noteLead e lead).regs = true
    ∧ ∀ a, a ≠ aPeLead (s.pePhys e) → (s.noteLead e lead).reg a = s.reg a := by
  unfold State.noteLead
  dsimp only
  split
  · exact ⟨State.regs_wf_setFld _ _ _ _ _ hregs, fun a ha => State.reg_setReg_other _ _ a _ ha⟩
  · exact ⟨hregs, fun _ _ => rfl⟩

/-- A late item is counted in PE_LATE. -/
theorem State.fld_noteLate (e : Nat) (q : Queue) :
    (s.noteLate e q).fld (aPeLate (s.pePhys e)) 15 0 = satAdd 16 (s.fld (aPeLate (s.pePhys e)) 15 0) 1 := by
  have h := State.fld_setFld_same (s.setEng e { s.eng e with firstLateQ := some ((s.eng e).firstLateQ.getD q) }) (aPeLate (s.pePhys e)) 15 0
    (satAdd 16 (s.fld (aPeLate (s.pePhys e)) 15 0) 1) hregs (by decide) (by decide)
  exact h.trans (Nat.mod_eq_of_lt (by unfold satAdd; omega))

end

/-- The state with other engines, registers and runs: what an engine's wall and its exceptions change. -/
def State.withEngs (s : State) (g : Tbl Engine) (r : Tbl W32) (u : List Run) : State := { s with engines := g, regs := r, runs := u }

/-- A shot's record of a late item depends on the runs alone. -/
theorem State.runs_lateIn {s t : State} (h : t.runs = s.runs) (x : W32 × W32 × Tick) (e : Nat) (tick : Tick) :
    (t.lateIn x e tick).runs = (s.lateIn x e tick).runs := by
  simp only [State.lateIn, State.condIn, State.modEntry, State.modShot, State.modRun, h]

theorem State.lateIn_eq (s : State) (x : W32 × W32 × Tick) (e : Nat) (tick : Tick) :
    s.lateIn x e tick = s.withEngs s.engines s.regs (s.lateIn x e tick).runs := rfl

theorem State.noteLate_eq (s : State) (e : Nat) (q : Queue) : ∃ f r, s.noteLate e q
    = s.withEngs (s.setEng e ((s.eng e).withNotes (s.eng e).shotMin f (s.eng e).lastRel)).engines r s.runs := ⟨_, _, rfl⟩

/-- Refusing an item notes its queue in the engine, counts it, and the shot records it. -/
theorem State.refuseItem_eq {s : State} (hregs : Tbl.wf resetWord s.regs = true) (e : Nat) (q : Queue) (shot : Option (W32 × W32 × Tick)) :
    ∃ f r u, s.refuseItem e q shot = s.withEngs (s.setEng e ((s.eng e).withNotes (s.eng e).shotMin f (s.eng e).lastRel)).engines r u
      ∧ fieldOf (Tbl.get r (aPeLate (s.pePhys e)) (resetWord (aPeLate (s.pePhys e)))) 15 0
        = satAdd 16 (s.fld (aPeLate (s.pePhys e)) 15 0) 1
      ∧ ∀ h, shot = some h → u = (s.lateIn h e s.now).runs := by
  have hcount := State.fld_noteLate hregs e q
  obtain ⟨f, r, hnote⟩ := s.noteLate_eq e q
  rw [hnote] at hcount
  cases shot with
  | none => exact ⟨f, r, s.runs, hnote, hcount, fun h hh => by cases hh⟩
  | some h =>
    refine ⟨f, r, (s.lateIn h e s.now).runs, ?_, hcount, by rintro _ ⟨⟩; rfl⟩
    rw [State.refuseItem, hnote, State.lateIn_eq, State.runs_lateIn (s := s) rfl]
    rfl

/-- A late item leaves the queues as they are and is counted, and its shot records it (R78, R86). -/
theorem State.latchItem_of_late {s : State} {e : Fin 128} {q : Queue} {i : Item} (hregs : Tbl.wf resetWord s.regs = true)
    (hrun : (s.eng e).st = .running) (hlate : ¬ ((s.eng e).queue q).onTime i s.now) :
    ∃ m f, (s.latchItem e q i).eng e = (s.eng e).withNotes m f (s.eng e).lastRel
      ∧ (s.latchItem e q i).fld (aPeLate (s.pePhys e)) 15 0 = satAdd 16 (s.fld (aPeLate (s.pePhys e)) 15 0) 1
      ∧ (∀ h, (s.eng e).shot = some h → (s.latchItem e q i).runs = (s.lateIn h e s.now).runs)
      ∧ ∃ g r u, s.latchItem e q i = s.withEngs g r u := by
  obtain ⟨m, r, hnote⟩ := s.noteLead_eq e (sdiff i.tick.stamp s.now.stamp)
  obtain ⟨hwf, hother⟩ := State.reg_noteLead hregs e (sdiff i.tick.stamp s.now.stamp)
  have hlatch : s.latchItem e q i = (s.noteLead e (sdiff i.tick.stamp s.now.stamp)).refuseItem e q (s.eng e).shot := by
    rw [State.latchItem_eq]
    exact if_pos (not_not.mp fun h => hlate ((RelQueue.onTime_iff _ _ _).mpr h))
  have hphys : (s.noteLead e (sdiff i.tick.stamp s.now.stamp)).pePhys e = s.pePhys e := by
    rw [State.pePhys, State.fld, hother _ (aMldPeMap_ne_aPeLead e _)]
    rfl
  obtain ⟨f, r', u, hrefuse, hcount, hruns⟩ := State.refuseItem_eq hwf e q (s.eng e).shot
  rw [hphys, State.fld, hother _ (aPeLate_ne_aPeLead _)] at hcount
  rw [hlatch, hrefuse]
  refine ⟨m, f, ?_, hcount, fun h hh => (hruns h hh).trans ?_, ?_⟩
  · have heng : (s.noteLead e (sdiff i.tick.stamp s.now.stamp)).eng e = (s.eng e).withNotes m (s.eng e).firstLateQ (s.eng e).lastRel := by
      rw [hnote]
      exact s.eng_setEng_running e hrun
    rw [heng]
    exact State.eng_setEng_running _ e hrun
  · rw [hnote]
    exact State.runs_lateIn (by rfl) h e _
  · rw [hnote]
    exact ⟨_, _, _, rfl⟩

/-! ### A waiting enqueue (R14, R75) -/

/-- The engine goes on from its waiting enqueue. -/
def Engine.resumed (g : Engine) : Engine := { g with held := none, st := .running }

@[simp] theorem Engine.resumed_queue (g : Engine) (q : Queue) : g.resumed.queue q = g.queue q := by cases q <;> rfl
@[simp] theorem Engine.setQueue_queue_self (g : Engine) (q : Queue) : g.setQueue q (g.queue q) = g := by cases q <;> rfl

theorem exec_enqueueAfterFull_of_room {s : State} {e : Fin 128} {q : Queue} {i : Item} (hheld : (s.eng e).held = some (q, i))
    (hst : (s.eng e).st = .queueFull) (htime : s.inTime e = true) (hroom : ((s.eng e).queue q).items.length < queueDepth q) :
    exec (.enqueueAfterFull e) s = .next (
      ((s.setEng e (s.eng e).resumed).latchItem e q i).setEng e (((s.setEng e (s.eng e).resumed).latchItem e q i).eng e).advance) := by
  show execEnqueueAfterFull e s = _
  simp only [execEnqueueAfterFull, hheld, hst, htime, hroom, and_self, if_true]
  rfl

/-- The engine after its waiting enqueue, when the wall has latched the item: it runs on at the next instruction. -/
theorem State.eng_afterFull {s u : State} {e : Fin 128} {q : Queue} {m : Option Int} {f : Option Queue} {l : Option Tick} {rq : RelQueue}
    (h : u.eng e = ((s.eng e).resumed.withNotes m f l).setQueue q rq) {g : Engine} (hg : (u.setEng e (u.eng e).advance).eng e = g) :
    g.st = .running ∧ g.held = none ∧ g.pc = (s.eng e).pc + 1 ∧ g.v = (s.eng e).v ∧ g.tc = (s.eng e).tc ∧ g.queue q = rq := by
  rw [h, State.eng_setEng_running _ _ (by rw [Engine.advance_st, Engine.setQueue_st]; rfl)] at hg
  subst hg
  simp [Engine.resumed]

/-- What a waiting enqueue leaves, whether its item is on time or late. -/
theorem enqueueAfterFull_goesOn {s : State} {e : Fin 128} {q : Queue} {i : Item} (hregs : Tbl.wf resetWord s.regs = true)
    (hheld : (s.eng e).held = some (q, i)) (hst : (s.eng e).st = .queueFull) (htime : s.inTime e = true)
    (hroom : ((s.eng e).queue q).items.length < queueDepth q) :
    ∃ t, exec (.enqueueAfterFull e) s = .next t ∧ (t.eng e).st = .running ∧ (t.eng e).held = none ∧ (t.eng e).pc = (s.eng e).pc + 1
      ∧ (t.eng e).v = (s.eng e).v ∧ (t.eng e).tc = (s.eng e).tc
      ∧ (((s.eng e).queue q).onTime i s.now →
        (t.eng e).queue q = ⟨((s.eng e).queue q).items ++ [i], some (i.tick, i.sub)⟩ ∧ t.runs = s.runs)
      ∧ (¬ ((s.eng e).queue q).onTime i s.now → (t.eng e).queue q = (s.eng e).queue q
        ∧ t.fld (aPeLate (s.pePhys e)) 15 0 = satAdd 16 (s.fld (aPeLate (s.pePhys e)) 15 0) 1
        ∧ ∀ h, (s.eng e).shot = some h → t.runs = (s.lateIn h e s.now).runs)
      ∧ t = { s with engines := t.engines, regs := t.regs, runs := t.runs, hots := t.hots } := by
  have heng : (s.setEng e (s.eng e).resumed).eng e = (s.eng e).resumed := s.eng_setEng_running e rfl
  by_cases hon : ((s.eng e).queue q).onTime i s.now
  · obtain ⟨m, l, hitem, hframe⟩ := State.latchItem_of_onTime (s := s.setEng e (s.eng e).resumed) (e := e) (q := q) (i := i) (by rw [heng]; rfl)
      (by rw [heng, Engine.resumed_queue]; exact hon)
    rw [heng, Engine.resumed_queue] at hitem
    obtain ⟨hrun, hnone, hpc, hv, htc, hqueue⟩ := State.eng_afterFull hitem rfl
    have hruns := congrArg State.runs hframe
    refine ⟨_, exec_enqueueAfterFull_of_room hheld hst htime hroom, hrun, hnone, hpc, hv, htc, fun _ => ⟨hqueue, hruns⟩, fun h => absurd hon h, ?_⟩
    generalize (s.setEng e (s.eng e).resumed).latchItem e q i = u at hframe
    rw [hframe]
    rfl
  · obtain ⟨m, f, hitem, hcount, hruns, g, r, u, hframe⟩ := State.latchItem_of_late (s := s.setEng e (s.eng e).resumed) (e := e) (q := q)
      (i := i) hregs (by rw [heng]; rfl) (by rw [heng, Engine.resumed_queue]; exact hon)
    rw [heng] at hitem hruns
    rw [← Engine.setQueue_queue_self ((s.eng e).resumed.withNotes m f _) q] at hitem
    obtain ⟨hrun, hnone, hpc, hv, htc, hqueue⟩ := State.eng_afterFull hitem rfl
    refine ⟨_, exec_enqueueAfterFull_of_room hheld hst htime hroom, hrun, hnone, hpc, hv, htc, fun h => absurd h hon,
      fun _ => ⟨hqueue.trans (by simp), hcount, fun h hh => hruns h hh⟩, ?_⟩
    rw [hframe]
    rfl

/-! ### A release (R55, R56, R58) -/

theorem exec_itemRelease_of_due {s : State} {e : Fin 128} {q : Queue} {i : Item} {r : List Item} (hitems : ((s.eng e).queue q).items = i :: r)
    (hdue : sdiff i.tick.stamp s.now.stamp ≤ 0) : exec (.itemRelease e q) s
      = .next ((s.setEng e ((s.eng e).setQueue q { (s.eng e).queue q with items := r })).applyItem e i) := by
  show execItemRelease e q s = _
  simp only [execItemRelease, hitems, hdue, if_true]

theorem State.applyItem_flux {i : Item} {edge : BitVec 6} {ue : Bool} {code : BitVec 16} (h : i.kind = .flux edge ue code) (s : State) (e : Nat) :
    s.applyItem e i = s.setReg (aFlxHold e) (BitVec.ofNat 32 (ue.toNat * 2 ^ 22 + edge.toNat * 2 ^ 16 + code.toNat)) := by
  cases ue <;> simp [State.applyItem, h]

theorem State.applyItem_strobe {i : Item} {sel : Bool} (h : i.kind = .strobe sel) (s : State) (e : Nat) :
    s.applyItem e i = s.setGrp (e / 16 + 8 * sel.toNat) ((s.grp (e / 16 + 8 * sel.toNat)).request i.tick (some e) false false) := by
  cases sel <;> simp [State.applyItem, h]

/-! ### An exception (R64-R66) -/

/-- An engine that an exception has stopped. -/
def Engine.halted (g : Engine) (tick : Tick) : Engine :=
  { g with st := .stopped, wait := none, held := none, doneTick := some (g.doneTick.getD tick) }

/-- PE_EXC shows the word `w`, and the engine stops. -/
def State.showExc (s : State) (e : Nat) (w : W32) (tick : Tick) : State :=
  (s.setReg (aPeExc (s.pePhys e)) w).setEng e ((s.eng e).halted tick)

theorem State.showExc_withEngs (s : State) (e : Nat) (w : W32) (tick : Tick) (u : List Run) :
    (s.showExc e w tick).withEngs (s.showExc e w tick).engines (s.showExc e w tick).regs u
      = s.withEngs (s.setEng e ((s.eng e).halted tick)).engines (s.setReg (aPeExc (s.pePhys e)) w).regs u := rfl

/-- The shot that the engine is in records its first exception. -/
def State.recordExc (s : State) (e n : Nat) (tick : Tick) (shot : Option (W32 × W32 × Tick)) : State :=
  match shot with
  | none => s
  | some h => (s.condIn h e .engineFault tick).modEntry h.1 h.2.1 e
    (fun x => { x with exc := if x.exc = 0 then BitVec.ofNat 8 n else x.exc })

theorem State.raiseExc_eq (s : State) (e n : Nat) (tick : Tick) : s.raiseExc e n tick
    = (s.showExc e (BitVec.ofNat 32 (n * 2 ^ 24 + 2 ^ 15 + (s.eng e).pc % 2 ^ 15)) tick).recordExc e n tick (s.eng e).shot := rfl

theorem State.recordExc_eq (s : State) (e n : Nat) (tick : Tick) (shot : Option (W32 × W32 × Tick)) :
    ∃ u, s.recordExc e n tick shot = s.withEngs s.engines s.regs u := by
  cases shot with
  | none => exact ⟨s.runs, rfl⟩
  | some h => exact ⟨_, rfl⟩

/-- An exception changes engines, registers and runs: the engine stops, and PE_EXC shows the exception and the PC. -/
theorem State.raiseExc_spec {s : State} (hregs : Tbl.wf resetWord s.regs = true) (e n : Nat) (tick : Tick) :
    ∃ r u, s.raiseExc e n tick = s.withEngs (s.setEng e ((s.eng e).halted tick)).engines r u ∧ Tbl.wf resetWord r = true
      ∧ Tbl.get r (aPeExc (s.pePhys e)) (resetWord (aPeExc (s.pePhys e)))
        = BitVec.ofNat 32 (n * 2 ^ 24 + 2 ^ 15 + (s.eng e).pc % 2 ^ 15)
      ∧ ∀ a, a ≠ aPeExc (s.pePhys e) → Tbl.get r a (resetWord a) = s.reg a := by
  rw [State.raiseExc_eq]
  generalize BitVec.ofNat 32 (n * 2 ^ 24 + 2 ^ 15 + (s.eng e).pc % 2 ^ 15) = w
  obtain ⟨u, h⟩ := (s.showExc e w tick).recordExc_eq e n tick (s.eng e).shot
  exact ⟨(s.setReg (aPeExc (s.pePhys e)) w).regs, u, h.trans (s.showExc_withEngs e w tick u), s.regs_wf_setReg _ w hregs,
    s.reg_setReg_same _ w hregs, fun a => s.reg_setReg_other _ a w⟩

/-! ### The watchdog (R64, R68, R104) -/

/-- The state with other registers, tones, sessions and outputs: what the end of a play changes. -/
def State.withPlays (s : State) (r : Tbl W32) (x : Tbl Tone) (l : List Session) (n : List Sent) : State :=
  { s with regs := r, tones := x, sessions := l, sent := n }

theorem State.notify_eq (s : State) (sid : W32) (kind : Nat) (data : List Byte) : ∃ l n, s.notify sid kind data = s.withSent l n := by
  unfold State.notify State.sendMsg
  split
  · exact ⟨s.sessions, s.sent, rfl⟩
  · exact State.sendParts_eq _ _ _ _ _ _ _ _

/-- The registers below the RF channels' own are the same. -/
def sameBelowRf (r r' : Tbl W32) : Prop := ∀ a, a < 0x440000 → Tbl.get r a (resetWord a) = Tbl.get r' a (resetWord a)

theorem rfBase_ge (ch : Nat) : 0x440000 ≤ rfBase ch := by unfold rfBase; split <;> omega

/-- The end of a pass counts what was fill and notifies the segment's owner. -/
theorem State.passEnd_eq (s : State) (t : Nat) (p : Play) (n : Nat) : ∃ r l m, s.passEnd t p n = s.withPlays r s.tones l m
    ∧ sameBelowRf r s.regs := by
  have hcount : sameBelowRf (s.count (aPlyUndr (toneChan t) (toneIdx t)) 31 0 (p.fillPlayed (s.seg p.seg.toNat) n)).regs s.regs := fun a ha =>
    s.reg_setReg_other _ a _ (by have := rfBase_ge (toneChan t); unfold aPlyUndr; omega)
  unfold State.passEnd
  dsimp only
  split
  · obtain ⟨l, m, h⟩ := State.notify_eq (s.count (aPlyUndr (toneChan t) (toneIdx t)) 31 0 (p.fillPlayed (s.seg p.seg.toNat) n)) _ _ _
    rw [h]
    exact ⟨_, _, _, rfl, hcount⟩
  · exact ⟨_, _, _, rfl, hcount⟩

/-- A play that stops leaves what waits behind it. -/
theorem State.stopPlay_eq {s : State} (hwf : Tbl.wf (fun _ => Tone.init) s.tones = true) (t n : Nat) :
    ∃ r x l m, s.stopPlay t n = s.withPlays r x l m ∧ Tbl.wf (fun _ => Tone.init) x = true ∧ sameBelowRf r s.regs
      ∧ (Tbl.get x t Tone.init).play = none ∧ (Tbl.get x t Tone.init).nextPlays = (s.tone t).nextPlays
      ∧ ∀ i, i ≠ t → Tbl.get x i Tone.init = s.tone i := by
  unfold State.stopPlay
  split
  · next h => exact ⟨s.regs, s.tones, s.sessions, s.sent, rfl, hwf, fun _ _ => rfl, h, rfl, fun _ _ => rfl⟩
  · next p _ =>
    obtain ⟨r, l, m, hpass, hr⟩ := s.passEnd_eq t p n
    have hsame := s.tone_setTone_same t { s.tone t with play := none, ended := (s.tone t).noteEnd p n } hwf
    have hplay := congrArg Tone.play hsame
    have hnext := congrArg Tone.nextPlays hsame
    rw [hpass]
    exact ⟨r, _, l, m, rfl, s.tones_wf_setTone t _ hwf, hr, hplay, hnext,
      fun i hi => s.tone_setTone_other t i _ hi⟩

/-- Nothing plays on the tone or is to play. -/
def Tone.silent (x : Tone) : Prop := x.play = none ∧ x.nextPlays = []

/-- A tone's play stops and what waits behind it is dropped. -/
def State.silence (s : State) (t n : Nat) : State := (s.setTone t { s.tone t with nextPlays := [] }).stopPlay t n

theorem State.silence_eq {s : State} (hwf : Tbl.wf (fun _ => Tone.init) s.tones = true) (t n : Nat) :
    ∃ r x l m, s.silence t n = s.withPlays r x l m ∧ Tbl.wf (fun _ => Tone.init) x = true ∧ sameBelowRf r s.regs
      ∧ (Tbl.get x t Tone.init).silent ∧ ∀ i, i ≠ t → Tbl.get x i Tone.init = s.tone i := by
  have hdropped := s.tone_setTone_same t { s.tone t with nextPlays := [] } hwf
  obtain ⟨r, x, l, m, hstop, hwfx, hr, hplay, hnext, hother⟩ := State.stopPlay_eq (s.tones_wf_setTone t { s.tone t with nextPlays := [] } hwf) t n
  rw [hdropped] at hnext
  exact ⟨r, x, l, m, hstop, hwfx, hr, ⟨hplay, hnext⟩, fun i hi => (hother i hi).trans (s.tone_setTone_other t i _ hi)⟩

/-- Silencing tones one after the other: those of the list are silent, and so are those that were. -/
theorem State.each_silence_eq (ts : List Nat) (n : Nat) {s : State} (hwf : Tbl.wf (fun _ => Tone.init) s.tones = true) :
    ∃ r x l m, s.each ts (fun s t => s.silence t n) = s.withPlays r x l m ∧ sameBelowRf r s.regs
      ∧ ∀ i, i ∈ ts ∨ (s.tone i).silent → (Tbl.get x i Tone.init).silent := by
  induction ts generalizing s with
  | nil => exact ⟨s.regs, s.tones, s.sessions, s.sent, rfl, fun _ _ => rfl, fun i h => h.resolve_left (List.not_mem_nil)⟩
  | cons t ts ih =>
    obtain ⟨r, x, l, m, h, hwfx, hr, hsilent, hother⟩ := State.silence_eq hwf t n
    obtain ⟨r', x', l', m', h', hr', hsilent'⟩ := ih (s := s.withPlays r x l m) hwfx
    refine ⟨r', x', l', m', ?_, fun a ha => (hr' a ha).trans (hr a ha), fun i hi => hsilent' i ?_⟩
    · exact (congrArg (fun u => State.each u ts (fun s t => s.silence t n)) h).trans h'
    · by_cases hit : i = t
      · subst hit
        exact .inr hsilent
      · refine hi.imp (fun hmem => (List.mem_cons.mp hmem).resolve_left hit) fun hs => ?_
        rw [← hother i hit] at hs
        exact hs

/-- An engine with nothing in its queues. -/
def Engine.emptied (g : Engine) : Engine :=
  { g with qd := { g.qd with items := [] }, qr := { g.qr with items := [] }, qf := { g.qf with items := [] }, held := none }

theorem Engine.items_emptied (g : Engine) (q : Queue) : (g.emptied.queue q).items = [] := by cases q <;> rfl

theorem State.dropItems_eq (s : State) (e : Nat) (tick : Tick) : s.dropItems e tick
    = (s.setEng e (s.eng e).emptied).each (engTones e) (fun s t => s.silence t (12 * tick.toNat)) := rfl

theorem mem_engTones {e f : Nat} (h : f < 8) : toneOf e f ∈ engTones e := List.mem_map_of_mem (List.mem_range.mpr h)

theorem exec_watchdog_of_first {s : State} {e : Fin 128} (hshot : (s.eng e).shot.isSome = true) (hdue : 0 ≤ (s.now - s.watchTick e).toInt)
    (hfirst : ∀ y, s.periodicEnd (s.eng e) = some y → (s.watchTick e - y).toInt < 0) (hwatched : s.watched e = true) :
    exec (.watchdog e) s = .next ((s.raiseExc e 7 (s.watchTick e)).dropItems e (s.watchTick e)) := by
  show execWatchdog e s = _
  cases hend : s.periodicEnd (s.eng e) with
  | none => simp only [execWatchdog, hshot, hdue, hend, hwatched, and_self, if_true]
  | some y => simp only [execWatchdog, hshot, hdue, hend, hwatched, hfirst y hend, decide_true, and_self, if_true]

/-- What an exception leaves in the engine and in PE_EXC (R64). -/
def State.stoppedBy (s t : State) (e n : Nat) : Prop :=
  t.reg (aPeExc (s.pePhys e)) = BitVec.ofNat 32 (n * 2 ^ 24 + 2 ^ 15 + (s.eng e).pc % 2 ^ 15)
    ∧ (t.eng e).st = .stopped ∧ (t.eng e).wait = none ∧ (t.eng e).held = none

theorem State.pePhys_lt (s : State) (e : Nat) : s.pePhys e < 2 ^ 8 := Nat.mod_lt _ (by decide)
theorem State.aPeExc_lt (s : State) (e : Nat) : aPeExc (s.pePhys e) < 0x440000 := by
  have := s.pePhys_lt e
  unfold aPeExc
  omega

theorem State.dropItems_spec {s : State} (htones : Tbl.wf (fun _ => Tone.init) s.tones = true) (e : Nat) (tick : Tick) :
    ∃ r x l m, s.dropItems e tick = (s.setEng e (s.eng e).emptied).withPlays r x l m ∧ sameBelowRf r s.regs
      ∧ ∀ f, f < 8 → (Tbl.get x (toneOf e f) Tone.init).silent := by
  obtain ⟨r, x, l, m, hdrop, hr, hsilent⟩ := State.each_silence_eq (engTones e) (12 * tick.toNat) (s := s.setEng e (s.eng e).emptied) htones
  exact ⟨r, x, l, m, (s.dropItems_eq e tick).trans hdrop, hr, fun f hf => hsilent _ (.inl (mem_engTones hf))⟩

/-- The watchdog stops the engine, drops its items and silences its tones. -/
theorem watchdog_stops {s : State} {e : Fin 128} (hregs : Tbl.wf resetWord s.regs = true)
    (htones : Tbl.wf (fun _ => Tone.init) s.tones = true) (heng : Tbl.wf (fun _ => Engine.init) s.engines = true) (n : Nat) (w : Tick) :
    s.stoppedBy ((s.raiseExc e n w).dropItems e w) e n ∧ (∀ k : Queue, ((((s.raiseExc e n w).dropItems e w).eng e).queue k).items = [])
      ∧ (∀ f, f < 8 → (((s.raiseExc e n w).dropItems e w).tone (toneOf e f)).silent)
      ∧ (∀ e', e' ≠ e.val → ((s.raiseExc e n w).dropItems e w).eng e' = s.eng e')
      ∧ ∃ g u r x l m, (s.raiseExc e n w).dropItems e w = (s.withEngs g s.regs u).withPlays r x l m := by
  obtain ⟨r, u, hexc, -, hword, -⟩ := State.raiseExc_spec hregs e n w
  obtain ⟨r', x, l, m, hdrop, hr, hsilent⟩ := State.dropItems_spec (s := s.withEngs (s.setEng e ((s.eng e).halted w)).engines r u) htones e w
  have hwf : Tbl.wf (fun _ => Engine.init) (s.withEngs (s.setEng e ((s.eng e).halted w)).engines r u).engines = true :=
    s.engines_wf_setEng e _ heng
  have hhalted : (s.withEngs (s.setEng e ((s.eng e).halted w)).engines r u).eng e = (s.eng e).halted w := s.eng_setEng_same e _ heng
  have hother : ∀ e', e' ≠ e.val → (s.withEngs (s.setEng e ((s.eng e).halted w)).engines r u).eng e' = s.eng e' := fun e' he' =>
    s.eng_setEng_other e e' _ he'
  have hempty := State.eng_setEng_same _ e ((s.eng e).halted w).emptied hwf
  rw [hexc, hdrop, hhalted]
  refine ⟨⟨(hr _ (s.aPeExc_lt e)).trans hword, ?_, ?_, ?_⟩, fun k => ?_, hsilent, fun e' he' => ?_,
    (State.setEng (s.withEngs (s.setEng e ((s.eng e).halted w)).engines r u) e ((s.eng e).halted w).emptied).engines, u, r', x, l, m, rfl⟩
  · exact congrArg Engine.st hempty
  · exact congrArg Engine.wait hempty
  · exact congrArg Engine.held hempty
  · exact (congrArg (fun g => (Engine.queue g k).items) hempty).trans (Engine.items_emptied _ k)
  · exact (State.eng_setEng_other _ e e' _ he').trans (hother e' he')

/-! ### A handshake fault (R64, R67) -/

/-- The part of a handshake fault that comes first: an engine that executes a shot raises the exception. -/
def State.raiseHandshake (s : State) (e : Nat) : State :=
  if (s.eng e).st = .running ∧ s.inTime e = true then s.raiseExc e 9 s.now else s

/-- Beside PE_EXC, engines and runs the exception changes nothing; without one nothing changes. -/
theorem State.raiseHandshake_spec {s : State} {e : Nat} (hregs : Tbl.wf resetWord s.regs = true)
    (heng : Tbl.wf (fun _ => Engine.init) s.engines = true) :
    ∃ g r u, s.raiseHandshake e = s.withEngs g r u ∧ Tbl.wf (fun _ => Engine.init) g = true ∧ Tbl.wf resetWord r = true
      ∧ (∀ a, a ≠ aPeExc (s.pePhys e) → Tbl.get r a (resetWord a) = s.reg a)
      ∧ ((s.eng e).st = .running → s.inTime e = true → Tbl.get g e Engine.init = (s.eng e).halted s.now
        ∧ Tbl.get r (aPeExc (s.pePhys e)) (resetWord (aPeExc (s.pePhys e)))
          = BitVec.ofNat 32 (9 * 2 ^ 24 + 2 ^ 15 + (s.eng e).pc % 2 ^ 15))
      ∧ ((s.eng e).st ≠ .running ∨ s.inTime e = false → g = s.engines ∧ u = s.runs) := by
  by_cases hruns : (s.eng e).st = .running ∧ s.inTime e = true
  · obtain ⟨r, u, hexc, hwf, hword, hother⟩ := State.raiseExc_spec hregs e 9 s.now
    rw [State.raiseHandshake, if_pos hruns]
    refine ⟨_, r, u, hexc, s.engines_wf_setEng e _ heng, hwf, hother, fun _ _ => ⟨s.eng_setEng_same e _ heng, hword⟩, ?_⟩
    rintro (hst | htime)
    · exact absurd hruns.1 hst
    · exact absurd (hruns.2.symm.trans htime) (by decide)
  · rw [State.raiseHandshake, if_neg hruns]
    exact ⟨s.engines, s.regs, s.runs, rfl, heng, hregs, fun _ _ => rfl, fun hst htime => absurd ⟨hst, htime⟩ hruns, fun _ => ⟨rfl, rfl⟩⟩

/-- The registers after a handshake fault: a swap is called for, and ALERT_N says so (R67, R432). -/
def State.callSwap (s : State) (e : Nat) : State := (s.setBit (aMldPeMap e) 8 true).setBit aMldAlert 4 true

theorem State.callSwap_eq (s : State) (e : Nat) : s.callSwap e = s.withRegs (s.callSwap e).regs := rfl

theorem State.reg_callSwap {s : State} (hregs : Tbl.wf resetWord s.regs = true) (e : Fin 128) :
    (s.callSwap e).bit (aMldPeMap e) 8 = true ∧ (s.callSwap e).bit aMldAlert 4 = true
      ∧ ∀ a, a ≠ aMldPeMap e → a ≠ aMldAlert → (s.callSwap e).reg a = s.reg a := by
  have hne : aMldPeMap e ≠ aMldAlert := by unfold aMldPeMap aMldAlert; omega
  refine ⟨?_, State.bit_setBit_same _ _ _ _ (s.regs_wf_setBit _ _ _ hregs) (by decide), fun a hmap halert => ?_⟩
  · rw [← s.bit_setBit_same (aMldPeMap e) 8 true hregs (by decide)]
    exact congrArg (fun v => fieldOf v 8 8 == 1) (State.reg_setReg_other _ _ _ _ hne)
  · exact (State.reg_setReg_other _ _ _ _ halert).trans (s.reg_setReg_other _ _ _ hmap)

theorem State.callSwap_spec {s : State} (hregs : Tbl.wf resetWord s.regs = true) (e : Fin 128) :
    ∃ r, s.callSwap e = s.withRegs r ∧ (s.withRegs r).bit (aMldPeMap e) 8 = true ∧ (s.withRegs r).bit aMldAlert 4 = true
      ∧ ∀ a, a ≠ aMldPeMap e → a ≠ aMldAlert → (s.withRegs r).reg a = s.reg a := by
  have hfacts := State.reg_callSwap hregs e
  rw [State.callSwap_eq] at hfacts
  exact ⟨_, s.callSwap_eq e, hfacts⟩

/-- A blocking fault more (R432). -/
def FaultPath.counted (f : FaultPath) : FaultPath := { f with blocks := BitVec.ofNat 8 (satAdd 8 f.blocks.toNat 1) }

/-- The state with another fault path and log: what a fault's report changes, beside registers. -/
def State.withReport (s : State) (f : FaultPath) (l : Log) : State := { s with fault := f, log := l }

/-- The report of a handshake fault: a swap is called for, the fault is logged and counted (R67). -/
def State.reportHandshake (s : State) (e p : Nat) : State :=
  ((s.swapPendingPe e).logEvent 0x0010 0x0001 [BitVec.ofNat 8 e, BitVec.ofNat 8 p]).blockFault

theorem State.blockFault_withLog (s : State) (e : Nat) (l : Log) :
    State.blockFault { s.swapPendingPe e with log := l } = (s.callSwap e).withReport s.fault.counted l := rfl

theorem State.reportHandshake_eq {s : State} {g : Tbl Engine} {r r' : Tbl W32} {u : List Run} {e : Nat}
    (h : (s.withEngs g r u).callSwap e = (s.withEngs g r u).withRegs r') (p : Nat) :
    (s.withEngs g r u).reportHandshake e p = (s.withEngs g r' u).withReport s.fault.counted
      (s.logEvent 0x0010 0x0001 [BitVec.ofNat 8 e, BitVec.ofNat 8 p]).log := by
  rw [State.reportHandshake, State.logEvent_congr (s := s) (t := (s.withEngs g r u).swapPendingPe e) rfl rfl]
  refine ((s.withEngs g r u).blockFault_withLog e _).trans ?_
  rw [h]
  rfl

theorem State.setEng_withEngs (s : State) (g : Tbl Engine) (r : Tbl W32) (u : List Run) (e : Nat) (x : Engine) :
    (s.withEngs g r u).setEng e x = s.withEngs ((s.withEngs g r u).setEng e x).engines r u := rfl

theorem exec_handshakeFault_of_free {s : State} {e : Fin 128} (hwait : (s.eng e).st ≠ .waiting) (hfull : (s.eng e).st ≠ .queueFull) :
    exec (.handshakeFault e) s = .next (State.reportHandshake
      ((s.raiseHandshake e).setEng e { (s.raiseHandshake e).eng e with hsFault := true }) e ((s.raiseHandshake e).pePhys e)) := by
  show execHandshakeFault e s = _
  simp only [execHandshakeFault, hwait, hfull, or_self, if_false, leBytes_one]
  rfl

theorem aMldPeMap_ne_aPeExc (e : Fin 128) (p : Nat) : aMldPeMap e ≠ aPeExc p := by unfold aMldPeMap aPeExc; omega
theorem aPeExc_ne_aMldAlert (p : Nat) : aPeExc p ≠ aMldAlert := by unfold aPeExc aMldAlert; omega

/-- A handshake fault is reported, and an engine that executes a shot stops. -/
theorem handshakeFault_reports {s : State} {e : Fin 128} {entry : List Byte} (hregs : Tbl.wf resetWord s.regs = true)
    (heng : Tbl.wf (fun _ => Engine.init) s.engines = true) (hwait : (s.eng e).st ≠ .waiting) (hfull : (s.eng e).st ≠ .queueFull)
    (hentry : entry = [BitVec.ofNat 8 e, BitVec.ofNat 8 (s.pePhys e)]) :
    ∃ t, exec (.handshakeFault e) s = .next t ∧ (t.eng e).hsFault = true ∧ t.bit (aMldPeMap e) 8 = true ∧ t.bit aMldAlert 4 = true
      ∧ t.fault = s.fault.counted ∧ t.log = (s.logEvent 0x0010 0x0001 entry).log
      ∧ ((s.eng e).st = .running → s.inTime e = true → s.stoppedBy t e 9)
      ∧ ((s.eng e).st ≠ .running ∨ s.inTime e = false → t.eng e = { s.eng e with hsFault := true } ∧ t.runs = s.runs)
      ∧ ∃ g r u f l, t = (s.withEngs g r u).withReport f l := by
  subst hentry
  obtain ⟨g, r, u, hraise, hwfg, hwfr, hother, hstops, hkeeps⟩ := State.raiseHandshake_spec (e := e) hregs heng
  have hphys : (s.withEngs g r u).pePhys e = s.pePhys e := congrArg (fun w => fieldOf w 7 0) (hother _ (aMldPeMap_ne_aPeExc e _))
  have hexec := exec_handshakeFault_of_free hwait hfull
  rw [hraise, hphys] at hexec
  have hg := State.eng_setEng_same (s.withEngs g r u) e { (s.withEngs g r u).eng e with hsFault := true } hwfg
  generalize hx : ({ (s.withEngs g r u).eng e with hsFault := true } : Engine) = x at hexec hg
  rw [State.setEng_withEngs] at hexec hg
  generalize ((s.withEngs g r u).setEng e x).engines = g' at hexec hg
  obtain ⟨r', hcall, hmap, halert, hreg⟩ := State.callSwap_spec (s := s.withEngs g' r u) hwfr e
  rw [State.reportHandshake_eq hcall] at hexec
  subst hx
  refine ⟨_, hexec, congrArg Engine.hsFault hg, hmap, halert, rfl, rfl, fun hst htime => ?_, fun hidle => ?_, _, _, _, _, _, rfl⟩
  · obtain ⟨hhalted, hword⟩ := hstops hst htime
    refine ⟨(hreg _ (aMldPeMap_ne_aPeExc e _).symm (aPeExc_ne_aMldAlert _)).trans hword, ?_, ?_, ?_⟩
    · exact (congrArg Engine.st hg).trans (congrArg Engine.st hhalted)
    · exact (congrArg Engine.wait hg).trans (congrArg Engine.wait hhalted)
    · exact (congrArg Engine.held hg).trans (congrArg Engine.held hhalted)
  · obtain ⟨rfl, rfl⟩ := hkeeps hidle
    exact ⟨hg, rfl⟩

/-! ### Program memory (R67) -/

theorem exec_programMemoryRewrite_of_error {s : State} {e : Fin 128} {addr : BitVec 15} (h : (s.eng e).memErr = some addr.toNat) :
    exec (.programMemoryRewrite e addr) s = .next ((s.setProg e addr.toNat
      ⟨imgWord (Tbl.get s.clusterImg (e.val / 16) []) (e.val % 16) addr.toNat, false, false⟩).setEng e
        { s.eng e with memErr := none, memErrLast := some addr.toNat }) := by
  show execProgramMemoryRewrite e addr s = _
  simp only [execProgramMemoryRewrite, h, if_true, State.rewriteProg]

/-! ### The deadline of a WAITE (R61) -/

theorem exec_waiteTimeout_of_passed {s : State} {e : Fin 128} {w : WaitReq} {d : Tick} (hwait : (s.eng e).wait = some w)
    (hdeadline : w.deadline = some d) (hpassed : 0 ≤ sdiff s.now.stamp d.stamp) (htime : s.inTime e = true) :
    exec (.waiteTimeout e) s = .next (s.setEng e ((s.eng e).timeOut w.ci.toNat w.rd.toNat)) := by
  show execWaiteTimeout e s = _
  simp only [execWaiteTimeout, hwait, hdeadline, hpassed, htime, and_self, if_true]

theorem Engine.reg_setReg_same (g : Engine) {n : Nat} {x : W32} (hn : n ≠ 0) (hx : x ≠ 0) : (g.setReg n x).reg n = x := by
  rw [Engine.setReg, if_neg hn, Engine.reg, if_neg hn, Tbl.put, if_neg hx]
  exact Tbl.get_insert_same _ _ _ _

theorem Engine.reg_setReg_other (g : Engine) {k n : Nat} (x : W32) (h : n ≠ k) : (g.setReg k x).reg n = g.reg n := by
  unfold Engine.setReg Engine.reg
  split
  · rfl
  · split
    · rfl
    · exact Tbl.get_put_other g.v k n x 0 0 h

theorem Engine.cbit_setCbit_same (g : Engine) {i : Nat} (hi : i < 8) (b : Bool) : (g.setCbit i b).cbit i = b := by
  cases b <;> simp [Engine.setCbit, Engine.cbit, hi]

theorem Engine.cbit_setCbit_other (g : Engine) {i k : Nat} (h : k ≠ i) (b : Bool) : (g.setCbit i b).cbit k = g.cbit k := by
  have hbit : (1#8 <<< i).getLsbD k = false := by
    rw [BitVec.getLsbD_shiftLeft, BitVec.getLsbD_one]
    simp only [Bool.and_eq_false_iff, Bool.not_eq_false', decide_eq_false_iff_not, decide_eq_true_eq]
    omega
  cases b with
  | true => simp [Engine.setCbit, Engine.cbit, hbit]
  | false =>
    simp only [Engine.setCbit, Engine.cbit, Bool.false_eq_true, if_false, BitVec.getLsbD_and, BitVec.getLsbD_not, hbit, Bool.not_false,
      Bool.and_true, Bool.and_eq_left_iff_imp, decide_eq_true_eq]
    exact BitVec.lt_of_getLsbD

/-- A WAITE that gives up changes the registers and the condition bit that it names, and the engine goes on. -/
theorem Engine.reg_timeOut (g : Engine) (ci rd n : Nat) : (g.timeOut ci rd).reg n = (g.setReg rd 0x00020003).reg n := by
  unfold Engine.timeOut Engine.setReg
  split
  · rfl
  · rfl

theorem Engine.cbit_timeOut (g : Engine) (ci rd k : Nat) : (g.timeOut ci rd).cbit k = (g.setCbit ci false).cbit k := by
  unfold Engine.timeOut Engine.setReg
  split
  · rfl
  · rfl

theorem Engine.timeOut_goesOn (g : Engine) (ci rd : Nat) : (g.timeOut ci rd).pc = g.pc + 1 ∧ (g.timeOut ci rd).st = .running
    ∧ (g.timeOut ci rd).wait = none ∧ (g.timeOut ci rd).latches = g.latches := by
  unfold Engine.timeOut Engine.setReg
  split
  · exact ⟨rfl, rfl, rfl, rfl⟩
  · exact ⟨rfl, rfl, rfl, rfl⟩

/-- Settles O7: each command by the equation of its effective case, and what that leaves by the lemma of each part. -/
theorem efauxEngineEvents : Obligations.EfauxEngineEvents := by
  intro s e q i r addr w d h hregs htones heng hprog g p rq x onTime exc
  refine ⟨fun hheld hst htime hroom => ?_, fun hitems hdue => ?_, fun hshot hdue hfirst hwatched => ?_, fun hwait hfull => ?_,
    fun herr => ?_, fun hwait hdeadline hpassed htime => ?_⟩
  · obtain ⟨t, hexec, hrun, hnone, hpc, hv, htc, hon, hlate, hframe⟩ := enqueueAfterFull_goesOn hregs hheld hst htime hroom
    refine ⟨t, hexec, hrun, hnone, hpc, hv, htc, hon, fun hnot => ?_, hframe⟩
    obtain ⟨hqueue, hcount, hruns⟩ := hlate hnot
    exact ⟨hqueue, hcount, hruns h⟩
  · rw [exec_itemRelease_of_due hitems hdue]
    cases hkind : i.kind with
    | frame f op =>
      simp only [State.applyItem, hkind]
      rfl
    | play f seg amp => rfl
    | flux edge ue code => rw [State.applyItem_flux hkind]
    | bias sel code =>
      simp only [State.applyItem, hkind]
      rfl
    | strobe sel =>
      rw [State.applyItem_strobe hkind]
      rfl
  · obtain ⟨hexc, hempty, hsilent, hother, g', u, r', x', l, m, hframe⟩ := watchdog_stops hregs htones heng 7 x
    refine ⟨_, exec_watchdog_of_first hshot hdue hfirst hwatched, hexc, hempty, hsilent, hother, ?_⟩
    rw [hframe]
    rfl
  · obtain ⟨t, hexec, hfault, hmap, halert, hblocks, hlog, hstops, hkeeps, g', r', u, f, l, rfl⟩ :=
      handshakeFault_reports hregs heng hwait hfull rfl
    exact ⟨_, hexec, hfault, hmap, halert, hblocks, hlog, hstops, hkeeps, rfl⟩
  · refine ⟨_, exec_programMemoryRewrite_of_error herr, Tbl.get_put_same _ _ _ _ hprog, fun e' a ha => ?_, ?_, rfl⟩
    · exact Tbl.get_put_other s.prog _ _ _ _ _ ha
    · exact State.eng_setEng_same _ e _ heng
  · obtain ⟨hpc, hst, hnone, hlatches⟩ := (s.eng e).timeOut_goesOn w.ci.toNat w.rd.toNat
    refine ⟨_, exec_waiteTimeout_of_passed hwait hdeadline hpassed htime, hpc, hst, hnone, ?_, hlatches, fun hrd => ?_, fun k hk => ?_,
      fun n hn => ?_⟩
    · rw [Engine.cbit_timeOut, Engine.cbit_setCbit_same _ w.ci.isLt]
    · rw [Engine.reg_timeOut, Engine.reg_setReg_same _ (fun h0 => hrd (BitVec.eq_of_toNat_eq h0)) (by decide)]
    · rw [Engine.cbit_timeOut, Engine.cbit_setCbit_other _ hk]
    · rw [Engine.reg_timeOut, Engine.reg_setReg_other _ _ hn]

end Sys2Proof.Machine
end

section
/-! PROOF. The alert of a lost stage does not outlive the undo of a routine that has written MLD_ALERT (R362, R396, R432). -/

namespace Sys2Proof.Machine

/-- A microword WRITE of 4 to MLD_ALERT: the stage flag is cleared by the 1 written (R356, R432). -/
def clearStageAlert : MicroWord := ⟨false, false, 0, false, 0, 0, 0, 0, BitVec.ofNat 32 aMldAlert, 4, 0, 0, 0, 0⟩

/-- Stage 10 with six healthy stages, the flag of the four lost ones set, and a routine at that word. -/
def sixStages : State :=
  { State.reset with
    regs := [(aMldAlert, 4)]
    cmk := { Cmk.init with running := some ⟨0x21, 0, 0, [], [], none, []⟩, store := [(0, MicroCode clearStageAlert 1)] }
    supply := { Supply.init with stages := [false, false, false, false, true, true, true, true, true, true] }
    boot := { Boot.init with stage := 10 }
    fault := { FaultPath.init with start := false } }

/-- The routine has made the WRITE: the old word of MLD_ALERT, its stage flag set, stands in the journal. -/
def alertInJournal : State :=
  { sixStages with
    regs := []
    cmk := { sixStages.cmk with journal := [(BitVec.ofNat 32 aMldAlert, 4)] } }

/-- The state that an outcome goes on with. -/
def nextState (o : Out) : Option State :=
  match o with
  | .next t => some t
  | _ => none

/-- The model reaches the refuting state: it is the one that the WRITE leaves. -/
theorem exec_cmkWrite_sixStages : exec (.cmkWrite clearStageAlert) sixStages = .next alertInJournal := rfl

theorem alertInJournal_wf : Tbl.wf resetWord alertInJournal.regs = true := rfl
theorem alertInJournal_powered : alertInJournal.supply.unpowered = false := rfl
theorem alertInJournal_stands : alertInJournal.supply.stages.getD (4 : Fin 10) false = true := by decide

/-- The loss of one stage more shuts the module down, and the undo writes the old word back over the flag that has just been set. -/
theorem stageFlag_stageIsolate_alertInJournal :
    (nextState (exec (.stageIsolate 4) alertInJournal)).map (fun t => t.bit aMldAlert 2) = some false := by decide +kernel

/-- Refutes O45: the shut-down for a lost stage aborts the running routine with undo, and a journal that holds MLD_ALERT with its stage flag
set clears the flag again, as a written 1 does. -/
theorem not_supplyEventsStopAndRestart : ¬ Obligations.SupplyEventsStopAndRestart := by
  intro h
  obtain ⟨-, -, -, -, -, -, -, -, -, -, -, -, -, -, -, -, -, -, -, -, -, -, -, -, hisolate, -⟩ :=
    h alertInJournal 0 0 0 4 0 0 0 .thermal alertInJournal_wf
  obtain ⟨t, hexec, -, hflag, -⟩ := hisolate alertInJournal_powered alertInJournal_stands
  have hcleared : some (t.bit aMldAlert 2) = some false := by
    rw [← stageFlag_stageIsolate_alertInJournal, hexec]
    rfl
  rw [hflag] at hcleared
  cases hcleared

end Sys2Proof.Machine
end

section
/-! SUPPORT. The word that an accepted write stores, and the state it leaves (R2, R5, R321). -/

namespace Sys2Proof.Machine

/-! ### The word stored -/

/-- The word that a write of `v` at the address `a` stores. -/
def State.wordStored (s : State) (a : Nat) (v : W32) : W32 := ((findReg a).map (fun f => f.stored (s.reg a) v)).getD 0

/-- The state with other sessions, log and registers: what a request leaves before its register's write acts. -/
def State.withStored (s : State) (l : List Session) (g : Log) (r : Tbl W32) : State := { s with sessions := l, log := g, regs := r }

/-- The registers `r` are those of `s` with the word of the write of `v` at `a` stored. -/
def State.Stored (s : State) (a : Nat) (v : W32) (r : Tbl W32) : Prop :=
  Tbl.wf resetWord r = true ∧ Tbl.get r a (resetWord a) = s.wordStored a v ∧ ∀ b, b ≠ a → Tbl.get r b (resetWord b) = s.reg b

theorem State.stored_put {s : State} (hregs : Tbl.wf resetWord s.regs = true) (a : Nat) (v : W32) :
    s.Stored a v (s.setReg a (s.wordStored a v)).regs :=
  ⟨s.regs_wf_setReg a _ hregs, s.reg_setReg_same a _ hregs, fun b hb => s.reg_setReg_other a b _ hb⟩

section
variable {s : State} {a : Nat} {v : W32} {r : Tbl W32} (h : s.Stored a v r) (l : List Session) (g : Log)
include h

theorem State.Stored.regs_wf : Tbl.wf resetWord (s.withStored l g r).regs = true := h.1
theorem State.Stored.reg_same : (s.withStored l g r).reg a = s.wordStored a v := h.2.1
theorem State.Stored.reg_other {b : Nat} (hb : b ≠ a) : (s.withStored l g r).reg b = s.reg b := h.2.2 b hb
theorem State.Stored.fld_other {b : Nat} (hb : b ≠ a) (hi lo : Nat) : (s.withStored l g r).fld b hi lo = s.fld b hi lo := by
  rw [State.fld, State.fld, h.reg_other l g hb]

end

/-- An accepted write of one register ends in what its register's write does and an answer, in a state that differs from `s` in the stored
word, the sessions and the log. -/
theorem exec_of_accepted {s : State} {x : Session} {sid seq : W32} {c : Instr} {a : Nat} {v : W32} {id : RegId} {idx : List Nat}
    {P : State → Prop} (hregs : Tbl.wf resetWord s.regs = true) (hask : s.asks x sid seq 0x11 none = true) (hmay : s.mayLog = true)
    (hmap : registerAt a = some (id, idx)) (hc : exec c s = .next (s.writeOne sid seq a v)) (hid : id ≠ .cruDragData)
    (hP : ∀ r, s.Stored a v r → ∀ l g l' n, P (((s.withStored l g r).writeEffect x.id (.ofId id idx) (s.reg a) v).withSent l' n))
    (hck : (s.taken x sid).checkEntry x.role a v = none) : ∃ t, exec c s = .next t ∧ P t := by
  have hanswers : WriteAnswers s x sid seq c a v
      (fun u => (u.setReg a (s.wordStored a v)).writeEffect x.id (.ofId id idx) (s.reg a) v) :=
    writeOne_acts hmap hc hid (fun _ _ => rfl)
  obtain ⟨hopen, hlogged, -, -⟩ := (hanswers hask).1 hck
  have hend : ∀ w, s.SameButLog w → exec c s = .next
      (((w.setReg a (s.wordStored a v)).writeEffect x.id (.ofId id idx) (s.reg a) v).reply sid seq 0x11 .ok []) →
      ∃ t, exec c s = .next t ∧ P t := by
    rintro _ ⟨l, g, rfl⟩ hexec
    obtain ⟨l', n, hreply⟩ := State.reply_eq (((s.withLog l g).setReg a (s.wordStored a v)).writeEffect x.id (.ofId id idx) (s.reg a) v)
      sid seq 0x11 .ok []
    exact ⟨_, hexec, hreply ▸ hP _ (State.stored_put hregs a v) l g l' n⟩
  cases hp : isPrivileged a with
  | false => exact hend _ (s.sameButLog_taken x sid) (hopen hp)
  | true => exact hend _ ((s.sameButLog_taken x sid).logNow x _ _ _) (hlogged hp hmay)

/-- The masks of the register at an address: the bits a write takes, and those that a written 1 clears (R438). -/
def masksAt (a : Nat) : Option (RegId × W32 × W32) := (findReg a).map (fun f => (f.row.id, f.rwMask, f.row.w1c))

theorem State.getLsbD_wordStored {s : State} {a : Nat} {v m c : W32} {id : RegId} (h : masksAt a = some (id, m, c)) (hid : id ≠ .peWdog)
    {k : Nat} (hk : k < 32) : (s.wordStored a v).getLsbD k =
      ((((s.reg a).getLsbD k && !m.getLsbD k) || (v.getLsbD k && m.getLsbD k)) && !(v.getLsbD k && c.getLsbD k)) := by
  obtain ⟨f, hf, hmasks⟩ := Option.map_eq_some_iff.mp h
  obtain ⟨rfl, hm, hc⟩ : f.row.id = id ∧ f.rwMask = m ∧ f.row.w1c = c := by simpa using hmasks
  rw [State.wordStored, hf, Option.map_some, Option.getD_some, RegRef.getLsbD_stored hid _ _ hk, hm, hc]

/-- A field that a write takes whole holds what was written. -/
theorem State.getLsbD_wordStored_rw {s : State} {a : Nat} {v m : W32} {id : RegId} (h : masksAt a = some (id, m, 0)) (hid : id ≠ .peWdog)
    {k : Nat} (hk : k < 32) (hm : m.getLsbD k = true) : (s.wordStored a v).getLsbD k = v.getLsbD k := by
  simp [State.getLsbD_wordStored h hid hk, hm]

theorem fieldOf_congr {w w' : W32} {hi lo : Nat} (h : ∀ k, lo ≤ k → k ≤ hi → w.getLsbD k = w'.getLsbD k) (hl : lo ≤ hi) :
    fieldOf w hi lo = fieldOf w' hi lo := by
  have hbits : w.extractLsb' lo (hi - lo + 1) = w'.extractLsb' lo (hi - lo + 1) := by
    ext i hi'
    simpa using h (lo + i) (by omega) (by omega)
  have hnat (u : W32) : fieldOf u hi lo = (u.extractLsb' lo (hi - lo + 1)).toNat := by
    rw [BitVec.extractLsb'_toNat, Nat.shiftRight_eq_div_pow, fieldOf]
  rw [hnat, hnat, hbits]

theorem State.fieldOf_wordStored_rw {s : State} {a : Nat} {v m : W32} {id : RegId} {hi lo : Nat} (h : masksAt a = some (id, m, 0))
    (hid : id ≠ .peWdog) (hl : lo ≤ hi) (hhi : hi < 32) (hm : ∀ k, lo ≤ k → k ≤ hi → m.getLsbD k = true) :
    fieldOf (s.wordStored a v) hi lo = fieldOf v hi lo :=
  fieldOf_congr (fun k h1 h2 => State.getLsbD_wordStored_rw h hid (by omega) (hm k h1 h2)) hl

theorem masksAt_cruClsThi (c : Fin 34) : masksAt (aCruClsThi c) = some (.cruClsThi, 0xFF, 0) := by revert c; decide +kernel
theorem masksAt_cryCtrl : masksAt aCryCtrl = some (.cryCtrl, 0x1F01, 0) := by decide +kernel
theorem masksAt_cryRoutFs (k : Fin 4) : masksAt (aCryRoutFs k) = some (.cryRoutFs, 0xFFFFFFFF, 0) := by revert k; decide +kernel
theorem masksAt_cryRoutCfg (k : Fin 4) : masksAt (aCryRoutCfg k) = some (.cryRoutCfg, 0x800FFFFF, 0) := by revert k; decide +kernel
theorem masksAt_mldResbufStat : masksAt aMldResbufStat = some (.mldResbufStat, 0, 0x100000) := by decide +kernel

end Sys2Proof.Machine
end

section
/-! SUPPORT. What the writes of the scan's and the outputs' registers, and the capture unit's fire, leave alone (R288, R381-R388). -/

namespace Sys2Proof.Machine

/-! ### Registers that differ in a few addresses -/

/-- `t` is `s` with other registers, none of them one that `P` names. -/
def State.RegsOnly (P : Nat → Prop) (s t : State) : Prop :=
  t = s.withRegs t.regs ∧ (Tbl.wf resetWord s.regs = true → Tbl.wf resetWord t.regs = true) ∧ ∀ a, P a → t.reg a = s.reg a

theorem State.RegsOnly.refl (P : Nat → Prop) (s : State) : State.RegsOnly P s s := ⟨rfl, id, fun _ _ => rfl⟩
theorem State.RegsOnly.trans {P : Nat → Prop} {s t u : State} (h : State.RegsOnly P s t) (h' : State.RegsOnly P t u) :
    State.RegsOnly P s u := by
  obtain ⟨heq, hwf, hreg⟩ := h
  obtain ⟨heq', hwf', hreg'⟩ := h'
  refine ⟨?_, hwf' ∘ hwf, fun a ha => (hreg' a ha).trans (hreg a ha)⟩
  rw [heq] at heq'
  exact heq'

theorem State.RegsOnly.mono {P Q : Nat → Prop} {s t : State} (h : State.RegsOnly P s t) (hQ : ∀ a, Q a → P a) : State.RegsOnly Q s t :=
  ⟨h.1, h.2.1, fun a ha => h.2.2 a (hQ a ha)⟩

theorem State.regsOnly_setReg {P : Nat → Prop} (s : State) {a : Nat} (v : W32) (h : ∀ b, P b → b ≠ a) : State.RegsOnly P s (s.setReg a v) :=
  ⟨rfl, s.regs_wf_setReg a v, fun b hb => s.reg_setReg_other a b v (h b hb)⟩

theorem State.regsOnly_each {P : Nat → Prop} {α : Type} {f : State → α → State} (l : List α)
    (hf : ∀ s, ∀ x ∈ l, State.RegsOnly P s (f s x)) (s : State) : State.RegsOnly P s (s.each l f) := by
  induction l generalizing s with
  | nil => exact .refl P s
  | cons x l ih => exact (hf s x (by simp)).trans (ih (fun u y hy => hf u y (by simp [hy])) (f s x))

theorem State.RegsOnly.fld {P : Nat → Prop} {s t : State} (h : State.RegsOnly P s t) {a : Nat} (ha : P a) (hi lo : Nat) :
    t.fld a hi lo = s.fld a hi lo := by rw [State.fld, State.fld, h.2.2 a ha]

/-! ### The outputs and the channels (R382, R385) -/

/-- The registers that are no ratiometric output's code. -/
def notRoutOut (a : Nat) : Prop := ∀ k, k < 4 → a ≠ aCryRoutOut k
/-- Those of them that are not channel `n`'s status. -/
def notStatusOf (n a : Nat) : Prop := notRoutOut a ∧ a ≠ aCryCst n

theorem notRoutOut_aCryCst (n : Nat) : notRoutOut (aCryCst n) := fun k _ => by unfold aCryCst aCryRoutOut; omega
theorem notStatusOf_aCryCst {m n : Nat} (h : m ≠ n) : notStatusOf n (aCryCst m) :=
  ⟨notRoutOut_aCryCst m, by unfold aCryCst; omega⟩
theorem notStatusOf_aCryCtrl (n : Nat) : notStatusOf n aCryCtrl :=
  ⟨fun k _ => by unfold aCryCtrl aCryRoutOut; omega, by unfold aCryCtrl aCryCst; omega⟩
theorem notStatusOf_aCryCnt (n : Nat) : notStatusOf n aCryCnt :=
  ⟨fun k _ => by unfold aCryCnt aCryRoutOut; omega, by unfold aCryCnt aCryCst; omega⟩
theorem notStatusOf_aCryExc (n m : Nat) : notStatusOf n (aCryExc m) :=
  ⟨fun k _ => by unfold aCryExc aCryRoutOut; omega, by unfold aCryExc aCryCst; omega⟩

theorem State.routUpdate_eq (s : State) (k : Nat) : s.routUpdate k = s.setReg (aCryRoutOut k)
    (if (s.reg (aCryRoutCfg k)).getLsbD 31 = true ∧ s.cryStatus (s.fld (aCryRoutCfg k) 19 16) = 2 then
      BitVec.ofNat 32 (min (65536 * (s.reg (aCryRes (s.fld (aCryRoutCfg k) 19 16))).toNat / (1000 * (s.reg (aCryRoutFs k)).toNat)) 65535)
    else BitVec.ofNat 32 (0x10000 + s.fld (aCryRoutCfg k) 15 0)) := by
  exact (apply_ite (s.setReg (aCryRoutOut k)) _ _ _).symm

theorem State.regsOnly_routUpdate (s : State) {k : Nat} (hk : k < 4) : State.RegsOnly notRoutOut s (s.routUpdate k) :=
  s.routUpdate_eq k ▸ s.regsOnly_setReg _ (fun _ hb => hb k hk)

theorem State.crySet_regsOnly_setFld (s : State) (n v : Nat) :
    State.RegsOnly notRoutOut (s.setFld (aCryCst n) 2 0 v) (s.crySet n v) :=
  State.regsOnly_each _ (fun u k hk => u.regsOnly_routUpdate (by simp at hk; omega)) _

/-- A channel's new status leaves the rest of the state alone but the codes of the outputs (R385). -/
theorem State.regsOnly_crySet (s : State) (n v : Nat) : State.RegsOnly (notStatusOf n) s (s.crySet n v) :=
  (s.regsOnly_setReg _ (fun _ hb => hb.2)).trans ((s.crySet_regsOnly_setFld n v).mono (fun _ hb => hb.1))

theorem State.cryStatus_crySet_same {s : State} (hwf : Tbl.wf resetWord s.regs = true) (n : Nat) {v : Nat} (hv : v < 8) :
    (s.crySet n v).cryStatus n = v := by
  rw [State.cryStatus, (s.crySet_regsOnly_setFld n v).fld (notRoutOut_aCryCst n), State.fld_setFld_same s _ 2 0 v hwf (by decide) (by decide)]
  omega

theorem State.cryStatus_crySet_other (s : State) {m n : Nat} (v : Nat) (h : m ≠ n) : (s.crySet n v).cryStatus m = s.cryStatus m :=
  (s.regsOnly_crySet n v).fld (notStatusOf_aCryCst h) 2 0

/-- The registers that are neither an output's code nor a channel's status. -/
def notCryState (a : Nat) : Prop := ∀ n, notStatusOf n a

theorem State.regsOnly_each_crySet (s : State) (l : List Nat) (v : Nat) :
    State.RegsOnly notCryState s (s.each l (fun s n => s.crySet n v)) :=
  State.regsOnly_each l (fun u n _ => (u.regsOnly_crySet n v).mono (fun _ ha => ha n)) s

/-- The channels of a list take a status, and the others keep theirs. -/
theorem State.cryStatus_each_crySet {v : Nat} (hv : v < 8) (l : List Nat) {s : State} (hwf : Tbl.wf resetWord s.regs = true) (m : Nat) :
    (s.each l (fun s n => s.crySet n v)).cryStatus m = if m ∈ l then v else s.cryStatus m := by
  induction l generalizing s with
  | nil => rfl
  | cons n l ih =>
    have hstep : (s.each (n :: l) (fun s n => s.crySet n v)) = (s.crySet n v).each l (fun s n => s.crySet n v) := rfl
    rw [hstep, ih ((s.regsOnly_crySet n v).2.1 hwf)]
    rcases eq_or_ne m n with rfl | hne
    · simp [State.cryStatus_crySet_same hwf m hv]
    · simp [State.cryStatus_crySet_other s v hne, hne]

theorem State.cryEnabled_congr {s t : State} {P : Nat → Prop} (h : State.RegsOnly P s t) (hP : ∀ m, P (aCryExc m)) :
    t.cryEnabled = s.cryEnabled := by
  funext m
  rw [State.cryEnabled, State.cryEnabled, State.bit, State.bit, h.fld (hP m)]

theorem State.cryAfter_congr {s t : State} (h : t.cryEnabled = s.cryEnabled) (n : Nat) : t.cryAfter n = s.cryAfter n := by
  rw [State.cryAfter, State.cryAfter, h]

/-- The state with another scan, and other registers. -/
def State.withCryo (s : State) (r : Tbl W32) (y : Cryo) : State := { s with regs := r, cryo := y }

/-- A channel is excited: the rest of the state stays (R381). -/
theorem State.cryExcite_eq (s : State) (n : Option Nat) : s.cryExcite n = s.withCryo s.regs (s.cryExcite n).cryo := rfl
theorem State.active_cryExcite (s : State) (n : Option Nat) : (s.cryExcite n).cryo.active = n := rfl

/-! ### The write of CRY_CTRL (R388) -/

/-- The scan starts: every channel in it is PENDING, and the first of them is excited. -/
theorem State.cryCtrlEffect_start {u : State} {old : W32} (hon : u.cryScan = true) (hold : old.getLsbD 0 = false) :
    u.cryCtrlEffect old = (u.each ((List.range 16).filter u.cryEnabled) (fun s n => s.crySet n 1)).cryExcite
      ((List.range 16).filter u.cryEnabled).head? :=
  if_pos ⟨hon, by rw [hold]; rfl⟩

/-- What stands of the scan's count where it stops with a channel excited. -/
def State.cryStopped (u : State) : State := if u.cryo.active.isSome then u.count aCryCnt 15 0 1 else u

/-- The scan stops: every channel in it is DISABLED, and none is excited. -/
theorem State.cryCtrlEffect_stop {u : State} {old : W32} (hon : u.cryScan = false) (hold : old.getLsbD 0 = true) :
    u.cryCtrlEffect old = (u.cryStopped.each ((List.range 16).filter u.cryEnabled) (fun s n => s.crySet n 0)).cryExcite none :=
  (if_neg (by simp [hon])).trans (if_pos ⟨by rw [hon]; rfl, hold⟩)

theorem State.cryCtrlEffect_same {u : State} {old : W32} (h : u.cryScan = old.getLsbD 0) : u.cryCtrlEffect old = u := by
  rw [State.cryCtrlEffect, ← h, if_neg (by simp), if_neg (by simp)]

theorem State.regsOnly_cryStopped (u : State) : State.RegsOnly (fun a => a ≠ aCryCnt) u u.cryStopped := by
  unfold State.cryStopped
  split
  · exact u.regsOnly_setReg _ (fun _ hb => hb)
  · exact .refl _ u

/-! ### The write of a channel's registers (R388) -/

/-- What the channel excited leaves: its conversion discarded and counted, its status set anew. -/
def State.cryDiscard (u : State) (n v : Nat) : State := (u.count aCryCnt 15 0 1).crySet n v

theorem State.cryChannelEffect_excited {u : State} {n : Nat} (h : u.cryo.active = some n) : u.cryChannelEffect n =
    (u.cryDiscard n (if u.cryScan = true ∧ u.cryEnabled n = true then 1 else 0)).cryExcite
      ((u.cryDiscard n (if u.cryScan = true ∧ u.cryEnabled n = true then 1 else 0)).cryAfter n) := by
  simp only [State.cryChannelEffect, h, if_true]
  rfl

theorem State.cryChannelEffect_idle {u : State} {n : Nat} (h : u.cryo.active = none) : u.cryChannelEffect n =
    let t := u.crySet n (if u.cryScan = true ∧ u.cryEnabled n = true then 1 else 0)
    if t.cryScan = true then t.cryExcite (t.cryAfter 15) else t := by
  have hactive (v : Nat) : (u.crySet n v).cryo.active = none := by rw [(u.regsOnly_crySet n v).1]; exact h
  simp [State.cryChannelEffect, h, hactive]

theorem State.cryChannelEffect_other {u : State} {n k : Nat} (h : u.cryo.active = some k) (hk : k ≠ n) : u.cryChannelEffect n =
    u.crySet n (if u.cryScan = true ∧ u.cryEnabled n = true then 1 else 0) := by
  have hactive (v : Nat) : (u.crySet n v).cryo.active = some k := by rw [(u.regsOnly_crySet n v).1]; exact h
  simp [State.cryChannelEffect, h, hk, hactive]

end Sys2Proof.Machine
end

section
/-! SUPPORT. Losses, the capture unit and the classifier, as the writes of control registers meet them (R207, R258, R271, R281, R288, R299, R359, R367, R388, R429). -/

namespace Sys2Proof.Machine

/-! ### The classifier's commit (R196) -/

/-- The tick that a Crucible's commit registers name, and the shadow set in its registers. -/
def State.commitTick (s : State) (c : Nat) : Tick :=
  Tick.ofStamp s.now (BitVec.ofNat 40 (s.fld (aCruClsThi c) 7 0 * 2 ^ 32 + (s.reg (aCruClsTlo c)).toNat))
def State.shadowSet (s : State) (c : Nat) : List (Nat × W32) :=
  (List.range 512).map (fun n => (n, s.reg (aCruCls c (n / 32) (n / 8 % 4) (n % 8))))
/-- The tick named is less than 24 ticks ahead. -/
def State.commitLate (s : State) (c : Nat) : Bool := decide ((s.commitTick c - s.now).toInt < 24)
/-- The set that a commit leaves pending. -/
def State.commitSet (s : State) (c : Nat) : Option (Tick × List (Nat × W32)) :=
  some (if s.commitLate c then s.now + 24 else s.commitTick c, s.shadowSet c)

/-- A set waits for its tick in a Crucible, and in the copy that a swap makes ahead of it. -/
def State.pendSet (t : State) (c : Nat) (p : Option (Tick × List (Nat × W32))) : State :=
  t.setCru c { t.cru c with pending := p, aheadPending := if (t.cru c).ahead.isEmpty then none else p }

theorem State.classifierGo_eq (s : State) (c : Nat) :
    s.classifierGo c = (s.setBit (aCruClsThi c) 30 (s.commitLate c)).pendSet c (s.commitSet c) := by
  unfold State.classifierGo
  extract_lets T late set t p u
  have hnow : t.now = s.now := congrArg Clock.cast (s.setBit_clock _ _ _)
  have hset : s.commitSet c = p := by
    simp only [p, hnow]
    rfl
  rw [hset]
  rfl

theorem State.pending_pendSet {t : State} (hcrus : Tbl.wf (fun _ => Cru.init) t.crus = true) (c : Nat)
    (p : Option (Tick × List (Nat × W32))) : ((t.pendSet c p).cru c).pending = p :=
  congrArg Cru.pending (State.cru_setCru_same t c _ hcrus)
theorem State.cru_pendSet_other (t : State) {c d : Nat} (p : Option (Tick × List (Nat × W32))) (h : d ≠ c) :
    (t.pendSet c p).cru d = t.cru d := State.cru_setCru_other t c d _ h
theorem State.pendSet_frame (t : State) (c : Nat) (p : Option (Tick × List (Nat × W32))) :
    t.pendSet c p = { t with crus := (t.pendSet c p).crus } := rfl

/-- The set that a commit finds in its Crucible's registers is the one that stood there before the write. -/
theorem State.Stored.shadowSet {s : State} {c : Fin 34} {v : W32} {r : Tbl W32} (h : s.Stored (aCruClsThi c) v r) (l : List Session)
    (g : Log) : (s.withStored l g r).shadowSet c = s.shadowSet c := by
  unfold State.shadowSet
  refine List.map_congr_left (fun n hn => ?_)
  rw [h.reg_other l g]
  have hn : n < 512 := List.mem_range.mp hn
  unfold aCruCls aCruClsThi
  omega

/-- The tick that a commit finds there has its high byte from the word written. -/
theorem State.Stored.commitTick {s : State} {c : Fin 34} {v : W32} {r : Tbl W32} (h : s.Stored (aCruClsThi c) (withBit v 31 true) r)
    (l : List Session) (g : Log) : (s.withStored l g r).commitTick c
      = Tick.ofStamp s.now (BitVec.ofNat 40 (fieldOf v 7 0 * 2 ^ 32 + (s.reg (aCruClsTlo c)).toNat)) := by
  have hmask : ∀ k ≤ 7, (0xFF : W32).getLsbD k = true := by decide
  have hhigh : fieldOf (s.wordStored (aCruClsThi c) (withBit v 31 true)) 7 0 = fieldOf v 7 0 :=
    (State.fieldOf_wordStored_rw (masksAt_cruClsThi c) (by decide) (by decide) (by decide) (fun k _ hk => hmask k hk)).trans
      (fieldOf_withField_below v 31 31 _ 7 0 (by decide) (by decide) (by decide) (by decide))
  have htlo : aCruClsTlo c ≠ aCruClsThi c := by unfold aCruClsTlo aCruClsThi; omega
  rw [State.commitTick, State.fld, h.reg_same, hhigh, h.reg_other l g htlo]
  rfl

/-! ### The capture unit (R281, R288) -/

theorem State.logEvent_eq (s : State) (block code : Nat) (data : List Byte) :
    s.logEvent block code data = { s with log := (s.logEvent block code data).log } := by
  unfold State.logEvent State.logOwn State.logAs
  split <;> rfl

/-- What a loss leaves of the capture unit and CAP_REC: all but the flags of the record (R291). -/
def State.capView (s : State) : Cap × W32 := ({ s.cap with flags := 0 }, s.reg aCapRec)

theorem State.capView_setReg (s : State) {a : Nat} (v : W32) (h : aCapRec ≠ a) : (s.setReg a v).capView = s.capView :=
  congrArg (Prod.mk _) (s.reg_setReg_other a aCapRec v h)
theorem State.capView_logEvent (s : State) (block code : Nat) (data : List Byte) : (s.logEvent block code data).capView = s.capView := by
  rw [s.logEvent_eq]
  rfl

theorem State.capView_declareLoss (s : State) {on : Option Nat} (hon : ∀ p ∈ on, p < 8) (C : Stamp) (o : Bool) :
    (s.declareLoss on C o).capView = s.capView := by
  unfold State.declareLoss
  extract_lets counted logged framed
  have hcounted : counted.capView = s.capView := by
    cases on with
    | none => rfl
    | some p =>
      have hp : p < 8 := hon p rfl
      exact s.capView_setReg _ (by unfold aCapRec aRunPortCnt; omega)
  have hlogged : logged.capView = counted.capView := counted.capView_logEvent _ _ _
  have hframed : framed.capView = logged.capView := State.each_keeps State.capView _ _ (fun w q => by dsimp only; split <;> rfl) logged
  have hend : framed.capView = s.capView := hframed.trans (hlogged.trans hcounted)
  clear_value framed
  cases on with
  | none => exact hend
  | some p =>
    dsimp only
    split
    · split
      · exact hend
      · exact hend
    · exact hend

theorem State.route_lt {s : State} {m p : Nat} (h : s.route m = some p) : p < 8 := by
  unfold State.route at h
  dsimp only at h
  split at h
  · obtain rfl := Option.some.inj h
    exact Nat.mod_lt _ (by decide)
  · cases h

theorem State.capView_exportTo (s : State) (m : Nat) (v : Ev) : (s.exportTo m v).capView = s.capView := by
  unfold State.exportTo State.offerBlock
  dsimp only
  split
  · exact (State.capView_declareLoss _ (by simp) _ _).trans (s.capView_setReg _ (by decide))
  · next p hp =>
    split
    · rfl
    · exact State.capView_declareLoss _ (by simpa using State.route_lt hp) _ _

/-- Blocks for the capture group leave the unit's state and its record's number as they are. -/
theorem State.capView_group (s : State) (v : Ev) : (s.each s.capGroup (fun s m => s.exportTo m v)).capView = s.capView :=
  State.each_keeps State.capView _ _ (fun u m => u.capView_exportTo m v) s

/-- The unit armed for a session, with the next record's number (R281). -/
def State.armedFor (s : State) (session : Option W32) : State :=
  State.setReg { s with cap := { Cap.init with
    st := .armed
    session := session
    armTick := s.now
    k := s.probesOn.filterMap (fun p =>
      let v := s.fld (aCapProbe p) 17 13
      if v = 0 then none else some (p, v))
    times := s.cap.times } } aCapRec (s.reg aCapRec + 1)

theorem State.capView_armedFor {s : State} (hwf : Tbl.wf resetWord s.regs = true) (session : Option W32) :
    (s.armedFor session).capView = ({ (s.armedFor session).cap with flags := 0 }, s.reg aCapRec + 1) :=
  congrArg (Prod.mk _) (State.reg_setReg_same _ aCapRec _ hwf)

/-- Arming sends blocks to the group where the unit is its master, and changes nothing else of the unit (R291). -/
theorem State.capView_capArmUnit (s : State) (session : Option W32) : (s.capArmUnit session).capView = (s.armedFor session).capView := by
  unfold State.capArmUnit
  dsimp only
  split
  · exact State.capView_group _ _
  · rfl

/-- An arm leaves the unit armed for its session, with the next record's number, whatever its group is sent (R281, R291). -/
theorem State.capArmUnit_spec {s : State} (hwf : Tbl.wf resetWord s.regs = true) (session : Option W32) :
    (s.capArmUnit session).cap.st = .armed ∧ (s.capArmUnit session).cap.armTick = s.now ∧ (s.capArmUnit session).cap.session = session
      ∧ (s.capArmUnit session).cap.fired = false ∧ (s.capArmUnit session).reg aCapRec = s.reg aCapRec + 1 := by
  have hview := (s.capView_capArmUnit session).trans (State.capView_armedFor hwf session)
  simp only [State.capView, Prod.mk.injEq, Cap.mk.injEq] at hview
  obtain ⟨⟨hst, hsession, htick, hfired, -⟩, hrec⟩ := hview
  exact ⟨hst, htick, hsession, hfired, hrec⟩

theorem mem_inputsOf_capTrig (s : State) (remote : Bool) : TaskInput.capTrig ∈ s.inputsOf 240 remote := by
  simp [State.inputsOf]

/-- An event at hop 1 is shown in SPR_CH_LAST, and the inputs of its channel have it. -/
theorem State.publish_of_hop (s : State) {v : Ev} (h : v.hop = 1) : ∃ r, s.publish v
    = { s with regs := r, waiting := s.waiting ++ ((s.withRegs r).inputsOf v.ch v.remote).map (fun i => (i, v)) } := by
  unfold State.publish
  rw [h, if_neg (by decide)]
  exact ⟨_, rfl⟩

/-- The unit has fired (R288). -/
def State.capFired (s : State) : State := { s with cap := { s.cap with fired := true } }

/-- A fire of an armed unit that has not fired is published on channel 240 (R288). -/
theorem State.capFireUnit_armed {s : State} (hst : s.cap.st = .armed) (hfired : s.cap.fired = false) (F : Tick) (kind : Nat) :
    (s.capFireUnit F kind).cap.fired = true ∧ (s.capFireUnit F kind).cap.st = .armed
      ∧ ∃ e, (TaskInput.capTrig, e) ∈ (s.capFireUnit F kind).waiting ∧ e.ch = 240 ∧ e.stamp = F.stamp := by
  obtain ⟨v, hv, hch, hstamp, hhop⟩ : ∃ v : Ev, s.capFireUnit F kind
      = (s.capFired.each s.capFired.capGroup (fun s m => s.exportTo m v)).publish v ∧ v.ch = 240 ∧ v.stamp = F.stamp ∧ v.hop = 1 :=
    ⟨_, if_pos ⟨hst, by rw [hfired]; rfl⟩, rfl, rfl, rfl⟩
  have hview := s.capFired.capView_group v
  rw [hv]
  generalize s.capFired.each s.capFired.capGroup (fun s m => s.exportTo m v) = u at hview ⊢
  simp only [State.capView, State.capFired, Prod.mk.injEq, Cap.mk.injEq] at hview
  obtain ⟨⟨hst', -, -, hfired', -⟩, -⟩ := hview
  obtain ⟨r, hpub⟩ := u.publish_of_hop hhop
  rw [hpub]
  exact ⟨hfired', hst'.trans hst, v, List.mem_append_right _ (List.mem_map_of_mem (hch ▸ mem_inputsOf_capTrig _ _)), hch, hstamp⟩

theorem State.capFireUnit_idle {s : State} (h : s.cap.st ≠ .armed ∨ s.cap.fired = true) (F : Tick) (kind : Nat) :
    s.capFireUnit F kind = s :=
  if_neg (by rintro ⟨hst, hfired⟩; rcases h with h | h <;> simp_all)

end Sys2Proof.Machine
end

section
/-! SUPPORT. Requests for routines and the command reset, as the writes of their registers make them (R359, R361, R429). -/

namespace Sys2Proof.Machine

/-! ### An accepted request for a routine (R359) -/

/-- What stands against an accepted entry is nothing (R321). -/
theorem State.busyFault_of_accepted {s : State} {r : Role} {a : Nat} {v : W32} {f : RegRef} (hf : findReg a = some f)
    (h : s.checkEntry r a v = none) : s.busyFault f (s.reg a) v (f.stored (s.reg a) v) = none := by
  by_cases hr : ∀ q, f.row.role = some q → q = r
  · rw [State.checkEntry_allowed hf hr] at h
    dsimp only at h
    split at h
    · cases h
    · cases hb : s.busyFault f (s.reg a) v (f.stored (s.reg a) v) with
      | none => rfl
      | some st => cases hrange : s.rangeFault r f v (f.stored (s.reg a) v) <;> simp [hrange, hb] at h
  · have hr' : ∃ q, f.row.role = some q ∧ q ≠ r := by simpa using hr
    rw [State.checkEntry_role hf hr'] at h
    cases h

theorem findReg_of_registerAt {a : Nat} {id : RegId} {idx : List Nat} (h : registerAt a = some (id, idx)) :
    ∃ f, findReg a = some f ∧ f.row.id = id := by
  obtain ⟨f, hf, hid⟩ := Option.map_eq_some_iff.mp h
  exact ⟨f, hf, (Prod.mk.inj hid).1⟩

theorem State.routineStands_congr {s t : State} (h : t.cmk = s.cmk) (r : Byte) (target : BitVec 24) :
    t.routineStands r target = s.routineStands r target := by
  unfold State.routineStands
  rw [h]

/-- Whether a request is taken is told by the Coremaker alone. -/
theorem State.cmkRequest_isNone_congr {s t : State} (h : t.cmk = s.cmk) (r : Byte) (target : BitVec 24) :
    (t.cmkRequest r target).isNone = (s.cmkRequest r target).isNone := by
  rw [State.cmkRequest_eq, State.cmkRequest_eq, State.routineStands_congr h, h]
  split
  · rfl
  · split <;> rfl

/-- A write of CMK_REQ that is accepted finds room for its request. -/
theorem State.cmkRequest_of_accepted {s : State} {r : Role} {v : W32} (h : s.checkEntry r aCmkReq v = none) :
    (s.cmkRequest (BitVec.ofNat 8 (fieldOf v 31 24)) (v.setWidth 24)).isNone = false := by
  obtain ⟨f, hf, hid⟩ := findReg_of_registerAt registerAt_cmkReq
  have hbusy := State.busyFault_of_accepted hf h
  cases hreq : s.cmkRequest (BitVec.ofNat 8 (fieldOf v 31 24)) (v.setWidth 24) with
  | none => simp [State.busyFault, hid, hreq] at hbusy
  | some t => rfl

/-- A write of FUS_PROG_HI with its go bit that is accepted finds room for its request. -/
theorem State.fuseRequest_of_accepted {s : State} {r : Role} {v : W32} (hgo : v.getLsbD 31 = true)
    (h : s.checkEntry r aFusProgHi v = none) : (s.cmkRequest 0x20 0).isNone = false := by
  obtain ⟨f, hf, hid⟩ := findReg_of_registerAt registerAt_fusProgHi
  have hbusy := State.busyFault_of_accepted hf h
  cases hreq : s.cmkRequest 0x20 0 with
  | none =>
    simp only [State.busyFault, hid, hgo, hreq] at hbusy
    cases hbusy
  | some t => rfl

/-- With no routine running, a request that enters the queue changes nothing else. -/
theorem State.queueRoutine_of_idle {s : State} (h : s.cmk.running = none) (q : CmkReq) :
    s.queueRoutine q = { s with cmk := { s.cmk with queue := s.cmk.queue ++ [q] } } := by
  unfold State.queueRoutine State.cmkNotice
  simp only [h]

/-- A request that is taken is wanted; it stands last in the queue of an idle Coremaker, or is merged with one queued, and counted. -/
theorem State.cmkRequest_spec {s t : State} {r : Byte} {target : BitVec 24} (hregs : Tbl.wf resetWord s.regs = true)
    (h : s.cmkRequest r target = some t) :
    t.routineWanted r target.toNat = true
      ∧ (s.routineWanted r target.toNat = false → s.cmk.running = none → t.cmk = { s.cmk with queue := s.cmk.queue ++ [⟨r, target⟩] })
      ∧ (s.cmk.queue.contains ⟨r, target⟩ = true → t.cmk = s.cmk ∧ t.fld aCmkCnt 7 0 = min (s.fld aCmkCnt 7 0 + 1) 255) := by
  have htarget : BitVec.ofNat 24 target.toNat = target := by simp
  refine ⟨State.routineWanted_of_cmkRequest (htarget.symm ▸ h), fun hnew hidle => ?_, fun hqueued => ?_⟩
  · rw [State.routineWanted_eq, htarget, Bool.or_eq_false_iff] at hnew
    rcases State.cmkRequest_cases h with ⟨hstands, -⟩ | ⟨-, rfl⟩
    · rw [hnew.1] at hstands
      cases hstands
    · rw [State.queueRoutine_of_idle hidle]
  · rcases State.cmkRequest_cases h with ⟨-, rfl⟩ | ⟨hstands, -⟩
    · refine ⟨rfl, (State.fld_setFld_same s aCmkCnt 7 0 _ hregs (by decide) (by decide)).trans ?_⟩
      unfold satAdd
      omega
    · rw [State.routineStands, ← CmkReq.contains_eq_any, hqueued] at hstands
      cases hstands

/-! ### The command reset (R429, R433) -/

theorem State.cmkStep_each {α : Type} {f : State → α → State} (hf : ∀ (s : State) (x : α), s.CmkStep (f s x)) (l : List α) (s : State) :
    s.CmkStep (s.each l f) := by
  induction l generalizing s with
  | nil => exact .refl s
  | cons x l ih => exact (hf s x).trans (ih (f s x))

theorem State.cmkStep_cmkFault (s : State) : s.CmkStep s.cmkFault := by
  have hlost (u : State) (c : CmkCtx) : u.CmkStep (((u.count aCmkCnt 31 24 1).logEvent 0x0007 1 [c.routine, 0xFD]).routineUndone
      c.routine c.target) :=
    ((u.cmkStep_count _ _ _ _).trans (State.cmkStep_logEvent _ _ _ _)).trans (State.cmkStep_routineUndone _ _ _)
  exact ((State.cmkStep_each hlost _ s).trans (State.cmkStep_cmk _ ⟨rfl, rfl⟩)).trans (State.cmkStep_cmkNotice _)

theorem State.cmk_routineUndone (s : State) (r : Byte) (target : BitVec 24) : (s.routineUndone r target).cmk = s.cmk := by
  unfold State.routineUndone
  dsimp only
  split
  · rfl
  · split <;> rfl

theorem State.running_cmkEnd (s : State) (ok : Bool) (result : Byte) : (s.cmkEnd ok result).cmk.running = none := by
  unfold State.cmkEnd
  split
  · assumption
  · cases ok with
    | true => rfl
    | false => exact congrArg Cmk.running (State.cmk_routineUndone _ _ _)

/-- A stop of the Coremaker leaves it idle and without requests; the runs and the start's state stay (R394). -/
theorem State.cmkStop_spec (s : State) : s.cmkStop.cmk.queue = [] ∧ s.cmkStop.cmk.running = none ∧ s.cmkStop.runs = s.runs
    ∧ s.cmkStop.boot = s.boot := by
  obtain ⟨k, r, l, b, g, h, -⟩ := s.cmkStep_cmkFault.trans (s.cmkFault.cmkStep_cmkEnd false 0xFD)
  have hrest : s.cmkStop.runs = (s.cmkFault.cmkEnd false 0xFD).runs ∧ s.cmkStop.boot = (s.cmkFault.cmkEnd false 0xFD).boot := ⟨rfl, rfl⟩
  rw [hrest.1, hrest.2, h]
  exact ⟨rfl, State.running_cmkEnd _ false 0xFD, rfl, rfl⟩

/-- What a stop makes of a run: it is to end with the cause, unless it is over. -/
def Run.stopWith (r : Run) (cause : Byte) : Run :=
  if r.phase = RunPhase.over then r else { r with stop := some (r.stop.getD cause), nextStart := none }

theorem Run.stopWith_spec (r : Run) (cause : Byte) (h : (r.stopWith cause).phase ≠ .over) :
    (r.stopWith cause).stop ≠ none ∧ (r.stopWith cause).nextStart = none := by
  unfold Run.stopWith at h ⊢
  split
  · next hover =>
    rw [if_pos hover] at h
    exact absurd hover h
  · exact ⟨by simp, rfl⟩

/-- The stop that begins is under way, the Coremaker is idle and empty, and no run starts a shot (R394). -/
theorem State.beginStop_spec (s : State) (k : StopKind) (cause : Byte) : (s.beginStop k cause).boot.stop = some (k, s.now, false)
    ∧ (s.beginStop k cause).cmk.queue = [] ∧ (s.beginStop k cause).cmk.running = none
    ∧ ∀ q ∈ (s.beginStop k cause).runs, q.phase ≠ .over → q.stop ≠ none ∧ q.nextStart = none := by
  let begun : State := { s with boot := { s.boot with stop := some (k, s.now, false), restartAt := none },
                                runs := s.runs.map (fun r => r.stopWith cause) }
  have hbegin : s.beginStop k cause = begun.cmkStop := rfl
  obtain ⟨hqueue, hrunning, hruns, hboot⟩ := begun.cmkStop_spec
  rw [hbegin, hqueue, hrunning, hruns, hboot]
  refine ⟨rfl, rfl, rfl, fun q hq hover => ?_⟩
  obtain ⟨r, -, rfl⟩ := List.mem_map.mp hq
  exact r.stopWith_spec cause hover

end Sys2Proof.Machine
end

section
/-! SUPPORT. What each accepted write of a control register leaves, clause by clause (R196, R258, R271, R281, R288, R292, R299, R388). -/

namespace Sys2Proof.Machine

@[simp] theorem State.reg_withSent (s : State) (l : List Session) (n : List Sent) (a : Nat) : (s.withSent l n).reg a = s.reg a := rfl
@[simp] theorem State.fld_withSent (s : State) (l : List Session) (n : List Sent) (a hi lo : Nat) :
    (s.withSent l n).fld a hi lo = s.fld a hi lo := rfl
@[simp] theorem State.bit_withSent (s : State) (l : List Session) (n : List Sent) (a k : Nat) : (s.withSent l n).bit a k = s.bit a k := rfl

/-! ### The classifier's commit (R196) -/

/-- What a commit leaves: the set pending in its Crucible, the late bit, and the rest of the state as it was. -/
theorem State.classifierGo_spec {u : State} (hregs : Tbl.wf resetWord u.regs = true) (hcrus : Tbl.wf (fun _ => Cru.init) u.crus = true)
    (c : Nat) : ((u.classifierGo c).cru c).pending = u.commitSet c ∧ (u.classifierGo c).bit (aCruClsThi c) 30 = u.commitLate c
      ∧ (∀ d, d ≠ c → (u.classifierGo c).cru d = u.cru d) ∧ ∃ r k, u.classifierGo c = { u with regs := r, crus := k } := by
  rw [State.classifierGo_eq]
  have hbit := State.bit_setBit_same u (aCruClsThi c) 30 (u.commitLate c) hregs (by decide)
  obtain ⟨r, hr⟩ : ∃ r, u.setBit (aCruClsThi c) 30 (u.commitLate c) = { u with regs := r } := ⟨_, rfl⟩
  rw [hr] at hbit ⊢
  generalize u.commitSet c = p
  exact ⟨State.pending_pendSet hcrus c p, hbit, fun d hd => State.cru_pendSet_other _ p hd, r, _, State.pendSet_frame _ c p⟩

/-! ### Synchronisation (R258, R271) -/

/-- A realign waits for the upstream port, or acquires anew with one further step permitted (R265). -/
theorem State.realignEffect_spec (u : State) :
    (u.portUp u.castPort = false → u.realignEffect.cast = { u.cast with realign := true })
    ∧ (u.portUp u.castPort = true → u.realignEffect.cast.st = .acquiring ∧ u.realignEffect.cast.acq = []
      ∧ u.realignEffect.cast.mayStep = true ∧ u.realignEffect.cast.realign = false) := by
  let told : State := { u with cast := { u.cast with realign := true } }
  have heffect : u.realignEffect = if u.portUp u.castPort then told.castAcquire else told := rfl
  refine ⟨fun hdown => ?_, fun hup => ?_⟩
  · rw [heffect, hdown]
    rfl
  · rw [heffect, hup, if_pos rfl, State.castAcquire, State.cast_withCast]
    exact ⟨rfl, rfl, Bool.or_true _, rfl⟩

/-- Where a step is allowed, an offset steps TB_SYS (R271). -/
theorem State.sysOffset_steps {u : State} (h : u.sys.stepped = false ∨ u.sys.stepArmed = true) (theta : Int) : ∃ g, u.sysOffset theta =
    { u with
      clock := u.clock.sysStep theta
      sys := { u.sys with ofs := theta, stepped := true, stepArmed := false, recent := [], st := .uncalibrated, cause := 0, holdSince := none,
                          steps := BitVec.ofNat 16 (min (u.sys.steps.toNat + 1) 65535) }
      log := g } := by
  have hsteps : (!u.sys.stepped) = true ∨ u.sys.stepArmed = true := by simpa using h
  unfold State.sysOffset
  dsimp only
  rw [if_pos hsteps, State.logEvent_eq]
  exact ⟨_, rfl⟩

/-- A discontinuity beyond 1 ms in HOLDOVER (R272). -/
theorem State.sysOffset_far {u : State} (h : u.sys.stepped = true) (harm : u.sys.stepArmed = false) {theta : Int}
    (hfar : u.sys.st = .holdover ∧ 1000000000 < theta.natAbs) :
    u.sysOffset theta = { u with sys := { u.sys with ofs := theta, cause := 3 } } :=
  (if_neg (by simp [h, harm])).trans (if_pos hfar)

/-- Any other offset is a sample of the servo. -/
theorem State.sysOffset_sampled {u : State} (h : u.sys.stepped = true) (harm : u.sys.stepArmed = false) {theta : Int}
    (hfar : ¬ (u.sys.st = .holdover ∧ 1000000000 < theta.natAbs)) : u.sysOffset theta =
    { u with sys := { u.sys with
        ofs := theta
        servo := u.sys.servo.sample (u.reg aTimSrvSys) (5 * 2 ^ 40) 10000 theta
        recent := (theta :: u.sys.recent).take 16
        st := if ((theta :: u.sys.recent).take 16).length == 16
            && ((theta :: u.sys.recent).take 16).all (fun o => decide (o.natAbs ≤ 50000)) then .locked else .uncalibrated
        cause := 0
        holdSince := none } } :=
  (if_neg (by simp [h, harm])).trans (if_neg hfar)

/-! ### CAP_CTRL (R281, R288, R292) -/

theorem State.capAbortUnit_running {u : State} (h : u.cap.st = .armed ∨ u.cap.st = .triggered) :
    u.capAbortUnit = (u.capFlag 5).capStop u.now := if_pos h
theorem State.capAbortUnit_idle {u : State} (h : u.cap.st ≠ .armed) (h' : u.cap.st ≠ .triggered) : u.capAbortUnit = u :=
  if_neg (not_or.mpr ⟨h, h'⟩)

theorem State.capReleaseUnit_closed {u : State} (h : u.cap.st = .closed) : u.capReleaseUnit = { u with cap := { u.cap with st := .idle } } := by
  simp only [State.capReleaseUnit, h]
theorem State.capReleaseUnit_idle {u : State} (h : u.cap.st = .idle) : u.capReleaseUnit = u := by
  simp only [State.capReleaseUnit, h]
theorem State.capReleaseUnit_running {u : State} (h : u.cap.st ≠ .closed) (h' : u.cap.st ≠ .idle) :
    u.capReleaseUnit = (u.capFlag 5).capStop u.now := by
  cases hst : u.cap.st with
  | closed => exact absurd hst h
  | idle => exact absurd hst h'
  | armed => simp only [State.capReleaseUnit, hst, State.capAbortUnit_running (.inl hst)]
  | triggered => simp only [State.capReleaseUnit, hst, State.capAbortUnit_running (.inr hst)]

/-! ### TIU_UCTRL (R299) -/

theorem State.setTiu_spec {u : State} (htiu : Tbl.wf (fun _ => Tiu.init) u.tiu = true) (k : Nat) (x : Tiu) :
    ∃ m, u.setTiu k x = { u with tiu := m } ∧ State.tiuUnit { u with tiu := m } k = x
      ∧ ∀ j, j ≠ k → State.tiuUnit { u with tiu := m } j = u.tiuUnit j :=
  ⟨_, rfl, u.tiuUnit_setTiu_same k x htiu, fun j hj => u.tiuUnit_setTiu_other k j x hj⟩

/-! ### CRY_CTRL (R388) -/

theorem State.cryScan_congr {P : Nat → Prop} {s t : State} (h : State.RegsOnly P s t) (hP : P aCryCtrl) : t.cryScan = s.cryScan := by
  rw [State.cryScan, State.cryScan, State.bit, State.bit, h.fld hP]

theorem notCryState_aCryCtrl : notCryState aCryCtrl := fun n => notStatusOf_aCryCtrl n
theorem notCryState_aCryExc (m : Nat) : notCryState (aCryExc m) := fun n => notStatusOf_aCryExc n m

theorem mem_scanned (u : State) (m : Fin 16) : m.val ∈ (List.range 16).filter u.cryEnabled ↔ u.cryEnabled m = true := by
  simp [m.isLt]

/-- What the scan's start leaves: every channel in it PENDING, the first of them excited, and the rest of the state as it was. -/
theorem State.cryCtrlEffect_start_spec {u : State} (hregs : Tbl.wf resetWord u.regs = true) {old : W32} (hon : u.cryScan = true)
    (hold : old.getLsbD 0 = false) :
    (∀ m : Fin 16, (u.cryCtrlEffect old).cryStatus m = if u.cryEnabled m = true then 1 else u.cryStatus m)
      ∧ (u.cryCtrlEffect old).cryo.active = (List.range 16).find? u.cryEnabled ∧ (u.cryCtrlEffect old).cryScan = u.cryScan
      ∧ ∃ r y, u.cryCtrlEffect old = u.withCryo r y := by
  have hset := u.regsOnly_each_crySet ((List.range 16).filter u.cryEnabled) 1
  have hstatus (m : Nat) := State.cryStatus_each_crySet (v := 1) (by decide) ((List.range 16).filter u.cryEnabled) hregs m
  rw [State.cryCtrlEffect_start hon hold]
  generalize u.each ((List.range 16).filter u.cryEnabled) (fun s n => s.crySet n 1) = w at hset hstatus ⊢
  have hscan : w.cryScan = u.cryScan := State.cryScan_congr hset notCryState_aCryCtrl
  refine ⟨fun m => ?_, ?_, hscan, w.regs, (w.cryExcite ((List.range 16).filter u.cryEnabled).head?).cryo, ?_⟩
  · exact (hstatus m).trans (if_congr (mem_scanned u m) rfl rfl)
  · rw [State.active_cryExcite, List.head?_filter]
  · rw [State.cryExcite_eq, hset.1]
    rfl

/-- What the scan's stop leaves: every channel in it DISABLED, and none excited. -/
theorem State.cryCtrlEffect_stop_spec {u : State} (hregs : Tbl.wf resetWord u.regs = true) {old : W32} (hon : u.cryScan = false)
    (hold : old.getLsbD 0 = true) :
    (∀ m : Fin 16, (u.cryCtrlEffect old).cryStatus m = if u.cryEnabled m = true then 0 else u.cryStatus m)
      ∧ (u.cryCtrlEffect old).cryo.active = none ∧ (u.cryCtrlEffect old).cryScan = u.cryScan
      ∧ ∃ r y, u.cryCtrlEffect old = u.withCryo r y := by
  have hstop := u.regsOnly_cryStopped
  have hset := u.cryStopped.regsOnly_each_crySet ((List.range 16).filter u.cryEnabled) 0
  have hstatus (m : Nat) := State.cryStatus_each_crySet (v := 0) (by decide) ((List.range 16).filter u.cryEnabled) (hstop.2.1 hregs) m
  rw [State.cryCtrlEffect_stop hon hold]
  generalize u.cryStopped.each ((List.range 16).filter u.cryEnabled) (fun s n => s.crySet n 0) = w at hset hstatus ⊢
  have hscan : w.cryScan = u.cryScan := (State.cryScan_congr hset notCryState_aCryCtrl).trans (State.cryScan_congr hstop (by decide))
  have hold' (m : Fin 16) : u.cryStopped.cryStatus m = u.cryStatus m := hstop.fld (by unfold aCryCst aCryCnt; omega) 2 0
  refine ⟨fun m => ?_, State.active_cryExcite _ _, hscan, w.regs, (w.cryExcite none).cryo, ?_⟩
  · exact (hstatus m).trans (if_congr (mem_scanned u m) rfl (hold' m))
  · rw [State.cryExcite_eq, hset.1, hstop.1]
    rfl

/-! ### A channel's registers (R388) -/

/-- `d` is `u` with channel `n` at the status `v`: of the scan's registers no other has changed but the count. -/
def State.StatusSet (u : State) (n v : Nat) (d : State) : Prop :=
  d.cryStatus n = v ∧ (∀ m, m ≠ n → d.cryStatus m = u.cryStatus m) ∧ d.cryEnabled = u.cryEnabled ∧ d.cryScan = u.cryScan
    ∧ d = u.withRegs d.regs

theorem State.statusSet_crySet {u : State} (hregs : Tbl.wf resetWord u.regs = true) (n : Nat) {v : Nat} (hv : v < 8) :
    u.StatusSet n v (u.crySet n v) :=
  ⟨State.cryStatus_crySet_same hregs n hv, fun _ hm => State.cryStatus_crySet_other u v hm,
    State.cryEnabled_congr (u.regsOnly_crySet n v) (notStatusOf_aCryExc n), State.cryScan_congr (u.regsOnly_crySet n v) (notStatusOf_aCryCtrl n),
    (u.regsOnly_crySet n v).1⟩

theorem State.statusSet_cryDiscard {u : State} (hregs : Tbl.wf resetWord u.regs = true) (n : Nat) {v : Nat} (hv : v < 8) :
    u.StatusSet n v (u.cryDiscard n v) ∧ (u.cryDiscard n v).fld aCryCnt 15 0 = min (u.fld aCryCnt 15 0 + 1) 65535 := by
  have hcount : State.RegsOnly (fun a => a ≠ aCryCnt) u (u.count aCryCnt 15 0 1) := u.regsOnly_setReg _ (fun _ hb => hb)
  obtain ⟨hsame, hother, henabled, hscan, hframe⟩ := State.statusSet_crySet (hcount.2.1 hregs) n hv
  have hcst (m : Nat) : aCryCst m ≠ aCryCnt := by unfold aCryCst aCryCnt; omega
  have hexc (m : Nat) : aCryExc m ≠ aCryCnt := by unfold aCryExc aCryCnt; omega
  refine ⟨⟨hsame, fun m hm => (hother m hm).trans (hcount.fld (hcst m) 2 0), henabled.trans (State.cryEnabled_congr hcount hexc),
    hscan.trans (State.cryScan_congr hcount (by decide)), hframe⟩, ?_⟩
  have hcnt := State.fld_setFld_same u aCryCnt 15 0 (satAdd 16 (u.fld aCryCnt 15 0) 1) hregs (by decide) (by decide)
  refine (((u.count aCryCnt 15 0 1).regsOnly_crySet n v).fld (notStatusOf_aCryCnt n) 15 0).trans (hcnt.trans ?_)
  unfold satAdd
  omega

/-- What the write of channel `n`'s registers leaves, in the state that has the word. -/
theorem State.cryChannelEffect_spec {u : State} (hregs : Tbl.wf resetWord u.regs = true) (n : Nat) :
    ∃ d, u.StatusSet n (if u.cryScan = true ∧ u.cryEnabled n = true then 1 else 0) d ∧
      ((u.cryo.active = some n ∧ u.cryChannelEffect n = d.cryExcite (d.cryAfter n) ∧ d.fld aCryCnt 15 0 = min (u.fld aCryCnt 15 0 + 1) 65535)
        ∨ (u.cryo.active = none ∧ u.cryChannelEffect n = if u.cryScan = true then d.cryExcite (d.cryAfter 15) else d)
        ∨ (u.cryo.active ≠ none ∧ u.cryo.active ≠ some n ∧ u.cryChannelEffect n = d)) := by
  have hv : (if u.cryScan = true ∧ u.cryEnabled n = true then 1 else 0) < 8 := by split <;> decide
  have hset := State.statusSet_crySet hregs n hv
  rcases hactive : u.cryo.active with _ | k
  · refine ⟨_, hset, .inr (.inl ⟨rfl, (State.cryChannelEffect_idle hactive).trans ?_⟩)⟩
    dsimp only
    rw [hset.2.2.2.1]
  · rcases eq_or_ne k n with rfl | hne
    · obtain ⟨hdiscard, hcnt⟩ := State.statusSet_cryDiscard hregs k hv
      exact ⟨_, hdiscard, .inl ⟨rfl, State.cryChannelEffect_excited hactive, hcnt⟩⟩
    · exact ⟨_, hset, .inr (.inr ⟨by simp, by simpa using hne, State.cryChannelEffect_other hactive hne⟩)⟩

/-! ### An output's configuration (R385, R388) -/

theorem State.cryRoutEffect_eq (u : State) (k : Nat) (old : W32) : u.cryRoutEffect k old =
    if (u.reg (aCryRoutCfg k)).getLsbD 31 = true ∧ fieldOf old 19 16 = u.fld (aCryRoutCfg k) 19 16 then u else u.routUpdate k := by
  have hcond : ((!(u.reg (aCryRoutCfg k)).getLsbD 31) = true ∨ fieldOf old 19 16 ≠ fieldOf (u.reg (aCryRoutCfg k)) 19 16)
      ↔ ¬ ((u.reg (aCryRoutCfg k)).getLsbD 31 = true ∧ fieldOf old 19 16 = u.fld (aCryRoutCfg k) 19 16) := by
    rw [not_and_or, Bool.not_eq_true', Bool.not_eq_true]
    rfl
  exact (if_congr hcond rfl rfl).trans (ite_not _ _ _)

/-! ### The high-water bit (R45) -/

theorem State.notifyRole_eq (s : State) (r : Role) (kind : Nat) (data : List Byte) : ∃ l n, s.notifyRole r kind data = s.withSent l n := by
  refine State.each_inv (fun u => ∃ l n, u = s.withSent l n) _ (fun u id => u.notify id kind data) (fun u id h => ?_) s ⟨s.sessions, s.sent, rfl⟩
  obtain ⟨l, n, rfl⟩ := h
  obtain ⟨l', n', h'⟩ := (s.withSent l n).notify_eq id kind data
  exact ⟨l', n', h'⟩

theorem State.setBit_withRegs {s : State} (hregs : Tbl.wf resetWord s.regs = true) (a : Nat) {n : Nat} (hn : n ≤ 31) (b : Bool) :
    ∃ r, s.setBit a n b = s.withRegs r ∧ (s.withRegs r).bit a n = b :=
  ⟨(s.setBit a n b).regs, rfl, State.bit_setBit_same s a n b hregs hn⟩

/-- A buffer past its mark sets the bit, and tells the operators. -/
theorem State.highWater_of_full {u : State} (hregs : Tbl.wf resetWord u.regs = true) (hfull : 201326592 < u.resUsed)
    (hclear : u.bit aMldResbufStat 20 = false) :
    ∃ r l n, u.highWater = (u.withRegs r).withSent l n ∧ (u.withRegs r).bit aMldResbufStat 20 = true := by
  obtain ⟨r, hset, hbit⟩ := State.setBit_withRegs hregs aMldResbufStat (n := 20) (by decide) true
  unfold State.highWater
  rw [hclear, if_pos ⟨hfull, rfl⟩, hset]
  obtain ⟨l, n, hnotify⟩ := (u.withRegs r).notifyRole_eq .operator 0x01 (leBytes 4 (min (u.resUsed / 1024) 262143))
  exact ⟨r, l, n, hnotify, hbit⟩

theorem State.highWater_of_room {u : State} (h : ¬ 201326592 < u.resUsed) : u.highWater = u := by
  unfold State.highWater
  rw [if_neg (fun hfull => h hfull.1)]

/-- The bit shows whether the buffer is past its mark, where the write has cleared it. -/
theorem State.highWater_spec {u : State} (hregs : Tbl.wf resetWord u.regs = true) (hclear : u.bit aMldResbufStat 20 = false) :
    u.highWater.bit aMldResbufStat 20 = decide (201326592 < u.resUsed)
      ∧ ∃ r l n, u.highWater = (u.withRegs r).withSent l n := by
  by_cases hfull : 201326592 < u.resUsed
  · obtain ⟨r, l, n, hhigh, hbit⟩ := State.highWater_of_full hregs hfull hclear
    rw [hhigh, State.bit_withSent, hbit]
    exact ⟨(decide_eq_true hfull).symm, r, l, n, rfl⟩
  · rw [State.highWater_of_room hfull, hclear]
    exact ⟨(decide_eq_false hfull).symm, u.regs, u.sessions, u.sent, rfl⟩

/-! ### What a stored word leaves the commands to find -/

theorem State.bit_eq (s : State) (a n : Nat) : s.bit a n = (s.reg a).getLsbD n := by
  rw [getLsbD_eq_fieldOf]
  rfl
theorem State.cryScan_eq (s : State) : s.cryScan = (s.reg aCryCtrl).getLsbD 0 := s.bit_eq aCryCtrl 0

theorem State.Stored.cryEnabled {s : State} {a : Nat} {v : W32} {r : Tbl W32} (h : s.Stored a v r) (l : List Session) (g : Log)
    (ha : ∀ m, aCryExc m ≠ a) : (s.withStored l g r).cryEnabled = s.cryEnabled := by
  funext m
  rw [State.cryEnabled, State.cryEnabled, State.bit, State.bit, h.fld_other l g (ha m)]

/-- A request that finds room is taken: what `cmkRequest_spec` says then holds of the answer's state (R359). -/
theorem State.cmkRequest_accepted {s : State} {a : Nat} {v : W32} {regs : Tbl W32} (hr : s.Stored a v regs) (ha : aCmkCnt ≠ a)
    (l : List Session) (g : Log) (l' : List Session) (n : List Sent) {w : State} {r : Byte} {target : BitVec 24}
    (hroom : (w.cmkRequest r target).isNone = false) (hw : w.cmk = s.cmk := by rfl) :
    let t := (((s.withStored l g regs).cmkRequest r target).getD (s.withStored l g regs)).withSent l' n
    t.routineWanted r target.toNat = true
      ∧ (s.routineWanted r target.toNat = false → s.cmk.running = none → t.cmk = { s.cmk with queue := s.cmk.queue ++ [⟨r, target⟩] })
      ∧ (s.cmk.queue.contains ⟨r, target⟩ = true → t.cmk = s.cmk ∧ t.fld aCmkCnt 7 0 = min (s.fld aCmkCnt 7 0 + 1) 255) := by
  have hsame : ((s.withStored l g regs).cmkRequest r target).isNone = false :=
    (State.cmkRequest_isNone_congr (s := w) (t := s.withStored l g regs) hw.symm r target).trans hroom
  obtain ⟨t, ht⟩ := Option.isSome_iff_exists.mp (by simpa using hsame)
  have hspec := State.cmkRequest_spec (hr.regs_wf l g) ht
  rw [hr.fld_other l g ha] at hspec
  rw [ht]
  exact hspec

/-- What an accepted write of CRY_CTRL leaves: the scan starts, stops, or goes on as it was (R388). -/
theorem State.cryCtrlEffect_stored {s : State} {v : W32} {r : Tbl W32} (hr : s.Stored aCryCtrl v r) (l : List Session) (g : Log) :
    let t := (s.withStored l g r).cryCtrlEffect (s.reg aCryCtrl)
    (v.getLsbD 0 = true → s.cryScan = false → (∀ m : Fin 16, t.cryStatus m = if s.cryEnabled m = true then 1 else s.cryStatus m)
      ∧ t.cryo.active = (List.range 16).find? s.cryEnabled)
    ∧ (¬ v.getLsbD 0 = true → s.cryScan = true → (∀ m : Fin 16, t.cryStatus m = if s.cryEnabled m = true then 0 else s.cryStatus m)
      ∧ t.cryo.active = none)
    ∧ ((v.getLsbD 0 = true ↔ s.cryScan = true) → t.cryo = s.cryo ∧ ∀ m : Fin 16, t.cryStatus m = s.cryStatus m)
    ∧ t.cryScan = v.getLsbD 0 ∧ ∃ r' y, t = { s with sessions := l, log := g, regs := r', cryo := y } := by
  have hscan : (s.withStored l g r).cryScan = v.getLsbD 0 := by
    rw [State.cryScan_eq, hr.reg_same, State.getLsbD_wordStored_rw masksAt_cryCtrl (by decide) (by decide) (by decide)]
  have hold : (s.reg aCryCtrl).getLsbD 0 = s.cryScan := s.cryScan_eq.symm
  have henabled : (s.withStored l g r).cryEnabled = s.cryEnabled := hr.cryEnabled l g (fun m => by unfold aCryExc aCryCtrl; omega)
  have hstatus (m : Nat) : (s.withStored l g r).cryStatus m = s.cryStatus m :=
    hr.fld_other l g (by unfold aCryCst aCryCtrl; omega) 2 0
  dsimp only
  cases hv : v.getLsbD 0 <;> cases hs : s.cryScan
  case false.false | true.true =>
    rw [State.cryCtrlEffect_same (hscan.trans (hv.trans (hs.symm.trans hold.symm)))]
    exact ⟨by simp, by simp, fun _ => ⟨rfl, fun m => hstatus m⟩, hscan.trans hv, r, s.cryo, rfl⟩
  case true.false =>
    obtain ⟨hall, hactive, hscan', r', y', ht⟩ := State.cryCtrlEffect_start_spec (hr.regs_wf l g) (hscan.trans hv) (hold.trans hs)
    rw [henabled] at hactive
    simp only [henabled, hstatus] at hall
    exact ⟨fun _ _ => ⟨hall, hactive⟩, by simp, by simp, hscan'.trans (hscan.trans hv), r', y', ht⟩
  case false.true =>
    obtain ⟨hall, hactive, hscan', r', y', ht⟩ := State.cryCtrlEffect_stop_spec (hr.regs_wf l g) (hscan.trans hv) (hold.trans hs)
    simp only [henabled, hstatus] at hall
    exact ⟨by simp, fun _ _ => ⟨hall, hactive⟩, by simp, hscan'.trans (hscan.trans hv), r', y', ht⟩

/-- What the write of a channel's register leaves: a status that says whether the channel waits for its turn, and a scan that goes on past
the channel where it stood at it (R388). -/
theorem State.cryChannelEffect_stored {s : State} {a : Nat} {v : W32} {r : Tbl W32} (hr : s.Stored a v r) (hctrl : aCryCtrl ≠ a)
    (hcnt : aCryCnt ≠ a) (hcst : ∀ m, aCryCst m ≠ a) (n : Fin 16) (l : List Session) (g : Log) :
    let t := (s.withStored l g r).cryChannelEffect n
    t.cryStatus n = (if s.cryScan = true ∧ t.cryEnabled n = true then 1 else 0)
    ∧ (∀ m : Fin 16, m ≠ n → t.cryStatus m = s.cryStatus m)
    ∧ (s.cryo.active = some n.val → t.cryo.active = t.cryAfter n ∧ t.fld aCryCnt 15 0 = min (s.fld aCryCnt 15 0 + 1) 65535)
    ∧ (s.cryo.active = none → t.cryo.active = if s.cryScan = true then t.cryAfter 15 else none)
    ∧ (s.cryo.active ≠ some n.val → s.cryo.active ≠ none → t.cryo = s.cryo)
    ∧ ∃ r' y, t = { s with sessions := l, log := g, regs := r', cryo := y } := by
  have hscan : (s.withStored l g r).cryScan = s.cryScan := by
    rw [State.cryScan_eq, State.cryScan_eq, hr.reg_other l g hctrl]
  have hstatus (m : Nat) : (s.withStored l g r).cryStatus m = s.cryStatus m := hr.fld_other l g (hcst m) 2 0
  obtain ⟨d, ⟨hsame, hother, henabled, hdscan, hframe⟩, hcases⟩ := State.cryChannelEffect_spec (hr.regs_wf l g) n
  rw [hscan] at hsame hcases
  rw [← henabled] at hsame
  have hother' (m : Fin 16) (hm : m ≠ n) : d.cryStatus m = s.cryStatus m := (hother m (Fin.val_ne_of_ne hm)).trans (hstatus m)
  have hexcite (k : Option Nat) : d.cryExcite k
      = { s with sessions := l, log := g, regs := d.regs, cryo := (d.cryExcite k).cryo } := by
    rw [d.cryExcite_eq k, hframe]
    rfl
  have hactive : (s.withStored l g r).cryo = s.cryo := rfl
  rw [hactive] at hcases
  dsimp only
  rcases hcases with ⟨hn, ht, hcount⟩ | ⟨hnone, ht⟩ | ⟨hsome, hn, ht⟩
  · rw [hr.fld_other l g hcnt] at hcount
    rw [ht]
    exact ⟨hsame, hother', fun _ => ⟨rfl, hcount⟩, fun h => absurd (h.symm.trans hn) (by simp), fun h => absurd hn h, _, _, hexcite _⟩
  · rw [ht]
    split
    · exact ⟨hsame, hother', fun h => absurd (hnone.symm.trans h) (by simp), fun _ => rfl, fun _ h => absurd hnone h, _, _, hexcite _⟩
    · have hcryo : d.cryo = s.cryo := by rw [hframe]; rfl
      exact ⟨hsame, hother', fun h => absurd (hnone.symm.trans h) (by simp), fun _ => hcryo ▸ hnone, fun _ h => absurd hnone h,
        d.regs, s.cryo, hframe⟩
  · rw [ht]
    have hcryo : d.cryo = s.cryo := by rw [hframe]; rfl
    exact ⟨hsame, hother', fun h => absurd h hn, fun h => absurd h hsome, fun _ _ => hcryo, d.regs, s.cryo, hframe⟩

/-- The code that an output takes at the write of its configuration (R385, R388). -/
theorem State.reg_cryRoutEffect {u : State} (hregs : Tbl.wf resetWord u.regs = true) (k : Nat) (old : W32) :
    (u.cryRoutEffect k old).reg (aCryRoutOut k) =
      let w := u.reg (aCryRoutCfg k)
      let n := fieldOf w 19 16
      if w.getLsbD 31 = true ∧ fieldOf old 19 16 = n then u.reg (aCryRoutOut k)
      else if w.getLsbD 31 = true ∧ u.cryStatus n = 2 then
        BitVec.ofNat 32 (min (65536 * (u.reg (aCryRes n)).toNat / (1000 * (u.reg (aCryRoutFs k)).toNat)) 65535)
      else BitVec.ofNat 32 (0x10000 + fieldOf w 15 0) := by
  by_cases h : (u.reg (aCryRoutCfg k)).getLsbD 31 = true ∧ fieldOf old 19 16 = u.fld (aCryRoutCfg k) 19 16
  · rw [State.cryRoutEffect_eq, if_pos h]
    exact (if_pos h).symm
  · rw [State.cryRoutEffect_eq, if_neg h, State.routUpdate_eq, State.reg_setReg_same u _ _ hregs]
    exact (if_neg h).symm

theorem State.cryRoutEffect_frame (u : State) (k : Nat) (old : W32) : ∃ r, u.cryRoutEffect k old = u.withRegs r := by
  rw [State.cryRoutEffect_eq]
  split
  · exact ⟨u.regs, rfl⟩
  · exact ⟨_, (u.routUpdate_eq k).trans rfl⟩

/-- The code that an output takes at an accepted write of its configuration (R385, R388). -/
theorem State.cryRoutEffect_stored {s : State} {k : Fin 4} {v : W32} {r : Tbl W32} (hr : s.Stored (aCryRoutCfg k) v r) (l : List Session)
    (g : Log) : ∃ r', (s.withStored l g r).cryRoutEffect k (s.reg (aCryRoutCfg k)) = s.withStored l g r'
      ∧ (s.withStored l g r').reg (aCryRoutOut k) =
        if v.getLsbD 31 = true ∧ s.fld (aCryRoutCfg k) 19 16 = fieldOf v 19 16 then s.reg (aCryRoutOut k)
        else if v.getLsbD 31 = true ∧ s.cryStatus (fieldOf v 19 16) = 2 then
          BitVec.ofNat 32 (min (65536 * (s.reg (aCryRes (fieldOf v 19 16))).toNat / (1000 * (s.reg (aCryRoutFs k)).toNat)) 65535)
        else BitVec.ofNat 32 (0x10000 + fieldOf v 15 0) := by
  have hon : ((s.withStored l g r).reg (aCryRoutCfg k)).getLsbD 31 = v.getLsbD 31 := by
    rw [hr.reg_same]
    exact State.getLsbD_wordStored_rw (masksAt_cryRoutCfg k) (by decide) (by decide) (by decide)
  have hchannel : fieldOf ((s.withStored l g r).reg (aCryRoutCfg k)) 19 16 = fieldOf v 19 16 := by
    have hmask : ∀ i, i ≤ 19 → (0x800FFFFF : W32).getLsbD i = true := by decide
    rw [hr.reg_same]
    exact State.fieldOf_wordStored_rw (masksAt_cryRoutCfg k) (by decide) (by decide) (by decide) (fun i _ hi => hmask i hi)
  have hlow : fieldOf ((s.withStored l g r).reg (aCryRoutCfg k)) 15 0 = fieldOf v 15 0 := by
    have hmask : ∀ i, i ≤ 15 → (0x800FFFFF : W32).getLsbD i = true := by decide
    rw [hr.reg_same]
    exact State.fieldOf_wordStored_rw (masksAt_cryRoutCfg k) (by decide) (by decide) (by decide) (fun i _ hi => hmask i hi)
  have hn : fieldOf v 19 16 < 16 := Nat.mod_lt _ (by decide)
  have hstatus : (s.withStored l g r).cryStatus (fieldOf v 19 16) = s.cryStatus (fieldOf v 19 16) :=
    hr.fld_other l g (by unfold aCryCst aCryRoutCfg; omega) 2 0
  have hcode := State.reg_cryRoutEffect (hr.regs_wf l g) k (s.reg (aCryRoutCfg k))
  dsimp only at hcode
  rw [hon, hchannel, hlow, hstatus, hr.reg_other l g (b := aCryRoutOut k) (by unfold aCryRoutOut aCryRoutCfg; omega),
    hr.reg_other l g (b := aCryRes (fieldOf v 19 16)) (by unfold aCryRes aCryRoutCfg; omega),
    hr.reg_other l g (b := aCryRoutFs k) (by unfold aCryRoutFs aCryRoutCfg; omega)] at hcode
  obtain ⟨r', ht⟩ := (s.withStored l g r).cryRoutEffect_frame k (s.reg (aCryRoutCfg k))
  rw [ht] at hcode
  exact ⟨r', ht, hcode⟩

end Sys2Proof.Machine
end

section
/-! PROOF. What the accepted writes of control registers do. -/

namespace Sys2Proof.Machine

/-- Settles O36: each command is the write of one register, which ends in its register's effect in a state that differs in the stored word,
the sessions and the log (`exec_of_accepted`); each clause is what is known of that effect. -/
theorem controlRegisterWritesAct : Obligations.ControlRegisterWritesAct := by
  intro s x sid seq v c k n hregs hcrus htiu habort hmay hask on does served T late shadow capture queued waits y arms far seen inLock fresh
    sampled channel code
  have act {cmd a w id idx P} (hmap : registerAt a = some (id, idx)) (hc : exec cmd s = .next (s.writeOne sid seq a w))
      (hid : id ≠ .cruDragData)
      (hP : (s.taken x sid).checkEntry x.role a w = none → ∀ r, s.Stored a w r →
        ∀ l g l' n, P (((s.withStored l g r).writeEffect x.id (.ofId id idx) (s.reg a) w).withSent l' n)) : does cmd a w P :=
    fun hck => exec_of_accepted hregs hask hmay hmap hc hid (hP hck) hck
  refine ⟨?_, ?_, ?_, ?_, ?_, ?_, ?_, ?_, ?_, ?_, ?_, ?_, ?_, ?_, ?_, ?_, ?_, ?_, ?_, ?_, ?_⟩
  · refine act (registerAt_cruClsThi c) rfl (by decide) (fun _ r hr l g l' m => ?_)
    rw [State.writeEffect_cruClsThi_go _ _ _ _ (getLsbD_withBit_same v (by decide) true)]
    obtain ⟨hpending, hlate, hother, r', k', ht⟩ := State.classifierGo_spec (hr.regs_wf l g) (u := s.withStored l g r) hcrus c
    have htick : (s.withStored l g r).commitTick c = T := hr.commitTick l g
    have hlateT : (s.withStored l g r).commitLate c = decide late := by rw [State.commitLate, htick]; rfl
    have hset : (s.withStored l g r).commitSet c = some (if late then s.now + 24 else T, shadow) := by
      rw [State.commitSet, hlateT, htick, hr.shadowSet l g]
      simp only [decide_eq_true_eq]
      rfl
    rw [hset] at hpending
    rw [hlateT] at hlate
    rw [ht] at hpending hlate hother ⊢
    exact ⟨hpending, fun h => hlate.trans (decide_eq_true h), fun h => hlate.trans (decide_eq_false h),
      fun d hd => hother d (Fin.val_ne_of_ne hd), rfl⟩
  · refine act registerAt_timCastCtrl rfl (by decide) (fun _ r hr l g l' m => ?_)
    have hport : (s.withStored l g r).portUp (s.withStored l g r).castPort = s.portUp s.castPort := by
      unfold State.castPort
      rw [hr.fld_other l g (by decide) 14 12, hr.fld_other l g (by decide) 10 8]
      rfl
    exact hport ▸ (s.withStored l g r).realignEffect_spec
  · exact act registerAt_timSysCtrl rfl (by decide) (fun _ _ _ _ _ _ _ => rfl)
  · refine act registerAt_timSysOfsIn rfl (by decide) (fun _ r hr l g l' m => ?_)
    have hservo : (s.withStored l g r).reg aTimSrvSys = s.reg aTimSrvSys := hr.reg_other l g (by decide)
    have harms : arms = true ↔ y.stepped = false ∨ y.stepArmed = true := by simp [arms]
    by_cases ha : y.stepped = false ∨ y.stepArmed = true
    · obtain ⟨g', ht⟩ := State.sysOffset_steps (u := s.withStored l g r) ha v.toInt
      have harm : arms = true := harms.mpr ha
      have heffect : ((s.withStored l g r).writeEffect x.id (.ofId .timSysOfsIn []) (s.reg aTimSysOfsIn) v) = _ := ht
      rw [heffect]
      refine ⟨fun _ => ⟨rfl, rfl⟩, ?_, ?_, ?_, rfl⟩ <;> (intro h; rw [harm] at h; cases h)
    · obtain ⟨hstepped, hunarmed⟩ : y.stepped = true ∧ y.stepArmed = false := by simpa using ha
      have hnot : ¬ arms = true := fun h => ha (harms.mp h)
      by_cases hfar : far
      · have heffect : ((s.withStored l g r).writeEffect x.id (.ofId .timSysOfsIn []) (s.reg aTimSysOfsIn) v) = _ :=
          State.sysOffset_far (u := s.withStored l g r) hstepped hunarmed hfar
        rw [heffect]
        exact ⟨fun h => absurd h hnot, fun _ _ => rfl, fun _ h => absurd hfar h, fun _ => rfl, rfl⟩
      · have heffect : ((s.withStored l g r).writeEffect x.id (.ofId .timSysOfsIn []) (s.reg aTimSysOfsIn) v) = _ :=
          State.sysOffset_sampled (u := s.withStored l g r) hstepped hunarmed hfar
        rw [heffect, hservo]
        exact ⟨fun h => absurd h hnot, fun _ h => absurd h hfar, fun _ _ => rfl, fun _ => rfl, rfl⟩
  · refine act registerAt_capCtrl rfl (by decide) (fun _ r hr l g l' m => ?_)
    have hrec : (s.withStored l g r).reg aCapRec = s.reg aCapRec := hr.reg_other l g (by decide)
    obtain ⟨hst, htick, hsession, hfired, hnext⟩ := State.capArmUnit_spec (hr.regs_wf l g) (some x.id)
    rw [hrec] at hnext
    exact ⟨hst, htick, hsession, hfired, hnext⟩
  · refine act registerAt_capCtrl rfl (by decide) (fun _ r hr l g l' m => ?_)
    refine ⟨fun hst hfired => ?_, fun hidle => ?_⟩
    · exact State.capFireUnit_armed (s := s.withStored l g r) hst hfired _ _
    · have heffect : ((s.withStored l g r).writeEffect x.id (.ofId .capCtrl []) (s.reg aCapCtrl) 2) = s.withStored l g r :=
        State.capFireUnit_idle (s := s.withStored l g r) hidle _ _
      rw [heffect]
      exact ⟨rfl, rfl⟩
  · refine act registerAt_capCtrl rfl (by decide) (fun _ r hr l g l' m => ?_)
    have heffect : ((s.withStored l g r).writeEffect x.id (.ofId .capCtrl []) (s.reg aCapCtrl) 4) = (s.withStored l g r).capAbortUnit := rfl
    rw [heffect]
    by_cases hrun : s.cap.st = .armed ∨ s.cap.st = .triggered
    · rw [State.capAbortUnit_running (u := s.withStored l g r) hrun]
      exact ⟨rfl, fun _ => ⟨rfl, rfl, rfl⟩, fun h h' => absurd hrun (not_or.mpr ⟨h, h'⟩)⟩
    · obtain ⟨h, h'⟩ := not_or.mp hrun
      rw [State.capAbortUnit_idle (u := s.withStored l g r) h h']
      exact ⟨rfl, fun hr => absurd hr hrun, fun _ _ => rfl⟩
  · refine act registerAt_capCtrl rfl (by decide) (fun _ r hr l g l' m => ?_)
    have heffect : ((s.withStored l g r).writeEffect x.id (.ofId .capCtrl []) (s.reg aCapCtrl) 8) = (s.withStored l g r).capReleaseUnit := rfl
    rw [heffect]
    by_cases hclosed : s.cap.st = .closed
    · rw [State.capReleaseUnit_closed (u := s.withStored l g r) hclosed]
      exact ⟨rfl, fun _ => rfl, fun h => absurd (hclosed.symm.trans h) (by decide), fun h => absurd hclosed h⟩
    · by_cases hidle : s.cap.st = .idle
      · rw [State.capReleaseUnit_idle (u := s.withStored l g r) hidle]
        exact ⟨rfl, fun h => absurd h hclosed, fun _ => rfl, fun _ h => absurd hidle h⟩
      · rw [State.capReleaseUnit_running (u := s.withStored l g r) hclosed hidle]
        exact ⟨rfl, fun h => absurd h hclosed, fun h => absurd h hidle, fun _ _ => ⟨rfl, rfl⟩⟩
  · refine act (registerAt_tiuUctrl k) rfl (by decide) (fun _ r hr l g l' m => ?_)
    have hn : (s.withStored l g r).fld (aTiuUn k) 15 0 = s.fld (aTiuUn k) 15 0 :=
      hr.fld_other l g (by unfold aTiuUn aTiuUctrl; omega) 15 0
    have heffect : (s.withStored l g r).writeEffect x.id (.ofId .tiuUctrl [k.val]) (s.reg (aTiuUctrl k)) 1
        = (s.withStored l g r).tiuStartUnit k := rfl
    rw [heffect, State.tiuStartUnit, hn]
    obtain ⟨units, ht, hsame, hother⟩ := State.setTiu_spec (u := s.withStored l g r) htiu k
      { Tiu.init with running := true, left := 2 ^ s.fld (aTiuUn k) 15 0, begun := (s.withStored l g r).now }
    rw [ht]
    exact ⟨hsame, fun j hj => hother j (Fin.val_ne_of_ne hj), rfl⟩
  · refine act (registerAt_tiuUctrl k) rfl (by decide) (fun _ r hr l g l' m => ?_)
    have heffect : (s.withStored l g r).writeEffect x.id (.ofId .tiuUctrl [k.val]) (s.reg (aTiuUctrl k)) 2
        = (s.withStored l g r).tiuAbortUnit k := rfl
    have hunit : (s.withStored l g r).tiuUnit k = s.tiuUnit k := rfl
    rw [heffect, State.tiuAbortUnit, hunit]
    by_cases hrun : (s.tiuUnit k).running = true
    · obtain ⟨units, ht, hsame, hother⟩ := State.setTiu_spec (u := s.withStored l g r) htiu k
        { s.tiuUnit k with running := false, left := 0, t0 := none, edges := 0 }
      rw [if_pos hrun, ht]
      exact ⟨hsame.trans (if_pos hrun).symm, fun j hj => hother j (Fin.val_ne_of_ne hj), rfl⟩
    · rw [if_neg hrun]
      exact ⟨(if_neg hrun).symm, fun _ _ => rfl, rfl⟩
  · refine act registerAt_cmkReq rfl (by decide) (fun hck r hr l g l' m => ?_)
    have hroom := State.cmkRequest_of_accepted hck
    exact State.cmkRequest_accepted hr (by decide) l g l' m hroom
  · refine act registerAt_fusProgHi rfl (by decide) (fun hck r hr l g l' m => ?_)
    have hgo : (withBit v 31 true).getLsbD 31 = true := getLsbD_withBit_same v (by decide) true
    rw [State.writeEffect_fusProgHi_go _ _ _ hgo]
    exact State.cmkRequest_accepted hr (by decide) l g l' m (State.fuseRequest_of_accepted hgo hck)
  · refine act registerAt_calAccept rfl (by decide) (fun _ r hr l g l' m => ?_)
    intro l0 hwaits
    have heffect : (s.withStored l g r).writeEffect x.id (.ofId .calAccept []) (s.reg aCalAccept) 1 = _ :=
      if_neg (not_not_intro hwaits)
    rw [heffect]
    rfl
  · refine act registerAt_calAccept rfl (by decide) (fun _ r hr l g l' m => ?_)
    refine ⟨fun hwaits => ?_, fun hnot => ?_⟩
    · have heffect : (s.withStored l g r).writeEffect x.id (.ofId .calAccept []) (s.reg aCalAccept) 2 = _ :=
        if_neg (not_not_intro hwaits)
      rw [heffect]
      rfl
    · have heffect : (s.withStored l g r).writeEffect x.id (.ofId .calAccept []) (s.reg aCalAccept) 2 = _ := if_pos hnot
      rw [heffect]
      rfl
  · refine act registerAt_cryCtrl rfl (by decide) (fun _ r hr l g l' m => ?_)
    obtain ⟨hstart, hstop, hsame, hscan, r', y', ht⟩ := State.cryCtrlEffect_stored hr l g
    have heffect : (s.withStored l g r).writeEffect x.id (.ofId .cryCtrl []) (s.reg aCryCtrl) v
        = (s.withStored l g r).cryCtrlEffect (s.reg aCryCtrl) := rfl
    rw [ht] at hstart hstop hsame hscan heffect
    rw [heffect]
    exact ⟨hstart, hstop, hsame, hscan, rfl⟩
  · refine act (registerAt_cryExc n) rfl (by decide) (fun _ r hr l g l' m => ?_)
    obtain ⟨hsame, hother, hhere, hnone, helse, r', y', ht⟩ := State.cryChannelEffect_stored hr (by unfold aCryCtrl aCryExc; omega)
      (by unfold aCryCnt aCryExc; omega) (fun m => by unfold aCryCst aCryExc; omega) n l g
    have heffect : (s.withStored l g r).writeEffect x.id (.ofId .cryExc [n.val]) (s.reg (aCryExc n)) v
        = (s.withStored l g r).cryChannelEffect n := rfl
    rw [ht] at hsame hother hhere hnone helse heffect
    rw [heffect]
    exact ⟨hsame, hother, hhere, hnone, helse, rfl⟩
  · refine act (registerAt_cryPins n) rfl (by decide) (fun _ r hr l g l' m => ?_)
    obtain ⟨hsame, hother, hhere, hnone, helse, r', y', ht⟩ := State.cryChannelEffect_stored hr (by unfold aCryCtrl aCryPins; omega)
      (by unfold aCryCnt aCryPins; omega) (fun m => by unfold aCryCst aCryPins; omega) n l g
    have heffect : (s.withStored l g r).writeEffect x.id (.ofId .cryPins [n.val]) (s.reg (aCryPins n)) v
        = (s.withStored l g r).cryChannelEffect n := rfl
    rw [ht] at hsame hother hhere hnone helse heffect
    rw [heffect]
    exact ⟨hsame, hother, hhere, hnone, helse, rfl⟩
  · refine act (registerAt_cryRoutFs k) rfl (by decide) (fun _ r hr l g l' m => ?_)
    refine ⟨(hr.reg_same l g).trans (BitVec.eq_of_getLsbD_eq (fun i hi => ?_)), rfl⟩
    exact State.getLsbD_wordStored_rw (masksAt_cryRoutFs k) (by decide) hi (BitVec.getLsbD_allOnes.trans (decide_eq_true hi))
  · refine act (registerAt_cryRoutCfg k) rfl (by decide) (fun _ r hr l g l' m => ?_)
    obtain ⟨r', ht, hcode⟩ := State.cryRoutEffect_stored hr l g
    have heffect : (s.withStored l g r).writeEffect x.id (.ofId .cryRoutCfg [k.val]) (s.reg (aCryRoutCfg k)) v = s.withStored l g r' := ht
    rw [heffect]
    exact ⟨hcode.trans (if_congr (and_congr_right (fun _ => eq_comm)) rfl rfl), rfl⟩
  · refine act registerAt_mldReset rfl (by decide) (fun _ r hr l g l' m => ?_)
    refine ⟨fun hv hstop => ?_, fun hnot => ?_⟩
    · have heffect : (s.withStored l g r).writeEffect x.id (.ofId .mldReset []) (s.reg aMldReset) v
          = (s.withStored l g r).beginStop .command 0x06 := (if_pos hv).trans (if_neg (by simp [State.withStored, hstop]))
      rw [heffect]
      exact (s.withStored l g r).beginStop_spec .command 0x06
    · have heffect : (s.withStored l g r).writeEffect x.id (.ofId .mldReset []) (s.reg aMldReset) v = s.withStored l g r := by
        by_cases hv : on v 0
        · exact (if_pos hv).trans (if_pos (Option.isSome_iff_ne_none.mpr (hnot.resolve_left (not_not_intro hv))))
        · exact if_neg hv
      rw [heffect]
      rfl
  · refine act registerAt_mldResbufStat rfl (by decide) (fun _ r hr l g l' m => ?_)
    have hclear : (s.withStored l g r).bit aMldResbufStat 20 = false := by
      rw [State.bit_eq, hr.reg_same, State.getLsbD_wordStored masksAt_mldResbufStat (by decide) (by decide)]
      simp
    obtain ⟨hbit, r', l'', n', ht⟩ := State.highWater_spec (hr.regs_wf l g) hclear
    have heffect : (s.withStored l g r).writeEffect x.id (.ofId .mldResbufStat []) (s.reg aMldResbufStat) 0x100000
        = (s.withStored l g r).highWater := rfl
    rw [ht] at hbit
    rw [heffect, ht]
    exact ⟨hbit, rfl⟩

end Sys2Proof.Machine
end

section
/-! SUPPORT. The runs as the shared operations leave them: conditions of shots change entries alone, and a run is found again by its
identifier (R28, R35, R463). -/

namespace Sys2Proof.Machine

/-! ### A run apart from the entries of its shots -/

/-- A run without the entries of its shots: what conditions, decisions and late items leave alone. -/
def Run.bare (r : Run) : Run := { r with shots := r.shots.map (fun h => { h with entries := [] }) }
/-- The runs without the entries of their shots. -/
def State.bareRuns (s : State) : List Run := s.runs.map Run.bare

theorem Run.eq_of_bare {q r : Run} (h : q.bare = r.bare) (hr : r.shots = []) : q = r := by
  cases q; cases r
  simp only [Run.bare, Run.mk.injEq] at h hr ⊢
  subst hr
  simpa using h

theorem State.find?_bare (l : List Run) (id : W32) : (l.find? (fun r => r.id == id)).map Run.bare = (l.map Run.bare).find? (fun r => r.id == id) := by
  rw [List.find?_map]
  rfl

theorem State.run?_bare {s t : State} (h : t.bareRuns = s.bareRuns) (id : W32) : (t.run? id).map Run.bare = (s.run? id).map Run.bare := by
  rw [State.run?, State.run?, State.find?_bare, State.find?_bare]
  exact congrArg _ h

/-- A run is found again after operations that leave the bare runs alone. -/
theorem State.run?_of_bare {s t : State} (h : t.bareRuns = s.bareRuns) {id : W32} {r : Run} (hr : s.run? id = some r) :
    ∃ q, t.run? id = some q ∧ q.bare = r.bare := by
  have := State.run?_bare h id
  rw [hr] at this
  simpa [Option.map_eq_some_iff] using this

/-- A run with no shots is the same run after such operations. -/
theorem State.run?_same {s t : State} (h : t.bareRuns = s.bareRuns) {id : W32} {r : Run} (hr : s.run? id = some r) (hs : r.shots = []) :
    t.run? id = some r := by
  obtain ⟨q, hq, hb⟩ := State.run?_of_bare h hr
  rw [hq, Run.eq_of_bare hb hs]

theorem State.run?_id {s : State} {id : W32} {r : Run} (h : s.run? id = some r) : r.id = id := by
  simpa using List.find?_some h

/-- The changed run is found under its identifier. -/
theorem State.run?_modRun (s : State) (id : W32) {f : Run → Run} (hf : ∀ r, (f r).id = r.id) :
    (s.modRun id f).run? id = (s.run? id).map f := by
  have hcomp : ((fun r : Run => r.id == id) ∘ fun r => if (r.id == id) = true then f r else r) = fun r => r.id == id := by
    funext r
    by_cases h : r.id = id <;> simp [h, hf]
  unfold State.run? State.modRun
  dsimp only
  rw [List.find?_map, hcomp]
  cases h : s.runs.find? (fun r => r.id == id) with
  | none => rfl
  | some r => simpa using fun hne => absurd (by simpa using List.find?_some h) hne

theorem State.run?_modRun_some {s : State} {id : W32} {r : Run} (h : s.run? id = some r) {f : Run → Run} (hf : ∀ r, (f r).id = r.id) :
    (s.modRun id f).run? id = some (f r) := by
  rw [s.run?_modRun id hf, h]
  rfl

theorem State.modRun_modRun (s : State) (id : W32) {f g : Run → Run} (hf : ∀ r, (f r).id = r.id) :
    (s.modRun id f).modRun id g = s.modRun id (g ∘ f) := by
  unfold State.modRun
  dsimp only
  rw [List.map_map]
  congr 1
  refine List.map_congr_left fun r _ => ?_
  by_cases h : r.id = id <;> simp [h, hf]

@[simp] theorem State.bareRuns_modEntry (s : State) (id idx : W32) (e : Nat) (f : Entry → Entry) : (s.modEntry id idx e f).bareRuns = s.bareRuns := by
  unfold State.bareRuns State.modEntry State.modShot State.modRun
  dsimp only
  rw [List.map_map]
  refine List.map_congr_left fun r _ => ?_
  dsimp only [Function.comp_apply]
  split
  · simp only [Run.bare, List.map_map, Run.mk.injEq, true_and, and_true]
    refine List.map_congr_left fun h _ => ?_
    dsimp only [Function.comp_apply]
    split <;> rfl
  · rfl

end Sys2Proof.Machine
end

section
/-! SUPPORT. Power-ups of banks: what those that end leave alone, and what a request of one does while no routine is told to stop (R134,
R149, R161, R358). -/

namespace Sys2Proof.Machine

/-! ### Banks that reach ON -/

/-- What banks that reach ON leave alone: all but banks, channels, tones, routines, free values, open conditions and shots' entries. -/
def State.settleRest (s : State) : State :=
  { s with cmk := Cmk.init, banks := [], free := 0, adc := [], rf := [], tones := [], dues := [], runs := s.bareRuns }

theorem State.settleRest_each {α : Type} (s : State) (l : List α) {f : State → α → State}
    (h : ∀ s x, (f s x).settleRest = s.settleRest) : (s.each l f).settleRest = s.settleRest := State.each_keeps State.settleRest l f h s

@[simp] theorem State.settleRest_modEntry (s : State) (id idx : W32) (e : Nat) (f : Entry → Entry) :
    (s.modEntry id idx e f).settleRest = s.settleRest := by
  unfold State.settleRest
  rw [State.bareRuns_modEntry]
  rfl
@[simp] theorem State.settleRest_setTone (s : State) (t : Nat) (x : Tone) : (s.setTone t x).settleRest = s.settleRest := rfl
@[simp] theorem State.settleRest_setRfch (s : State) (c : Nat) (x : RfChan) : (s.setRfch c x).settleRest = s.settleRest := rfl
@[simp] theorem State.settleRest_setAdcch (s : State) (c : Nat) (x : AdcChan) : (s.setAdcch c x).settleRest = s.settleRest := rfl
@[simp] theorem State.settleRest_setBank (s : State) (b : Nat) (x : Bank) : (s.setBank b x).settleRest = s.settleRest := rfl
@[simp] theorem State.settleRest_seedAdc (s : State) (c : Nat) : (s.seedAdc c).settleRest = s.settleRest := rfl

@[simp] theorem State.settleRest_playCleared (s : State) (t n : Nat) (tick : Tick) : (s.playCleared t n tick).settleRest = s.settleRest := by
  unfold State.playCleared
  split
  · rfl
  · exact State.settleRest_modEntry _ _ _ _ _
@[simp] theorem State.settleRest_muteHits (s : State) (ch : Nat) (tick : Tick) : (s.muteHits ch tick).settleRest = s.settleRest := by
  refine s.settleRest_each _ fun u t => (State.settleRest_each _ _ fun w q => w.settleRest_playCleared _ _ _).trans ?_
  split
  · rfl
  · exact u.settleRest_playCleared _ _ _
@[simp] theorem State.settleRest_judgeMute (s : State) (ch : Nat) (tick : Tick) : (s.judgeMute ch tick).settleRest = s.settleRest := by
  unfold State.judgeMute
  dsimp only
  (repeat' split)
  · rfl
  · simp
  · exact State.settleRest_each _ _ fun u t => u.settleRest_setTone _ _
  · rfl
theorem State.cmkEnd_done (s : State) (result : Byte) : ∃ m : Cmk, s.cmkEnd true result = { s with cmk := m } := by
  unfold State.cmkEnd
  split
  · exact ⟨State.cmk s, rfl⟩
  · exact ⟨_, rfl⟩
theorem State.routineDone_eq (s : State) (r : Byte) (n : Nat) : ∃ m : Cmk, s.routineDone r n = { s with cmk := m } := by
  unfold State.routineDone
  extract_lets q same asked cmk kept
  have hkept : ∃ m : Cmk, kept = { s with cmk := m } := ⟨_, rfl⟩
  clear_value kept
  obtain ⟨m, rfl⟩ := hkept
  split
  · exact ⟨m, rfl⟩
  · split
    · obtain ⟨m', h⟩ := State.cmkEnd_done { s with cmk := m } 0
      exact ⟨m', h⟩
    · exact ⟨m, rfl⟩
@[simp] theorem State.settleRest_routineDone (s : State) (r : Byte) (n : Nat) : (s.routineDone r n).settleRest = s.settleRest := by
  obtain ⟨m, h⟩ := s.routineDone_eq r n
  rw [h]
  rfl
@[simp] theorem State.settleRest_bankOn (s : State) (b : Nat) (t : Tick) : (s.bankOn b t).settleRest = s.settleRest := by
  unfold State.bankOn
  dsimp only
  split
  · refine (State.settleRest_each _ _ fun u c => ?_).trans (by simp)
    split <;> simp
  · refine (State.settleRest_each _ _ fun u c => (State.settleRest_judgeMute _ _ _).trans ?_).trans (by simp)
    exact State.settleRest_each _ _ fun w n => w.settleRest_setTone _ _
theorem State.settleRest_bankSettle (s : State) (l : List Nat) : (s.bankSettle l).settleRest = s.settleRest := by
  refine s.settleRest_each _ fun u b => ?_
  dsimp only
  split
  · simp
  · rfl

/-- Banks that reach ON change no time, image, Crucible, register or bare run. -/
theorem State.bankSettle_frame (s : State) (l : List Nat) : (s.bankSettle l).now = s.now ∧ (s.bankSettle l).clock = s.clock
    ∧ (s.bankSettle l).images = s.images ∧ (s.bankSettle l).crus = s.crus ∧ (s.bankSettle l).regs = s.regs
    ∧ (s.bankSettle l).bareRuns = s.bareRuns := by
  have h := s.settleRest_bankSettle l
  exact ⟨(congrArg (fun t : State => t.now) h :), (congrArg (fun t : State => t.clock) h :), (congrArg (fun t : State => t.images) h :),
    (congrArg (fun t : State => t.crus) h :), (congrArg (fun t : State => t.regs) h :), (congrArg (fun t : State => t.runs) h :)⟩

theorem State.namedCrucibles_bankSettle (s : State) (l : List Nat) (r : Run) : (s.bankSettle l).namedCrucibles r = s.namedCrucibles r :=
  (congrArg (fun t : State => t.namedCrucibles r) (s.settleRest_bankSettle l) :)
theorem State.cruPhys_bankSettle (s : State) (l : List Nat) : (s.bankSettle l).cruPhys = s.cruPhys :=
  (congrArg (fun t : State => t.cruPhys) (s.settleRest_bankSettle l) :)

/-! ### A power-up asked of a bank (R134, R161) -/

/-- What requests of power-ups leave alone: all but the banks, the routines and the registers that count them. -/
def State.askRest (s : State) : State := { s with banks := [], cmk := Cmk.init, regs := [] }

theorem State.eq_of_askRest {s t : State} (h : t.askRest = s.askRest) : t = { s with banks := t.banks, cmk := t.cmk, regs := t.regs } :=
  congrArg (fun u : State => { u with banks := t.banks, cmk := t.cmk, regs := t.regs }) h

/-- While no routine is told to stop, a request of a routine leaves the banks and tells none to stop. -/
def State.Asks (s t : State) : Prop := t.askRest = s.askRest ∧ t.banks = s.banks ∧ (s.cmk.abort = false → t.cmk.abort = false)

theorem State.Asks.trans {s t u : State} (h : s.Asks t) (h' : t.Asks u) : s.Asks u :=
  ⟨h'.1.trans h.1, h'.2.1.trans h.2.1, fun hs => h'.2.2 (h.2.2 hs)⟩
theorem State.asks_cmk (s : State) {m : Cmk} (h : s.cmk.abort = false → m.abort = false) : s.Asks { s with cmk := m } := ⟨rfl, rfl, h⟩
theorem State.asks_count (s : State) (a hi lo n : Nat) : s.Asks (s.count a hi lo n) := ⟨rfl, rfl, id⟩

theorem State.asks_cmkYield (s : State) : s.Asks s.cmkYield := by
  unfold State.cmkYield
  split
  · exact ⟨rfl, rfl, id⟩
  · exact ⟨rfl, rfl, id⟩
theorem State.asks_cmkTakeInt {s : State} (ha : s.cmk.abort = false) : s.Asks s.cmkTakeInt := by
  unfold State.cmkTakeInt
  rw [if_neg (by simp [ha])]
  split
  · exact s.asks_cmkYield
  · exact s.asks_cmk id
theorem State.asks_cmkNotice {s : State} (ha : s.cmk.abort = false) : s.Asks s.cmkNotice := by
  unfold State.cmkNotice
  split
  · exact ⟨rfl, rfl, id⟩
  · (repeat' split)
    · exact ⟨rfl, rfl, id⟩
    · exact State.asks_cmkTakeInt ha
    · exact s.asks_cmk id
theorem State.asks_routineAsk {s : State} (ha : s.cmk.abort = false) (r : Byte) (n : Nat) : s.Asks (s.routineAsk r n) := by
  unfold State.routineAsk
  dsimp only
  split
  · next t ht =>
    rcases State.cmkRequest_cases ht with ⟨-, rfl⟩ | ⟨-, rfl⟩
    · exact s.asks_count _ _ _ _
    · exact (s.asks_cmk (m := { s.cmk with queue := s.cmk.queue ++ [⟨r, BitVec.ofNat 24 n⟩] }) id).trans (State.asks_cmkNotice ha)
  · exact s.asks_cmk id

/-- A bank of which a power-up is asked is not OFF, and no bank leaves ON or becomes OFF by it. -/
theorem State.bankUp_spec {s : State} (hwf : Tbl.wf (fun _ => Bank.init) s.banks = true) (ha : s.cmk.abort = false) (b : Nat) :
    (s.bankUp b).askRest = s.askRest ∧ (s.bankUp b).cmk.abort = false ∧ Tbl.wf (fun _ => Bank.init) (s.bankUp b).banks = true
      ∧ ((s.bankUp b).bank b).st ≠ .off ∧ ∀ c, ((s.bank c).st ≠ .off → ((s.bankUp b).bank c).st ≠ .off)
        ∧ ((s.bank c).st = .on → ((s.bankUp b).bank c).st = .on) := by
  unfold State.bankUp
  dsimp only
  split
  · next hst =>
    obtain ⟨hrest, hbanks, habort⟩ := State.asks_routineAsk (s := s.setBank b ⟨.poweringUp, s.now, false⟩) ha (upRoutine b) b
    have hbank : ∀ c, ((s.setBank b ⟨.poweringUp, s.now, false⟩).routineAsk (upRoutine b) b).bank c
        = (s.setBank b ⟨.poweringUp, s.now, false⟩).bank c := fun c => congrArg (fun l => Tbl.get l c Bank.init) hbanks
    refine ⟨hrest, habort ha, hbanks ▸ State.banks_wf_setBank s b _ hwf, ?_, fun c => ?_⟩
    · rw [hbank, State.bank_setBank_same s b _ hwf]
      simp
    · rw [hbank]
      by_cases hc : c = b
      · subst hc
        rw [State.bank_setBank_same s c _ hwf, hst]
        simp
      · rw [State.bank_setBank_other s b c _ hc]
        exact ⟨id, id⟩
  · next hst =>
    refine ⟨rfl, ha, State.banks_wf_setBank s b _ hwf, ?_, fun c => ?_⟩
    · rw [State.bank_setBank_same s b _ hwf, hst]
      simp
    · by_cases hc : c = b
      · subst hc
        rw [State.bank_setBank_same s c _ hwf]
        simp
      · rw [State.bank_setBank_other s b c _ hc]
        exact ⟨id, id⟩
  · next hoff hdown => exact ⟨rfl, ha, hwf, hoff, fun c => ⟨id, id⟩⟩

/-- After power-ups are asked of a list of banks, none of them is OFF, and those that were ON are. -/
theorem State.each_bankUp_spec (l : List Nat) {s : State} (hwf : Tbl.wf (fun _ => Bank.init) s.banks = true) (ha : s.cmk.abort = false) :
    (s.each l State.bankUp).askRest = s.askRest ∧ ∀ c, ((c ∈ l ∨ (s.bank c).st ≠ .off) → ((s.each l State.bankUp).bank c).st ≠ .off)
        ∧ ((s.bank c).st = .on → ((s.each l State.bankUp).bank c).st = .on) := by
  induction l generalizing s with
  | nil => exact ⟨rfl, fun c => ⟨fun h => h.resolve_left (by simp), id⟩⟩
  | cons b l ih =>
    obtain ⟨hrest, habort, hbwf, hb, hbank⟩ := State.bankUp_spec hwf ha b
    obtain ⟨hrest', hbank'⟩ := ih hbwf habort
    refine ⟨hrest'.trans hrest, fun c => ⟨fun h => (hbank' c).1 ?_, fun h => (hbank' c).2 ((hbank c).2 h)⟩⟩
    rcases h with h | h
    · rcases List.mem_cons.mp h with rfl | h
      · exact Or.inr hb
      · exact Or.inl h
    · exact Or.inr ((hbank c).1 h)

end Sys2Proof.Machine
end

section
/-! SUPPORT. Records in the result buffer: what offering them leaves alone, and the end of a run with its end record (R35, R36, R38,
R324). -/

namespace Sys2Proof.Machine

/-! ### Records offered to a session (R38, R324) -/

/-- The identifiers of the sessions, in their order. -/
def State.sessionIds (s : State) : List W32 := s.sessions.map (fun x => x.id)
/-- The records of the result buffer, apart from the transactions that carry them. -/
def State.resultKeys (s : State) : List (W32 × Option W32 × List Byte) := s.results.map (fun y => (y.run, y.shot, y.bytes))
/-- What the offer of records leaves alone. -/
def State.offerRest (s : State) : State × List (W32 × Option W32 × List Byte) × List W32 :=
  ({ s with results := [], sessions := [], sent := [] }, s.resultKeys, s.sessionIds)

theorem State.sess?_isSome (s : State) (sid : W32) : (s.sess? sid).isSome = s.sessionIds.contains sid := by
  unfold State.sess? State.sessionIds
  rw [Bool.eq_iff_iff]
  simp

theorem State.sessionIds_modSess (s : State) (sid : W32) {f : Session → Session} (hf : ∀ x, (f x).id = x.id) :
    (s.modSess sid f).sessionIds = s.sessionIds := by
  unfold State.sessionIds State.modSess
  dsimp only
  rw [List.map_map]
  refine List.map_congr_left fun x _ => ?_
  dsimp only [Function.comp_apply]
  split
  · exact hf x
  · rfl

theorem State.offerRest_sendOne (s : State) (sid : W32) (ty : Byte) (reply note cont : Bool) (ref : W32) (st : Byte) (content : List Byte) :
    (s.sendOne sid ty reply note cont ref st content).offerRest = s.offerRest := by
  have hids : (s.sendOne sid ty reply note cont ref st content).sessionIds = s.sessionIds := by
    unfold State.sendOne
    split
    · rfl
    · exact s.sessionIds_modSess sid fun _ => rfl
  obtain ⟨l, n, h⟩ := s.sendOne_eq sid ty reply note cont ref st content
  rw [h] at hids ⊢
  exact Prod.ext rfl (Prod.ext rfl hids)

theorem State.offerRest_sendParts (s : State) (sid : W32) (ty : Byte) (reply note : Bool) (ref : W32) (st : Byte) (parts : List (List Byte)) :
    (s.sendParts sid ty reply note ref st parts).offerRest = s.offerRest := by
  induction parts generalizing s with
  | nil => rfl
  | cons p r ih =>
    cases r with
    | nil => exact s.offerRest_sendOne sid ty reply note false ref st p
    | cons q r => exact (ih _).trans (s.offerRest_sendOne sid ty reply note true ref st p)

theorem State.offerRest_notify (s : State) (sid : W32) (kind : Nat) (data : List Byte) : (s.notify sid kind data).offerRest = s.offerRest := by
  unfold State.notify State.sendMsg
  split
  · rfl
  · exact s.offerRest_sendParts _ _ _ _ _ _ _

/-- A group holds the record, by its run and shot. -/
def ResRec.heldIn (y : ResRec) (g : List ResRec) : Bool := g.any (fun z => z.run == y.run && z.shot == y.shot)
/-- A record with the transaction that carries it, where the group sent holds it (R324). -/
def ResRec.sentIn (g : List ResRec) (sid last : W32) (r : ResRec) : ResRec :=
  if r.heldIn g then { r with sent := some (sid, last) } else r

theorem State.sendRecords_eq {s : State} {sid : W32} (h : s.sessionIds.contains sid = true) (g : List ResRec) :
    ∃ l n q, s.sendRecords sid g = { s.withSent l n with results := s.results.map (ResRec.sentIn g sid q) }
      ∧ (s.withSent l n).sessionIds = s.sessionIds := by
  obtain ⟨x, hx⟩ := Option.isSome_iff_exists.mp ((s.sess?_isSome sid).trans h)
  unfold State.sendRecords
  rw [hx]
  dsimp only
  generalize cutParts _ _ _ = parts
  have hrest := s.offerRest_sendParts sid 0x40 false false 0 0 parts
  obtain ⟨l, n, hsend⟩ := s.sendParts_eq sid 0x40 false false 0 0 parts
  rw [hsend] at hrest ⊢
  exact ⟨l, n, _, rfl, congrArg (fun v => v.2.2) hrest⟩
theorem State.sendRecords_none {s : State} {sid : W32} (h : s.sessionIds.contains sid = false) (g : List ResRec) : s.sendRecords sid g = s := by
  have hnone : s.sess? sid = none := Option.isSome_eq_false_iff.mp ((s.sess?_isSome sid).trans h) |> Option.isNone_iff_eq_none.mp
  unfold State.sendRecords
  rw [hnone]

theorem ResRec.sentIn_key (g : List ResRec) (sid q : W32) (r : ResRec) :
    ((r.sentIn g sid q).run, (r.sentIn g sid q).shot, (r.sentIn g sid q).bytes) = (r.run, r.shot, r.bytes) := by
  unfold ResRec.sentIn
  split <;> rfl

theorem State.offerRest_sendRecords (s : State) (sid : W32) (g : List ResRec) : (s.sendRecords sid g).offerRest = s.offerRest := by
  cases h : s.sessionIds.contains sid with
  | false => rw [State.sendRecords_none h]
  | true =>
    obtain ⟨l, n, q, heq, hids⟩ := State.sendRecords_eq h g
    rw [heq]
    have hkeys : (s.results.map (ResRec.sentIn g sid q)).map (fun y => (y.run, y.shot, y.bytes)) = s.resultKeys := by
      rw [List.map_map]
      exact List.map_congr_left fun r _ => r.sentIn_key g sid q
    exact Prod.ext rfl (Prod.ext hkeys hids)

theorem State.offerRest_offerResults (s : State) (id : W32) : (s.offerResults id).offerRest = s.offerRest := by
  unfold State.offerResults
  split
  · rfl
  · split
    · rfl
    · exact State.each_keeps State.offerRest _ _ (fun u g => u.offerRest_sendRecords _ _) s

theorem State.eq_of_offerRest {s t : State} (h : t.offerRest = s.offerRest) :
    t = { s with results := t.results, sessions := t.sessions, sent := t.sent } :=
  (congrArg (fun v => { v.1 with results := t.results, sessions := t.sessions, sent := t.sent }) h :)

theorem State.resultKeys_of_offerRest {s t : State} (h : t.offerRest = s.offerRest) : t.resultKeys = s.resultKeys := congrArg (fun v => v.2.1) h

/-- Every record is in one of the groups it is packed into. -/
theorem mem_packRecords (limit : Nat) (l acc : List ResRec) {y : ResRec} (h : y ∈ acc ∨ y ∈ l) : ∃ g ∈ packRecords limit acc l, y ∈ g := by
  induction l generalizing acc with
  | nil =>
    have hacc : y ∈ acc := h.resolve_right (by simp)
    unfold packRecords
    rw [if_neg (by simp [List.ne_nil_of_mem hacc])]
    exact ⟨acc, List.mem_singleton.mpr rfl, hacc⟩
  | cons x l ih =>
    unfold packRecords
    dsimp only
    split
    · refine ih _ ?_
      rw [List.mem_append, List.mem_singleton]
      rcases h with h | h
      · exact Or.inl (Or.inl h)
      · exact (List.mem_cons.mp h).imp Or.inr id
    · rcases h with h | h
      · exact ⟨acc, List.mem_cons_self, h⟩
      · obtain ⟨g, hg, hy⟩ := ih [x] ((List.mem_cons.mp h).imp_left List.mem_singleton.mpr)
        exact ⟨g, List.mem_cons_of_mem _ hg, hy⟩

/-- A record of the run that a transaction of the session carries. -/
def ResRec.carriedBy (y : ResRec) (sid : W32) : Prop := ∃ n, y.sent = some (sid, n)

/-- Once all groups that hold the records of a run are sent, a transaction of the session carries each of them. -/
theorem State.each_sendRecords_carried {id sid : W32} (l : List (List ResRec)) {s : State} (hsid : s.sessionIds.contains sid = true)
    (h : ∀ y ∈ s.results, y.run = id → y.carriedBy sid ∨ ∃ g ∈ l, y.heldIn g = true) :
    ∀ y ∈ (s.each l (fun s g => s.sendRecords sid g)).results, y.run = id → y.carriedBy sid := by
  induction l generalizing s with
  | nil => exact fun y hy hrun => (h y hy hrun).resolve_right (by simp)
  | cons g l ih =>
    obtain ⟨a, n, q, heq, hids⟩ := State.sendRecords_eq hsid g
    refine ih (s := s.sendRecords sid g) ?_ fun y hy hrun => ?_
    · rw [heq]
      exact hids.symm ▸ hsid
    · rw [heq] at hy
      obtain ⟨z, hz, rfl⟩ := List.mem_map.mp hy
      unfold ResRec.sentIn at hrun ⊢
      by_cases hg : z.heldIn g = true
      · rw [if_pos hg]
        exact Or.inl ⟨q, rfl⟩
      · rw [if_neg hg] at hrun ⊢
        refine (h z hz hrun).imp_right ?_
        rintro ⟨g', hg', hheld⟩
        rcases List.mem_cons.mp hg' with rfl | hg'
        · exact absurd hheld hg
        · exact ⟨g', hg', hheld⟩

/-- Records of a run that no transaction carries are all sent to the session that owns its delivery. -/
theorem State.offerResults_carried {s : State} {id : W32} {r : Run} (hrun : s.run? id = some r) (hsid : s.sessionIds.contains r.owner = true)
    (hnone : ∀ y ∈ s.results, y.run = id → y.sent = none) : ∀ y ∈ (s.offerResults id).results, y.run = id → y.carriedBy r.owner := by
  obtain ⟨x, hx⟩ := Option.isSome_iff_exists.mp ((s.sess?_isSome r.owner).trans hsid)
  unfold State.offerResults
  rw [hrun]
  dsimp only
  rw [hx]
  refine State.each_sendRecords_carried _ hsid fun y hy hy' => Or.inr ?_
  obtain ⟨g, hg, hmem⟩ := mem_packRecords (s.contentLimit x.port) (s.results.filter (fun y => y.run == id && y.sent.isNone)) [] (y := y)
    (Or.inr (List.mem_filter.mpr ⟨hy, by simp [hy', hnone y hy hy']⟩))
  exact ⟨g, hg, List.any_eq_true.mpr ⟨y, hmem, by simp⟩⟩

/-- The high-water mark changes a register, and tells sessions (R40). -/
theorem State.highWater_eq (s : State) : ∃ r l n, s.highWater = (s.withRegs r).withSent l n := by
  unfold State.highWater
  split
  · obtain ⟨l, n, h⟩ := (s.setBit aMldResbufStat 20 true).notifyRole_eq .operator 0x01 (leBytes 4 (min (s.resUsed / 1024) 262143))
    exact ⟨_, l, n, h⟩
  · exact ⟨s.regs, s.sessions, s.sent, rfl⟩

/-- A record that enters the buffer stands in it; runs stay, and all but results, registers, sessions and outputs. -/
theorem State.addResult_spec (s : State) (y : ResRec) : 
    s.addResult y = { s with results := (s.addResult y).results, regs := (s.addResult y).regs, sessions := (s.addResult y).sessions, sent := (s.addResult y).sent }
    ∧ ∃ z ∈ (s.addResult y).results, z.run = y.run ∧ z.shot = y.shot ∧ z.bytes = y.bytes := by
  obtain ⟨r, l, n, hhigh⟩ := State.highWater_eq { s with results := s.results ++ [y] }
  have hoffer : (s.addResult y).offerRest = _ := State.offerRest_offerResults _ y.run
  rw [hhigh] at hoffer
  constructor
  · have heq := State.eq_of_offerRest hoffer
    generalize s.addResult y = t at heq
    rw [heq]
    rfl
  · have hkeys := State.resultKeys_of_offerRest hoffer
    have hmem : (y.run, y.shot, y.bytes) ∈ (s.addResult y).resultKeys := by
      rw [hkeys]
      exact List.mem_map_of_mem (f := fun y : ResRec => (y.run, y.shot, y.bytes)) (List.mem_append_right _ (List.mem_singleton.mpr rfl))
    obtain ⟨z, hz, heq⟩ := List.mem_map.mp hmem
    simp only [Prod.mk.injEq] at heq
    exact ⟨z, hz, heq⟩

/-! ### The end of a run (R36) -/

/-- A run has ended with a cause: it is over, its end record stands in the result buffer, and what ends with it has changed alone. -/
def State.EndsRun (b v : State) (id : W32) (r : Run) (cause : Byte) : Prop :=
  (∃ q, v.run? id = some q ∧ q.phase = .over ∧ q.executed = r.executed ∧ q.nextStart = none ∧ q.clean = r.clean ∧ q.shots = r.shots)
    ∧ (∃ y ∈ v.results, y.run = id ∧ y.shot = none ∧ y.bytes = runEndRecord id cause r.desc.shotCount.toNat r.executed.toNat
        r.clean.toNat 0 0xFFFFFFFF b.clock.sys (if r.executed = 0 then 0 else r.endTick))
    ∧ v = { b with runs := v.runs, engines := v.engines, crus := v.crus, results := v.results, regs := v.regs, sessions := v.sessions,
                   sent := v.sent }

/-- A run that is over, with no start to come. -/
def Run.atEnd (r : Run) : Run := { r with phase := .over, nextStart := none, turnTick := none }
/-- The bytes of a run's end record (R36). -/
def Run.endRecord (r : Run) (id : W32) (cause : Byte) (sys : W64) : List Byte :=
  runEndRecord id cause r.desc.shotCount.toNat r.executed.toNat r.clean.toNat 0 0xFFFFFFFF sys (if r.executed = 0 then 0 else r.endTick)

/-- What idle engines and resumed Crucibles leave alone. -/
def State.idleRest (s : State) : State := { s with engines := [], crus := [] }

theorem State.eq_of_idleRest {s t : State} (h : t.idleRest = s.idleRest) : t = { s with engines := t.engines, crus := t.crus } :=
  (congrArg (fun u : State => { u with engines := t.engines, crus := t.crus }) h :)

/-- The engines of a run that held its clusters are idle. -/
def State.idled (s : State) (r : Run) : State :=
  if r.holds then s.each r.engs (fun s e => s.setEng e { s.eng e with st := .idle, shot := none, wait := none, held := none }) else s
/-- The Crucibles of a run that was loading go on with what they had. -/
def State.resumed (s : State) (r : Run) : State :=
  if r.phase = .loading then s.each (s.namedCrucibles r) (fun s x => s.cruResume (s.cruPhys x.1)) else s

theorem State.idleRest_setEng (s : State) (e : Nat) (g : Engine) : (s.setEng e g).idleRest = s.idleRest := rfl
theorem State.idleRest_cruResume (s : State) (c : Nat) : (s.cruResume c).idleRest = s.idleRest := rfl
theorem State.idleRest_idled (s : State) (r : Run) : (s.idled r).idleRest = s.idleRest := by
  unfold State.idled
  split
  · exact State.each_keeps State.idleRest _ _ (fun u e => u.idleRest_setEng e _) s
  · rfl
theorem State.idleRest_resumed (s : State) (r : Run) : (s.resumed r).idleRest = s.idleRest := by
  unfold State.resumed
  split
  · exact State.each_keeps State.idleRest _ _ (fun u x => u.idleRest_cruResume _) s
  · rfl

theorem State.finishRun_eq {b : State} {id : W32} {r : Run} (h : b.run? id = some r) (cause : Byte) :
    b.finishRun id cause = ((((b.idled r).resumed r).modRun id Run.atEnd).addResult
      ⟨id, none, r.endRecord id cause ((b.idled r).resumed r).clock.sys, none⟩).notify r.owner 0x06 (leBytes 4 id.toNat ++ [cause]) := by
  unfold State.finishRun
  rw [h]
  rfl

theorem State.finishRun_frame {b : State} {id : W32} {r : Run} (h : b.run? id = some r) (cause : Byte) :
    ∃ g c, b.finishRun id cause = ((({ b with engines := g, crus := c } : State).modRun id Run.atEnd).addResult
      ⟨id, none, r.endRecord id cause b.clock.sys, none⟩).notify r.owner 0x06 (leBytes 4 id.toNat ++ [cause]) := by
  have heq := State.eq_of_idleRest (((b.idled r).idleRest_resumed r).trans (b.idleRest_idled r))
  rw [State.finishRun_eq h]
  generalize (b.idled r).resumed r = u at heq
  rw [heq]
  exact ⟨_, _, rfl⟩

/-- A run that can start no more shots, and has none left, ends once it is settled. -/
theorem State.settleRun_ends {s : State} {id : W32} {r : Run} (h : s.run? id = some r) (hphase : r.phase ≠ .over) (hmore : r.noMore = true)
    (hshots : r.shots = []) (hstop : s.stopping = false) :
    s.settleRun id = (s.modRun id (fun r => { r with nextStart := none })).finishRun id r.cause := by
  have hflight : r.inFlight = false := by simp [Run.inFlight, hshots]
  have hstop' : (s.modRun id (fun r => { r with nextStart := none })).stopping = false := hstop
  unfold State.settleRun
  rw [h]
  dsimp only
  rw [if_neg (by simp [hphase, hmore, hflight]), if_pos (by simp [hshots, hstop'])]

/-- A run that can start no more shots starts none, and is kept while shots of it are left or a stop is under way. -/
theorem State.settleRun_kept {s : State} {id : W32} {r : Run} (h : s.run? id = some r) (hphase : r.phase ≠ .over) (hmore : r.noMore = true)
    (hflight : r.inFlight = false) (hkept : r.shots ≠ [] ∨ s.stopping = true) :
    s.settleRun id = s.modRun id (fun r => { r with nextStart := none }) := by
  have hstop' : (s.modRun id (fun r => { r with nextStart := none })).stopping = s.stopping := rfl
  unfold State.settleRun
  rw [h]
  dsimp only
  rw [if_neg (by simp [hphase, hmore, hflight]), if_neg (by rw [hstop']; rcases hkept with hk | hk <;> simp [hk])]

theorem State.settleRun_inFlight {s : State} {id : W32} {r : Run} (h : s.run? id = some r) (hflight : r.inFlight = true) : s.settleRun id = s := by
  unfold State.settleRun
  rw [h]
  dsimp only
  rw [if_pos (Or.inr (Or.inr hflight))]

/-- A run that is found ends with the cause told. -/
theorem State.finishRun_spec {b : State} {id : W32} {r : Run} (h : b.run? id = some r) (cause : Byte) :
    b.EndsRun (b.finishRun id cause) id r cause := by
  obtain ⟨g, c, heq⟩ := State.finishRun_frame h cause
  rw [heq]
  obtain ⟨hframe, hmem⟩ := (({ b with engines := g, crus := c } : State).modRun id Run.atEnd).addResult_spec
    ⟨id, none, r.endRecord id cause b.clock.sys, none⟩
  generalize State.addResult _ _ = t at hframe hmem
  obtain ⟨l, n, hnotify⟩ := t.notify_eq r.owner 0x06 (leBytes 4 id.toNat ++ [cause])
  have hrun : t.run? id = some r.atEnd := by
    rw [hframe]
    exact State.run?_modRun_some (s := { b with engines := g, crus := c }) h fun _ => rfl
  rw [hnotify]
  refine ⟨⟨r.atEnd, hrun, rfl, rfl, rfl, rfl, rfl⟩, hmem, ?_⟩
  rw [hframe]
  rfl

end Sys2Proof.Machine
end

section
/-! SUPPORT. Crucibles that stop, go on or take an image: what the windows, decisions and beats that this ends leave alone (R31, R171,
R187, R199). -/

namespace Sys2Proof.Machine

/-! ### What the end of windows and beats leaves alone -/

/-- The Moulder's own registers, which hold the maps of engines and Crucibles. -/
def State.mldRegs (s : State) : Nat → W32 := fun a => if a < 0x10000 then s.reg a else 0
/-- What lost beats, damaged windows and decisions leave alone: bare runs, engines, programs, time, Crucibles and the Moulder's registers. -/
def State.quiet (s : State) : List Run × Tbl Engine × Tbl ProgWord × Clock × Tbl Cru × (Nat → W32) :=
  (s.bareRuns, s.engines, s.prog, s.clock, s.crus, s.mldRegs)

theorem State.mldRegs_setReg (s : State) {a : Nat} (v : W32) (h : 0x10000 ≤ a) : (s.setReg a v).mldRegs = s.mldRegs := by
  funext b
  unfold State.mldRegs
  split
  · exact s.reg_setReg_other a b v (by omega)
  · rfl
theorem State.reg_of_mldRegs {s t : State} (h : t.mldRegs = s.mldRegs) {a : Nat} (ha : a < 0x10000) : t.reg a = s.reg a := by
  simpa [State.mldRegs, ha] using congrFun h a
theorem State.cruPhys_of_mldRegs {s t : State} (h : t.mldRegs = s.mldRegs) {n : Nat} (hn : n < 32) : t.cruPhys n = s.cruPhys n :=
  congrArg (fun w => fieldOf w 5 0) (State.reg_of_mldRegs h (by unfold aMldCruMap; omega))

theorem State.quiet_setReg (s : State) {a : Nat} (v : W32) (h : 0x10000 ≤ a) : (s.setReg a v).quiet = s.quiet :=
  Prod.ext rfl (Prod.ext rfl (Prod.ext rfl (Prod.ext rfl (Prod.ext rfl (s.mldRegs_setReg v h)))))
theorem State.quiet_setFld (s : State) {a : Nat} (hi lo v : Nat) (h : 0x10000 ≤ a) : (s.setFld a hi lo v).quiet = s.quiet := s.quiet_setReg _ h
theorem State.quiet_count (s : State) {a : Nat} (hi lo n : Nat) (h : 0x10000 ≤ a) : (s.count a hi lo n).quiet = s.quiet := s.quiet_setReg _ h
theorem State.quiet_each {α : Type} (s : State) (l : List α) {f : State → α → State} (h : ∀ s x, (f s x).quiet = s.quiet) :
    (s.each l f).quiet = s.quiet := State.each_keeps State.quiet l f h s

theorem State.quiet_modEntry (s : State) (id idx : W32) (e : Nat) (f : Entry → Entry) : (s.modEntry id idx e f).quiet = s.quiet :=
  Prod.ext (s.bareRuns_modEntry id idx e f) rfl
theorem State.quiet_setAdcch (s : State) (c : Nat) (a : AdcChan) : (s.setAdcch c a).quiet = s.quiet := rfl
theorem State.quiet_condAt (s : State) (e : Nat) (c : Cond) (t : Tick) : (s.condAt e c t).quiet = s.quiet := by
  unfold State.condAt
  split
  · rfl
  · exact s.quiet_modEntry _ _ _ _
theorem State.quiet_modWin (s : State) (ch : Nat) (p : Win → Bool) (f : Win → Win) : (s.modWin ch p f).quiet = s.quiet := rfl
theorem State.quiet_damage (s : State) (ch : Nat) (w : Win) : (s.damage ch w).quiet = s.quiet := by
  unfold State.damage
  split
  · rfl
  · exact (State.quiet_count _ _ _ _ (by unfold aCruCnt; omega)).trans (s.quiet_modWin _ _ _)
theorem State.quiet_publish (s : State) (v : Ev) : (s.publish v).quiet = s.quiet := by
  unfold State.publish
  split
  · unfold State.dropHop
    refine (State.quiet_each _ _ fun u e => u.quiet_condAt _ _ _).trans ?_
    exact (State.quiet_setReg _ _ (by decide)).trans (s.quiet_count _ _ _ (by decide))
  · exact s.quiet_setReg _ (by unfold aSprChLast; omega)
theorem State.quiet_publishDecision (s : State) (ch t : Nat) (L : Tick) (hop : BitVec 5) (st : Nat) (damaged trunc : Bool) :
    (s.publishDecision ch t L hop st damaged trunc).quiet = s.quiet := by
  unfold State.publishDecision
  extract_lets c w p counted inconclusive
  have hcounted : counted.quiet = s.quiet := s.quiet_count _ _ _ (by unfold aCruDec; omega)
  have hinconclusive : inconclusive.quiet = counted.quiet := by
    unfold inconclusive
    split
    · exact counted.quiet_count _ _ _ (by unfold aCruDec; omega)
    · rfl
  split
  · exact (inconclusive.quiet_publish _).trans (hinconclusive.trans hcounted)
  · rfl
theorem State.quiet_recordDecision (s : State) (ch t : Nat) (L : Tick) (st : Nat) : (s.recordDecision ch t L st).quiet = s.quiet := by
  unfold State.recordDecision
  dsimp only
  split
  · rfl
  · exact s.quiet_modEntry _ _ _ _
theorem State.quiet_offerDecision (s : State) (ch : Nat) (L : Tick) (e : CapElem) : (s.offerDecision ch L e).quiet = s.quiet := by
  refine (State.quiet_each _ _ fun u k => ?_).trans rfl
  dsimp only
  split <;> rfl
theorem State.quiet_decideWin (s : State) (ch b : Nat) (w : Win) (st : Nat) (damaged trunc : Bool) (a : Int × Int) :
    (s.decideWin ch b w st damaged trunc a).quiet = s.quiet :=
  (State.quiet_offerDecision _ _ _ _).trans ((State.quiet_publishDecision _ _ _ _ _ _ _ _).trans (s.quiet_recordDecision _ _ _ _))
theorem State.quiet_damagedDecisions (s : State) (ch : Nat) : (s.damagedDecisions ch).quiet = s.quiet := by
  refine s.quiet_each _ fun u w => ?_
  dsimp only
  split
  · exact State.quiet_decideWin _ _ _ _ _ _ _ _
  · rfl
theorem State.quiet_loseBeat (s : State) (ch b : Nat) (tones : List Nat) : (s.loseBeat ch b tones).quiet = s.quiet := by
  refine (State.quiet_damagedDecisions _ _).trans
    ((State.quiet_each _ _ fun u t => ?_).trans (s.quiet_count _ _ _ (by unfold aCruCnt; omega)))
  dsimp only
  split
  · exact u.quiet_condAt _ _ _
  · exact (State.quiet_damage _ _ _).trans (u.quiet_condAt _ _ _)
theorem State.quiet_dropOver (s : State) (ch : Nat) : (s.dropOver ch).quiet = s.quiet := rfl

/-! ### A Crucible's own part (R187, R199) -/

/-- What operations on Crucibles leave alone: bare runs, engines, programs, time and the Moulder's registers. -/
def State.cruRest (s : State) : List Run × Tbl Engine × Tbl ProgWord × Clock × (Nat → W32) :=
  (s.bareRuns, s.engines, s.prog, s.clock, s.mldRegs)

theorem State.cruRest_of_quiet {s t : State} (h : t.quiet = s.quiet) : t.cruRest = s.cruRest :=
  congrArg (fun v : List Run × Tbl Engine × Tbl ProgWord × Clock × Tbl Cru × (Nat → W32) => (v.1, v.2.1, v.2.2.1, v.2.2.2.1, v.2.2.2.2.2)) h
theorem State.crus_of_quiet {s t : State} (h : t.quiet = s.quiet) : t.crus = s.crus := congrArg (fun v => v.2.2.2.2.1) h
theorem State.cruRest_each {α : Type} (s : State) (l : List α) {f : State → α → State} (h : ∀ s x, (f s x).cruRest = s.cruRest) :
    (s.each l f).cruRest = s.cruRest := State.each_keeps State.cruRest l f h s
theorem State.cruRest_setCru (s : State) (c : Nat) (u : Cru) : (s.setCru c u).cruRest = s.cruRest := rfl
theorem State.mldRegs_of_cruRest {s t : State} (h : t.cruRest = s.cruRest) : t.mldRegs = s.mldRegs := congrArg (fun v => v.2.2.2.2) h
theorem State.bareRuns_of_cruRest {s t : State} (h : t.cruRest = s.cruRest) : t.bareRuns = s.bareRuns := congrArg (fun v => v.1) h

/-- Beats that nothing takes any more are lost; the Crucible holds none from then on. -/
theorem State.loseUntaken_quiet (s : State) (c ch : Nat) : (s.loseUntaken c ch).quiet = (s.setCru c { s.cru c with beats := [] }).quiet := by
  unfold State.loseUntaken
  exact (State.quiet_dropOver _ _).trans (State.quiet_each _ _ fun u b => u.quiet_loseBeat _ _ _)

/-- The Crucible that stops: a sequencer that waits stops at once, one that executes is told to. -/
def Cru.stopping (u : Cru) (now : Tick) : Cru :=
  match u.st with
  | .executing | .repeating => { u with stopReq := some (u.stopReq.getD now) }
  | .waiting => { u with st := .stopped, rep := none, stopReq := none, beats := [] }
  | _ => u

theorem State.cruStop_spec {s : State} (hwf : Tbl.wf (fun _ => Cru.init) s.crus = true) (c : Nat) :
    (s.cruStop c).cruRest = s.cruRest ∧ Tbl.wf (fun _ => Cru.init) (s.cruStop c).crus = true
      ∧ (s.cruStop c).cru c = (s.cru c).stopping s.now ∧ ∀ d, d ≠ c → (s.cruStop c).cru d = s.cru d := by
  have hset : ∀ u : Cru, (s.setCru c u).cruRest = s.cruRest ∧ Tbl.wf (fun _ => Cru.init) (s.setCru c u).crus = true
      ∧ (s.setCru c u).cru c = u ∧ ∀ d, d ≠ c → (s.setCru c u).cru d = s.cru d := fun u =>
    ⟨rfl, s.crus_wf_setCru c u hwf, s.cru_setCru_same c u hwf, fun d hd => s.cru_setCru_other c d u hd⟩
  unfold State.cruStop
  dsimp only
  split
  · next hst =>
    obtain ⟨hrest, hw, hsame, hother⟩ := hset { s.cru c with stopReq := some ((s.cru c).stopReq.getD s.now) }
    exact ⟨hrest, hw, hsame.trans (by simp [Cru.stopping, hst]), hother⟩
  · next hst =>
    obtain ⟨hrest, hw, hsame, hother⟩ := hset { s.cru c with stopReq := some ((s.cru c).stopReq.getD s.now) }
    exact ⟨hrest, hw, hsame.trans (by simp [Cru.stopping, hst]), hother⟩
  · next hst =>
    unfold State.cruStopped
    dsimp only
    obtain ⟨hrest, hw, hsame, hother⟩ := hset { s.cru c with st := .stopped, rep := none, stopReq := none }
    generalize s.setCru c { s.cru c with st := .stopped, rep := none, stopReq := none } = t at hrest hw hsame hother
    have hquiet := t.loseUntaken_quiet c (t.cruChan c)
    have hcrus := State.crus_of_quiet hquiet
    refine ⟨(State.cruRest_of_quiet hquiet).trans hrest, hcrus ▸ t.crus_wf_setCru c _ hw, ?_, fun d hd => ?_⟩
    · refine (congrArg (fun l => Tbl.get l c Cru.init) hcrus).trans ((t.cru_setCru_same c _ hw).trans ?_)
      rw [hsame]
      simp [Cru.stopping, hst]
    · exact (congrArg (fun l => Tbl.get l d Cru.init) hcrus).trans ((t.cru_setCru_other c d _ hd).trans (hother d hd))
  · next hexec hrep hwait =>
    refine ⟨rfl, hwf, ?_, fun _ _ => rfl⟩
    unfold Cru.stopping
    split
    · next h => exact absurd h hexec
    · next h => exact absurd h hrep
    · next h => exact absurd h hwait
    · rfl

/-- A sequencer that has been told to stop waits for no beat, and goes on only until it has stopped. -/
def Cru.toldToStop (u : Cru) : Prop := u.st ≠ .waiting ∧ (u.stopReq = none → u.st ≠ .executing ∧ u.st ≠ .repeating)

theorem Cru.toldToStop_stopping (u : Cru) (now : Tick) : (u.stopping now).toldToStop := by
  unfold Cru.stopping
  split <;> simp_all [Cru.toldToStop]

/-- After a list of Crucibles is stopped, each of them has been told to stop. -/
theorem State.each_cruStop_spec {α : Type} (f : α → Nat) (l : List α) (hl : ∀ x ∈ l, f x < 32) {s : State}
    (hwf : Tbl.wf (fun _ => Cru.init) s.crus = true) :
    (s.each l (fun s x => s.cruStop (s.cruPhys (f x)))).cruRest = s.cruRest
      ∧ ∀ x, (x ∈ l ∨ (s.cru (s.cruPhys (f x))).toldToStop) → f x < 32 →
        ((s.each l (fun s x => s.cruStop (s.cruPhys (f x)))).cru (s.cruPhys (f x))).toldToStop := by
  induction l generalizing s with
  | nil => exact ⟨rfl, fun x h _ => h.resolve_left (by simp)⟩
  | cons y l ih =>
    obtain ⟨hrest, hw, hsame, hother⟩ := State.cruStop_spec hwf (s.cruPhys (f y))
    obtain ⟨hrest', htold⟩ := ih (fun x hx => hl x (List.mem_cons_of_mem _ hx)) hw
    refine ⟨hrest'.trans hrest, fun x h hx => ?_⟩
    have hphys := State.cruPhys_of_mldRegs (State.mldRegs_of_cruRest hrest) hx
    rw [← hphys]
    refine htold x ?_ hx
    rw [hphys]
    by_cases hc : s.cruPhys (f x) = s.cruPhys (f y)
    · rw [hc, hsame]
      exact Or.inr (Cru.toldToStop_stopping _ _)
    · rcases h with h | h
      · rcases List.mem_cons.mp h with rfl | h
        · exact absurd rfl hc
        · exact Or.inl h
      · exact Or.inr ((hother _ hc).symm ▸ h)

/-! ### A Crucible that takes an image (R31, R199) -/

theorem State.cruRest_setReg (s : State) {a : Nat} (v : W32) (h : 0x10000 ≤ a) : (s.setReg a v).cruRest = s.cruRest :=
  State.cruRest_of_quiet (s.quiet_setReg v h)
theorem State.cruRest_cruTables (s : State) (c : Nat) (img : List Byte) : (s.cruTables c img).cruRest = s.cruRest := by
  unfold State.cruTables
  extract_lets contexts rows u classed
  have hcontexts : contexts.cruRest = s.cruRest := by
    unfold contexts
    split
    · exact s.cruRest_each _ fun u k => u.cruRest_setReg _ (by unfold aCruCtx; omega)
    · rfl
  have hclassed : classed.cruRest = contexts.cruRest := by
    unfold classed
    split
    · exact (State.cruRest_setCru _ _ _).trans (contexts.cruRest_each _ fun u k => u.cruRest_setReg _ (by unfold aCruClsIn; omega))
    · rfl
  clear_value classed
  exact (State.cruRest_each _ _ fun u k => State.cruRest_each _ _ fun w i => w.cruRest_setCru _ _).trans (hclassed.trans hcontexts)
theorem State.cruRest_cruLoad (s : State) (c : Nat) (img : List Byte) : (s.cruLoad c img).cruRest = s.cruRest := by
  unfold State.cruLoad
  extract_lets ch decided tabled u prog loaded
  have hdecided : decided.cruRest = s.cruRest := State.cruRest_of_quiet
    ((State.quiet_damagedDecisions _ _).trans (State.quiet_each _ _ fun u w => u.quiet_damage _ _))
  have htabled : tabled.cruRest = decided.cruRest := decided.cruRest_cruTables c img
  exact (tabled.cruRest_setCru c loaded).trans (htabled.trans hdecided)
theorem State.cruRest_cruImage (s : State) (c n : Nat) (img : List Byte) : (s.cruImage c n img).cruRest = s.cruRest := by
  unfold State.cruImage
  dsimp only
  split
  · rw [State.logEvent_eq]
    rfl
  · exact s.cruRest_cruLoad c img

end Sys2Proof.Machine
end

section
/-! SUPPORT. A cluster's image taken at the load of a run: the program words, and the engine as its section has it (R31, R45, R71). -/

namespace Sys2Proof.Machine

/-! ### Words of the program (R71) -/

theorem Tbl.get_of_forall {α : Type} (l : Tbl α) {k : Nat} {d v : α} (h : ∀ x ∈ l, x.1 = k → x.2 = v) (hex : (∃ x ∈ l, x.1 = k) ∨ d = v) :
    Tbl.get l k d = v := by
  induction l with
  | nil => simpa [Tbl.get] using hex
  | cons x l ih =>
    obtain ⟨k', w⟩ := x
    unfold Tbl.get
    split
    · next hk => exact h (k', w) List.mem_cons_self hk
    · next hk =>
      refine ih (fun y hy => h y (List.mem_cons_of_mem _ hy)) (hex.imp_left ?_)
      rintro ⟨y, hy, hyk⟩
      rcases List.mem_cons.mp hy with rfl | hy
      · exact absurd hyk hk
      · exact ⟨y, hy, hyk⟩

/-- The word of engine `j` at an address of its section. -/
def imgCode (img : List Byte) (j a : Nat) : Nat := leNat (slice img (secCode img j + 8 * a) 8)

theorem mem_imgProg (k : Nat) (img : List Byte) (x : Nat × ProgWord) : x ∈ imgProg k img ↔ ∃ j < 16, imgHas img j = true
    ∧ ∃ a < secCount img j, imgCode img j a ≠ 0 ∧ x = (progKey (16 * k + j) a, ⟨BitVec.ofNat 64 (imgCode img j a), false, false⟩) := by
  unfold imgProg imgCode
  simp only [List.mem_flatMap, List.mem_range]
  refine exists_congr fun j => and_congr_right fun _ => ?_
  split
  · next h =>
    simp only [h, List.mem_filterMap, List.mem_range, true_and]
    refine exists_congr fun a => and_congr_right fun _ => ?_
    split
    · next h0 => simp [h0]
    · next h0 => simp [h0, eq_comm]
  · next h => simp [h]

theorem progKey_cluster (k : Nat) {j : Nat} (hj : j < 16) (a : Nat) : progKey (16 * k + j) a = k * 2 ^ 19 + j * 2 ^ 15 + a := by
  unfold progKey
  rw [Nat.mul_add_div (by decide), Nat.div_eq_of_lt hj, Nat.mul_add_mod, Nat.mod_eq_of_lt hj, Nat.add_zero]

/-- The program with a cluster's part replaced by that of an image. -/
def progWith (p : Tbl ProgWord) (k : Nat) (img : List Byte) : Tbl ProgWord :=
  p.filter (fun x => decide (x.1 < k * 2 ^ 19)) ++ imgProg k img ++ p.filter (fun x => decide (k * 2 ^ 19 + 2 ^ 19 ≤ x.1))

/-- A word of an image's section is found at its address. -/
theorem get_progWith (p : Tbl ProgWord) (k : Nat) (img : List Byte) {j a : Nat} (hj : j < 16) (hhas : imgHas img j = true)
    (hcount : ∀ i, i < 16 → secCount img i ≤ 32768) (ha : a < secCount img j) :
    Tbl.get (progWith p k img) (progKey (16 * k + j) a) progWord0 = ⟨BitVec.ofNat 64 (imgCode img j a), false, false⟩ := by
  have haw : a < 32768 := Nat.lt_of_lt_of_le ha (hcount j hj)
  rw [progKey_cluster k hj]
  refine Tbl.get_of_forall _ (fun x hx hkey => ?_) ?_
  · simp only [progWith, List.mem_append, List.mem_filter, decide_eq_true_eq, mem_imgProg] at hx
    rcases hx with (⟨-, hlow⟩ | ⟨i, hi, -, b, hb, -, rfl⟩) | ⟨-, hhigh⟩
    · omega
    · have hbw : b < 32768 := Nat.lt_of_lt_of_le hb (hcount i hi)
      dsimp only at hkey
      rw [progKey_cluster k hi] at hkey
      obtain ⟨rfl, rfl⟩ : i = j ∧ b = a := by omega
      rfl
    · omega
  · by_cases h0 : imgCode img j a = 0
    · right
      rw [h0]
      rfl
    · left
      refine ⟨(progKey (16 * k + j) a, ⟨BitVec.ofNat 64 (imgCode img j a), false, false⟩), ?_, progKey_cluster k hj a⟩
      simp only [progWith, List.mem_append, mem_imgProg]
      exact Or.inl (Or.inr ⟨j, hj, hhas, a, ha, h0, rfl⟩)

/-! ### The engines of the cluster (R45) -/

/-- A fold that reaches an element establishes what this one does, where no later one undoes it. -/
theorem State.each_reaches {α : Type} {I P : State → Prop} {f : State → α → State} {x : α} (hI : ∀ s y, I s → I (f s y))
    (hset : ∀ s, I s → P (f s x)) (hkeep : ∀ s y, I s → P s → P (f s y)) (l : List α) (hx : x ∈ l) {s : State} (hs : I s) : P (s.each l f) := by
  induction l generalizing s with
  | nil => cases hx
  | cons y l ih =>
    rcases List.mem_cons.mp hx with rfl | hx
    · exact (State.each_inv (fun u => I u ∧ P u) l f (fun u z h => ⟨hI u z h.1, hkeep u z h.1 h.2⟩) _ ⟨hI s x hs, hset s hs⟩).2
    · exact ih hx (hI s y hs)

/-- What the load of engines leaves alone. -/
def State.loadRest (s : State) : List Run × Tbl ProgWord × Clock × Tbl Cru := (s.runs, s.prog, s.clock, s.crus)

theorem State.loadRest_setFld (s : State) (a hi lo v : Nat) : (s.setFld a hi lo v).loadRest = s.loadRest := rfl

theorem State.loadRest_tones (s : State) (x : Tbl Tone) : ({ s with tones := x } : State).loadRest = s.loadRest := rfl
theorem State.engines_tones (s : State) (x : Tbl Tone) : ({ s with tones := x } : State).engines = s.engines := rfl

/-- The state without its tones: what the restore of frames leaves alone. -/
def State.toneless (s : State) : State := { s with tones := [] }

theorem State.toneless_setTone (s : State) (t : Nat) (x : Tone) : (s.setTone t x).toneless = s.toneless := rfl
theorem State.restoreFrames_eq (s : State) (e : Nat) (t : Tick) : s.restoreFrames e t = { s with tones := (s.restoreFrames e t).tones } := by
  have h : (s.restoreFrames e t).toneless = s.toneless := State.each_keeps State.toneless _ _ (fun u x => u.toneless_setTone _ _) s
  exact (congrArg (fun u : State => { u with tones := (s.restoreFrames e t).tones }) h :)

/-- The engine as a section of an image has it. -/
def Engine.fromSection (old : Engine) (img : List Byte) (j : Nat) (mine : Bool) : Engine :=
  let keep := { Engine.init with hsFault := old.hsFault, swap := old.swap, qd := old.qd, qr := old.qr, qf := old.qf,
                                 memErrLast := old.memErrLast }
  let g := if imgHas img j then { keep with codeCount := secCount img j } else keep
  if mine && imgHas img j then
    { g with finit := imgFrames img j, entry := secEntry img j, subs := (secSubs img j).map (fun c => BitVec.ofNat 8 c) }
  else g

/-- Engine `j` of cluster `k` takes its section. -/
def State.loadEngine (s : State) (r : Run) (k : Nat) (img : List Byte) (j : Nat) : State :=
  if r.has (16 * k + j) then
    ((s.setEng (16 * k + j) ((s.eng (16 * k + j)).fromSection img j true)).setFld (aPeLead (s.pePhys (16 * k + j))) 31 16 0x7FFF).restoreFrames
      (16 * k + j) s.now
  else s.setEng (16 * k + j) ((s.eng (16 * k + j)).fromSection img j false)

theorem State.loadEngine_spec (s : State) (r : Run) (k : Nat) (img : List Byte) (j : Nat) :
    (s.loadEngine r k img j).loadRest = s.loadRest ∧ (s.loadEngine r k img j).engines
      = (s.setEng (16 * k + j) ((s.eng (16 * k + j)).fromSection img j (r.has (16 * k + j)))).engines := by
  unfold State.loadEngine
  split
  · next h =>
    rw [State.restoreFrames_eq, h]
    exact ⟨(State.loadRest_tones _ _).trans (State.loadRest_setFld _ _ _ _ _),
      (State.engines_tones _ _).trans (State.setFld_engines _ _ _ _ _)⟩
  · next h =>
    rw [Bool.eq_false_iff.mpr h]
    exact ⟨rfl, rfl⟩

theorem State.loadCluster_eq (s : State) (r : Run) (k : Nat) (img : List Byte) : s.loadCluster r k img
    = ({ s with prog := progWith s.prog k img, clusterImg := Tbl.put s.clusterImg k img [] } : State).each (List.range 16)
        (fun s j => s.loadEngine r k img j) := by
  unfold State.loadCluster
  dsimp only
  congr 1

theorem State.loadCluster_frame (s : State) (r : Run) (k : Nat) (img : List Byte) :
    (s.loadCluster r k img).loadRest = (s.runs, progWith s.prog k img, s.clock, s.crus) := by
  rw [State.loadCluster_eq]
  exact State.each_keeps State.loadRest _ _ (fun u j => (u.loadEngine_spec r k img j).1) _

/-- An engine of the run holds its section: it is idle, at its entry, with its subscriptions. -/
def State.holdsSection (s : State) (e : Nat) (img : List Byte) (j : Nat) : Prop :=
  (s.eng e).st = .idle ∧ (s.eng e).entry = secEntry img j ∧ (s.eng e).codeCount = secCount img j
    ∧ (s.eng e).subs = (secSubs img j).map (fun c => BitVec.ofNat 8 c)

theorem State.holdsSection_loadCluster {s : State} (hwf : Tbl.wf (fun _ => Engine.init) s.engines = true) {r : Run} {k : Nat} {img : List Byte}
    {j : Nat} (hj : j < 16) (hr : r.has (16 * k + j) = true) (hhas : imgHas img j = true) :
    (s.loadCluster r k img).holdsSection (16 * k + j) img j := by
  rw [State.loadCluster_eq]
  refine State.each_reaches (I := fun u => Tbl.wf (fun _ => Engine.init) u.engines = true)
    (P := fun u => u.holdsSection (16 * k + j) img j) (x := j) (fun u i hu => ?_) (fun u hu => ?_)
    (fun u i hu h => ?_) _ (List.mem_range.mpr hj) hwf
  · rw [(u.loadEngine_spec r k img i).2]
    exact u.engines_wf_setEng _ _ hu
  · have heng : (u.loadEngine r k img j).eng (16 * k + j) = (u.eng (16 * k + j)).fromSection img j true := by
      rw [← hr]
      exact (congrArg (fun l => Tbl.get l (16 * k + j) Engine.init) (u.loadEngine_spec r k img j).2).trans (u.eng_setEng_same _ _ hu)
    unfold State.holdsSection
    rw [heng, Engine.fromSection, hhas]
    exact ⟨rfl, rfl, rfl, rfl⟩
  · by_cases hi : i = j
    · subst hi
      have heng : (u.loadEngine r k img i).eng (16 * k + i) = (u.eng (16 * k + i)).fromSection img i true := by
        rw [← hr]
        exact (congrArg (fun l => Tbl.get l (16 * k + i) Engine.init) (u.loadEngine_spec r k img i).2).trans (u.eng_setEng_same _ _ hu)
      unfold State.holdsSection
      rw [heng, Engine.fromSection, hhas]
      exact ⟨rfl, rfl, rfl, rfl⟩
    · have heng : (u.loadEngine r k img i).eng (16 * k + j) = u.eng (16 * k + j) :=
        (congrArg (fun l => Tbl.get l (16 * k + j) Engine.init) (u.loadEngine_spec r k img i).2).trans
          (u.eng_setEng_other _ _ _ (by omega))
      unfold State.holdsSection
      rw [heng]
      exact h

end Sys2Proof.Machine
end

section
/-! PROOF. Runs from submission to their load, and what ends them before: cancel, purge and claim (R27-R31, R34, R36, R39, R45, R149, R150,
R322, R324). -/

namespace Sys2Proof.Machine

/-! ### Submission (R27, R28, R134, R161) -/

/-- The state with a run accepted, before its banks are asked for. -/
def State.accepted (u : State) (r : Run) : State :=
  { u with runs := u.runs.filter (fun (q : Run) => q.id != r.id) ++ [r], nextRun := u.nextRun + 1,
           rates := { u.ratesNow with runs := u.ratesNow.runs + 1 } }

theorem exec_runSubmit_of_asks {s : State} {x : Session} {sid seq : W32} (h : s.asks x sid seq 0x33 (some .operator) = true) (d : RunDesc) :
    exec (.runSubmit sid seq d) s = .next (Answer.reply
      (match (s.taken x sid).submitRefusal x (newRun x (s.taken x sid).nextRun d) with
        | some (st, dt) => Answer.refuse st dt
        | none => .done (((s.taken x sid).accepted (newRun x (s.taken x sid).nextRun d)).each
            ((newRun x (s.taken x sid).nextRun d).clusters.flatMap clusterBanks) State.bankUp) (leBytes 4 (s.taken x sid).nextRun.toNat))
      (s.taken x sid) sid seq 0x33) := by
  exact congrArg Host.Outcome.next (State.request_of_asks h _)

theorem State.run?_accepted (u : State) (r : Run) : (u.accepted r).run? r.id = some r := by
  unfold State.accepted State.run?
  dsimp only
  rw [List.find?_append, List.find?_eq_none.mpr fun q hq => by simpa using (List.mem_filter.mp hq).2]
  simp

theorem runDescOk_false_refused {u : State} {x : Session} {id : W32} {d : RunDesc} (h : runDescOk d = false) :
    u.submitRefusal x (newRun x id d) = some (.range, noDetail) := by
  unfold State.submitRefusal
  rw [if_pos (by simpa [newRun] using h)]

/-- An accepted run is found under its identifier, other runs stay, and its banks are not OFF. -/
theorem State.accepted_banks {u : State} (hbanks : Tbl.wf (fun _ => Bank.init) u.banks = true) (habort : u.cmk.abort = false) (r : Run)
    (l : List Nat) : ∃ v, (u.accepted r).each l State.bankUp = v ∧ v.run? r.id = some r ∧ v.nextRun = u.nextRun + 1
      ∧ (∀ q ∈ u.runs, q.id ≠ r.id → q ∈ v.runs) ∧ (∀ b ∈ l, (v.bank b).st ≠ .off ∧ ((u.bank b).st = .on → (v.bank b).st = .on))
      ∧ v = { u with runs := v.runs, nextRun := v.nextRun, rates := v.rates, banks := v.banks, cmk := v.cmk, regs := v.regs } := by
  obtain ⟨hrest, hbank⟩ := State.each_bankUp_spec (s := u.accepted r) l hbanks habort
  refine ⟨_, rfl, ?_, ?_, fun q hq hne => ?_, fun b hb => ⟨(hbank b).1 (Or.inl hb), (hbank b).2⟩, ?_⟩
  · exact (congrArg (fun t : State => t.run? r.id) hrest :).trans (u.run?_accepted r)
  · exact (congrArg (fun t : State => t.nextRun) hrest :)
  · have hruns : ((u.accepted r).each l State.bankUp).runs = (u.accepted r).runs := (congrArg (fun t : State => t.runs) hrest :)
    rw [hruns]
    exact List.mem_append_left _ (List.mem_filter.mpr ⟨hq, by simpa using hne⟩)
  · have heq := State.eq_of_askRest hrest
    generalize (u.accepted r).each l State.bankUp = v at heq
    rw [heq]
    rfl

/-! ### A run's turn (R30, R31, R149, R150) -/

section
variable {s : State} {run : W32} {r : Run} (hrun : s.run? run = some r) (hshots : r.shots = []) (hturn : s.turnOf r = true)

/-- The state at a run's turn, its banks settled. -/
def State.settledFor (s : State) (r : Run) : State := s.bankSettle (r.clusters.flatMap clusterBanks)

include hrun hshots in
theorem State.run?_settledFor : (s.settledFor r).run? run = some r := State.run?_same (s.bankSettle_frame _).2.2.2.2.2 hrun hshots

/-- The run as it loads. -/
def Run.loadingAt (now : Tick) (r : Run) : Run := { r with phase := .loading, loadTick := now, turnTick := none }

include hrun hturn in
theorem exec_runQueueHead_of_turn : exec (.runQueueHead run) s = .next (
    if r.clusters.all (s.settledFor r).clusterReady then
      if !r.desc.paced ∧ (r.desc.startTick - (s.settledFor r).now).toInt < 200000 then (s.settledFor r).finishRun run 0x02
      else ((s.settledFor r).modRun run (Run.loadingAt (s.settledFor r).now)).each
        (((s.settledFor r).modRun run (Run.loadingAt (s.settledFor r).now)).namedCrucibles r) (fun s x => s.cruStop (s.cruPhys x.1))
    else (s.settledFor r).modRun run (fun q => { q with turnTick := some (q.turnTick.getD (s.settledFor r).now) })) := by
  show execRunQueueHead run s = _
  unfold execRunQueueHead
  rw [hrun]
  dsimp only
  rw [if_pos hturn]
  rfl

theorem State.namedCrucibles_lt {y : Nat × List Byte} (h : y ∈ s.namedCrucibles r) : y.1 < 32 := by
  unfold State.namedCrucibles at h
  obtain ⟨x, -, hx⟩ := List.mem_filterMap.mp h
  obtain ⟨w, -, hw⟩ := Option.bind_eq_some_iff.mp hx
  obtain ⟨i, -, rfl⟩ := Option.map_eq_some_iff.mp hw
  exact x.1.isLt

include hrun hshots hturn in
/-- A run that is ready, and whose start can be reached, loads: the Crucibles it names are told to stop. -/
theorem runQueueHead_loads (hcrus : Tbl.wf (fun _ => Cru.init) s.crus = true) (hready : r.clusters.all (s.settledFor r).clusterReady = true)
    (hreach : r.desc.paced = true ∨ 200000 ≤ (r.desc.startTick - s.now).toInt) :
    ∃ t, exec (.runQueueHead run) s = .next t ∧ t.run? run = some (r.loadingAt s.now)
      ∧ (s.namedCrucibles r = [] → t = (s.settledFor r).modRun run (Run.loadingAt s.now))
      ∧ ∀ y ∈ s.namedCrucibles r, (t.cru (s.cruPhys y.1)).toldToStop := by
  obtain ⟨hnow, -, -, hc, -, -⟩ := s.bankSettle_frame (r.clusters.flatMap clusterBanks)
  have hnow' : (s.settledFor r).now = s.now := hnow
  have hnamed : ((s.settledFor r).modRun run (Run.loadingAt s.now)).namedCrucibles r = s.namedCrucibles r :=
    s.namedCrucibles_bankSettle _ r
  have hphys : ((s.settledFor r).modRun run (Run.loadingAt s.now)).cruPhys = s.cruPhys := s.cruPhys_bankSettle _
  have hw : Tbl.wf (fun _ => Cru.init) ((s.settledFor r).modRun run (Run.loadingAt s.now)).crus = true := by
    show Tbl.wf (fun _ => Cru.init) (s.bankSettle _).crus = true
    rw [hc]
    exact hcrus
  have hmod : ((s.settledFor r).modRun run (Run.loadingAt s.now)).run? run = some (r.loadingAt s.now) :=
    State.run?_modRun_some (State.run?_settledFor hrun hshots) fun _ => rfl
  have hfar : ¬ (!r.desc.paced ∧ (r.desc.startTick - (s.settledFor r).now).toInt < 200000) := by
    rw [hnow']
    rintro ⟨hp, hlt⟩
    rcases hreach with h | h
    · simp [h] at hp
    · omega
  rw [exec_runQueueHead_of_turn hrun hturn, if_pos hready, if_neg hfar, hnow', hnamed]
  obtain ⟨hrest, htold⟩ := State.each_cruStop_spec (fun x : Nat × List Byte => x.1) (s.namedCrucibles r)
    (fun _ => State.namedCrucibles_lt) hw
  refine ⟨_, rfl, State.run?_same (State.bareRuns_of_cruRest hrest) hmod hshots, fun h => ?_, fun y hy => ?_⟩
  · rw [h]
    rfl
  · rw [hphys] at htold
    exact htold y (Or.inl hy) (State.namedCrucibles_lt hy)

include hrun hshots hturn in
/-- A run whose start is too close has missed it. -/
theorem runQueueHead_misses (hready : r.clusters.all (s.settledFor r).clusterReady = true)
    (hreach : ¬ (r.desc.paced = true ∨ 200000 ≤ (r.desc.startTick - s.now).toInt)) :
    ∃ t, exec (.runQueueHead run) s = .next t ∧ (s.settledFor r).EndsRun t run r 0x02 := by
  have hnow : (s.settledFor r).now = s.now := (s.bankSettle_frame _).1
  have hclose : !r.desc.paced ∧ (r.desc.startTick - (s.settledFor r).now).toInt < 200000 := by
    rw [hnow]
    rw [not_or] at hreach
    exact ⟨by simpa using hreach.1, by omega⟩
  rw [exec_runQueueHead_of_turn hrun hturn, if_pos hready, if_pos hclose]
  exact ⟨_, rfl, State.finishRun_spec (State.run?_settledFor hrun hshots) 0x02⟩

include hrun hturn in
/-- A run whose banks or groups are not ON notes when its turn came. -/
theorem runQueueHead_waits (hready : ¬ r.clusters.all (s.settledFor r).clusterReady = true) :
    exec (.runQueueHead run) s = .next ((s.settledFor r).modRun run (fun q => { q with turnTick := some (q.turnTick.getD s.now) })) := by
  have hnow : (s.settledFor r).now = s.now := (s.bankSettle_frame _).1
  rw [exec_runQueueHead_of_turn hrun hturn, if_neg hready, hnow]

end

/-! ### The load (R31, R45, R71, R199) -/

section
variable {s : State} {run : W32} {r : Run} (hrun : s.run? run = some r)

theorem State.settleRun_of_more (h : s.run? run = some r) (hmore : r.noMore = false) : s.settleRun run = s := by
  unfold State.settleRun
  rw [h]
  dsimp only
  rw [if_pos (Or.inr (Or.inl (by simpa using hmore)))]

/-- The clusters of a run take the images named for them. -/
def State.loadClusters (s : State) (r : Run) : State :=
  s.each r.clusters (fun s k =>
    match (r.desc.clusterImages.find? (fun y => y.1.val == k)).bind (fun y => s.imageOf y.2) with
    | none => s
    | some i => s.loadCluster r k i.bytes)

/-- The Crucibles of a run take the images named for them. -/
def State.loadCrucibles (s : State) (r : Run) : State :=
  s.each (s.namedCrucibles r) (fun s x => s.cruImage (s.cruPhys x.1) x.1 x.2)

/-- A run that has loaded, with its first start. -/
def Run.loadedAt (now : Tick) (r : Run) : Run :=
  { r with phase := .active, nextStart := some (if r.desc.paced then now else r.desc.startTick) }

/-- The load of a run can complete: its sequencers have stopped, and no swap is under way. -/
def State.loadReady (s : State) (r : Run) : Prop := r.phase = .loading ∧ !s.swapBusy r ∧ (s.namedCrucibles r).all (fun x => s.cruReady x.1)

include hrun in
theorem exec_runLoadComplete_of_ready (h : s.loadReady r) : exec (.runLoadComplete run) s = .next
    ((((s.loadClusters r).loadCrucibles r).modRun run (fun q => { q with
        phase := .active
        nextStart := some (if r.desc.paced then ((s.loadClusters r).loadCrucibles r).now else r.desc.startTick) })).settleRun run) := by
  show execRunLoadComplete run s = _
  unfold execRunLoadComplete
  rw [hrun]
  unfold State.loadReady at h
  dsimp only
  rw [if_pos h]
  rfl

include hrun in
theorem exec_runLoadComplete_of_not_ready (h : ¬ s.loadReady r) : exec (.runLoadComplete run) s = .next s := by
  show execRunLoadComplete run s = _
  unfold execRunLoadComplete
  rw [hrun]
  unfold State.loadReady at h
  dsimp only
  rw [if_neg h]

theorem State.runs_loadClusters (s : State) (r : Run) : ((s.loadClusters r).runs, (s.loadClusters r).clock) = (s.runs, s.clock) := by
  refine State.each_keeps (fun u : State => (u.runs, u.clock)) _ _ (fun u k => ?_) s
  split
  · rfl
  · exact (congrArg (fun v : List Run × Tbl ProgWord × Clock × Tbl Cru => (v.1, v.2.2.1)) (u.loadCluster_frame r k _) :)

theorem State.cruRest_loadCrucibles (s : State) (r : Run) : (s.loadCrucibles r).cruRest = s.cruRest :=
  s.cruRest_each _ fun u _ => u.cruRest_cruImage _ _ _

include hrun in
/-- A load that completes makes the run active, with its first start. -/
theorem runLoadComplete_starts (hshots : r.shots = []) (h : s.loadReady r) (hmore : r.noMore = false) :
    ∃ b : State, exec (.runLoadComplete run) s = .next (b.modRun run (fun q => { q with phase := .active, nextStart := some (if r.desc.paced then s.now else r.desc.startTick) }))
      ∧ b.cruRest = (s.loadClusters r).cruRest
      ∧ (b.modRun run (fun q => { q with phase := .active, nextStart := some (if r.desc.paced then s.now else r.desc.startTick) })).run? run
        = some (r.loadedAt s.now) := by
  have hcru := (s.loadClusters r).cruRest_loadCrucibles r
  have hload := s.runs_loadClusters r
  have hclock : ((s.loadClusters r).loadCrucibles r).clock = s.clock :=
    (congrArg (fun v => v.2.2.2.1) hcru).trans (congrArg Prod.snd hload)
  have hnow : ((s.loadClusters r).loadCrucibles r).now = s.now := congrArg Clock.cast hclock
  have hbase : (s.loadClusters r).run? run = some r := by
    have hruns : (s.loadClusters r).runs = s.runs := congrArg Prod.fst hload
    rw [State.run?, hruns]
    exact hrun
  have hfound := State.run?_modRun_some (State.run?_same (State.bareRuns_of_cruRest hcru) hbase hshots)
    (f := fun q => { q with phase := .active, nextStart := some (if r.desc.paced then s.now else r.desc.startTick) }) fun _ => rfl
  refine ⟨(s.loadClusters r).loadCrucibles r, ?_, hcru, hfound⟩
  rw [exec_runLoadComplete_of_ready hrun h, hnow, State.settleRun_of_more hfound hmore]

/-- The image that a run names for a cluster, where it names one of the store. -/
theorem State.loadClusters_of_image {k : Nat} {img : List Byte} (hk : r.clusters = [k])
    (himg : (r.desc.clusterImages.find? (fun y => y.1.val == k)).bind (fun y => (s.imageOf y.2).map (fun i => i.bytes)) = some img) :
    s.loadClusters r = s.loadCluster r k img := by
  obtain ⟨y, hy, hi⟩ := Option.bind_eq_some_iff.mp himg
  obtain ⟨i, himage, rfl⟩ := Option.map_eq_some_iff.mp hi
  unfold State.loadClusters State.each
  rw [hk, List.foldl_cons, List.foldl_nil]
  rw [hy, Option.bind_some, himage]

end

/-! ### Banks and groups that are not ON in time (R150) -/

section
variable {s : State} {run : W32} {r : Run} {t0 : Tick} (hrun : s.run? run = some r) (hphase : r.phase = .queued) (hturn : r.turnTick = some t0)
  (hlate : 20000000 ≤ s.ticksSince t0)

/-- The log entries for what is not ON. -/
def State.logNotOn (s : State) (run : W32) (l : List Nat) : State :=
  s.each l (fun s n => s.logEvent 0x0020 1 (leBytes 4 run.toNat ++ leBytes 1 n))

theorem State.logNotOn_eq (s : State) (run : W32) (l : List Nat) : s.logNotOn run l = { s with log := (s.logNotOn run l).log } := by
  refine State.each_inv (fun u : State => u = { s with log := u.log }) l _ (fun u n hu => ?_) s rfl
  rw [State.logEvent_eq]
  generalize (u.logEvent 0x0020 1 (leBytes 4 run.toNat ++ leBytes 1 n)).log = g
  rw [hu]

include hrun hphase hturn hlate in
theorem exec_resourceFault_of_overdue : exec (.resourceFault run) s = .next (
    if (s.settledFor r).notOn r = [] then s.settledFor r else ((s.settledFor r).logNotOn run ((s.settledFor r).notOn r)).finishRun run 0x08) := by
  have hsince : (s.settledFor r).ticksSince t0 = s.ticksSince t0 :=
    congrArg (fun t : Tick => (t - t0).toInt.toNat) (s.bankSettle_frame (r.clusters.flatMap clusterBanks)).1
  show execResourceFault run s = _
  unfold execResourceFault
  rw [hrun]
  dsimp only
  rw [hturn]
  dsimp only
  show (.next (if r.phase = .queued ∧ (s.settledFor r).ticksSince t0 ≥ 20000000 ∧ !((s.settledFor r).notOn r).isEmpty then _ else _) : Out) = _
  rw [hsince]
  by_cases h : (s.settledFor r).notOn r = []
  · rw [if_neg (by simp [h]), if_pos h]
    rfl
  · rw [if_pos ⟨hphase, hlate, by simpa using h⟩, if_neg h]
    rfl

include hrun hphase hturn hlate in
/-- The run of which a bank or group is not ON in time ends, after its log entries. -/
theorem resourceFault_ends (hoff : (s.settledFor r).notOn r ≠ []) :
    ∃ (t b : State) (q : Run), exec (.resourceFault run) s = .next t ∧ b.EndsRun t run q 0x08 ∧ q.bare = r.bare ∧ b = { s.settledFor r with log := b.log } := by
  have hb := (s.settledFor r).logNotOn_eq run ((s.settledFor r).notOn r)
  have hruns : ((s.settledFor r).logNotOn run ((s.settledFor r).notOn r)).bareRuns = s.bareRuns := by
    rw [hb]
    exact (s.bankSettle_frame (r.clusters.flatMap clusterBanks)).2.2.2.2.2
  obtain ⟨q, hq, hbare⟩ := State.run?_of_bare hruns hrun
  rw [exec_resourceFault_of_overdue hrun hphase hturn hlate, if_neg hoff]
  exact ⟨_, _, q, rfl, State.finishRun_spec hq 0x08, hbare, hb⟩

end

/-! ### A cancel, a purge and a claim (R34, R39, R324) -/

section
variable {s : State} {x : Session} {sid seq run : W32} {r : Run}

theorem exec_runCancel_of_asks (h : s.asks x sid seq 0x34 (some .operator) = true) : exec (.runCancel sid seq run) s = .next (Answer.reply
    (match (s.taken x sid).run? run with
    | none => .refuse .notFound noDetail
    | some r =>
      if r.phase = .over ∨ r.noMore then .refuse .state noDetail
      else if r.phase = .queued ∧ !(s.taken x sid).stopping then .done ((s.taken x sid).finishRun run 0x01) []
      else .done (((s.taken x sid).modRun run (fun r => { r with cancel := true })).settleRun run) [])
    (s.taken x sid) sid seq 0x34) := by
  exact congrArg Host.Outcome.next (State.request_of_asks h _)

theorem exec_runPurge_of_asks (h : s.asks x sid seq 0x35 (some .operator) = true) : exec (.runPurge sid seq run) s = .next (Answer.reply
    (match (s.taken x sid).run? run with
    | none => .refuse .notFound noDetail
    | some r =>
      if r.phase ≠ .over then .refuse .state noDetail
      else .done (State.logEvent { s.taken x sid with results := s.results.filter (fun (x : ResRec) => x.run != run) } 0x0020 2
          (leBytes 4 run.toNat ++ leBytes 4 (s.results.filter (fun x => x.run == run)).length))
        (leBytes 4 (s.results.filter (fun x => x.run == run)).length))
    (s.taken x sid) sid seq 0x35) := by
  exact congrArg Host.Outcome.next (State.request_of_asks h _)

/-- The state with a run's delivery taken over, and none of its records under way. -/
def State.takenOver (u : State) (run owner : W32) : State :=
  { u.modRun run (fun r => { r with owner := owner }) with
    results := u.results.map (fun (y : ResRec) => if y.run == run then { y with sent := none } else y) }

theorem exec_resultClaim_of_asks (h : s.asks x sid seq 0x36 (some .operator) = true) : exec (.resultClaim sid seq run) s = .next (Answer.reply
    (match (s.taken x sid).run? run with
    | none => .refuse .notFound noDetail
    | some _ => .done (((s.taken x sid).takenOver run x.id).offerResults run) [])
    (s.taken x sid) sid seq 0x36) := by
  exact congrArg Host.Outcome.next (State.request_of_asks h _)

theorem State.run?_taken (s : State) (x : Session) (sid id : W32) : (s.taken x sid).run? id = s.run? id := rfl
theorem State.stopping_taken (s : State) (x : Session) (sid : W32) : (s.taken x sid).stopping = s.stopping := rfl

/-- A cancel of a run that has ended or can start no more shots is refused. -/
theorem runCancel_refused (h : s.asks x sid seq 0x34 (some .operator) = true) (hrun : s.run? run = some r) (hover : r.phase = .over ∨ r.noMore = true) :
    exec (.runCancel sid seq run) s = .next ((s.taken x sid).reply sid seq 0x34 .state noDetail.bytes) := by
  rw [exec_runCancel_of_asks h, State.run?_taken, hrun]
  dsimp only
  rw [if_pos hover]
  rfl

theorem runCancel_queued (h : s.asks x sid seq 0x34 (some .operator) = true) (hrun : s.run? run = some r) (hphase : r.phase = .queued)
    (hmore : r.noMore = false) (hstop : s.stopping = false) :
    exec (.runCancel sid seq run) s = .next (((s.taken x sid).finishRun run 0x01).reply sid seq 0x34 .ok []) := by
  rw [exec_runCancel_of_asks h, State.run?_taken, hrun]
  dsimp only
  rw [if_neg (by simp [hphase, hmore]), if_pos (by simp [hphase, State.stopping_taken, hstop])]
  rfl

/-- The run with its cancel noted. -/
def Run.cancelled (r : Run) : Run := { r with cancel := true }

theorem runCancel_settles (h : s.asks x sid seq 0x34 (some .operator) = true) (hrun : s.run? run = some r) (hphase : r.phase ≠ .over)
    (hmore : r.noMore = false) (hnow : r.phase ≠ .queued ∨ s.stopping = true) :
    exec (.runCancel sid seq run) s
      = .next ((((s.taken x sid).modRun run Run.cancelled).settleRun run).reply sid seq 0x34 .ok []) := by
  rw [exec_runCancel_of_asks h, State.run?_taken, hrun]
  dsimp only
  rw [if_neg (by simp [hphase, hmore]), if_neg (by rw [State.stopping_taken]; rcases hnow with hn | hn <;> simp [hn])]
  rfl

theorem State.run?_cancelled (u : State) (h : u.run? run = some r) : (u.modRun run Run.cancelled).run? run = some r.cancelled :=
  State.run?_modRun_some h fun _ => rfl
theorem Run.noMore_cancelled (r : Run) : r.cancelled.noMore = true := rfl
theorem Run.cause_cancelled (h : r.noMore = false) : r.cancelled.cause = 0x01 := by
  have hstop : r.stop = none := by
    unfold Run.noMore at h
    simp only [Bool.or_eq_false_iff, Option.isSome_eq_false_iff, Option.isNone_iff_eq_none] at h
    exact h.1.2
  simp [Run.cause, Run.cancelled, hstop]

/-- The claim of a run's delivery sends all its records to the session. -/
theorem State.claim_spec {u : State} (hrun : u.run? run = some r) (owner : W32) :
    ((u.takenOver run owner).offerResults run).run? run = some { r with owner := owner }
      ∧ ((u.takenOver run owner).offerResults run).resultKeys = u.resultKeys
      ∧ (u.sessionIds.contains owner = true → ∀ y ∈ ((u.takenOver run owner).offerResults run).results, y.run = run → y.carriedBy owner)
      ∧ ∃ l q a n, (u.takenOver run owner).offerResults run = { u with runs := l, results := q, sessions := a, sent := n } := by
  have hfound : (u.takenOver run owner).run? run = some { r with owner := owner } :=
    State.run?_modRun_some (s := u) hrun (f := fun r => { r with owner := owner }) fun _ => rfl
  have hrest := (u.takenOver run owner).offerRest_offerResults run
  have heq := State.eq_of_offerRest hrest
  have hcarried := State.offerResults_carried hfound
  have hkeys := State.resultKeys_of_offerRest hrest
  generalize (u.takenOver run owner).offerResults run = v at heq hcarried hkeys
  refine ⟨?_, hkeys.trans ?_, fun hsid => hcarried hsid fun y hy hy' => ?_, _, v.results, v.sessions, v.sent, heq⟩
  · rw [heq]
    exact hfound
  · unfold State.resultKeys State.takenOver
    rw [List.map_map]
    refine List.map_congr_left fun y _ => ?_
    dsimp only [Function.comp_apply]
    split <;> rfl
  · obtain ⟨z, -, rfl⟩ := List.mem_map.mp hy
    by_cases hz : (z.run == run) = true
    · rw [if_pos hz]
    · rw [if_neg hz] at hy'
      exact absurd (beq_iff_eq.mpr hy') hz

end

end Sys2Proof.Machine
end

section
/-! PROOF. RunsLoadInTurn: each clause by the lemma of its command (R27-R31, R34, R36, R39, R45, R149, R150, R322, R324). -/

namespace Sys2Proof.Machine

theorem State.sess?_of_asks {s : State} {x : Session} {sid seq : W32} {ty : Byte} {role : Option Role} (h : s.asks x sid seq ty role = true) :
    s.sess? sid = some x := by
  unfold State.asks at h
  simp only [Bool.and_eq_true, beq_iff_eq] at h
  exact h.1.1.1
theorem State.id_of_asks {s : State} {x : Session} {sid seq : W32} {ty : Byte} {role : Option Role} (h : s.asks x sid seq ty role = true) :
    x.id = sid := by
  simpa using List.find?_some (State.sess?_of_asks h)
theorem State.mem_ids_of_asks {s : State} {x : Session} {sid seq : W32} {ty : Byte} {role : Option Role} (h : s.asks x sid seq ty role = true) :
    (s.taken x sid).sessionIds.contains sid = true := by
  have hids : (s.taken x sid).sessionIds = s.sessionIds := s.sessionIds_modSess sid fun _ => rfl
  rw [hids, ← s.sess?_isSome, State.sess?_of_asks h]
  rfl

/-- Settles O27: each clause is the lemma of its command's case. -/
theorem runsLoadInTurn : Obligations.RunsLoadInTurn := by
  intro s x sid seq run d r t0 st dt k j img hcrus hbanks hengs habort u settled ready turn reachable asked answers refused ended loading first e
    overdue cancels unacked
  refine ⟨fun hask hnone => ?_, fun hask hsome => ?_, fun hd => runDescOk_false_refused hd, ?_, ?_, ?_, fun hrun hturn => ?_, ?_, ?_, ?_, ?_, ?_,
    ?_, ?_, ?_, ?_, fun hask hrun hover => runCancel_refused hask hrun hover, ?_, ?_, ?_, ?_⟩
  · obtain ⟨v, hv, hfound, hnext, hkept, hbank, hframe⟩ := State.accepted_banks (u := u) hbanks habort (newRun x u.nextRun d)
      ((newRun x u.nextRun d).clusters.flatMap clusterBanks)
    refine ⟨v, ?_, hfound, hnext, hkept, hbank, hframe⟩
    show exec (.runSubmit sid seq d) s = _
    rw [exec_runSubmit_of_asks hask, hnone, ← hv]
    rfl
  · show exec (.runSubmit sid seq d) s = _
    rw [exec_runSubmit_of_asks hask, hsome]
    rfl
  · rintro ⟨hrun, hshots, hturn⟩ hready hreach
    exact runQueueHead_loads hrun hshots hturn hcrus hready hreach
  · rintro ⟨hrun, hshots, hturn⟩ hready hreach
    obtain ⟨t, hexec, ⟨q, hq, hphase, hexecd, hnext, -⟩, hmem, hframe⟩ := runQueueHead_misses hrun hshots hturn hready hreach
    refine ⟨t, hexec, ⟨q, hq, hphase, hexecd, hnext⟩, ?_, hframe⟩
    have hclock : (s.settledFor r).clock = s.clock := (s.bankSettle_frame _).2.1
    rw [hclock] at hmem
    exact hmem
  · rintro ⟨hrun, hshots, hturn⟩ hready
    exact runQueueHead_waits hrun hturn hready
  · show execRunQueueHead run s = _
    unfold execRunQueueHead
    rw [hrun]
    dsimp only
    rw [if_neg (by simp [hturn])]
  · rintro ⟨hrun, hshots, hphase, hswap, hready⟩ hmore
    obtain ⟨b, hexec, -, hfound⟩ := runLoadComplete_starts hrun hshots ⟨hphase, by simp [hswap], List.all_eq_true.mpr hready⟩ hmore
    exact ⟨_, hexec, hfound⟩
  · rintro ⟨hrun, hshots, hphase, hswap, hready⟩ hmore hk hhas himg hcount himage
    obtain ⟨b, hexec, hb, -⟩ := runLoadComplete_starts hrun hshots ⟨hphase, by simp [hswap], List.all_eq_true.mpr hready⟩ hmore
    rw [State.loadClusters_of_image hk himage] at hb
    have hengines : b.engines = (s.loadCluster r k img).engines := congrArg (fun v => v.2.1) hb
    have hprog : b.prog = progWith s.prog k img := (congrArg (fun v => v.2.2.1) hb).trans (congrArg (fun v => v.2.1) (s.loadCluster_frame r k img))
    obtain ⟨hst, hentry, hcode, hsubs⟩ := State.holdsSection_loadCluster hengs j.isLt hhas himg
    have heng : (b.eng e) = (s.loadCluster r k img).eng e := congrArg (fun l => Tbl.get l e Engine.init) hengines
    refine ⟨_, hexec, ?_, ?_, ?_, ?_, fun a ha => ?_⟩
    · exact (congrArg Engine.st heng).trans hst
    · exact (congrArg Engine.entry heng).trans hentry
    · exact (congrArg Engine.codeCount heng).trans hcode
    · exact (congrArg Engine.subs heng).trans hsubs
    · have hword := get_progWith s.prog k img j.isLt himg hcount ha
      rw [← hprog] at hword
      exact congrArg ProgWord.code hword
  · intro hrun hnot
    refine exec_runLoadComplete_of_not_ready hrun ?_
    rintro ⟨hphase, hswap, hready⟩
    rcases hnot with h | h | ⟨y, hy, h⟩
    · exact h hphase
    · simp [h] at hswap
    · exact absurd (List.all_eq_true.mp hready y hy) (by simp [h])
  · rintro ⟨hrun, hphase, hturn, hlate⟩ hoff
    obtain ⟨t, b, q, hexec, hends, hbare, hb⟩ := resourceFault_ends hrun hphase hturn hlate hoff
    obtain ⟨⟨q', hq, hphase', hexecd, hnext, -⟩, hmem, hframe⟩ := hends
    have hclock : b.clock = s.clock := (congrArg State.clock hb).trans (s.bankSettle_frame (r.clusters.flatMap clusterBanks)).2.1
    have hexecuted : q.executed = r.executed := (congrArg (fun z : Run => z.executed) hbare :)
    have hclean : q.clean = r.clean := (congrArg (fun z : Run => z.clean) hbare :)
    have hdesc : q.desc = r.desc := (congrArg (fun z : Run => z.desc) hbare :)
    have hend : q.endTick = r.endTick := (congrArg (fun z : Run => z.endTick) hbare :)
    rw [hclock, hexecuted, hclean, hdesc, hend] at hmem
    exact ⟨t, b, hexec, ⟨⟨q', hq, hphase', hexecd.trans hexecuted, hnext⟩, hmem, hframe⟩, hb⟩
  · rintro ⟨hrun, hphase, hturn, hlate⟩ hon
    exact (exec_resourceFault_of_overdue hrun hphase hturn hlate).trans (congrArg Host.Outcome.next (if_pos hon))
  · intro hask hrun hphase hmore hstop
    obtain ⟨⟨q, hq, hphase', hexecd, hnext, -⟩, hmem, hframe⟩ := State.finishRun_spec (b := u) hrun 0x01
    exact ⟨_, runCancel_queued hask hrun hphase hmore hstop, ⟨q, hq, hphase', hexecd, hnext⟩, hmem, hframe⟩
  · rintro ⟨hask, hrun, hphase, hmore, hnow⟩ hflight
    show exec (.runCancel sid seq run) s = _
    rw [runCancel_settles hask hrun hphase hmore hnow, State.settleRun_inFlight (u.run?_cancelled hrun) hflight]
    rfl
  · rintro ⟨hask, hrun, hphase, hmore, hnow⟩ hflight hkept
    show exec (.runCancel sid seq run) s = _
    rw [runCancel_settles hask hrun hphase hmore hnow,
      State.settleRun_kept (u.run?_cancelled hrun) hphase r.noMore_cancelled hflight hkept, State.modRun_modRun u run (f := Run.cancelled) fun _ => rfl]
    rfl
  · rintro ⟨hask, hrun, hphase, hmore, hnow⟩ hshots hstop
    have hcancelled := u.run?_cancelled hrun
    obtain ⟨⟨q, hq, hphase', hexecd, hnext, -⟩, hmem, hframe⟩ := State.finishRun_spec
      (State.run?_modRun_some hcancelled (f := fun r => { r with nextStart := none }) fun _ => rfl) 0x01
    refine ⟨_, ?_, ⟨q, hq, hphase', hexecd, hnext⟩, hmem, hframe⟩
    show exec (.runCancel sid seq run) s = _
    rw [runCancel_settles hask hrun hphase hmore hnow,
      State.settleRun_ends hcancelled hphase r.noMore_cancelled hshots hstop, Run.cause_cancelled hmore]
  · intro hask hrun hover
    show exec (.runPurge sid seq run) s = _
    rw [exec_runPurge_of_asks hask, State.run?_taken, hrun]
    dsimp only
    rw [if_neg (by simp [hover])]
    rfl
  · intro hask hrun hover
    show exec (.runPurge sid seq run) s = _
    rw [exec_runPurge_of_asks hask, State.run?_taken, hrun]
    dsimp only
    rw [if_pos hover]
    rfl
  · intro hask hrun
    obtain ⟨hfound, hkeys, hcarried, l, q, a, n, hframe⟩ := State.claim_spec (u := u) hrun x.id
    refine ⟨(u.takenOver run x.id).offerResults run, ?_, hfound, hkeys, fun hid => ?_, ?_⟩
    · show exec (.resultClaim sid seq run) s = _
      rw [exec_resultClaim_of_asks hask, State.run?_taken, hrun]
      rfl
    · rw [hid] at hcarried ⊢
      exact hcarried (State.mem_ids_of_asks hask)
    · rw [hframe]
  · intro hnone
    refine ⟨fun hask => ?_, fun hask => ?_, fun hask => ?_⟩
    · show exec (.runCancel sid seq run) s = _
      rw [exec_runCancel_of_asks hask, State.run?_taken, hnone]
      rfl
    · show exec (.runPurge sid seq run) s = _
      rw [exec_runPurge_of_asks hask, State.run?_taken, hnone]
      rfl
    · show exec (.resultClaim sid seq run) s = _
      rw [exec_resultClaim_of_asks hask, State.run?_taken, hnone]
      rfl

end Sys2Proof.Machine
end

section
/-! SUPPORT. Conditions of a shot only grow: what is marked in its entries stays marked (R35, R463), and what a list of engines does, engine by
engine. -/

namespace Sys2Proof.Machine

/-! ### Entries that grow (R35) -/

/-- An entry that tells of the same engine, with at least the conditions it had. -/
def Entry.Grows (x y : Entry) : Prop := y.engine = x.engine ∧ ∀ k, x.mask.getLsbD k = true → y.mask.getLsbD k = true
/-- A shot apart from its entries. -/
def Shot.bare (h : Shot) : Shot := { h with entries := [] }
/-- The same shot, its entries grown. -/
def Shot.Grows (h g : Shot) : Prop := g.bare = h.bare ∧ List.Forall₂ Entry.Grows h.entries g.entries
/-- A run apart from its shots. -/
def Run.noShots (r : Run) : Run := { r with shots := [] }
/-- The same run, the entries of its shots grown. -/
def Run.Grows (r q : Run) : Prop := q.noShots = r.noShots ∧ List.Forall₂ Shot.Grows r.shots q.shots
/-- The same runs, the entries of their shots grown. -/
def State.Grows (s t : State) : Prop := List.Forall₂ Run.Grows s.runs t.runs

theorem Entry.Grows.refl (x : Entry) : x.Grows x := ⟨rfl, fun _ => id⟩
theorem Entry.Grows.trans {x y z : Entry} (h : x.Grows y) (h' : y.Grows z) : x.Grows z := ⟨h'.1.trans h.1, fun k hk => h'.2 k (h.2 k hk)⟩
theorem Shot.Grows.refl (h : Shot) : h.Grows h := ⟨rfl, List.forall₂_same.mpr fun x _ => .refl x⟩
theorem Run.Grows.refl (r : Run) : r.Grows r := ⟨rfl, List.forall₂_same.mpr fun x _ => .refl x⟩
theorem State.Grows.refl (s : State) : s.Grows s := List.forall₂_same.mpr fun x _ => .refl x
theorem State.Grows.of_runs {s t : State} (h : t.runs = s.runs) : s.Grows t := by
  unfold State.Grows
  rw [h]
  exact State.Grows.refl s

theorem forall₂_trans {α : Type} {R : α → α → Prop} (hR : ∀ a b c, R a b → R b c → R a c) {l m n : List α}
    (h : List.Forall₂ R l m) (h' : List.Forall₂ R m n) : List.Forall₂ R l n := by
  induction h generalizing n with
  | nil => exact h'
  | cons hab _ ih =>
    cases h' with
    | cons hbc hr => exact .cons (hR _ _ _ hab hbc) (ih hr)

theorem Shot.Grows.trans {h g k : Shot} (a : h.Grows g) (b : g.Grows k) : h.Grows k :=
  ⟨b.1.trans a.1, forall₂_trans (R := Entry.Grows) (fun _ _ _ => Entry.Grows.trans) a.2 b.2⟩
theorem Run.Grows.trans {r q p : Run} (a : r.Grows q) (b : q.Grows p) : r.Grows p :=
  ⟨b.1.trans a.1, forall₂_trans (R := Shot.Grows) (fun _ _ _ => Shot.Grows.trans) a.2 b.2⟩
theorem State.Grows.trans {s t u : State} (a : s.Grows t) (b : t.Grows u) : s.Grows u := forall₂_trans (R := Run.Grows) (fun _ _ _ => Run.Grows.trans) a b

theorem Run.Grows.id_eq {r q : Run} (h : r.Grows q) : q.id = r.id := (congrArg (fun z : Run => z.id) h.1 :)
theorem Shot.Grows.index_eq {h g : Shot} (a : h.Grows g) : g.index = h.index := (congrArg (fun z : Shot => z.index) a.1 :)
theorem Shot.Grows.engines_eq {h g : Shot} (a : h.Grows g) : g.entries.map (fun x => x.engine) = h.entries.map (fun x => x.engine) := by
  have hall : List.Forall₂ (fun x y : Entry => y.engine = x.engine) h.entries g.entries := a.2.imp fun _ _ hxy => hxy.1
  generalize h.entries = l at hall
  generalize g.entries = m at hall
  induction hall with
  | nil => rfl
  | cons hxy _ ih => rw [List.map_cons, List.map_cons, hxy, ih]

/-- A member of the later list comes from one of the earlier. -/
theorem forall₂_exists_left {α : Type} {R : α → α → Prop} {l m : List α} (h : List.Forall₂ R l m) {b : α} (hb : b ∈ m) : ∃ a ∈ l, R a b := by
  induction h with
  | nil => cases hb
  | cons hab _ ih =>
    rcases List.mem_cons.mp hb with rfl | hb
    · exact ⟨_, List.mem_cons_self, hab⟩
    · obtain ⟨a, ha, hR⟩ := ih hb
      exact ⟨a, List.mem_cons_of_mem _ ha, hR⟩
theorem forall₂_exists_right {α : Type} {R : α → α → Prop} {l m : List α} (h : List.Forall₂ R l m) {a : α} (ha : a ∈ l) : ∃ b ∈ m, R a b := by
  induction h with
  | nil => cases ha
  | cons hab _ ih =>
    rcases List.mem_cons.mp ha with rfl | ha
    · exact ⟨_, List.mem_cons_self, hab⟩
    · obtain ⟨b, hb, hR⟩ := ih ha
      exact ⟨b, List.mem_cons_of_mem _ hb, hR⟩

/-- A run is found again, its entries grown. -/
theorem State.Grows.run? {s t : State} (h : s.Grows t) {id : W32} {r : Run} (hr : s.run? id = some r) : ∃ q, t.run? id = some q ∧ r.Grows q := by
  unfold State.run? at hr ⊢
  unfold State.Grows at h
  generalize s.runs = l at h hr
  generalize t.runs = m at h
  induction h with
  | nil => cases hr
  | @cons a b l m hab _ ih =>
    have hid : (b.id == id) = (a.id == id) := by rw [hab.id_eq]
    rw [List.find?_cons] at hr ⊢
    rw [hid]
    cases hc : (a.id == id) with
    | true =>
      rw [hc] at hr
      obtain rfl := Option.some.inj hr
      exact ⟨b, rfl, hab⟩
    | false =>
      rw [hc] at hr
      exact ih hr

/-- A change of entries that leaves their engines and keeps their conditions. -/
theorem State.grows_modEntry (s : State) (id idx : W32) (e : Nat) {f : Entry → Entry} (hf : ∀ x : Entry, x.Grows (f x)) :
    s.Grows (s.modEntry id idx e f) := by
  unfold State.Grows State.modEntry State.modShot State.modRun
  refine List.forall₂_map_right_iff.mpr (List.forall₂_same.mpr fun r _ => ?_)
  split
  · refine ⟨rfl, List.forall₂_map_right_iff.mpr (List.forall₂_same.mpr fun h _ => ?_)⟩
    split
    · refine ⟨rfl, List.forall₂_map_right_iff.mpr (List.forall₂_same.mpr fun x _ => ?_)⟩
      split
      · exact hf x
      · exact .refl x
    · exact .refl h
  · exact .refl r

theorem Entry.grows_add (x : Entry) (c : Cond) (start tick : Tick) : x.Grows (x.add c start tick) :=
  ⟨rfl, fun k hk => by simp [Entry.add, hk]⟩
theorem State.grows_condIn (s : State) (h : W32 × W32 × Tick) (e : Nat) (c : Cond) (t : Tick) : s.Grows (s.condIn h e c t) :=
  s.grows_modEntry _ _ _ fun x => x.grows_add _ _ _
theorem State.grows_lateIn (s : State) (h : W32 × W32 × Tick) (e : Nat) (t : Tick) : s.Grows (s.lateIn h e t) :=
  (s.grows_condIn h e .lateRelease t).trans (State.grows_modEntry _ _ _ _ fun _ => ⟨rfl, fun _ => id⟩)
theorem State.grows_each {α : Type} (l : List α) {f : State → α → State} (hf : ∀ (s : State) x, s.Grows (f s x)) (s : State) : s.Grows (s.each l f) :=
  State.each_inv (fun u => s.Grows u) l f (fun u x h => h.trans (hf u x)) s (.refl s)

/-! ### A condition marked (R35, R463) -/

/-- Each entry of an engine in a run's shot has a condition. -/
def State.Marked (s : State) (id idx : W32) (e : Nat) (c : Cond) : Prop :=
  ∀ r ∈ s.runs, r.id = id → ∀ h ∈ r.shots, h.index = idx → ∀ x ∈ h.entries, x.engine = e → x.mask.getLsbD c.code = true

theorem State.Marked.mono {s t : State} {id idx : W32} {e : Nat} {c : Cond} (h : s.Marked id idx e c) (hg : s.Grows t) : t.Marked id idx e c := by
  intro q hq hid g hgq hidx y hy he
  obtain ⟨r, hr, hrq⟩ := forall₂_exists_left hg hq
  obtain ⟨k, hk, hkg⟩ := forall₂_exists_left hrq.2 hgq
  obtain ⟨x, hx, hxy⟩ := forall₂_exists_left hkg.2 hy
  exact hxy.2 _ (h r hr (hrq.id_eq ▸ hid) k hk (hkg.index_eq ▸ hidx) x hx (hxy.1 ▸ he))

theorem Cond.code_lt (c : Cond) : c.code < 16 := by cases c <;> decide

/-- A condition of a shot is marked in it. -/
theorem State.marked_condIn (s : State) (h : W32 × W32 × Tick) (e : Nat) (c : Cond) (t : Tick) : (s.condIn h e c t).Marked h.1 h.2.1 e c := by
  intro q hq hid g hg hidx y hy he
  unfold State.condIn State.modEntry State.modShot State.modRun at hq
  obtain ⟨r, -, rfl⟩ := List.mem_map.mp hq
  split at hg
  · obtain ⟨k, -, rfl⟩ := List.mem_map.mp hg
    split at hy
    · obtain ⟨x, -, rfl⟩ := List.mem_map.mp hy
      split
      · have hbit : (1#16 <<< c.code).getLsbD c.code = true := by cases c <;> decide
        simp [Entry.add, hbit]
      · next hne =>
        rw [if_neg hne] at he
        exact absurd (beq_iff_eq.mpr he) hne
    · next hne =>
      rw [if_neg hne] at hidx
      exact absurd (beq_iff_eq.mpr hidx) hne
  · next hne =>
    rw [if_neg hne] at hid
    exact absurd (beq_iff_eq.mpr hid) hne

theorem State.Marked.of_run? {s : State} {id idx : W32} {e : Nat} {c : Cond} (h : s.Marked id idx e c) {r : Run} (hr : s.run? id = some r)
    {g : Shot} (hg : g ∈ r.shots) (hidx : g.index = idx) : ∀ x ∈ g.entries, x.engine = e → x.mask.getLsbD c.code = true :=
  h r (List.mem_of_find?_eq_some hr) (State.run?_id hr) g hg hidx

/-! ### Engines one by one -/

/-- Where each step changes its own engine alone, as a function of that engine, a list of engines is changed one by one. -/
theorem State.eng_each {f : State → Nat → State} {G : Nat → Engine → Engine} {I : State → Prop}
    (hI : ∀ u e, I u → I (f u e)) (hsame : ∀ u e, I u → (f u e).eng e = G e (u.eng e)) (hother : ∀ u e k, I u → k ≠ e → (f u e).eng k = u.eng k)
    (l : List Nat) (hl : l.Nodup) {s : State} (hs : I s) (k : Nat) : (s.each l f).eng k = if k ∈ l then G k (s.eng k) else s.eng k := by
  induction l generalizing s with
  | nil => rfl
  | cons e l ih =>
    obtain ⟨he, hl⟩ := List.nodup_cons.mp hl
    refine (ih hl (hI s e hs)).trans ?_
    by_cases hk : k = e
    · subst hk
      rw [if_neg he, if_pos List.mem_cons_self, hsame s k hs]
    · rw [hother s e k hs hk]
      simp [hk]

theorem Run.nodup_engs (r : Run) : r.engs.Nodup := List.nodup_range.filter _
theorem Run.mem_engs {r : Run} {k : Nat} : k ∈ r.engs ↔ r.has k = true := by
  unfold Run.engs Run.has
  rw [List.mem_filter, List.mem_range]
  exact ⟨fun h => h.2, fun h => ⟨BitVec.lt_of_getLsbD h, h⟩⟩

/-- What the step of one engine of a list establishes holds after the list, where later steps keep it. -/
theorem State.each_at {α : Type} {f : State → α → State} {R : State → State → Prop} (hrefl : ∀ u, R u u) (htrans : ∀ {a b c}, R a b → R b c → R a c)
    (hf : ∀ u x, R u (f u x)) (l : List α) {x : α} (hx : x ∈ l) (s : State) :
    ∃ a b, l = a ++ x :: b ∧ R (f (s.each a f) x) (s.each l f) := by
  obtain ⟨a, b, rfl⟩ := List.append_of_mem hx
  refine ⟨a, b, rfl, ?_⟩
  unfold State.each
  rw [List.foldl_append, List.foldl_cons]
  exact State.each_inv (fun u => R (f (a.foldl f s) x) u) b f (fun u y h => htrans h (hf u y)) _ (hrefl _)

end Sys2Proof.Machine
end

section
/-! PROOF. The start of a shot: its entries, its engines and the conditions marked at once (R32, R35, R45, R148, R207, R268, R334, R409). -/

namespace Sys2Proof.Machine

/-! ### One engine's part -/

/-- The engine with its program memory rewritten after an uncorrected error (R67). -/
def Engine.rewritten (g : Engine) : Engine :=
  match g.memErr with
  | none => g
  | some a => { g with memErr := none, memErrLast := some a }
/-- The engine at the start of a shot (R45). -/
def Engine.begun (g : Engine) (id idx : W32) (S : Tick) : Engine :=
  { g with t := Tbl.put g.t 0 S 0, c := 0, tc := S, pc := g.entry, stack := [],
           latches := g.latches.filter (fun l => decide (sdiff l.2.stamp S.stamp ≥ 0)), st := .running, wait := none, held := none,
           shot := some (id, idx, S), doneTick := none, lastRel := none, shotMin := none, firstLateQ := none }

/-- What becomes of an engine at the start of a shot: one that is denied, or has a handshake fault, does not start. -/
def Run.engineAt (r : Run) (S : Tick) (e : Nat) (g : Engine) : Engine :=
  if r.deniedAt e S || g.hsFault then g.rewritten else g.rewritten.begun r.id r.executed S

theorem Engine.rewritten_eq (g : Engine) : ∃ a b, g.rewritten = { g with memErr := a, memErrLast := b } := by
  unfold Engine.rewritten
  split
  · exact ⟨g.memErr, g.memErrLast, rfl⟩
  · exact ⟨none, _, rfl⟩
theorem Engine.hsFault_rewritten (g : Engine) : g.rewritten.hsFault = g.hsFault := by
  obtain ⟨a, b, h⟩ := g.rewritten_eq
  rw [h]

/-- The start of an engine's part, or why it does not start. -/
def State.startEffect (s : State) (r : Run) (S : Tick) (e : Nat) : State :=
  if r.deniedAt e S then s.condIn (r.id, r.executed, S) e .roleDenied S
  else if (s.eng e).hsFault then
    (s.condIn (r.id, r.executed, S) e .engineFault S).modEntry r.id r.executed e (fun x => { x with exc := 9 })
  else s.startEngine r.id r.executed S e
/-- A condition marked where it holds. -/
def State.condIf (s : State) (b : Bool) (h : W32 × W32 × Tick) (e : Nat) (c : Cond) : State := if b then s.condIn h e c h.2.2 else s
/-- An engine's part in the start of a shot. -/
def State.startOne (s : State) (r : Run) (S : Tick) (cleared unlocked : Bool) (e : Nat) : State :=
  (((((s.rewriteProg e).startEffect r S e).condIf cleared (r.id, r.executed, S) e .outputCleared).condIf unlocked (r.id, r.executed, S) e
    .timeUnlocked).rangeAtStart (r.id, r.executed, S) e)

/-- Outputs are cleared at the start of a shot (R148). -/
def State.clearedAt (s : State) (S : Tick) : Bool :=
  s.fault.clearTick.isSome || (match s.fault.releaseTick with | none => false | some t => decide ((S - t).toInt ≤ 0))
/-- The shot that starts. -/
def State.newShot (s : State) (r : Run) (S : Tick) : Shot :=
  ⟨r.executed, S, if r.desc.paced then none else some (S + r.desc.period.setWidth 64), false, r.engs.map (fun e => Entry.start e (s.pePhys e))⟩
/-- The run with a shot that starts. -/
def Run.withShot (h : Shot) (r : Run) : Run := { r with executed := r.executed + 1, nextStart := none, shots := r.shots ++ [h] }

theorem State.startShot_eq (s : State) (r : Run) (S : Tick) : s.startShot r S
    = ((s.modRun r.id (Run.withShot (s.newShot r S))).each r.engs (fun u e => u.startOne r S (s.clearedAt S) s.castUnlocked e)).publishSys 241 S
        (r.id.setWidth 16) := rfl

/-! ### What a start leaves alone -/

/-- What engines' starts leave alone. -/
def State.startRest (s : State) : State := { s with runs := [], engines := [], tones := [], prog := [] }

theorem State.startRest_condIf (s : State) (b : Bool) (h : W32 × W32 × Tick) (e : Nat) (c : Cond) : (s.condIf b h e c).startRest = s.startRest := by
  cases b <;> rfl
theorem State.startRest_rewriteProg (s : State) (e : Nat) : (s.rewriteProg e).startRest = s.startRest := by
  unfold State.rewriteProg
  dsimp only
  split <;> rfl
theorem State.startRest_startEngine (s : State) (id idx : W32) (S : Tick) (e : Nat) : (s.startEngine id idx S e).startRest = s.startRest := by
  unfold State.startEngine
  dsimp only
  rw [State.restoreFrames_eq]
  rfl
theorem State.startRest_startEffect (s : State) (r : Run) (S : Tick) (e : Nat) : (s.startEffect r S e).startRest = s.startRest := by
  unfold State.startEffect
  split
  · rfl
  · split
    · rfl
    · exact s.startRest_startEngine _ _ _ _
theorem State.startRest_rangeAtStart (s : State) (h : W32 × W32 × Tick) (e : Nat) : (s.rangeAtStart h e).startRest = s.startRest := by
  refine State.each_keeps State.startRest _ _ (fun u n => ?_) s
  split
  · rfl
  · split <;> rfl
theorem State.startRest_startOne (s : State) (r : Run) (S : Tick) (cleared unlocked : Bool) (e : Nat) :
    (s.startOne r S cleared unlocked e).startRest = s.startRest :=
  (State.startRest_rangeAtStart _ _ _).trans ((State.startRest_condIf _ _ _ _ _).trans ((State.startRest_condIf _ _ _ _ _).trans
    ((State.startRest_startEffect _ _ _ _).trans (s.startRest_rewriteProg e))))

/-! ### Entries grow -/

theorem State.grows_condIf (s : State) (b : Bool) (h : W32 × W32 × Tick) (e : Nat) (c : Cond) : s.Grows (s.condIf b h e c) := by
  cases b
  · exact .refl s
  · exact s.grows_condIn _ _ _ _
theorem State.grows_rewriteProg (s : State) (e : Nat) : s.Grows (s.rewriteProg e) := by
  refine .of_runs ?_
  unfold State.rewriteProg
  dsimp only
  split <;> rfl
theorem State.runs_startEngine (s : State) (id idx : W32) (S : Tick) (e : Nat) : (s.startEngine id idx S e).runs = s.runs := by
  unfold State.startEngine
  dsimp only
  rw [State.restoreFrames_eq]
  rfl
theorem State.grows_startEffect (s : State) (r : Run) (S : Tick) (e : Nat) : s.Grows (s.startEffect r S e) := by
  unfold State.startEffect
  split
  · exact s.grows_condIn _ _ _ _
  · split
    · exact (s.grows_condIn _ _ _ _).trans (State.grows_modEntry _ _ _ _ fun _ => ⟨rfl, fun _ => id⟩)
    · exact .of_runs (s.runs_startEngine _ _ _ _)
theorem State.grows_rangeAtStart (s : State) (h : W32 × W32 × Tick) (e : Nat) : s.Grows (s.rangeAtStart h e) := by
  refine State.grows_each _ (fun u n => ?_) s
  split
  · exact .refl u
  · split
    · exact u.grows_condIn _ _ _ _
    · exact .refl u
theorem State.grows_startOne (s : State) (r : Run) (S : Tick) (cleared unlocked : Bool) (e : Nat) : s.Grows (s.startOne r S cleared unlocked e) :=
  (s.grows_rewriteProg e).trans ((State.grows_startEffect _ r S e).trans ((State.grows_condIf _ _ _ _ _).trans ((State.grows_condIf _ _ _ _ _).trans
    (State.grows_rangeAtStart _ _ _))))

/-! ### The engine at its start -/

theorem State.engines_condIf (s : State) (b : Bool) (h : W32 × W32 × Tick) (e : Nat) (c : Cond) : (s.condIf b h e c).engines = s.engines := by
  cases b <;> rfl
theorem State.engines_rangeAtStart (s : State) (h : W32 × W32 × Tick) (e : Nat) : (s.rangeAtStart h e).engines = s.engines := by
  refine State.each_keeps State.engines _ _ (fun u n => ?_) s
  split
  · rfl
  · split <;> rfl
theorem State.engines_startOne (s : State) (r : Run) (S : Tick) (cleared unlocked : Bool) (e : Nat) :
    (s.startOne r S cleared unlocked e).engines = ((s.rewriteProg e).startEffect r S e).engines :=
  (State.engines_rangeAtStart _ _ _).trans ((State.engines_condIf _ _ _ _ _).trans (State.engines_condIf _ _ _ _ _))

section
variable {s : State} (hwf : Tbl.wf (fun _ => Engine.init) s.engines = true)
include hwf

theorem State.rewriteProg_engs (e : Nat) : Tbl.wf (fun _ => Engine.init) (s.rewriteProg e).engines = true
    ∧ (s.rewriteProg e).eng e = (s.eng e).rewritten ∧ ∀ k, k ≠ e → (s.rewriteProg e).eng k = s.eng k := by
  unfold State.rewriteProg Engine.rewritten
  dsimp only
  cases (s.eng e).memErr with
  | none => exact ⟨hwf, rfl, fun _ _ => rfl⟩
  | some a =>
    exact ⟨State.engines_wf_setEng _ e _ hwf, State.eng_setEng_same _ e _ hwf, fun k hk => State.eng_setEng_other _ e k _ hk⟩

theorem State.startEngine_engs (id idx : W32) (S : Tick) (e : Nat) : Tbl.wf (fun _ => Engine.init) (s.startEngine id idx S e).engines = true
    ∧ (s.startEngine id idx S e).eng e = (s.eng e).begun id idx S ∧ ∀ k, k ≠ e → (s.startEngine id idx S e).eng k = s.eng k := by
  have heq : (s.startEngine id idx S e).engines = (s.setEng e ((s.eng e).begun id idx S)).engines := by
    unfold State.startEngine
    dsimp only
    rw [State.restoreFrames_eq]
    rfl
  have heng : ∀ k, (s.startEngine id idx S e).eng k = (s.setEng e ((s.eng e).begun id idx S)).eng k := fun k =>
    congrArg (fun l => Tbl.get l k Engine.init) heq
  refine ⟨heq ▸ State.engines_wf_setEng s e _ hwf, (heng e).trans (State.eng_setEng_same s e _ hwf), fun k hk => (heng k).trans
    (State.eng_setEng_other s e k _ hk)⟩

theorem State.startEffect_engs (r : Run) (S : Tick) (e : Nat) : Tbl.wf (fun _ => Engine.init) (s.startEffect r S e).engines = true
    ∧ (s.startEffect r S e).eng e = (if r.deniedAt e S || (s.eng e).hsFault then s.eng e else (s.eng e).begun r.id r.executed S)
    ∧ ∀ k, k ≠ e → (s.startEffect r S e).eng k = s.eng k := by
  unfold State.startEffect
  cases hd : r.deniedAt e S with
  | true => exact ⟨hwf, rfl, fun _ _ => rfl⟩
  | false =>
    rw [if_neg (by decide), Bool.false_or]
    cases hf : (s.eng e).hsFault with
    | true => exact ⟨hwf, rfl, fun _ _ => rfl⟩
    | false => exact State.startEngine_engs hwf r.id r.executed S e

theorem State.startOne_engs (r : Run) (S : Tick) (cleared unlocked : Bool) (e : Nat) :
    Tbl.wf (fun _ => Engine.init) (s.startOne r S cleared unlocked e).engines = true
      ∧ (s.startOne r S cleared unlocked e).eng e = r.engineAt S e (s.eng e)
      ∧ ∀ k, k ≠ e → (s.startOne r S cleared unlocked e).eng k = s.eng k := by
  obtain ⟨hw, hsame, hother⟩ := State.rewriteProg_engs hwf e
  obtain ⟨hw', hsame', hother'⟩ := State.startEffect_engs hw r S e
  have heq := s.engines_startOne r S cleared unlocked e
  have heng : ∀ k, (s.startOne r S cleared unlocked e).eng k = ((s.rewriteProg e).startEffect r S e).eng k := fun k =>
    congrArg (fun l => Tbl.get l k Engine.init) heq
  refine ⟨heq ▸ hw', (heng e).trans (hsame'.trans ?_), fun k hk => (heng k).trans ((hother' k hk).trans (hother k hk))⟩
  rw [hsame, Engine.hsFault_rewritten]
  rfl

/-- The conditions that an engine's part in the start marks at once. -/
theorem State.startOne_marks (r : Run) (S : Tick) (cleared unlocked : Bool) (e : Nat) :
    (cleared = true → (s.startOne r S cleared unlocked e).Marked r.id r.executed e .outputCleared)
      ∧ (unlocked = true → (s.startOne r S cleared unlocked e).Marked r.id r.executed e .timeUnlocked)
      ∧ (r.deniedAt e S = true → (s.startOne r S cleared unlocked e).Marked r.id r.executed e .roleDenied)
      ∧ (r.deniedAt e S = false → (s.eng e).hsFault = true → (s.startOne r S cleared unlocked e).Marked r.id r.executed e .engineFault) := by
  have hfault : ((s.rewriteProg e).eng e).hsFault = (s.eng e).hsFault := by
    rw [(State.rewriteProg_engs hwf e).2.1, Engine.hsFault_rewritten]
  unfold State.startOne
  generalize s.rewriteProg e = u at hfault
  have hlast : ∀ w : State, w.Grows ((w.condIf unlocked (r.id, r.executed, S) e .timeUnlocked).rangeAtStart (r.id, r.executed, S) e) := fun w =>
    (w.grows_condIf _ _ _ _).trans (State.grows_rangeAtStart _ _ _)
  have hafter : ∀ w : State, w.Grows (((w.condIf cleared (r.id, r.executed, S) e .outputCleared).condIf unlocked (r.id, r.executed, S) e
      .timeUnlocked).rangeAtStart (r.id, r.executed, S) e) := fun w => (w.grows_condIf _ _ _ _).trans (hlast _)
  refine ⟨fun h => ?_, fun h => ?_, fun h => ?_, fun h hf => ?_⟩
  · subst h
    exact (State.marked_condIn _ (r.id, r.executed, S) e .outputCleared S).mono (hlast _)
  · subst h
    exact (State.marked_condIn _ (r.id, r.executed, S) e .timeUnlocked S).mono (State.grows_rangeAtStart _ _ _)
  · refine State.Marked.mono ?_ (hafter _)
    unfold State.startEffect
    rw [if_pos h]
    exact u.marked_condIn (r.id, r.executed, S) e .roleDenied S
  · refine State.Marked.mono ?_ (hafter _)
    unfold State.startEffect
    rw [if_neg (by simp [h]), if_pos (hfault.trans hf)]
    exact (u.marked_condIn (r.id, r.executed, S) e .engineFault S).mono (State.grows_modEntry _ _ _ _ fun _ => ⟨rfl, fun _ => id⟩)

end

/-! ### The start of a shot -/

theorem mem_inputsOf_flag (s : State) (ch : Byte) (remote : Bool) : TaskInput.flag ch ∈ s.inputsOf ch remote := by
  simp [State.inputsOf]

/-- A system event of the module changes SPR_CH_LAST, and its inputs have it. -/
theorem State.publishSys_spec (s : State) (ch : Byte) (t : Tick) (p : BitVec 16) : ∃ r l, s.publishSys ch t p = { s with regs := r, waiting := l }
    ∧ (TaskInput.flag ch, localEv ch t.stamp p 1 0x0F9) ∈ l := by
  obtain ⟨r, h⟩ := s.publish_of_hop (v := localEv ch t.stamp p 1 0x0F9) rfl
  exact ⟨r, _, h, List.mem_append_right _ (List.mem_map_of_mem (mem_inputsOf_flag _ _ _))⟩

/-- The state of a shot's start, before its event is published. -/
def State.begun (s : State) (r : Run) (S : Tick) : State :=
  (s.modRun r.id (Run.withShot (s.newShot r S))).each r.engs (fun u e => u.startOne r S (s.clearedAt S) s.castUnlocked e)

theorem State.begun_frame (s : State) (r : Run) (S : Tick) : ∃ l g x p, s.begun r S = { s with runs := l, engines := g, tones := x, prog := p } := by
  have h : (s.begun r S).startRest = s.startRest := State.each_keeps State.startRest _ _ (fun u e => u.startRest_startOne _ _ _ _ _) _
  generalize s.begun r S = t at h ⊢
  exact ⟨t.runs, t.engines, t.tones, t.prog,
    (congrArg (fun u : State => { u with runs := t.runs, engines := t.engines, tones := t.tones, prog := t.prog }) h :)⟩

/-- The run has the shot that started, with one entry for each of its engines. -/
theorem State.begun_run {s : State} {r : Run} (hr : s.run? r.id = some r) (S : Tick) : ∃ q sh, (s.begun r S).run? r.id = some q
    ∧ q.executed = r.executed + 1 ∧ q.nextStart = none ∧ sh ∈ q.shots ∧ sh.bare = (s.newShot r S).bare
    ∧ sh.entries.map (fun y => y.engine) = r.engs := by
  have hgrows : (s.modRun r.id (Run.withShot (s.newShot r S))).Grows (s.begun r S) :=
    State.grows_each _ (fun u e => u.grows_startOne _ _ _ _ _) _
  obtain ⟨q, hq, hrun, hshots⟩ := hgrows.run? (State.run?_modRun_some hr (f := Run.withShot (s.newShot r S)) fun _ => rfl)
  obtain ⟨sh, hsh, hg⟩ := forall₂_exists_right hshots (a := s.newShot r S) (List.mem_append_right _ (List.mem_singleton.mpr rfl))
  refine ⟨q, sh, hq, (congrArg (fun z : Run => z.executed) hrun :), (congrArg (fun z : Run => z.nextStart) hrun :), hsh, hg.1, ?_⟩
  rw [hg.engines_eq, State.newShot, List.map_map]
  exact List.map_id' _

/-- Engines that start one by one. -/
theorem State.eng_each_startOne {s : State} (hwf : Tbl.wf (fun _ => Engine.init) s.engines = true) (r : Run) (S : Tick) (cleared unlocked : Bool)
    (l : List Nat) (hl : l.Nodup) (k : Nat) :
    (s.each l (fun u e => u.startOne r S cleared unlocked e)).eng k = if k ∈ l then r.engineAt S k (s.eng k) else s.eng k :=
  State.eng_each (G := fun e => r.engineAt S e) (I := fun u => Tbl.wf (fun _ => Engine.init) u.engines = true)
    (fun _ e hu => (State.startOne_engs hu r S cleared unlocked e).1) (fun _ e hu => (State.startOne_engs hu r S cleared unlocked e).2.1)
    (fun _ e k hu => (State.startOne_engs hu r S cleared unlocked e).2.2 k) l hl hwf k

theorem State.begun_eng {s : State} (hwf : Tbl.wf (fun _ => Engine.init) s.engines = true) (r : Run) (S : Tick) (k : Nat) :
    (s.begun r S).eng k = if k ∈ r.engs then r.engineAt S k (s.eng k) else s.eng k :=
  State.eng_each_startOne (s := s.modRun r.id (Run.withShot (s.newShot r S))) hwf r S _ _ r.engs r.nodup_engs k

/-- The conditions marked in the shot that started. -/
theorem State.begun_marks {s : State} (hwf : Tbl.wf (fun _ => Engine.init) s.engines = true) {r : Run} (S : Tick) {e : Nat} (he : r.has e = true) :
    (s.clearedAt S = true → (s.begun r S).Marked r.id r.executed e .outputCleared)
      ∧ (s.castUnlocked = true → (s.begun r S).Marked r.id r.executed e .timeUnlocked)
      ∧ (r.deniedAt e S = true → (s.begun r S).Marked r.id r.executed e .roleDenied)
      ∧ (r.deniedAt e S = false → (s.eng e).hsFault = true → (s.begun r S).Marked r.id r.executed e .engineFault) := by
  obtain ⟨a, b, hl, hgrows⟩ := State.each_at (R := State.Grows) (f := fun u e => u.startOne r S (s.clearedAt S) s.castUnlocked e) State.Grows.refl
    State.Grows.trans (fun u e => u.grows_startOne _ _ _ _ _) r.engs (Run.mem_engs.mpr he) (s.modRun r.id (Run.withShot (s.newShot r S)))
  have hnodup : (a ++ e :: b).Nodup := hl ▸ r.nodup_engs
  have hwfa : Tbl.wf (fun _ => Engine.init) ((s.modRun r.id (Run.withShot (s.newShot r S))).each a
      (fun u e => u.startOne r S (s.clearedAt S) s.castUnlocked e)).engines = true :=
    State.each_inv (fun u => Tbl.wf (fun _ => Engine.init) u.engines = true) a _ (fun _ e hu => (State.startOne_engs hu r S _ _ e).1) _ hwf
  have heng : ((s.modRun r.id (Run.withShot (s.newShot r S))).each a
      (fun u e => u.startOne r S (s.clearedAt S) s.castUnlocked e)).eng e = s.eng e := by
    refine (State.eng_each_startOne (s := s.modRun r.id (Run.withShot (s.newShot r S))) hwf r S _ _ a (List.nodup_append.mp hnodup).1 e).trans
      (if_neg fun hmem => ?_)
    exact (List.nodup_append.mp hnodup).2.2 e hmem e List.mem_cons_self rfl
  obtain ⟨hcleared, hunlocked, hdenied, hfault⟩ := State.startOne_marks hwfa r S (s.clearedAt S) s.castUnlocked e
  rw [heng] at hfault
  exact ⟨fun h => (hcleared h).mono hgrows, fun h => (hunlocked h).mono hgrows, fun h => (hdenied h).mono hgrows,
    fun h hf => (hfault h hf).mono hgrows⟩

end Sys2Proof.Machine
end

section
/-! PROOF. The end of a shot: its engines' parts end, an engine that has not ended overruns, and the run's next start is known (R32, R33,
R104). -/

namespace Sys2Proof.Machine

/-! ### An engine's part in the end -/

/-- An engine that executes, waits for an event, or waits to enqueue. -/
def Engine.busy (g : Engine) : Bool := g.st == .running || g.st == .waiting || g.st == .queueFull
/-- What becomes of an engine in a shot that ends: one still busy is stopped, its items are dropped, and it is in no shot. -/
def Engine.endedAt (g : Engine) (id idx : W32) (E : Tick) : Engine :=
  match g.shot with
  | none => g
  | some h => if h.1 = id ∧ h.2.1 = idx then { (if g.busy then g.halted E else g).emptied with shot := none } else g

/-- The runs and the engines. -/
def State.runsAndEngs (s : State) : List Run × Tbl Engine := (s.runs, s.engines)

theorem State.runsAndEngs_withSent (s : State) (l : List Session) (n : List Sent) : (s.withSent l n).runsAndEngs = s.runsAndEngs := rfl
theorem State.runsAndEngs_count (s : State) (a hi lo n : Nat) : (s.count a hi lo n).runsAndEngs = s.runsAndEngs := rfl
theorem State.runsAndEngs_setFld (s : State) (a hi lo v : Nat) : (s.setFld a hi lo v).runsAndEngs = s.runsAndEngs := rfl
theorem State.runsAndEngs_setTone (s : State) (t : Nat) (x : Tone) : (s.setTone t x).runsAndEngs = s.runsAndEngs := rfl
theorem State.runsAndEngs_passEnd (s : State) (t : Nat) (p : Play) (n : Nat) : (s.passEnd t p n).runsAndEngs = s.runsAndEngs := by
  unfold State.passEnd
  dsimp only
  split
  · obtain ⟨l, m, h⟩ := State.notify_eq (s.count (aPlyUndr (toneChan t) (toneIdx t)) 31 0 (p.fillPlayed (s.seg p.seg.toNat) n)) _ _ _
    rw [h]
    exact (State.runsAndEngs_withSent _ _ _).trans (s.runsAndEngs_count _ _ _ _)
  · exact s.runsAndEngs_count _ _ _ _
theorem State.runsAndEngs_silence (s : State) (t n : Nat) : (s.silence t n).runsAndEngs = s.runsAndEngs := by
  unfold State.silence State.stopPlay
  split
  · exact s.runsAndEngs_setTone _ _
  · exact (State.runsAndEngs_setTone _ _ _).trans ((State.runsAndEngs_passEnd _ _ _ _).trans (s.runsAndEngs_setTone _ _))
theorem State.runsAndEngs_dropItems (s : State) (e : Nat) (t : Tick) :
    (s.dropItems e t).runsAndEngs = (s.runs, (s.setEng e (s.eng e).emptied).engines) := by
  have h := State.each_keeps State.runsAndEngs (engTones e) (fun u n => u.silence n (12 * t.toNat)) (fun u n => u.runsAndEngs_silence n _)
    (s.setEng e (s.eng e).emptied)
  exact h

theorem State.engines_setReg_setEng (s : State) (a : Nat) (w : W32) (e : Nat) (g : Engine) :
    ((s.setReg a w).setEng e g).engines = (s.setEng e g).engines := rfl
theorem State.engines_raiseExc (s : State) (e n : Nat) (t : Tick) : (s.raiseExc e n t).engines = (s.setEng e ((s.eng e).halted t)).engines := by
  rw [State.raiseExc_eq]
  generalize BitVec.ofNat 32 (n * 2 ^ 24 + 2 ^ 15 + (s.eng e).pc % 2 ^ 15) = w
  obtain ⟨u, h⟩ := (s.showExc e w t).recordExc_eq e n t (s.eng e).shot
  exact (congrArg State.engines h).trans (s.engines_setReg_setEng _ w e _)

theorem State.runs_showExc (s : State) (e : Nat) (w : W32) (t : Tick) : (s.showExc e w t).runs = s.runs := rfl
theorem State.grows_recordExc (s : State) (e n : Nat) (t : Tick) (shot : Option (W32 × W32 × Tick)) : s.Grows (s.recordExc e n t shot) := by
  cases shot with
  | none => exact .refl s
  | some h => exact (s.grows_condIn h e .engineFault t).trans (State.grows_modEntry _ _ _ _ fun _ => ⟨rfl, fun _ => id⟩)
theorem State.grows_raiseExc (s : State) (e n : Nat) (t : Tick) : s.Grows (s.raiseExc e n t) := by
  rw [State.raiseExc_eq]
  generalize BitVec.ofNat 32 (n * 2 ^ 24 + 2 ^ 15 + (s.eng e).pc % 2 ^ 15) = w
  exact State.Grows.trans (.of_runs (s.runs_showExc e w t)) (State.grows_recordExc _ _ _ _ _)
theorem State.marked_raiseExc (s : State) {e : Nat} (n : Nat) (t : Tick) {h : W32 × W32 × Tick} (hshot : (s.eng e).shot = some h) :
    (s.raiseExc e n t).Marked h.1 h.2.1 e .engineFault := by
  rw [State.raiseExc_eq, hshot]
  exact (State.marked_condIn _ h e .engineFault t).mono (State.grows_modEntry _ _ _ _ fun _ => ⟨rfl, fun _ => id⟩)

/-- The exception of an engine that is still busy at the end of its shot (R104). -/
def State.overrun (s : State) (e : Nat) (E : Tick) : State := if (s.eng e).busy then s.raiseExc e 6 E else s

theorem State.grows_overrun (s : State) (e : Nat) (E : Tick) : s.Grows (s.overrun e E) := by
  unfold State.overrun
  split
  · exact s.grows_raiseExc _ _ _
  · exact .refl s
theorem State.engs_overrun {s : State} (hwf : Tbl.wf (fun _ => Engine.init) s.engines = true) (e : Nat) (E : Tick) :
    Tbl.wf (fun _ => Engine.init) (s.overrun e E).engines = true
      ∧ (s.overrun e E).eng e = (if (s.eng e).busy then (s.eng e).halted E else s.eng e)
      ∧ ∀ k, k ≠ e → (s.overrun e E).eng k = s.eng k := by
  unfold State.overrun
  split
  · have heq := s.engines_raiseExc e 6 E
    have heng : ∀ k, (s.raiseExc e 6 E).eng k = (s.setEng e ((s.eng e).halted E)).eng k := fun k => congrArg (fun l => Tbl.get l k Engine.init) heq
    exact ⟨heq ▸ s.engines_wf_setEng e _ hwf, (heng e).trans (s.eng_setEng_same e _ hwf), fun k hk => (heng k).trans (s.eng_setEng_other e k _ hk)⟩
  · exact ⟨hwf, rfl, fun _ _ => rfl⟩

/-- An engine's part in the end, where it is in the shot: what it leaves of runs and engines. -/
theorem State.endEngine_of_shot {s : State} {id idx : W32} {e : Nat} {h : W32 × W32 × Tick} (hshot : (s.eng e).shot = some h)
    (hmine : h.1 = id ∧ h.2.1 = idx) (E : Tick) : ∃ u : State, u.runsAndEngs = ((s.overrun e E).dropItems e E).runsAndEngs
      ∧ s.endEngine id idx E false e = u.setEng e { u.eng e with shot := none } := by
  unfold State.endEngine
  dsimp only
  rw [hshot]
  dsimp only
  rw [if_pos hmine]
  refine ⟨_, ?_, rfl⟩
  refine (State.runsAndEngs_setFld _ _ _ _ _).trans ((State.runsAndEngs_setFld _ _ _ _ _).trans ?_)
  unfold State.overrun Engine.busy
  cases hb : ((s.eng e).st == .running || (s.eng e).st == .waiting || (s.eng e).st == .queueFull) <;> rfl

theorem State.endEngine_of_other {s : State} {id idx : W32} {e : Nat} (h : ∀ x, (s.eng e).shot = some x → ¬ (x.1 = id ∧ x.2.1 = idx)) (E : Tick) :
    s.endEngine id idx E false e = s ∧ (s.eng e).endedAt id idx E = s.eng e := by
  unfold State.endEngine Engine.endedAt
  dsimp only
  cases hshot : (s.eng e).shot with
  | none => exact ⟨rfl, rfl⟩
  | some x =>
    dsimp only
    rw [if_neg (h x hshot), if_neg (h x hshot)]
    exact ⟨rfl, rfl⟩

/-- An engine's part in the end changes that engine alone, and conditions of entries grow. -/
theorem State.endEngine_spec {s : State} (hwf : Tbl.wf (fun _ => Engine.init) s.engines = true) (id idx : W32) (E : Tick) (e : Nat) :
    Tbl.wf (fun _ => Engine.init) (s.endEngine id idx E false e).engines = true
      ∧ (s.endEngine id idx E false e).eng e = (s.eng e).endedAt id idx E
      ∧ (∀ k, k ≠ e → (s.endEngine id idx E false e).eng k = s.eng k) ∧ s.Grows (s.endEngine id idx E false e) := by
  by_cases hmine : ∃ x, (s.eng e).shot = some x ∧ x.1 = id ∧ x.2.1 = idx
  · obtain ⟨x, hshot, hx⟩ := hmine
    obtain ⟨u, hu, heq⟩ := State.endEngine_of_shot hshot hx E
    rw [State.runsAndEngs_dropItems] at hu
    have hruns : u.runs = (s.overrun e E).runs := congrArg Prod.fst hu
    have hengs : u.engines = ((s.overrun e E).setEng e ((s.overrun e E).eng e).emptied).engines := congrArg Prod.snd hu
    obtain ⟨hw, hsame, hother⟩ := State.engs_overrun hwf e E
    have hwu : Tbl.wf (fun _ => Engine.init) u.engines = true := hengs ▸ State.engines_wf_setEng _ e _ hw
    have heng : ∀ k, u.eng k = ((s.overrun e E).setEng e ((s.overrun e E).eng e).emptied).eng k := fun k =>
      congrArg (fun l => Tbl.get l k Engine.init) hengs
    have hgrows : s.Grows u := (s.grows_overrun e E).trans (.of_runs hruns)
    rw [heq]
    refine ⟨u.engines_wf_setEng e _ hwu, (u.eng_setEng_same e _ hwu).trans ?_, fun k hk => (u.eng_setEng_other e k _ hk).trans ((heng k).trans
      ((State.eng_setEng_other _ e k _ hk).trans (hother k hk))), hgrows.trans (.of_runs rfl)⟩
    unfold Engine.endedAt
    rw [heng e, State.eng_setEng_same _ e _ hw, hsame, hshot]
    dsimp only
    rw [if_pos hx]
  · obtain ⟨hkeep, hend⟩ := State.endEngine_of_other (s := s) (id := id) (idx := idx) (e := e) (fun x hx hm => hmine ⟨x, hx, hm⟩) E
    rw [hkeep, hend]
    exact ⟨hwf, rfl, fun _ _ => rfl, .refl s⟩

/-- An engine that overruns its shot is marked in it. -/
theorem State.marked_endEngine {s : State} {id idx : W32} {e : Nat} {S : Tick} (hshot : (s.eng e).shot = some (id, idx, S))
    (hbusy : (s.eng e).busy = true) (E : Tick) : (s.endEngine id idx E false e).Marked id idx e .engineFault := by
  obtain ⟨u, hu, heq⟩ := State.endEngine_of_shot hshot ⟨rfl, rfl⟩ E
  rw [State.runsAndEngs_dropItems] at hu
  have hruns : u.runs = (s.overrun e E).runs := congrArg Prod.fst hu
  rw [heq]
  refine State.Marked.mono (s := s.overrun e E) ?_ (State.Grows.trans (.of_runs hruns) (.of_runs rfl))
  unfold State.overrun
  rw [if_pos hbusy]
  exact s.marked_raiseExc 6 E hshot

/-! ### All engines of the shot -/

/-- The parts of a run's engines in the end of a shot. -/
def State.endedParts (s : State) (r : Run) (idx : W32) (E : Tick) : State := s.each r.engs (fun u e => u.endEngine r.id idx E false e)

theorem State.wf_each_endEngine {s : State} (hwf : Tbl.wf (fun _ => Engine.init) s.engines = true) (id idx : W32) (E : Tick) (l : List Nat) :
    Tbl.wf (fun _ => Engine.init) (s.each l (fun u e => u.endEngine id idx E false e)).engines = true :=
  State.each_inv (fun u => Tbl.wf (fun _ => Engine.init) u.engines = true) l _ (fun _ e hu => (State.endEngine_spec hu id idx E e).1) _ hwf
theorem State.eng_each_endEngine {s : State} (hwf : Tbl.wf (fun _ => Engine.init) s.engines = true) (id idx : W32) (E : Tick) (l : List Nat)
    (hl : l.Nodup) (k : Nat) :
    (s.each l (fun u e => u.endEngine id idx E false e)).eng k = if k ∈ l then (s.eng k).endedAt id idx E else s.eng k :=
  State.eng_each (G := fun _ g => g.endedAt id idx E) (I := fun u => Tbl.wf (fun _ => Engine.init) u.engines = true)
    (fun _ e hu => (State.endEngine_spec hu id idx E e).1) (fun _ e hu => (State.endEngine_spec hu id idx E e).2.1)
    (fun _ e k hu => (State.endEngine_spec hu id idx E e).2.2.1 k) l hl hwf k

theorem State.grows_each_endEngine {s : State} (hwf : Tbl.wf (fun _ => Engine.init) s.engines = true) (id idx : W32) (E : Tick) (l : List Nat) :
    s.Grows (s.each l (fun u e => u.endEngine id idx E false e)) :=
  (State.each_inv (fun u => Tbl.wf (fun _ => Engine.init) u.engines = true ∧ s.Grows u) l _ (fun _ e hu =>
    ⟨(State.endEngine_spec hu.1 id idx E e).1, hu.2.trans (State.endEngine_spec hu.1 id idx E e).2.2.2⟩) _ ⟨hwf, .refl s⟩).2

/-- After the engines' parts, an engine that overran is marked in the shot. -/
theorem State.marked_endedParts {s : State} (hwf : Tbl.wf (fun _ => Engine.init) s.engines = true) {r : Run} {idx : W32} {e : Nat} {S : Tick}
    (he : r.has e = true) (hshot : (s.eng e).shot = some (r.id, idx, S)) (hbusy : (s.eng e).busy = true) (E : Tick) :
    (s.endedParts r idx E).Marked r.id idx e .engineFault := by
  obtain ⟨a, b, hl⟩ := List.append_of_mem (Run.mem_engs.mpr he)
  have hnodup : (a ++ e :: b).Nodup := hl ▸ r.nodup_engs
  have hwfa := State.wf_each_endEngine hwf r.id idx E a
  have heng : (s.each a (fun u e => u.endEngine r.id idx E false e)).eng e = s.eng e :=
    (State.eng_each_endEngine hwf r.id idx E a (List.nodup_append.mp hnodup).1 e).trans
      (if_neg fun hmem => (List.nodup_append.mp hnodup).2.2 e hmem e List.mem_cons_self rfl)
  have hsplit : s.endedParts r idx E = (((s.each a (fun u e => u.endEngine r.id idx E false e)).endEngine r.id idx E false e).each b
      (fun u e => u.endEngine r.id idx E false e)) := by
    unfold State.endedParts State.each
    rw [hl, List.foldl_append, List.foldl_cons]
  rw [hsplit]
  exact (State.marked_endEngine (heng ▸ hshot) (heng ▸ hbusy) E).mono
    (State.grows_each_endEngine (State.endEngine_spec hwfa r.id idx E e).1 r.id idx E b)

/-! ### The end of a shot -/

/-- Windows cut at the end of a shot. -/
def State.cutAll (s : State) (r : Run) (E : Tick) : State :=
  s.each (r.clusters.flatMap (fun k => (List.range 4).map (fun i => 4 * k + i))) (fun s ch =>
    s.cutWins ch E (fun w => match w.shot with
      | none => false
      | some x => x.1 == r.id && (false || x.2 == E)))
/-- The shot as ended. -/
def Shot.endedAt (E : Tick) (h : Shot) : Shot := { h with ended := true, endTick := some E }
/-- The run after a shot of it has ended. -/
def Run.afterShot (E : Tick) (r : Run) : Run :=
  { r with endTick := E
           nextStart := if r.noMore then none else some (if r.desc.paced then E + r.desc.gap.setWidth 64 else E) }

theorem State.endShot_eq (s : State) (r : Run) (h : Shot) (E : Tick) : s.endShot r h E none
    = ((((((s.endedParts r h.index E).cutAll r E).modShot r.id h.index (Shot.endedAt E)).settleDues r (r.id, h.index, h.start) E).modRun r.id
        (Run.afterShot E)).publishSys 242 E (r.id.setWidth 16)) := rfl

theorem State.runsAndEngs_cutWins (s : State) (ch : Nat) (E : Tick) (p : Win → Bool) : (s.cutWins ch E p).runsAndEngs = s.runsAndEngs :=
  State.runsAndEngs_count _ _ _ _ _
theorem State.runsAndEngs_cutAll (s : State) (r : Run) (E : Tick) : (s.cutAll r E).runsAndEngs = s.runsAndEngs :=
  State.each_keeps State.runsAndEngs _ _ (fun u ch => u.runsAndEngs_cutWins ch E _) s

theorem State.settleDues_spec (s : State) (r : Run) (h : W32 × W32 × Tick) (E : Tick) :
    s.Grows (s.settleDues r h E) ∧ (s.settleDues r h E).engines = s.engines := by
  unfold State.settleDues
  dsimp only
  constructor
  · have hcleared : ∀ l, s.Grows { s with dues := l } := fun l => .of_runs rfl
    refine (hcleared _).trans (State.grows_each _ (fun u d => ?_) _)
    split
    · exact u.grows_lateIn _ _ _
    · exact u.grows_condIn _ _ _ _
  · refine (State.each_keeps State.engines _ _ (fun u d => ?_) _).trans rfl
    split <;> rfl

/-- A mark stays where shots keep their indices and entries. -/
theorem State.Marked.modShot {s : State} {id idx : W32} {e : Nat} {c : Cond} (hm : s.Marked id idx e c) (E : Tick) (id' idx' : W32) :
    (s.modShot id' idx' (Shot.endedAt E)).Marked id idx e c := by
  intro q hq hid g hg hidx
  unfold State.modShot State.modRun at hq
  obtain ⟨r, hr, rfl⟩ := List.mem_map.mp hq
  by_cases hrun : (r.id == id') = true
  · rw [if_pos hrun] at hg hid
    obtain ⟨k, hk, rfl⟩ := List.mem_map.mp hg
    by_cases hkx : (k.index == idx') = true
    · rw [if_pos hkx] at hidx ⊢
      exact hm r hr hid k hk hidx
    · rw [if_neg hkx] at hidx ⊢
      exact hm r hr hid k hk hidx
  · rw [if_neg hrun] at hg hid
    exact hm r hr hid g hg hidx
theorem State.Marked.modRun {s : State} {id idx : W32} {e : Nat} {c : Cond} (hm : s.Marked id idx e c) (id' : W32) {f : Run → Run}
    (hf : ∀ r, (f r).id = r.id ∧ (f r).shots = r.shots) : (s.modRun id' f).Marked id idx e c := by
  intro q hq hid g hg
  unfold State.modRun at hq
  obtain ⟨r, hr, rfl⟩ := List.mem_map.mp hq
  by_cases hrun : (r.id == id') = true
  · rw [if_pos hrun] at hg hid
    rw [(hf r).2] at hg
    exact hm r hr ((hf r).1 ▸ hid) g hg
  · rw [if_neg hrun] at hg hid
    exact hm r hr hid g hg

/-- The state of a shot's end, before its event is published. -/
def State.shotEnded (s : State) (r : Run) (h : Shot) (E : Tick) : State :=
  ((((s.endedParts r h.index E).cutAll r E).modShot r.id h.index (Shot.endedAt E)).settleDues r (r.id, h.index, h.start) E).modRun r.id
    (Run.afterShot E)

theorem State.endShot_eq_publish (s : State) (r : Run) (h : Shot) (E : Tick) :
    s.endShot r h E none = (s.shotEnded r h E).publishSys 242 E (r.id.setWidth 16) := rfl

section
variable {s : State} (hwf : Tbl.wf (fun _ => Engine.init) s.engines = true) {r : Run} (h : Shot) (E : Tick)
include hwf

theorem State.shotEnded_eng (k : Nat) : (s.shotEnded r h E).eng k = if k ∈ r.engs then (s.eng k).endedAt r.id h.index E else s.eng k := by
  have hcut : ((s.endedParts r h.index E).cutAll r E).engines = (s.endedParts r h.index E).engines :=
    congrArg Prod.snd ((s.endedParts r h.index E).runsAndEngs_cutAll r E)
  have hengs : (s.shotEnded r h E).engines = (s.endedParts r h.index E).engines :=
    (State.settleDues_spec _ r (r.id, h.index, h.start) E).2.trans hcut
  exact (congrArg (fun l => Tbl.get l k Engine.init) hengs).trans (State.eng_each_endEngine hwf r.id h.index E r.engs r.nodup_engs k)

theorem State.shotEnded_marked {e : Nat} {S : Tick} (he : r.has e = true) (hshot : (s.eng e).shot = some (r.id, h.index, S))
    (hbusy : (s.eng e).busy = true) : (s.shotEnded r h E).Marked r.id h.index e .engineFault := by
  have hcut : ((s.endedParts r h.index E).cutAll r E).runs = (s.endedParts r h.index E).runs :=
    congrArg Prod.fst ((s.endedParts r h.index E).runsAndEngs_cutAll r E)
  have hparts := (State.marked_endedParts hwf he hshot hbusy E).mono (.of_runs hcut)
  exact ((hparts.modShot E r.id h.index).mono (State.settleDues_spec _ r (r.id, h.index, h.start) E).1).modRun r.id fun _ => ⟨rfl, rfl⟩

/-- The run after the end: its end tick and next start, and the shot ended. -/
theorem State.shotEnded_run (hr : s.run? r.id = some r) : ∃ q, (s.shotEnded r h E).run? r.id = some q ∧ q.endTick = E ∧ q.noMore = r.noMore
    ∧ q.nextStart = (if r.noMore then none else some (if r.desc.paced then E + r.desc.gap.setWidth 64 else E))
    ∧ (∀ y ∈ q.shots, y.index = h.index → y.ended = true ∧ y.endTick = some E) ∧ q.shots.length = r.shots.length := by
  have hcut : ((s.endedParts r h.index E).cutAll r E).runs = (s.endedParts r h.index E).runs :=
    congrArg Prod.fst ((s.endedParts r h.index E).runsAndEngs_cutAll r E)
  obtain ⟨q, hq, hrun, hshots⟩ := ((State.grows_each_endEngine hwf r.id h.index E r.engs).trans (.of_runs hcut)).run? hr
  have hended := State.run?_modRun_some hq
    (f := fun q => { q with shots := q.shots.map (fun k => if k.index == h.index then k.endedAt E else k) }) fun _ => rfl
  obtain ⟨p, hp, hrun', hshots'⟩ := (State.settleDues_spec _ r (r.id, h.index, h.start) E).1.run? hended
  have hmore : p.noMore = r.noMore :=
    (congrArg (fun z : Run => z.noMore) hrun' :).trans (congrArg (fun z : Run => z.noMore) hrun :)
  have hdesc : p.desc = r.desc := (congrArg (fun z : Run => z.desc) hrun' :).trans (congrArg (fun z : Run => z.desc) hrun :)
  refine ⟨p.afterShot E, State.run?_modRun_some hp fun _ => rfl, rfl, hmore, ?_, fun y hy hidx => ?_, ?_⟩
  · unfold Run.afterShot
    rw [hmore, hdesc]
  · obtain ⟨z, hz, hg⟩ := forall₂_exists_left hshots' hy
    obtain ⟨k, -, rfl⟩ := List.mem_map.mp hz
    have hindex : y.index = k.index := by
      rw [hg.index_eq]
      split <;> rfl
    rw [if_pos (beq_iff_eq.mpr (hindex.symm.trans hidx))] at hg
    exact ⟨(congrArg (fun x : Shot => x.ended) hg.1 :), (congrArg (fun x : Shot => x.endTick) hg.1 :)⟩
  · exact hshots'.length_eq.symm.trans ((List.length_map _).trans hshots.length_eq.symm)

end

end Sys2Proof.Machine
end

section
/-! SUPPORT. What a run becomes when it is settled or stopped, and the record of a shot that closes (R34-R36, R38, R42, R254, R463). -/

namespace Sys2Proof.Machine

/-! ### Records that stay (R36, R38) -/

theorem State.resultKeys_addResult (s : State) (y : ResRec) : (s.addResult y).resultKeys = s.resultKeys ++ [(y.run, y.shot, y.bytes)] := by
  obtain ⟨r, l, n, hhigh⟩ := State.highWater_eq { s with results := s.results ++ [y] }
  have hoffer : (s.addResult y).offerRest = _ := State.offerRest_offerResults _ y.run
  rw [hhigh] at hoffer
  refine (State.resultKeys_of_offerRest hoffer).trans ?_
  exact List.map_append

theorem State.mem_results_of_key {s : State} {id : W32} {i : Option W32} {b : List Byte} (h : (id, i, b) ∈ s.resultKeys) :
    ∃ y ∈ s.results, y.run = id ∧ y.shot = i ∧ y.bytes = b := by
  obtain ⟨y, hy, heq⟩ := List.mem_map.mp h
  simp only [Prod.mk.injEq] at heq
  exact ⟨y, hy, heq⟩

/-- The end of a run adds its end record to those that stand. -/
theorem State.resultKeys_finishRun {b : State} {id : W32} {r : Run} (h : b.run? id = some r) (cause : Byte) :
    (b.finishRun id cause).resultKeys = b.resultKeys ++ [(id, none, r.endRecord id cause b.clock.sys)] := by
  obtain ⟨g, c, heq⟩ := State.finishRun_frame h cause
  rw [heq]
  refine (State.resultKeys_of_offerRest (State.offerRest_notify _ _ _ _)).trans ?_
  rw [State.resultKeys_addResult]
  rfl

/-! ### A run that is settled or stopped (R34, R36, R42) -/

/-- A run ends when it is settled: it can start no more shots, none is left, and no stop is under way. -/
def State.settles (s : State) (r : Run) : Prop := r.phase ≠ .over ∧ r.noMore = true ∧ r.shots = [] ∧ s.stopping = false

/-- What the settling of a run leaves: the run as it was, or ended with its end record. -/
theorem State.settleRun_spec {s : State} {id : W32} {r : Run} (h : s.run? id = some r) : ∃ q, (s.settleRun id).run? id = some q
    ∧ q.executed = r.executed ∧ q.clean = r.clean ∧ q.shots = r.shots ∧ (∀ k ∈ s.resultKeys, k ∈ (s.settleRun id).resultKeys)
    ∧ (s.settles r → q.phase = .over ∧ (id, none, r.endRecord id r.cause s.clock.sys) ∈ (s.settleRun id).resultKeys)
    ∧ (¬ s.settles r → q.phase = r.phase)
    ∧ ∃ l g c y p x n, s.settleRun id = { s with runs := l, engines := g, crus := c, results := y, regs := p, sessions := x, sent := n } := by
  by_cases hends : s.settles r
  · obtain ⟨hphase, hmore, hshots, hstop⟩ := hends
    have hmod := State.run?_modRun_some h (f := fun r => { r with nextStart := none }) fun _ => rfl
    obtain ⟨⟨q, hq, hover, hexec, -, hclean, hq'⟩, -, hframe⟩ := State.finishRun_spec hmod r.cause
    have hkeys := State.resultKeys_finishRun hmod r.cause
    rw [State.settleRun_ends h hphase hmore hshots hstop]
    refine ⟨q, hq, hexec, hclean, hq', fun k hk => ?_, fun _ => ⟨hover, ?_⟩, fun hnot => absurd ⟨hphase, hmore, hshots, hstop⟩ hnot,
      _, _, _, _, _, _, _, hframe⟩
    · rw [hkeys]
      exact List.mem_append_left _ hk
    · rw [hkeys]
      exact List.mem_append_right _ (List.mem_singleton.mpr rfl)
  · by_cases hmoves : r.phase ≠ .over ∧ r.noMore = true ∧ r.inFlight = false
    · obtain ⟨hphase, hmore, hflight⟩ := hmoves
      have hkept : r.shots ≠ [] ∨ s.stopping = true := by
        by_cases hshots : r.shots = []
        · exact Or.inr (by simpa using fun hstop => hends ⟨hphase, hmore, hshots, hstop⟩)
        · exact Or.inl hshots
      rw [State.settleRun_kept h hphase hmore hflight hkept]
      exact ⟨_, State.run?_modRun_some h fun _ => rfl, rfl, rfl, rfl, fun _ hk => hk, fun hs => absurd hs hends, fun _ => rfl, _, _, _, _, _, _, _, rfl⟩
    · have hstays : s.settleRun id = s := by
        unfold State.settleRun
        rw [h]
        refine if_pos ?_
        by_cases hphase : r.phase = .over
        · exact Or.inl hphase
        · cases hmore : r.noMore with
          | false => exact Or.inr (Or.inl rfl)
          | true => exact Or.inr (Or.inr (by simpa using fun hf => hmoves ⟨hphase, hmore, hf⟩))
      rw [hstays]
      exact ⟨r, h, rfl, rfl, rfl, fun _ hk => hk, fun hs => absurd hs hends, fun _ => rfl, _, _, _, _, _, _, _, rfl⟩

/-- A run that has shots left starts no more where it can start none, and is otherwise left. -/
theorem State.settleRun_of_shots {s : State} {id : W32} {r : Run} (h : s.run? id = some r) (hshots : r.shots ≠ []) :
    s.settleRun id = s ∨ r.noMore = true ∧ s.settleRun id = s.modRun id (fun r => { r with nextStart := none }) := by
  unfold State.settleRun
  rw [h]
  dsimp only
  split
  · exact Or.inl rfl
  · next hnot =>
    refine Or.inr ⟨?_, if_neg fun hempty => hshots (List.isEmpty_iff.mp hempty.1)⟩
    simp only [not_or] at hnot
    simpa using hnot.2.1

/-- The run told to stop with a cause, where it has not ended and has none. -/
def Run.told (cause : Byte) (r : Run) : Run := if r.phase = .over ∨ r.stop.isSome then r else { r with stop := some cause }

theorem Run.told_id (cause : Byte) (r : Run) : (r.told cause).id = r.id := by
  unfold Run.told
  split <;> rfl

/-- A stop of a run between its shots: it starts no more, or ends. -/
theorem State.stopRun_spec {s : State} {run : W32} {r : Run} (h : s.run? run = some r) (hphase : r.phase = .active) (hflight : r.inFlight = false)
    (hmore : r.noMore = false) (hstop : s.stopping = false) (cause : Byte) :
    (r.shots ≠ [] → s.stopRun cause run = s.modRun run (fun r =>
        { r with stop := if r.phase = .over ∨ r.stop.isSome then r.stop else some cause, nextStart := none }))
      ∧ (r.shots = [] → (∃ q, (s.stopRun cause run).run? run = some q ∧ q.phase = .over ∧ q.executed = r.executed)
        ∧ ∃ y ∈ (s.stopRun cause run).results, y.run = run ∧ y.shot = none ∧ y.bytes = r.endRecord run cause s.clock.sys) := by
  have hnone : r.stop = none := by
    unfold Run.noMore at hmore
    simp only [Bool.or_eq_false_iff, Option.isSome_eq_false_iff, Option.isNone_iff_eq_none] at hmore
    exact hmore.1.2
  have htold : r.told cause = { r with stop := some cause } := if_neg (by simp [hphase, hnone])
  have hfound : (s.modRun run (Run.told cause)).run? run = some { r with stop := some cause } :=
    htold ▸ State.run?_modRun_some h (Run.told_id cause)
  have hstops : ({ r with stop := some cause } : Run).noMore = true := by simp [Run.noMore]
  have hnotOver : ({ r with stop := some cause } : Run).phase ≠ .over := by simp [hphase]
  show (_ → (s.modRun run (Run.told cause)).settleRun run = _) ∧ (_ → (∃ q, ((s.modRun run (Run.told cause)).settleRun run).run? run = some q ∧ _)
    ∧ ∃ y ∈ ((s.modRun run (Run.told cause)).settleRun run).results, _)
  refine ⟨fun hshots => ?_, fun hshots => ?_⟩
  · rw [State.settleRun_kept hfound hnotOver hstops hflight (Or.inl hshots), State.modRun_modRun _ _ (Run.told_id cause)]
    congr 1
    funext q
    unfold Run.told
    dsimp only [Function.comp_apply]
    split <;> rfl
  · obtain ⟨q, hq, hexec, -, -, -, hends, -⟩ := State.settleRun_spec hfound
    obtain ⟨hover, hkey⟩ := hends ⟨hnotOver, hstops, hshots, hstop⟩
    exact ⟨⟨q, hq, hover, hexec⟩, State.mem_results_of_key hkey⟩

/-! ### The record of a shot (R35, R254, R463) -/

/-- The state without its runs. -/
def State.runless (s : State) : State := { s with runs := [] }

theorem State.runless_condIn (s : State) (h : W32 × W32 × Tick) (e : Nat) (c : Cond) (t : Tick) : (s.condIn h e c t).runless = s.runless := rfl
/-- The links that lost blocks change the runs alone. -/
theorem State.linkLost_eq (s : State) (r : Run) (h : Shot) : s.linkLost r h = { s with runs := (s.linkLost r h).runs } := by
  have hrest : (s.linkLost r h).runless = s.runless := by
    refine State.each_keeps State.runless _ _ (fun u l => ?_) s
    extract_lets endsAfter startsBy c tick
    split
    · exact State.each_keeps State.runless _ _ (fun w e => w.runless_condIn _ _ _ _) u
    · rfl
  exact (congrArg (fun u : State => { u with runs := (s.linkLost r h).runs }) hrest :)

/-- The run without its oldest shot, which it counts where it was clean. -/
def Run.closed (clean : Bool) (r : Run) : Run := { r with shots := r.shots.tail, clean := if clean then r.clean + 1 else r.clean }

section
variable {s : State} {run : W32} {r : Run} {h : Shot} {rest : List Shot} {E : Tick} (hrun : s.run? run = some r) (hshots : r.shots = h :: rest)
  (hend : h.endTick = some E)
include hrun hshots hend

theorem exec_shotRecordClose_of_judged {r' : Run} {h' : Shot} (hended : h.ended = true) (hdue : 0 ≤ (s.now - E).toInt)
    (hjudged : s.shotJudged r E = true) (hrun' : (s.linkLost r h).run? run = some r') (hshots' : r'.shots = h' :: rest) :
    exec (.shotRecordClose run) s = .next ((((s.linkLost r h).modRun run (Run.closed (h'.entries.all (fun x => statusOf x.mask == 0)))).addResult
      ⟨run, some h'.index, shotRecord r' h' (r'.noMore && rest.isEmpty) s.clock.sys, none⟩).settleRun run) := by
  have hclock : (s.linkLost r h).clock = s.clock := (congrArg State.clock (s.linkLost_eq r h)).trans rfl
  have hlength : ((h' :: rest).length == 1) = rest.isEmpty := by cases rest <;> simp
  show execShotRecordClose run s = _
  unfold execShotRecordClose
  rw [hrun]
  dsimp only
  rw [hshots]
  dsimp only
  rw [hend]
  dsimp only
  rw [if_pos ⟨hended, hdue, hjudged⟩, hrun']
  simp only [Option.bind_some, hshots', List.head?_cons, Option.map_some, hlength, hclock]
  rfl

theorem exec_shotRecordClose_of_open (hopen : h.ended = false ∨ (s.now - E).toInt < 0 ∨ s.shotJudged r E = false) :
    exec (.shotRecordClose run) s = .next s := by
  show execShotRecordClose run s = _
  unfold execShotRecordClose
  rw [hrun]
  dsimp only
  rw [hshots]
  dsimp only
  rw [hend]
  dsimp only
  rw [if_neg]
  rintro ⟨hended, hdue, hjudged⟩
  rcases hopen with ho | ho | ho
  · simp [ho] at hended
  · omega
  · simp [ho] at hjudged

end

end Sys2Proof.Machine
end

section
/-! PROOF. ShotsStartEndAndClose: each clause by the lemmas of the start, the end and the record of a shot (R32-R36, R40, R45, R65, R148, R207,
R268, R334, R409, R463). -/

namespace Sys2Proof.Machine

section
variable {s : State} {run : W32} {r : Run} {n : Tick} (hrun : s.run? run = some r) (hnext : r.nextStart = some n)
include hrun hnext

/-- A start that is due: what holds it back is judged in turn (R31, R40, R409). -/
theorem exec_shotStart_of_due (hdue : r.phase = .active ∧ 0 ≤ (s.now - n).toInt ∧ r.inFlight = false ∧ r.noMore = false ∧ s.stopping = false) :
    exec (.shotStart run) s = .next (
      if s.startHeld r then (if r.desc.paced then s else s.stopRun 0x02 run)
      else if s.swapBusy r then s
      else if s.roomFor r then s.startShot r n
      else if r.desc.paced then s
      else s.stopRun 0x03 run) := by
  obtain ⟨hphase, htime, hflight, hmore, hstop⟩ := hdue
  show execShotStart run s = _
  unfold execShotStart
  rw [hrun]
  dsimp only
  rw [hnext]
  dsimp only
  rw [if_pos ⟨hphase, htime, by simp [hflight], by simp [hmore], by simp [hstop]⟩]

theorem exec_shotStart_of_not_due
    (hdue : ¬ (r.phase = .active ∧ 0 ≤ (s.now - n).toInt ∧ r.inFlight = false ∧ r.noMore = false ∧ s.stopping = false)) :
    exec (.shotStart run) s = .next s := by
  show execShotStart run s = _
  unfold execShotStart
  rw [hrun]
  dsimp only
  rw [hnext]
  dsimp only
  rw [if_neg]
  rintro ⟨hphase, htime, hflight, hmore, hstop⟩
  exact hdue ⟨hphase, htime, by simpa using hflight, by simpa using hmore, by simpa using hstop⟩

end

theorem State.startHeld_iff (s : State) (r : Run) : s.startHeld r = true ↔ r.executed = 0 ∧ s.holdRuns = true := by
  simp [State.startHeld]

theorem Run.engineAt_of_kept {r : Run} {S : Tick} {e : Nat} {g : Engine} (h : r.deniedAt e S = true ∨ g.hsFault = true) :
    (r.engineAt S e g).st = g.st ∧ (r.engineAt S e g).shot = g.shot := by
  obtain ⟨a, b, heq⟩ := g.rewritten_eq
  have hkept : r.engineAt S e g = g.rewritten := if_pos (by simpa using h)
  rw [hkept, heq]
  exact ⟨rfl, rfl⟩

theorem Run.engineAt_of_started {r : Run} {S : Tick} {e : Nat} {g : Engine} (hd : r.deniedAt e S = false) (hf : g.hsFault = false) :
    (r.engineAt S e g).st = .running ∧ (r.engineAt S e g).pc = g.entry ∧ (r.engineAt S e g).tc = S
      ∧ (r.engineAt S e g).shot = some (r.id, r.executed, S) ∧ (r.engineAt S e g).stack = [] ∧ (r.engineAt S e g).c = 0
      ∧ (r.engineAt S e g).v = g.v := by
  obtain ⟨a, b, heq⟩ := g.rewritten_eq
  have hstarted : r.engineAt S e g = g.rewritten.begun r.id r.executed S := if_neg (by simp [hd, hf])
  rw [hstarted, heq]
  exact ⟨rfl, rfl, rfl, rfl, rfl, rfl, rfl⟩

theorem Engine.endedAt_of_shot {g : Engine} {id idx : W32} {S : Tick} (h : g.shot = some (id, idx, S)) (E : Tick) :
    (g.endedAt id idx E).shot = none ∧ (g.busy = true → (g.endedAt id idx E).st = .stopped)
      ∧ (g.busy = false → (g.endedAt id idx E).st = g.st) := by
  have hended : g.endedAt id idx E = { (if g.busy then g.halted E else g).emptied with shot := none } := by
    unfold Engine.endedAt
    rw [h]
    exact if_pos ⟨rfl, rfl⟩
  rw [hended]
  refine ⟨rfl, fun hb => ?_, fun hb => ?_⟩
  · rw [hb]
    rfl
  · rw [hb]
    rfl

theorem Engine.busy_iff (g : Engine) : g.busy = true ↔ g.st = .running ∨ g.st = .waiting ∨ g.st = .queueFull := by
  simp [Engine.busy, or_assoc]

/-- The end of a shot that has come: the shot in flight ends at its tick (R32, R33). -/
theorem exec_shotEnd_of_due {s : State} {run : W32} {r : Run} {h : Shot} {E : Tick} (hrun : s.run? run = some r) (hcur : r.current = some h)
    (hend : h.endTick = some E ∨ h.endTick = none ∧ s.pacedEnd r h = some E) (hdue : 0 ≤ (s.now - E).toInt) :
    exec (.shotEnd run) s = .next ((s.endShot r h E none).settleRun run) := by
  show execShotEnd run s = _
  unfold execShotEnd
  rw [hrun]
  dsimp only
  rw [hcur]
  dsimp only
  rcases hend with hE | ⟨hE, hpaced⟩
  · rw [hE]
    dsimp only
    rw [if_pos hdue]
  · rw [hE]
    dsimp only
    rw [hpaced]
    dsimp only
    rw [if_pos hdue]

theorem exec_shotEnd_of_not_due {s : State} {run : W32} {r : Run} {h : Shot} {E : Tick} (hrun : s.run? run = some r)
    (hnot : r.current = none ∨ r.current = some h ∧ (h.endTick = none ∧ s.pacedEnd r h = none ∨ h.endTick = some E ∧ (s.now - E).toInt < 0)) :
    exec (.shotEnd run) s = .next s := by
  show execShotEnd run s = _
  unfold execShotEnd
  rw [hrun]
  dsimp only
  rcases hnot with hcur | ⟨hcur, ⟨hE, hpaced⟩ | ⟨hE, hlate⟩⟩
  · rw [hcur]
  · rw [hcur]
    dsimp only
    rw [hE]
    dsimp only
    rw [hpaced]
  · rw [hcur]
    dsimp only
    rw [hE]
    dsimp only
    rw [if_neg (by omega)]

/-- The end of a shot and the settling of its run: the run's end tick and next start, its engines, and the event (R32, R33, R207). -/
theorem State.shotEnd_spec {s : State} (hwf : Tbl.wf (fun _ => Engine.init) s.engines = true) {r : Run} (hrun : s.run? r.id = some r) {h : Shot}
    (hmem : h ∈ r.shots) (E : Tick) : ∃ q l t, (s.endShot r h E none).settleRun r.id = t ∧ t.run? r.id = some q ∧ q.endTick = E
      ∧ q.nextStart = (if r.noMore then none else some (if r.desc.paced then E + r.desc.gap.setWidth 64 else E))
      ∧ (∀ y ∈ q.shots, y.index = h.index → y.ended = true ∧ y.endTick = some E) ∧ t.engines = (s.shotEnded r h E).engines
      ∧ (∀ e, (s.shotEnded r h E).Marked r.id h.index e .engineFault → t.Marked r.id h.index e .engineFault) ∧ t.waiting = l
      ∧ (TaskInput.flag 242, localEv 242 E.stamp (r.id.setWidth 16) 1 0x0F9) ∈ l := by
  obtain ⟨q, hq, hend, hmore, hnext, hended, hlength⟩ := State.shotEnded_run hwf h E hrun
  obtain ⟨g, l, hpublish, hflag⟩ := (s.shotEnded r h E).publishSys_spec 242 E (r.id.setWidth 16)
  have hfound : (s.endShot r h E none).run? r.id = some q := by
    rw [State.endShot_eq_publish, hpublish]
    exact hq
  have hshots : q.shots ≠ [] := by
    intro h0
    rw [h0] at hlength
    exact List.ne_nil_of_mem hmem (List.length_eq_zero_iff.mp hlength.symm)
  rw [State.endShot_eq_publish, hpublish] at hfound ⊢
  rcases State.settleRun_of_shots hfound hshots with hsettle | ⟨hnone, hsettle⟩
  · exact ⟨q, l, _, hsettle, hfound, hend, hnext, hended, rfl, fun _ hm => hm, rfl, hflag⟩
  · refine ⟨{ q with nextStart := none }, l, _, hsettle, State.run?_modRun_some hfound fun _ => rfl, hend, ?_, hended, rfl,
      fun _ hm => State.Marked.modRun (s := s.shotEnded r h E) hm r.id fun _ => ⟨rfl, rfl⟩, rfl, hflag⟩
    rw [← hmore, hnone]
    rfl

/-- The record of a shot that closes enters the buffer, and its run is settled: it ends with its last record (R35, R36). -/
theorem State.closeRecord_spec {v : State} {run : W32} {r : Run} {h : Shot} {rest : List Shot} (hrun : v.run? run = some r)
    (hshots : r.shots = h :: rest) (sys : W64) (clean : Bool) {t : State}
    (ht : ((v.modRun run (Run.closed clean)).addResult ⟨run, some h.index, shotRecord r h (r.noMore && rest.isEmpty) sys, none⟩).settleRun run = t) :
    ∃ q, t.run? run = some q ∧ q.executed = r.executed ∧ q.clean = (if clean then r.clean + 1 else r.clean) ∧ q.shots = rest
      ∧ (∃ y ∈ t.results, y.run = run ∧ y.shot = some h.index ∧ y.bytes = shotRecord r h (r.noMore && rest.isEmpty) sys)
      ∧ ((r.noMore && rest.isEmpty) = true → r.phase ≠ .over → v.stopping = false → q.phase = .over
        ∧ ∃ y ∈ t.results, y.run = run ∧ y.shot = none ∧ y.bytes = (r.closed clean).endRecord run r.cause v.clock.sys)
      ∧ ((r.noMore && rest.isEmpty) = false → q.phase = r.phase)
      ∧ t = { v with runs := t.runs, results := t.results, regs := t.regs, sessions := t.sessions, sent := t.sent, engines := t.engines,
                     crus := t.crus } := by
  obtain ⟨hframe, -⟩ := (v.modRun run (Run.closed clean)).addResult_spec
    ⟨run, some h.index, shotRecord r h (r.noMore && rest.isEmpty) sys, none⟩
  have hkeys := (v.modRun run (Run.closed clean)).resultKeys_addResult
    ⟨run, some h.index, shotRecord r h (r.noMore && rest.isEmpty) sys, none⟩
  have hmod : (v.modRun run (Run.closed clean)).run? run = some (r.closed clean) := State.run?_modRun_some hrun fun _ => rfl
  generalize (v.modRun run (Run.closed clean)).addResult ⟨run, some h.index, shotRecord r h (r.noMore && rest.isEmpty) sys, none⟩ = u
    at hframe hkeys ht
  have hfound : u.run? run = some (r.closed clean) := by
    rw [hframe]
    exact hmod
  have hrest : (r.closed clean).shots = rest := congrArg List.tail hshots
  have hkey : (run, some h.index, shotRecord r h (r.noMore && rest.isEmpty) sys) ∈ u.resultKeys :=
    hkeys ▸ List.mem_append_right _ (List.mem_singleton.mpr rfl)
  have hclock : u.clock = v.clock := by
    rw [hframe]
    rfl
  have hstop : u.stopping = v.stopping := by
    rw [hframe]
    rfl
  obtain ⟨q, hq, hexec, hclean, hq', hstays, hends, hkeeps, l, g, c, y, p, x, n, hsettle⟩ := State.settleRun_spec hfound
  rw [ht] at hq hstays hends hsettle
  refine ⟨q, hq, hexec, hclean, hq'.trans hrest, State.mem_results_of_key (hstays _ hkey), fun hlast hphase hs => ?_, fun hlast => ?_, ?_⟩
  · rw [Bool.and_eq_true, List.isEmpty_iff] at hlast
    obtain ⟨hover, hend⟩ := hends ⟨hphase, hlast.1, hrest.trans hlast.2, hstop.trans hs⟩
    rw [hclock] at hend
    exact ⟨hover, State.mem_results_of_key hend⟩
  · refine hkeeps fun hset => ?_
    obtain ⟨-, hmore, hempty, -⟩ := hset
    have hmore' : r.noMore = true := hmore
    rw [hmore', ← hrest, hempty] at hlast
    cases hlast
  · rw [hsettle, hframe]
    rfl

/-- Settles O28: each clause by the lemma of its command's case. -/
theorem shotsStartEndAndClose : Obligations.ShotsStartEndAndClose := by
  intro s run r r' n E e h h' rest hwf hrun due held room starts start marked stopped g busy ends judged v close last clean
  have hid : r.id = run := State.run?_id hrun
  have heldIff : s.startHeld r = true ↔ held := s.startHeld_iff r
  have roomIff : s.roomFor r = true ↔ room := decide_eq_true_iff
  have hstopped : ∀ cause, due → stopped (s.stopRun cause run) cause := by
    rintro cause ⟨-, hphase, -, hflight, hmore, hstop⟩
    exact State.stopRun_spec hrun hphase hflight hmore hstop cause
  refine ⟨?_, ?_, ?_, ?_, ?_, ?_, ?_, ?_, fun hnot => exec_shotEnd_of_not_due hrun hnot, ?_, fun hshots hend hopen =>
    exec_shotRecordClose_of_open hrun hshots hend hopen⟩
  · rintro ⟨⟨hnext, hdue⟩, hheld, hswap, hroom⟩
    subst hid
    obtain ⟨q, sh, hq, hexec, hnone, hsh, hbare, hengs⟩ := State.begun_run hrun n
    obtain ⟨l, x, y, p, hframe⟩ := s.begun_frame r n
    obtain ⟨a, w, hpublish, hflag⟩ := (s.begun r n).publishSys_spec 241 n (r.id.setWidth 16)
    have hstart : s.startShot r n = { s.begun r n with regs := a, waiting := w } := hpublish
    have hengs' : ∀ k, (s.startShot r n).eng k = (s.begun r n).eng k := fun k => (congrArg (fun u : State => u.eng k) hstart :)
    have hmarks := fun he => State.begun_marks hwf (r := r) n (e := e.val) he
    have heng := State.begun_eng hwf r n
    have hof : ∀ c, (s.begun r n).Marked r.id r.executed e c → marked sh.entries c := fun c hm =>
      hm.of_run? hq hsh (congrArg (fun z : Shot => z.index) hbare :)
    have hat : r.has e = true → (s.startShot r n).eng e = r.engineAt n e g := fun he =>
      (hengs' e).trans ((heng e).trans (if_pos (Run.mem_engs.mpr he)))
    refine ⟨s.startShot r n, q, sh, ?_, hstart ▸ hq, hexec, hnone, hsh, (congrArg (fun z : Shot => z.index) hbare :),
      (congrArg (fun z : Shot => z.start) hbare :), (congrArg (fun z : Shot => z.ended) hbare :), hengs,
      (congrArg (fun z : Shot => z.endTick) hbare :), ?_, ?_, ?_, ?_, ?_, ?_, ?_, ?_⟩
    · show exec (.shotStart r.id) s = _
      rw [exec_shotStart_of_due hrun hnext hdue, if_neg (fun hh => hheld (heldIff.mp hh)), if_neg (by simp [hswap]),
        if_pos (roomIff.mpr hroom)]
    · rw [hstart]
      exact hflag
    · intro hclear he
      exact hof _ ((hmarks he).1 (by simp [State.clearedAt, Option.isSome_iff_ne_none.mpr hclear]))
    · exact fun hunlocked he => hof _ ((hmarks he).2.1 hunlocked)
    · intro he hdenied
      rw [hat he]
      exact ⟨hof _ ((hmarks he).2.2.1 hdenied), Run.engineAt_of_kept (Or.inl hdenied)⟩
    · intro he hdenied hfault
      rw [hat he]
      exact ⟨hof _ ((hmarks he).2.2.2 hdenied hfault), (Run.engineAt_of_kept (Or.inr hfault)).2⟩
    · intro he hdenied hfault
      rw [hat he]
      exact Run.engineAt_of_started hdenied hfault
    · intro k hk
      exact (hengs' k).trans ((heng k).trans (if_neg fun hmem => by simp [Run.mem_engs.mp hmem] at hk))
    · rw [hstart, hframe]
  · rintro (hnone | ⟨hnext, hnot⟩)
    · show execShotStart run s = _
      unfold execShotStart
      rw [hrun]
      dsimp only
      rw [hnone]
    · exact exec_shotStart_of_not_due hrun hnext fun hd => hnot ⟨hnext, hd⟩
  · rintro ⟨hnext, hdue⟩ hheld hpaced
    show exec (.shotStart run) s = _
    rw [exec_shotStart_of_due hrun hnext hdue, if_pos (heldIff.mpr hheld), if_pos hpaced]
  · rintro ⟨hnext, hdue⟩ hheld hpaced
    refine ⟨s.stopRun 0x02 run, ?_, hstopped 0x02 ⟨hnext, hdue⟩⟩
    show exec (.shotStart run) s = _
    rw [exec_shotStart_of_due hrun hnext hdue, if_pos (heldIff.mpr hheld), if_neg (by simp [hpaced])]
  · rintro ⟨hnext, hdue⟩ hheld hswap
    show exec (.shotStart run) s = _
    rw [exec_shotStart_of_due hrun hnext hdue, if_neg (fun hh => hheld (heldIff.mp hh)), if_pos hswap]
  · rintro ⟨hnext, hdue⟩ hheld hswap hroom hpaced
    show exec (.shotStart run) s = _
    rw [exec_shotStart_of_due hrun hnext hdue, if_neg (fun hh => hheld (heldIff.mp hh)), if_neg (by simp [hswap]),
      if_neg (fun hr => hroom (roomIff.mp hr)), if_pos hpaced]
  · rintro ⟨hnext, hdue⟩ hheld hswap hroom hpaced
    refine ⟨s.stopRun 0x03 run, ?_, hstopped 0x03 ⟨hnext, hdue⟩⟩
    show exec (.shotStart run) s = _
    rw [exec_shotStart_of_due hrun hnext hdue, if_neg (fun hh => hheld (heldIff.mp hh)), if_neg (by simp [hswap]),
      if_neg (fun hr => hroom (roomIff.mp hr)), if_neg (by simp [hpaced])]
  · rintro ⟨hcur, hend, hdue⟩
    subst hid
    obtain ⟨q, l, t, ht, hq, hendq, hnext, hended, hengs, hmarks, hwait, hflag⟩ :=
      State.shotEnd_spec hwf hrun (List.mem_of_find?_eq_some hcur) E
    refine ⟨t, q, ?_, hq, hendq, hnext, hended, fun he hshot => ?_, ?_⟩
    · rw [exec_shotEnd_of_due hrun hcur hend hdue, ht]
    · have heng : t.eng e = g.endedAt r.id h.index E := (congrArg (fun l => Tbl.get l e.val Engine.init) hengs).trans
        ((State.shotEnded_eng hwf h E e).trans (if_pos (Run.mem_engs.mpr he)))
      obtain ⟨hnone, hstops, hkeeps⟩ := Engine.endedAt_of_shot hshot E
      rw [heng]
      refine ⟨hnone, fun hbusy => ?_, fun hidle => hkeeps (by simpa using fun hb => hidle ((Engine.busy_iff g).mp hb))⟩
      have hb : g.busy = true := (Engine.busy_iff g).mpr hbusy
      exact ⟨hstops hb, fun y hy hidx => (hmarks e (State.shotEnded_marked hwf h E he hshot hb)).of_run? hq hy hidx⟩
    · rw [hwait]
      exact hflag
  · rintro ⟨hshots, hend, hended, hdue, hjudged⟩ hrun' hshots'
    obtain ⟨q, hq, hexec, hclean, hrest, hrecord, hends, hkeeps, hframe⟩ := State.closeRecord_spec hrun' hshots' s.clock.sys
      (h'.entries.all (fun x => statusOf x.mask == 0)) rfl
    have hv : v = { s with runs := v.runs } := s.linkLost_eq r h
    have hsys : v.clock.sys = s.clock.sys := by rw [hv]
    have hstop : v.stopping = s.stopping := by
      rw [hv]
      rfl
    rw [hsys, hstop] at hends
    refine ⟨_, q, exec_shotRecordClose_of_judged hrun hshots hend hended hdue hjudged hrun' hshots', hq, hexec, hclean, hrest, hrecord,
      fun hlast hphase hs => ?_, fun hlast => hkeeps hlast, hframe⟩
    exact hends hlast hphase hs

end Sys2Proof.Machine
end

section
/-! SUPPORT. What most operations leave alone of a start: its posture, the result buffer and the map of engines. -/

namespace Sys2Proof.Machine

/-! ### Posture and poise -/

/-- The parts a start is judged by: boot record, supply, non-volatile store, firmware, time and the hold of FAULT_N. -/
def State.posture (s : State) : Boot × Supply × Nv × Firmware × W64 × Bool := (s.boot, s.supply, s.nv, s.fw, s.mono, s.fault.start)
/-- The registers of the engine map (R88). -/
def State.peMap (s : State) : Fin 128 → W32 := fun e => s.reg (aMldPeMap e)
/-- What operations on outputs, ports, clocks and routines leave alone: posture, result buffer, and the engine map of a well-formed table. -/
def State.Poised (s t : State) : Prop := t.posture = s.posture ∧ t.results = s.results
  ∧ (Tbl.wf resetWord s.regs = true → Tbl.wf resetWord t.regs = true ∧ t.peMap = s.peMap)
/-- An address outside the engine map. -/
def OffPeMap (a : Nat) : Prop := ∀ e : Fin 128, aMldPeMap e ≠ a

theorem offPeMap_of_le {a : Nat} (h : 0x600 ≤ a) : OffPeMap a := fun e => by unfold aMldPeMap; omega
theorem masksAt_mldPeMap (e : Fin 128) : masksAt (aMldPeMap e) = some (.mldPeMap, 0, 0) := by revert e; decide +kernel
theorem offPeMap_of_id {a : Nat} {f : RegRef} (hf : findReg a = some f) (hid : f.row.id ≠ .mldPeMap) : OffPeMap a := by
  rintro e rfl
  have h := masksAt_mldPeMap e
  simp only [masksAt, hf, Option.map_some, Option.some.injEq, Prod.mk.injEq] at h
  exact hid h.1

theorem State.pePhys_of_peMap {s t : State} (h : t.peMap = s.peMap) (e : Fin 128) : t.pePhys e = s.pePhys e :=
  congrArg (fun w => fieldOf w 7 0) (congrFun h e)

theorem State.Poised.refl (s : State) : s.Poised s := ⟨rfl, rfl, fun h => ⟨h, rfl⟩⟩
theorem State.Poised.trans {s t u : State} (h : s.Poised t) (h' : t.Poised u) : s.Poised u := by
  obtain ⟨hposture, hresults, hregs⟩ := h
  obtain ⟨hposture', hresults', hregs'⟩ := h'
  refine ⟨hposture'.trans hposture, hresults'.trans hresults, fun hwf => ?_⟩
  obtain ⟨hwf', hmap⟩ := hregs hwf
  exact ⟨(hregs' hwf').1, (hregs' hwf').2.trans hmap⟩
/-- A change outside posture, results and registers. -/
theorem State.Poised.of_regs {s t : State} (hposture : t.posture = s.posture) (hresults : t.results = s.results) (hregs : t.regs = s.regs) :
    s.Poised t :=
  ⟨hposture, hresults, fun hwf => ⟨hregs ▸ hwf, funext fun e => congrArg (fun l => Tbl.get l (aMldPeMap e) (resetWord (aMldPeMap e))) hregs⟩⟩
theorem State.Poised.ite {p : Prop} [Decidable p] {s t u : State} (ht : s.Poised t) (hu : s.Poised u) : s.Poised (if p then t else u) := by
  split
  · exact ht
  · exact hu

theorem State.poised_setReg (s : State) {a : Nat} (v : W32) (h : OffPeMap a) : s.Poised (s.setReg a v) :=
  ⟨rfl, rfl, fun hwf => ⟨s.regs_wf_setReg a v hwf, funext fun e => s.reg_setReg_other a _ v (h e)⟩⟩
theorem State.poised_setFld (s : State) {a : Nat} (hi lo v : Nat) (h : OffPeMap a) : s.Poised (s.setFld a hi lo v) := s.poised_setReg _ h
theorem State.poised_setBit (s : State) {a : Nat} (n : Nat) (b : Bool) (h : 0x600 ≤ a) : s.Poised (s.setBit a n b) :=
  s.poised_setReg _ (offPeMap_of_le h)
theorem State.poised_count (s : State) {a : Nat} (hi lo n : Nat) (h : 0x600 ≤ a) : s.Poised (s.count a hi lo n) :=
  s.poised_setReg _ (offPeMap_of_le h)
theorem State.poised_each {α : Type} (s : State) (l : List α) {f : State → α → State} (h : ∀ (u : State) x, u.Poised (f u x)) :
    s.Poised (s.each l f) := by
  unfold State.each
  induction l generalizing s with
  | nil => exact .refl s
  | cons x l ih => exact (h s x).trans (ih _)
theorem State.poised_emit (s : State) (x : Sent) : s.Poised (s.emit x) := .of_regs rfl rfl rfl
theorem State.poised_setPort (s : State) (p : Nat) (x : Port) : s.Poised (s.setPort p x) := .of_regs rfl rfl rfl
theorem State.poised_setRfch (s : State) (c : Nat) (x : RfChan) : s.Poised (s.setRfch c x) := .of_regs rfl rfl rfl
theorem State.poised_cast (s : State) (c : CastSync) : s.Poised { s with cast := c } := .of_regs rfl rfl rfl
theorem State.poised_sys (s : State) (y : SysSync) : s.Poised { s with sys := y } := .of_regs rfl rfl rfl
theorem State.poised_draw (s : State) : s.Poised s.draw.2 := .of_regs rfl rfl rfl
/-- Banks that reach ON leave it alone. -/
theorem State.poised_of_settleRest {s t : State} (h : t.settleRest = s.settleRest) : s.Poised t :=
  .of_regs (congrArg State.posture h :) (congrArg (fun u : State => u.results) h :) (congrArg (fun u : State => u.regs) h :)

theorem State.poised_logEvent (s : State) (block code : Nat) (data : List Byte) : s.Poised (s.logEvent block code data) := by
  rw [s.logEvent_eq]
  exact .of_regs rfl rfl rfl

/-! ### The sequencer's routines (R356-R365) -/

/-- The stored word of an engine's map register is what it was: none of its bits can be written. -/
theorem RegRef.stored_mldPeMap {f : RegRef} (e : Fin 128) (hf : findReg (aMldPeMap e) = some f) (old v : W32) : f.stored old v = old := by
  have h := masksAt_mldPeMap e
  simp only [masksAt, hf, Option.map_some, Option.some.injEq, Prod.mk.injEq] at h
  obtain ⟨hid, hrw, hw1c⟩ := h
  have hall : old &&& 4294967295#32 = old := BitVec.and_allOnes
  simp [RegRef.stored, hid, hrw, hw1c, hall]
theorem State.poised_cmkPoke (s : State) (a : Nat) (v : W32) : s.Poised (s.cmkPoke a v) := by
  unfold State.cmkPoke
  split
  · exact .of_regs rfl rfl rfl
  split
  · exact .refl s
  next f hf =>
    refine ⟨rfl, rfl, fun hwf => ⟨s.regs_wf_setReg _ _ hwf, funext fun e => ?_⟩⟩
    by_cases ha : aMldPeMap e = a
    · subst ha
      rw [RegRef.stored_mldPeMap e hf]
      exact s.reg_setReg_same _ _ hwf
    · exact s.reg_setReg_other a _ _ ha
theorem State.poised_cmkUndo (s : State) : s.Poised s.cmkUndo :=
  (s.poised_each _ fun u _ => u.poised_cmkPoke _ _).trans (.of_regs rfl rfl rfl)
theorem State.poised_routineUndone (s : State) (r : Byte) (target : BitVec 24) : s.Poised (s.routineUndone r target) := by
  unfold State.routineUndone
  exact .ite (.of_regs rfl rfl rfl) (.ite (.of_regs rfl rfl rfl) (.refl s))
theorem State.poised_cmkEnd (s : State) (ok : Bool) (result : Byte) : s.Poised (s.cmkEnd ok result) := by
  unfold State.cmkEnd
  split
  · exact .refl s
  extract_lets undone cmk ended
  have hundone : s.Poised undone :=
    .ite (.refl s) ((s.poised_cmkUndo.trans (State.poised_count _ _ _ _ (by decide))).trans (State.poised_logEvent _ _ _ _))
  have hended : s.Poised ended := hundone.trans (.of_regs rfl rfl rfl)
  exact .ite hended (hended.trans (State.poised_routineUndone _ _ _))
theorem State.poised_cmkYield (s : State) : s.Poised s.cmkYield := by
  unfold State.cmkYield
  split
  · exact .refl s
  · exact (s.poised_count 15 8 1 (by decide)).trans (.of_regs rfl rfl rfl)
theorem State.poised_cmkTakeInt (s : State) : s.Poised s.cmkTakeInt :=
  .ite (s.poised_cmkEnd _ _) (.ite s.poised_cmkYield (.of_regs rfl rfl rfl))
theorem State.poised_cmkNotice (s : State) : s.Poised s.cmkNotice := by
  unfold State.cmkNotice
  split
  · exact .refl s
  · exact .ite (.refl s) (.ite s.poised_cmkTakeInt (.of_regs rfl rfl rfl))
theorem State.poised_routineAsk (s : State) (r : Byte) (n : Nat) : s.Poised (s.routineAsk r n) := by
  unfold State.routineAsk
  extract_lets q
  split
  next t ht =>
    unfold State.cmkRequest at ht
    extract_lets same at ht
    split_ifs at ht
    · cases ht
      exact s.poised_count _ _ _ (by decide)
    · cases ht
      exact State.Poised.trans (.of_regs rfl rfl rfl) (State.poised_cmkNotice _)
  · exact .of_regs rfl rfl rfl
theorem State.poised_routineDone (s : State) (r : Byte) (n : Nat) : s.Poised (s.routineDone r n) := by
  obtain ⟨m, h⟩ := s.routineDone_eq r n
  rw [h]
  exact .of_regs rfl rfl rfl
theorem State.poised_routineGone (s : State) (r : Byte) (n : Nat) : s.Poised (s.routineGone r n) := by
  unfold State.routineGone
  extract_lets q same asked cmk kept
  have hkept : s.Poised kept := .of_regs rfl rfl rfl
  split
  · exact hkept
  · exact .ite (hkept.trans (State.Poised.trans (.of_regs rfl rfl rfl) (State.poised_cmkNotice _))) hkept

/-! ### Flags (R203-R207) -/

theorem State.poised_condAt (s : State) (e : Nat) (c : Cond) (t : Tick) : s.Poised (s.condAt e c t) := by
  unfold State.condAt
  split <;> exact .of_regs rfl rfl rfl
theorem State.poised_dropHop (s : State) (v : Ev) : s.Poised (s.dropHop v) := by
  unfold State.dropHop
  extract_lets counted named
  have hcounted : s.Poised counted := s.poised_count _ _ _ (by decide)
  have hnamed : counted.Poised named := State.poised_setReg _ _ (offPeMap_of_le (by decide))
  exact (hcounted.trans hnamed).trans (State.poised_each _ _ fun u e => u.poised_condAt _ _ _)
theorem State.poised_publish (s : State) (v : Ev) : s.Poised (s.publish v) := by
  unfold State.publish
  split
  · exact s.poised_dropHop v
  · exact (s.poised_setReg _ (offPeMap_of_le (by unfold aSprChLast; omega))).trans (.of_regs rfl rfl rfl)
theorem State.poised_publishSys (s : State) (ch : Byte) (t : Tick) (p : BitVec 16) : s.Poised (s.publishSys ch t p) :=
  s.poised_publish _

end Sys2Proof.Machine
end

section
/-! SUPPORT. What the writes that a saved configuration holds leave alone of a start (R149, R376, R419, R461). -/

namespace Sys2Proof.Machine

/-! ### Ports (R212-R250) -/

theorem State.poised_portState (s : State) (p : Nat) (st : PortSt) : s.Poised (s.portState p st) := by
  unfold State.portState
  extract_lets x moved asked
  have hmoved : s.Poised moved := s.poised_setPort _ _
  have hasked : s.Poised asked :=
    .ite hmoved (.ite (hmoved.trans (moved.poised_routineAsk _ _))
      (.ite (hmoved.trans (moved.poised_routineDone _ _)) (hmoved.trans (moved.poised_routineGone _ _))))
  exact .ite hasked (hasked.trans (asked.poised_publishSys _ _ _))
theorem State.poised_loadEq (s : State) (p : Nat) : s.Poised (s.loadEq p) := by
  unfold State.loadEq
  extract_lets r ok eq port held
  have hheld : s.Poised held := s.poised_setPort _ _
  exact (hheld.trans (held.poised_setBit _ _ (by unfold aRunPortStat; omega))).trans
    (State.poised_setReg _ _ (offPeMap_of_le (by unfold aRunPortEqgen; omega)))
theorem State.poised_bringUp (s : State) (p : Nat) : s.Poised (s.bringUp p) := by
  unfold State.bringUp
  extract_lets x port opened lanes cleared
  have hopened : s.Poised opened := s.poised_setPort _ _
  have hlanes : opened.Poised lanes := opened.poised_each _ fun u l => u.poised_setReg _ (offPeMap_of_le (by unfold aRunLaneStat; omega))
  have hcleared : lanes.Poised cleared := lanes.poised_setFld _ _ _ (offPeMap_of_le (by unfold aRunPortStat; omega))
  have hloaded := ((hopened.trans hlanes).trans hcleared).trans (cleared.poised_loadEq p)
  exact (hloaded.trans (State.poised_portState _ p .signal)).trans (State.poised_emit _ _)
theorem State.poised_enterResync (s : State) (p : Nat) : s.Poised (s.enterResync p) := by
  unfold State.enterResync
  extract_lets port opened lanes
  have hopened : s.Poised opened := s.poised_setPort _ _
  have hlanes : opened.Poised lanes := opened.poised_each _ fun u l => u.poised_setBit _ _ (by unfold aRunLaneStat; omega)
  have hcounted := lanes.poised_count (a := aRunPortCnt p) 15 8 1 (by unfold aRunPortCnt; omega)
  have hloaded := ((hopened.trans hlanes).trans hcounted).trans (State.poised_loadEq _ p)
  exact (hloaded.trans (State.poised_portState _ p .resync)).trans (State.poised_emit _ _)
theorem State.poised_over (s : State) (l : List Loss) : s.Poised
    (if s.cap.st = .armed ∨ s.cap.st = .triggered then
      { s with losses := l, cap := { s.cap with flags := s.cap.flags ||| 0x80 } } else { s with losses := l }) :=
  .ite (.of_regs rfl rfl rfl) (.of_regs rfl rfl rfl)
theorem State.poised_declareLoss (s : State) (on : Option Nat) (C : Stamp) (o : Bool) : s.Poised (s.declareLoss on C o) := by
  unfold State.declareLoss
  extract_lets counted logged told
  have hcounted : s.Poised counted := by
    unfold counted
    split
    · exact .refl s
    · exact s.poised_count _ _ _ (by unfold aRunPortCnt; omega)
  have hlogged : counted.Poised logged := counted.poised_logEvent _ _ _
  have htold : logged.Poised told := logged.poised_each _ fun u q => .ite (u.poised_setPort _ _) (.refl u)
  have h : s.Poised told := (hcounted.trans hlogged).trans htold
  clear_value told
  split
  · exact h
  · exact .ite (h.trans (told.poised_over _)) h
theorem State.poised_notSent (s : State) (p : Nat) (b : TxBody) : s.Poised (s.notSent p b) := by
  cases b with
  | block _ _ v via => exact s.poised_declareLoss _ _ _
  | loss _ _ => exact .refl s
theorem State.poised_portDown (s : State) (p : Nat) (st : PortSt) : s.Poised (s.portDown p st) := by
  unfold State.portDown
  extract_lets x closed
  have hclosed : s.Poised closed := s.poised_setPort _ _
  exact ((hclosed.trans (closed.poised_portState p st)).trans (State.poised_declareLoss _ _ _ _)).trans
    (State.poised_each _ _ fun u b => u.poised_notSent _ _)
theorem State.poised_runCtrlEffect (s : State) (p : Nat) (v : W32) : s.Poised (s.runCtrlEffect p v) := by
  unfold State.runCtrlEffect
  exact .ite (.ite (s.poised_bringUp p) (.ite (s.poised_enterResync p) (.refl s))) (.ite (.refl s) (s.poised_portDown p .off))
theorem State.poised_laneSlipEffect (s : State) (p l : Nat) (aligned : Bool) : s.Poised (s.laneSlipEffect p l aligned) := by
  unfold State.laneSlipEffect
  have hlane : 0x600 ≤ aRunLaneStat p l := by unfold aRunLaneStat; omega
  exact .ite ((s.poised_setFld _ _ _ (offPeMap_of_le hlane)).trans (State.poised_setBit _ _ _ hlane)) (.refl s)

/-! ### Clocks (R244-R283) -/

theorem State.poised_withCast (s : State) (c : CastSync) : s.Poised (s.withCast c) := by
  unfold State.withCast
  extract_lets set
  have hset : s.Poised set := s.poised_cast c
  exact .ite (hset.trans (set.poised_each _ fun u e => u.poised_condAt _ _ _)) hset
theorem State.poised_castAcquire (s : State) : s.Poised s.castAcquire := by
  unfold State.castAcquire
  exact s.poised_withCast _
theorem State.poised_castJoin (s : State) (p : Nat) : s.Poised (s.castJoin p) := by
  unfold State.castJoin
  exact .ite s.poised_castAcquire (.refl s)
theorem State.poised_castCfgEffect (s : State) (old : W32) : s.Poised (s.castCfgEffect old) := by
  unfold State.castCfgEffect
  extract_lets cast joined cleared
  have hjoined : s.Poised joined := s.poised_cast _
  refine .ite (.ite (.refl s) (.ite (hjoined.trans (joined.poised_castJoin _)) hjoined)) ?_
  clear_value cleared
  split
  · exact .ite ((s.poised_withCast _).trans (State.poised_castJoin _ _)) (s.poised_withCast _)
  · exact .ite (s.poised_withCast _) (s.poised_withCast _)
  · exact s.poised_withCast _
theorem State.poised_realignEffect (s : State) : s.Poised s.realignEffect := by
  unfold State.realignEffect
  extract_lets cast asked
  have hasked : s.Poised asked := s.poised_cast _
  exact .ite (hasked.trans asked.poised_castAcquire) hasked
theorem State.poised_sysCfgEffect (s : State) (old : W32) : s.Poised (s.sysCfgEffect old) := by
  unfold State.sysCfgEffect
  exact .ite (.refl s) (.ite (s.poised_sys _) (.ite (s.poised_sys _) (.ite (s.poised_sys _) ((s.poised_sys _).trans (State.poised_sys _ _)))))
theorem State.poised_sysStepped (s : State) (theta : Int) (y : SysSync) : s.Poised { s with clock := s.clock.sysStep theta, sys := y } :=
  .of_regs rfl rfl rfl
theorem State.poised_sysOffset (s : State) (theta : Int) : s.Poised (s.sysOffset theta) := by
  unfold State.sysOffset
  exact .ite ((s.poised_sysStepped theta _).trans (State.poised_logEvent _ _ _ _)) (.ite (s.poised_sys _) (s.poised_sys _))

/-! ### Outputs and converters (R124-R180) -/

theorem State.poised_judgeMute (s : State) (ch : Nat) (t : Tick) : s.Poised (s.judgeMute ch t) := State.poised_of_settleRest (s.settleRest_judgeMute ch t)
theorem State.poised_rfCtrlEffect (s : State) (ch : Nat) (old : W32) : s.Poised (s.rfCtrlEffect ch old) := by
  unfold State.rfCtrlEffect
  extract_lets rf switched
  have hswitched : s.Poised switched := .ite (.refl s) (s.poised_setRfch _ _)
  exact hswitched.trans (switched.poised_judgeMute _ _)
theorem State.poised_clrWritten (s : State) (n : Nat) : s.Poised (s.clrWritten n) := .ite (.of_regs rfl rfl rfl) (.refl s)
theorem State.poised_holdClear (s : State) (n : Nat) : s.Poised (s.holdClear n) :=
  .ite (s.poised_setReg _ (offPeMap_of_le (by unfold aFlxHold; omega))) (s.poised_setReg _ (offPeMap_of_le (by unfold aBiaHold; omega)))
theorem State.poised_refbufOn (s : State) (c : Nat) : s.Poised (s.refbufOn c) := by
  unfold State.refbufOn
  dsimp only
  split
  · exact .ite (.of_regs rfl rfl rfl) (.refl s)
  · exact .of_regs rfl rfl rfl
  · exact .of_regs rfl rfl rfl
theorem State.poised_refbufOff (s : State) (c : Nat) : s.Poised (s.refbufOff c) := by
  unfold State.refbufOff
  dsimp only
  split
  · exact .refl s
  · exact .of_regs rfl rfl rfl
  · exact .of_regs rfl rfl rfl
theorem State.poised_rangeReq (s : State) (c : Nat) (r : BitVec 2) : s.Poised (s.rangeReq c r) :=
  .ite (.refl s) (.ite (.of_regs rfl rfl rfl) (.of_regs rfl rfl rfl))
theorem State.poised_adcCtrlEffect (s : State) (c : Nat) : s.Poised (s.adcCtrlEffect c) :=
  State.Poised.trans (.ite (s.poised_refbufOn c) (s.poised_refbufOff c)) (State.poised_rangeReq _ _ _)

/-! ### The writes of a saved record -/

/-- Registers that a saved record restores: what their writes do stays within outputs, converters, ports and clocks. -/
def restorable : RegId → Bool
  | .mldPeMap | .mldReset | .mldResbufStat | .rfStat | .flxCfg | .biaCfg | .grpSw | .cruDragData | .cruCtx | .cruClsThi | .sprSwpub
  | .sprTmrCfg | .capCtrl | .tiuUctrl | .cmkReq | .calAccept | .fusProgHi | .cryCtrl | .cryPins | .cryExc | .cryRoutCfg => false
  | _ => true

theorem State.poised_writeEffect (s : State) (sid : W32) {f : RegRef} (old v : W32) (hf : restorable f.row.id = true)
    (hgrp : f.row.id ≠ .grpCtrl) : s.Poised (s.writeEffect sid f old v) := by
  unfold State.writeEffect
  extract_lets i a
  split <;> simp_all only [restorable, Bool.false_eq_true, ne_eq, not_true_eq_false]
  · exact s.poised_rfCtrlEffect _ _
  · exact s.poised_clrWritten _
  · exact s.poised_clrWritten _
  · exact s.poised_adcCtrlEffect _
  · exact s.poised_runCtrlEffect _ _
  · exact .ite (s.poised_draw.trans (State.poised_laneSlipEffect _ _ _ _)) (.refl s)
  · exact s.poised_castCfgEffect _
  · exact .ite s.poised_realignEffect (.refl s)
  · exact s.poised_sysCfgEffect _
  · exact .ite (.of_regs rfl rfl rfl) (.refl s)
  · exact s.poised_sysOffset _
  · exact .refl s

theorem State.poised_applyWrite (s : State) (sid : W32) {a : Nat} {f : RegRef} (ha : findReg a = some f) (v : W32)
    (hf : restorable f.row.id = true) (hgrp : f.row.id ≠ .grpCtrl) : s.Poised (s.applyWrite sid a v) := by
  have hmap : f.row.id ≠ .mldPeMap := fun h => by simp [h, restorable] at hf
  have hdrag : f.row.id ≠ .cruDragData := fun h => by simp [h, restorable] at hf
  unfold State.applyWrite
  simp only [ha]
  exact (s.poised_setReg _ (offPeMap_of_id ha hmap)).trans (State.poised_writeEffect _ sid _ _ hf hgrp)
theorem State.poised_restorePair (s : State) (p : Nat × W32) (h : ∀ f, findReg p.1 = some f → restorable f.row.id = true) :
    s.Poised (s.restorePair p) := by
  unfold State.restorePair
  split
  · exact .refl s
  next f hf =>
    have hr := h f hf
    have hwrite : ∀ v, f.row.id ≠ .grpCtrl → s.Poised (s.applyWrite 0 p.1 v) := fun v => s.poised_applyWrite 0 hf v hr
    split
    next hid => exact hwrite _ (by simp [hid])
    next hid => exact s.poised_setReg _ (offPeMap_of_id hf (by simp [hid]))
    next hid => exact (hwrite _ (by simp [hid])).trans (State.poised_holdClear _ _)
    next hid => exact (hwrite _ (by simp [hid])).trans (State.poised_holdClear _ _)
    next _ hid _ _ => exact hwrite _ hid

/-! ### The registers of a saved class (R376) -/

theorem mem_blockRows {a : Nat} {f : RegRef} (h : findReg a = some f) : f.row ∈ blockRows a := by
  unfold findReg at h
  split_ifs at h
  obtain ⟨r, hr, hat⟩ := List.exists_of_findSome?_eq_some h
  unfold RegRow.at? at hat
  split_ifs at hat
  obtain ⟨l, -, rfl⟩ := Option.map_eq_some_iff.mp hat
  exact hr
/-- The blocks of clocks, flags, ports and network. -/
theorem blockRows_of_plumbing {a : Nat} (hlo : 0x30000 ≤ a) (hhi : a < 0x70000) : blockRows a
    = if a < 0x40000 then rowsTim else if a < 0x50000 then rowsSpr else if a < 0x60000 then rowsRun else rowsNet := by
  unfold blockRows
  rw [if_neg (by omega : ¬ a < 0x10000), if_neg (by omega : ¬ a < 0x20000), if_neg (by omega : ¬ a < 0x30000), if_pos (by omega : a < 0x70000)]
theorem restorable_plumbing : ∀ r ∈ rowsTim ++ rowsSpr ++ rowsRun ++ rowsNet, r.role = some .installer → restorable r.id = true := by
  decide +kernel
/-- What an installer may write in those blocks can be restored. -/
theorem restorable_installer {a : Nat} (hlo : 0x30000 ≤ a) (hhi : a < 0x70000) {f : RegRef} (h : findReg a = some f)
    (hrole : f.row.role = some .installer) : restorable f.row.id = true := by
  have hmem := mem_blockRows h
  rw [blockRows_of_plumbing hlo hhi] at hmem
  refine restorable_plumbing f.row ?_ hrole
  simp only [List.mem_append]
  split_ifs at hmem
  · exact .inl (.inl (.inl hmem))
  · exact .inl (.inl (.inr hmem))
  · exact .inl (.inr hmem)
  · exact .inr hmem
theorem restorable_of_savedClass {cls a : Nat} {f : RegRef} (h : findReg a = some f) (hs : savedClassHas cls a = true) :
    restorable f.row.id = true := by
  simp only [savedClassHas, h] at hs
  have hinst : ∀ k, 3 ≤ k → k ≤ 6 → (f.row.role == some .installer && a / 0x10000 == k) = true → restorable f.row.id = true := by
    intro k hlo hhi hk
    rw [Bool.and_eq_true, beq_iff_eq, beq_iff_eq] at hk
    exact restorable_installer (by omega) (by omega) h hk.1
  split at hs
  · exact hinst 6 (by decide) (by decide) hs
  · exact hinst 3 (by decide) (by decide) hs
  · exact hinst 4 (by decide) (by decide) hs
  · exact hinst 5 (by decide) (by decide) hs
  · have hall : ∀ i ∈ [RegId.rfCtrl, .flxClr, .biaClr, .grpCtrl, .adcCtrl], restorable i = true := by decide
    exact hall _ (List.contains_iff_mem.mp hs)
  · have hall : ∀ i ∈ [RegId.capTrig, .capGrpExpLo, .capGrpExpHi, .timCastHold], restorable i = true := by decide
    exact hall _ (List.contains_iff_mem.mp hs)
  · have hall : ∀ i ∈ [RegId.tgain, .eqTap, .calRtt, .demPhs], restorable i = true := by decide
    exact hall _ (List.contains_iff_mem.mp hs)
  · cases hs

end Sys2Proof.Machine
end

section
/-! SUPPORT. The restoring of the saved configuration: what it leaves of a start, and the flag of a record left out (R134, R372, R376, R419, R420). -/

namespace Sys2Proof.Machine

/-! ### Poise apart from config_default -/

/-- The state with another config_default. -/
def State.withDefault (s : State) (d : Bool) : State := { s with boot := { s.boot with configDefault := d } }
/-- What the restoring of records leaves alone: the poise but for config_default, which stays once it is set. -/
def State.Restores (s t : State) : Prop :=
  s.Poised (t.withDefault s.boot.configDefault) ∧ (s.boot.configDefault = true → t.boot.configDefault = true)

theorem State.Poised.withDefault {s t : State} (h : s.Poised t) (d : Bool) : (s.withDefault d).Poised (t.withDefault d) := by
  obtain ⟨hposture, hresults, hregs⟩ := h
  exact ⟨congrArg (fun v => ({ v.1 with configDefault := d }, v.2)) hposture, hresults, hregs⟩
theorem State.Restores.of_poised {s t : State} (h : s.Poised t) : s.Restores t := by
  have hboot : t.boot = s.boot := congrArg (fun v => v.1) h.1
  exact ⟨h.withDefault s.boot.configDefault, fun hd => by rw [hboot, hd]⟩
theorem State.Restores.refl (s : State) : s.Restores s := .of_poised (.refl s)
theorem State.Restores.trans {s t u : State} (h : s.Restores t) (h' : t.Restores u) : s.Restores u :=
  ⟨h.1.trans (h'.1.withDefault _), fun hd => h'.2 (h.2 hd)⟩
theorem State.restores_each {α : Type} {f : State → α → State} (l : List α) (h : ∀ x ∈ l, ∀ u : State, u.Restores (f u x)) (s : State) :
    s.Restores (s.each l f) :=
  State.each_inv_mem (fun u => s.Restores u) l f (fun u x hx hu => hu.trans (h x hx u)) s (.refl s)

/-! ### Records, gains and committed values -/

/-- A record that fails its check is left out: ALERT_N and config_default (R420). -/
theorem State.restores_leftOut (s : State) : s.Restores ((s.alert 8).withDefault true) :=
  ⟨(s.poised_setBit (a := aMldAlert) 8 true (by decide)).withDefault s.boot.configDefault, fun _ => rfl⟩

theorem State.restores_restoreRecord (s : State) (bad : List (Nat × Nat)) (k : Nat) (r : List Byte) :
    s.Restores (s.restoreRecord bad k r) := by
  unfold State.restoreRecord
  extract_lets cls
  split
  next hok =>
    rw [Bool.and_eq_true, savedOk, Bool.and_eq_true, List.all_eq_true] at hok
    obtain ⟨⟨-, hall⟩, -⟩ := hok
    exact State.restores_each _ (fun p hp u => .of_poised (u.poised_restorePair p fun f hf => restorable_of_savedClass hf (hall p hp))) s
  · exact s.restores_leftOut
theorem State.configDefault_restoreRecord (s : State) {bad : List (Nat × Nat)} {k : Nat} {r : List Byte}
    (h : savedOk (k / 65536) r = false ∨ (k / 65536, k % 65536) ∈ bad) : (s.restoreRecord bad k r).boot.configDefault = true := by
  unfold State.restoreRecord
  extract_lets cls
  rw [if_neg]
  rcases h with h | h
  · simp [cls, h]
  · simp [cls, h]

theorem State.poised_gainsFromFuses (s : State) : s.Poised s.gainsFromFuses := by
  unfold State.gainsFromFuses
  refine s.poised_each _ fun u ch => ?_
  split
  · exact .refl u
  · exact u.poised_each _ fun w t => w.poised_setFld _ _ _ (offPeMap_of_le (by unfold aTgain rfBase; split <;> omega))
theorem offPeMap_of_calTarget {a : Nat} {x : RegId × List Nat × Nat × Bool} (h : calTarget a = some x) : OffPeMap a := by
  unfold calTarget at h
  split at h
  · cases h
  next f hf =>
    refine offPeMap_of_id hf fun hid => ?_
    simp [hid] at h
theorem State.poised_calPut (s : State) (p : W32 × W32) : s.Poised (s.calPut p) := by
  unfold State.calPut
  extract_lets a
  split
  · exact .of_regs rfl rfl rfl
  · split
    · exact .refl s
    next h => exact s.poised_setFld _ _ _ (offPeMap_of_calTarget h)
    next h => exact s.poised_setFld _ _ _ (offPeMap_of_calTarget h)
    next h => exact s.poised_setFld _ _ _ (offPeMap_of_calTarget h)
    next h => exact s.poised_setReg _ (offPeMap_of_calTarget h)

/-! ### The whole configuration -/

/-- The records of the classes from `lo` up to `hi`. -/
def State.recsIn (s : State) (lo hi : Nat) : List (Nat × List Byte) :=
  s.nv.recs.filter (fun x => decide (lo * 65536 ≤ x.1) && decide (x.1 < hi * 65536))
/-- The records of the saved configuration. -/
def State.savedRecs (s : State) : List (Nat × List Byte) := s.recsIn 0x0300 0x0304 ++ s.recsIn 0x0305 0x0307
/-- The saved configuration, restored record by record. -/
def State.restoreSaved (s : State) (bad : List (Nat × Nat)) : State := s.each s.savedRecs (fun u x => u.restoreRecord bad x.1 x.2)
/-- The committed values of a record. -/
def State.commitRecord (s : State) (bad : List (Nat × Nat)) (x : Nat × List Byte) : State :=
  if bad.contains (0x0307, x.1 % 65536) ∨ !savedLayout x.2 then (s.alert 8).withDefault true
  else s.each (savedPairs x.2) (fun s p => s.calPut (BitVec.ofNat 32 p.1, p.2))

theorem State.restoreConfig_eq (s : State) (bad : List (Nat × Nat)) : s.restoreConfig bad
    = (s.restoreSaved bad).gainsFromFuses.each (s.recsIn 0x0307 0x0308) (fun u x => u.commitRecord bad x) := rfl

theorem State.mem_recsIn (s : State) (lo hi : Nat) (x : Nat × List Byte) :
    x ∈ s.recsIn lo hi ↔ x ∈ s.nv.recs ∧ lo * 65536 ≤ x.1 ∧ x.1 < hi * 65536 := by
  simp [State.recsIn]
theorem State.restores_restoreSaved (s : State) (bad : List (Nat × Nat)) : s.Restores (s.restoreSaved bad) :=
  State.restores_each _ (fun x _ u => u.restores_restoreRecord bad x.1 x.2) s
theorem State.restores_commitRecord (s : State) (bad : List (Nat × Nat)) (x : Nat × List Byte) : s.Restores (s.commitRecord bad x) := by
  unfold State.commitRecord
  split
  · exact s.restores_leftOut
  · exact .of_poised (s.poised_each _ fun u p => u.poised_calPut _)
theorem State.restores_restored (s : State) (bad : List (Nat × Nat)) : (s.restoreSaved bad).Restores (s.restoreConfig bad) := by
  rw [s.restoreConfig_eq]
  exact (State.Restores.of_poised (State.poised_gainsFromFuses _)).trans (State.restores_each _ (fun x _ u => u.restores_commitRecord bad x) _)
theorem State.restores_restoreConfig (s : State) (bad : List (Nat × Nat)) : s.Restores (s.restoreConfig bad) :=
  (s.restores_restoreSaved bad).trans (s.restores_restored bad)

/-- A record left out shows in config_default. -/
theorem State.configDefault_restoreConfig {s : State} {bad : List (Nat × Nat)} {x : Nat × List Byte} (hx : x ∈ s.nv.recs)
    (hlo : 0x0300 * 65536 ≤ x.1) (hhi : x.1 < 0x0304 * 65536)
    (hbad : savedOk (x.1 / 65536) x.2 = false ∨ (x.1 / 65536, x.1 % 65536) ∈ bad) : (s.restoreConfig bad).boot.configDefault = true := by
  have hmem : x ∈ s.savedRecs := List.mem_append_left _ ((s.mem_recsIn _ _ _).mpr ⟨hx, hlo, hhi⟩)
  refine (s.restores_restored bad).2 ?_
  exact State.each_reaches (f := fun u (y : Nat × List Byte) => u.restoreRecord bad y.1 y.2) (x := x) (I := fun _ => True)
    (P := fun u => u.boot.configDefault = true) (fun _ _ h => h)
    (fun u _ => u.configDefault_restoreRecord hbad) (fun u y _ => (u.restores_restoreRecord bad y.1 y.2).2) s.savedRecs hmem trivial

end Sys2Proof.Machine
end

section
/-! SUPPORT. The end of a stage, and blocks, engines and Crucibles that failed their test (R88, R201, R397, R419, R420, R425). -/

namespace Sys2Proof.Machine

/-! ### The end of a stage -/

/-- The start moved on to its next stage, which is powered; what its routines do is left out. -/
def State.staged (s : State) : State :=
  { s with
    boot := { s.boot with
      stage := s.boot.stage + 1
      stageAt := s.mono
      stageEnds := s.boot.stageEnds ++ [BitVec.ofNat 32 (s.since s.boot.begun / 1000)] }
    supply := { s.supply with domOn := s.supply.domOn ||| stageDoms s.boot.stage } }

theorem State.nextStage_of_plain {s : State} (h2 : s.boot.stage ≠ 2) (h3 : s.boot.stage ≠ 3) (h4 : s.boot.stage ≠ 4) (h8 : s.boot.stage ≠ 8) :
    s.nextStage = s.staged := by
  unfold State.nextStage
  simp only [h2, h3, h4, h8, if_false]
  rfl
theorem State.nextStage_of_asking {s : State} (h : s.boot.stage = 2 ∨ s.boot.stage = 3) : ∃ r, s.nextStage = s.staged.routineAsk r 0 := by
  unfold State.nextStage
  rcases h with h | h
  · exact ⟨0x01, by simp [h, State.staged]⟩
  · exact ⟨0x02, by simp [h, State.staged]⟩
theorem State.nextStage_of_done {s : State} (h : s.boot.stage = 4 ∨ s.boot.stage = 8) : ∃ r, s.nextStage = s.staged.routineDone r 0 := by
  unfold State.nextStage
  rcases h with h | h
  · exact ⟨0x02, by simp [h, State.staged]⟩
  · exact ⟨0x01, by simp [h, State.staged]⟩
theorem State.poised_nextStage (s : State) : s.staged.Poised s.nextStage := by
  by_cases hask : s.boot.stage = 2 ∨ s.boot.stage = 3
  · obtain ⟨r, h⟩ := State.nextStage_of_asking hask
    exact h ▸ s.staged.poised_routineAsk r 0
  by_cases hdone : s.boot.stage = 4 ∨ s.boot.stage = 8
  · obtain ⟨r, h⟩ := State.nextStage_of_done hdone
    exact h ▸ s.staged.poised_routineDone r 0
  obtain ⟨h2, h3⟩ := not_or.mp hask
  obtain ⟨h4, h8⟩ := not_or.mp hdone
  exact State.nextStage_of_plain h2 h3 h4 h8 ▸ .refl _

/-! ### Failed blocks -/

/-- The state after `n` blocks were found to have failed. -/
def State.withFaults (s : State) (n : Nat) (r : Tbl W32) (b : Byte) : State :=
  { s with regs := r, fault := { s.fault with blocks := b }, boot := { s.boot with blocksFaulted := s.boot.blocksFaulted + n } }
/-- A table of registers with another MLD_ALERT. -/
def State.AlertRegs (s : State) (r : Tbl W32) : Prop :=
  (Tbl.wf resetWord s.regs = true → Tbl.wf resetWord r = true) ∧ (s.withRegs r).peMap = s.peMap
theorem State.startFaults_spec (s : State) (n : Nat) : ∃ r b, s.startFaults n = s.withFaults n r b ∧ s.AlertRegs r := by
  unfold State.startFaults
  induction n with
  | zero => exact ⟨s.regs, s.fault.blocks, rfl, id, rfl⟩
  | succ n ih =>
    obtain ⟨r, b, h, hwf, hmap⟩ := ih
    rw [List.range_succ]
    have hsnoc : ∀ f : State → Nat → State, s.each (List.range n ++ [n]) f = f (s.each (List.range n) f) n := fun f => by
      unfold State.each
      rw [List.foldl_append]
      rfl
    rw [hsnoc, h]
    have hsame : (s.withFaults n r b).blockFault.peMap = (s.withRegs r).peMap := funext fun e =>
      State.reg_setReg_other _ _ _ _ (offPeMap_of_le (by decide : 0x600 ≤ aMldAlert) e)
    exact ⟨_, _, rfl, fun hs => State.regs_wf_setReg _ _ _ (hwf hs), hsame.trans hmap⟩

/-! ### Engines and Crucibles replaced by their spares (R88, R201) -/

/-- The posture of a start, apart from the count of failed blocks. -/
def State.bearing (s : State) : Boot × Supply × Nv × Firmware × W64 × Bool :=
  ({ s.boot with blocksFaulted := 0 }, s.supply, s.nv, s.fw, s.mono, s.fault.start)
/-- Well-formed registers stay so, and the engine map stays. -/
def State.KeepsMap (s t : State) : Prop := Tbl.wf resetWord s.regs = true → Tbl.wf resetWord t.regs = true ∧ t.peMap = s.peMap

theorem State.KeepsMap.trans {s t u : State} (h : s.KeepsMap t) (h' : t.KeepsMap u) : s.KeepsMap u := fun hwf =>
  ⟨(h' (h hwf).1).1, (h' (h hwf).1).2.trans (h hwf).2⟩
theorem State.Poised.keepsMap {s t : State} (h : s.Poised t) : s.KeepsMap t := h.2.2
theorem State.Poised.bearing {s t : State} (h : s.Poised t) : t.bearing = s.bearing :=
  congrArg (fun v => ({ v.1 with blocksFaulted := 0 }, v.2)) h.1

theorem State.bearing_startFaults (s : State) (n : Nat) : (s.startFaults n).bearing = s.bearing := by
  obtain ⟨r, b, h, -⟩ := s.startFaults_spec n
  rw [h]
  rfl
theorem State.keepsMap_startFaults (s : State) (n : Nat) : s.KeepsMap (s.startFaults n) := by
  obtain ⟨r, b, h, hwf, hmap⟩ := s.startFaults_spec n
  rw [h]
  exact fun hs => ⟨hwf hs, hmap⟩
/-- Failed blocks change neither the map nor the spares, and so no spare is taken by them. -/
theorem State.spareFree_startFaults {s : State} (n k : Nat) : (s.startFaults n).spareFree k = s.spareFree k := by
  obtain ⟨r, b, h, -, hmap⟩ := s.startFaults_spec n
  have hphys : ∀ m ∈ List.range 128, ((s.startFaults n).pePhys m == 17 * k + 16) = (s.pePhys m == 17 * k + 16) := fun m hm => by
    rw [h]
    exact congrArg (· == _) (State.pePhys_of_peMap hmap ⟨m, List.mem_range.mp hm⟩)
  have hlogical : (s.startFaults n).peLogical (17 * k + 16) = s.peLogical (17 * k + 16) := by
    unfold State.peLogical
    exact List.find?_congr hphys
  unfold State.spareFree
  rw [hlogical, h]
  rfl

/-- The state in which the spare of its cluster has taken over from an engine. -/
def State.engineSpared (s : State) (e : Nat) : State :=
  ({ s.setReg (aMldPeMap e) (BitVec.ofNat 32 (17 * (e / 16) + 16)) with
      spares := { s.spares with retiredPe := s.pePhys e :: s.spares.retiredPe } }).logEvent 0x0010 0x0002
    (leBytes 1 e ++ leBytes 1 (s.pePhys e) ++ leBytes 1 (17 * (e / 16) + 16))
theorem State.replaceEngine_eq (s : State) (e : Nat) : s.replaceEngine e
    = if (s.startFaults 1).spareFree (e / 16) then (s.startFaults 1).engineSpared e else s.startFaults 1 := rfl
theorem State.engineSpared_frame (s : State) (e : Nat) : (s.engineSpared e).bearing = s.bearing
    ∧ (s.engineSpared e).regs = (s.setReg (aMldPeMap e) (BitVec.ofNat 32 (17 * (e / 16) + 16))).regs := by
  unfold State.engineSpared
  rw [State.logEvent_eq]
  exact ⟨rfl, rfl⟩
theorem State.bearing_replaceEngine (s : State) (e : Nat) : (s.replaceEngine e).bearing = s.bearing := by
  rw [s.replaceEngine_eq]
  split
  · exact (State.engineSpared_frame _ _).1.trans (s.bearing_startFaults 1)
  · exact s.bearing_startFaults 1
theorem State.regs_wf_replaceEngine {s : State} (hwf : Tbl.wf resetWord s.regs = true) (e : Nat) :
    Tbl.wf resetWord (s.replaceEngine e).regs = true := by
  have hfaults := (s.keepsMap_startFaults 1 hwf).1
  rw [s.replaceEngine_eq]
  split
  · rw [(State.engineSpared_frame _ _).2]
    exact State.regs_wf_setReg _ _ _ hfaults
  · exact hfaults
/-- With a spare in its cluster a failed engine is mapped to it. -/
theorem State.pePhys_replaceEngine {s : State} (hwf : Tbl.wf resetWord s.regs = true) (e : Fin 128) (h : s.spareFree (e / 16) = true) :
    (s.replaceEngine e).pePhys e = 17 * (e / 16) + 16 := by
  have hfaults := (s.keepsMap_startFaults 1 hwf).1
  rw [s.replaceEngine_eq, State.spareFree_startFaults, if_pos h]
  have hreg : ((s.startFaults 1).engineSpared e).reg (aMldPeMap e) = BitVec.ofNat 32 (17 * (e / 16) + 16) := by
    have hregs := ((s.startFaults 1).engineSpared_frame e).2
    exact (congrArg (fun l => Tbl.get l (aMldPeMap e) (resetWord (aMldPeMap e))) hregs).trans (State.reg_setReg_same _ _ _ hfaults)
  have hphys : ((s.startFaults 1).engineSpared e).pePhys e = fieldOf (BitVec.ofNat 32 (17 * (e / 16) + 16)) 7 0 :=
    congrArg (fun w => fieldOf w 7 0) hreg
  rw [hphys]
  have := e.isLt
  unfold fieldOf
  rw [BitVec.toNat_ofNat]
  omega

theorem State.poised_cruSpared (s : State) (n c sp : Nat) (x : Cru) (d : List Byte) :
    s.Poised ((((s.setCru c x).setReg (aMldCruMap n) (BitVec.ofNat 32 sp))).logEvent 0x0013 0x0005 d) :=
  (State.Poised.trans (.of_regs rfl rfl rfl) (State.poised_setReg _ _ (offPeMap_of_le (by unfold aMldCruMap; omega)))).trans
    (State.poised_logEvent _ _ _ _)
theorem State.replaceCru_frame (s : State) (n : Nat) : (s.replaceCru n).bearing = s.bearing ∧ s.KeepsMap (s.replaceCru n) := by
  unfold State.replaceCru
  extract_lets faulted
  have hbearing : faulted.bearing = s.bearing := s.bearing_startFaults 1
  have hmap : s.KeepsMap faulted := s.keepsMap_startFaults 1
  clear_value faulted
  split
  · exact ⟨hbearing, hmap⟩
  next sp _ =>
    have h := faulted.poised_cruSpared n (faulted.cruPhys n) sp { faulted.cru (faulted.cruPhys n) with retired := true }
      (leBytes 1 n ++ leBytes 1 (faulted.cruPhys n) ++ leBytes 1 sp)
    exact ⟨h.bearing.trans hbearing, hmap.trans h.keepsMap⟩

end Sys2Proof.Machine
end

section
/-! SUPPORT. Power off, ingot mode, the failed attempt and the begun start (R397, R418, R421-R423). -/

namespace Sys2Proof.Machine

/-! ### Power off -/

/-- Runs, boot record and time, as losing power leaves them. -/
def State.offView (s : State) : List Run × Boot × W64 := (s.runs, s.boot, s.mono)

theorem State.offView_setReg (s : State) (a : Nat) (v : W32) : (s.setReg a v).offView = s.offView := rfl
theorem State.offView_setCru (s : State) (c : Nat) (x : Cru) : (s.setCru c x).offView = s.offView := rfl
theorem State.offView_powerOff (s : State) : s.powerOff.offView = ([], { s.boot with stage := 0 }, s.mono) := by
  unfold State.powerOff
  dsimp only
  refine (State.each_keeps State.offView _ _ (fun u c => u.offView_setCru c _) _).trans ?_
  refine (State.each_keeps State.offView _ _ (fun u n => u.offView_setReg (aMldCruMap n) _) _).trans ?_
  exact State.each_keeps State.offView _ _ (fun u n => u.offView_setReg (aMldPeMap n) _) _
theorem State.powerOff_spec (s : State) : s.powerOff.runs = [] ∧ s.powerOff.boot = { s.boot with stage := 0 } ∧ s.powerOff.mono = s.mono := by
  have h := s.offView_powerOff
  simp only [State.offView, Prod.mk.injEq] at h
  exact h

theorem State.bootClose_eq (s : State) (k c : Nat) (ingot forced : Bool) : ∃ p l, s.bootClose k c ingot forced
    = { s with boot := { s.boot with past := p }, log := l } := by
  unfold State.bootClose State.logOwn State.logAs
  dsimp only
  split
  · exact ⟨_, _, rfl⟩
  · split <;> exact ⟨_, _, rfl⟩
theorem State.logFlush_eq (s : State) : ∃ l, s.logFlush = { s with log := l } := by
  unfold State.logFlush
  split <;> exact ⟨_, rfl⟩

/-! ### Ingot mode (R421, R422) -/

/-- The module in ingot mode, with the boot record it had in all but what the mode sets. -/
def State.InIngot (t : State) (b : Boot) : Prop := t.boot.ingot = true ∧ t.boot.stage = 0 ∧ t.boot.stop = none ∧ t.supply.domOn = ingotDoms
  ∧ t.runs = [] ∧ t.boot.lastFail = b.lastFail ∧ t.boot.counter = b.counter
/-- What closing the boot record, the log and the power leaves of a boot record. -/
theorem State.closedOff_spec (s : State) (k c : Nat) (ingot forced : Bool) : ∃ p, (s.bootClose k c ingot forced).logFlush.powerOff.runs = []
    ∧ (s.bootClose k c ingot forced).logFlush.powerOff.boot = { s.boot with past := p, stage := 0 }
    ∧ (s.bootClose k c ingot forced).logFlush.powerOff.mono = s.mono := by
  obtain ⟨p, l, hclosed⟩ := s.bootClose_eq k c ingot forced
  rw [hclosed]
  obtain ⟨g, hflush⟩ := State.logFlush_eq { s with boot := { s.boot with past := p }, log := l }
  rw [hflush]
  exact ⟨p, State.powerOff_spec _⟩
/-- The module without power, put into ingot mode. -/
def State.asIngot (off : State) : State :=
  { off with supply := { off.supply with domOn := ingotDoms }, boot := { off.boot with ingot := true, stop := none, restartAt := none } }
theorem State.enterIngot_eq (s : State) (k c : Nat) (forced : Bool) : s.enterIngot k c forced
    = (s.bootClose k c true forced).logFlush.powerOff.asIngot := rfl
theorem State.inIngot_asIngot {off : State} {b : Boot} {p : List BootPast} (hruns : off.runs = [])
    (hboot : off.boot = { b with past := p, stage := 0 }) : off.asIngot.InIngot b := by
  refine ⟨rfl, ?_, rfl, rfl, hruns, ?_, ?_⟩
  · exact (congrArg (fun b : Boot => b.stage) hboot :)
  · exact (congrArg (fun b : Boot => b.lastFail) hboot :)
  · exact (congrArg (fun b : Boot => b.counter) hboot :)
theorem State.enterIngot_spec (s : State) (k c : Nat) (forced : Bool) : (s.enterIngot k c forced).InIngot s.boot := by
  obtain ⟨p, hruns, hboot, -⟩ := s.closedOff_spec k c true forced
  rw [s.enterIngot_eq]
  exact State.inIngot_asIngot hruns hboot

/-! ### The failed attempt (R422, R423) -/

/-- The module without power, to be started again in 1 s. -/
def State.asFailed (off : State) : State :=
  { off with nv := { off.nv with clean := true }
             boot := { off.boot with stop := some (.failedStart, off.now, true), restartAt := some (off.mono + 1000000000) } }
/-- The failed attempt counted. -/
def State.counted (s : State) (cause : Byte) : State :=
  { s with boot := { s.boot with counter := counterUp s.boot.counter, lastFail := cause } }
theorem State.failAttempt_eq (s : State) (cause : Byte) : s.failAttempt cause
    = if (counterUp s.boot.counter).toNat < ingotThreshold s.boot.straps then
        ((s.counted cause).bootClose s.boot.stage cause.toNat false false).logFlush.powerOff.asFailed
      else State.enterIngot { s.counted cause with nv := { s.nv with clean := true } } s.boot.stage cause.toNat false := rfl
/-- What a failed attempt leaves that is to be retried. -/
def State.Retrying (t : State) (counter : BitVec 2) (cause : Byte) (mono : W64) : Prop := t.boot.counter = counter ∧ t.boot.lastFail = cause
  ∧ t.boot.stage = 0 ∧ t.boot.restartAt = some (mono + 1000000000) ∧ t.runs = [] ∧ ∃ d, t.boot.stop = some (.failedStart, d, true)
theorem State.retrying_asFailed {off : State} {b : Boot} {p : List BootPast} (hruns : off.runs = [])
    (hboot : off.boot = { b with past := p, stage := 0 }) : off.asFailed.Retrying b.counter b.lastFail off.mono := by
  refine ⟨?_, ?_, ?_, rfl, hruns, _, rfl⟩
  · exact (congrArg (fun b : Boot => b.counter) hboot :)
  · exact (congrArg (fun b : Boot => b.lastFail) hboot :)
  · exact (congrArg (fun b : Boot => b.stage) hboot :)
theorem State.failAttempt_of_below {s : State} {cause : Byte} (h : (counterUp s.boot.counter).toNat < ingotThreshold s.boot.straps) :
    (s.failAttempt cause).Retrying (counterUp s.boot.counter) cause s.mono := by
  obtain ⟨p, hruns, hboot, hmono⟩ := (s.counted cause).closedOff_spec s.boot.stage cause.toNat false false
  have hretry := State.retrying_asFailed hruns hboot
  rw [hmono] at hretry
  rw [s.failAttempt_eq, if_pos h]
  exact hretry
theorem State.failAttempt_of_reached {s : State} {cause : Byte} (h : ingotThreshold s.boot.straps ≤ (counterUp s.boot.counter).toNat) :
    (s.failAttempt cause).InIngot { s.boot with counter := counterUp s.boot.counter, lastFail := cause } := by
  rw [s.failAttempt_eq, if_neg (not_lt.mpr h)]
  exact State.enterIngot_spec _ _ _ _

/-! ### The begun start (R418, R423) -/

theorem State.startBegin_spec (s : State) (cause : Byte) : (s.startBegin cause).boot.stage = 1 ∧ (s.startBegin cause).boot.cause = cause
    ∧ (s.startBegin cause).boot.lastFail = s.boot.lastFail ∧ (s.startBegin cause).boot.starts = s.boot.starts + 1
    ∧ (s.startBegin cause).supply.domOn = 1 := ⟨rfl, rfl, rfl, rfl, rfl⟩
/-- A start that is a retry keeps the count of attempts. -/
theorem State.counter_startBegin_retry (s : State) : (s.startBegin 0x04).boot.counter = s.boot.counter := by
  unfold State.startBegin
  extract_lets b t t' fromIngot
  have hretry : fromIngot = false := by simp [fromIngot]
  simp only [hretry]
  rfl

end Sys2Proof.Machine
end

section
/-! SUPPORT. Stages 1 to 7 of a start (R88, R257, R260, R343, R353, R397, R418-R420, R423, R425). -/

namespace Sys2Proof.Machine

/-! ### A stage that passes -/

/-- The start is under way, and in stage `n`. -/
def State.InStage (s : State) (n : Nat) : Prop :=
  (s.boot.stop = none ∧ s.boot.ingot = false ∧ s.supply.unpowered = false) ∧ s.boot.stage = n
/-- The start has moved on from stage `n`, whose domains are powered. -/
def State.Advances (s : State) (n : Nat) (t : State) : Prop := t.boot.stage = n + 1 ∧ t.boot.stop = none ∧ t.boot.stageAt = s.mono
  ∧ t.supply.domOn = s.supply.domOn ||| stageDoms n ∧ t.pending = s.pending ∧ t.fuses = s.fuses
/-- How far the start has come. -/
def State.milestone (s : State) : Nat × Option (StopKind × Tick × Bool) × W64 × BitVec 30 :=
  (s.boot.stage, s.boot.stop, s.boot.stageAt, s.supply.domOn)

theorem State.Poised.milestone {s t : State} (h : s.Poised t) : t.milestone = s.milestone :=
  congrArg (fun v => (v.1.stage, v.1.stop, v.1.stageAt, v.2.1.domOn)) h.1
theorem State.milestone_of_bearing {s t : State} (h : t.bearing = s.bearing) : t.milestone = s.milestone :=
  congrArg (fun v => (v.1.stage, v.1.stop, v.1.stageAt, v.2.1.domOn)) h
theorem State.mono_of_bearing {s t : State} (h : t.bearing = s.bearing) : t.mono = s.mono := congrArg (fun v => v.2.2.2.2.1) h

/-- A stage passes by its own work on `s`, which leaves `u` as far as `s` is, by the end of the stage, and by further work that keeps what
the end of the stage has reached. -/
theorem State.advances_of_staged {s u t : State} {n : Nat} (h : s.InStage n) (hu : u.milestone = s.milestone) (hmono : u.mono = s.mono)
    (ht : t.milestone = u.staged.milestone) (hkeep : t.keep = s.keep) : s.Advances n t := by
  obtain ⟨⟨hstop, -, -⟩, hstage⟩ := h
  simp only [State.milestone, State.staged, Prod.mk.injEq] at hu ht
  obtain ⟨hustage, hustop, -, hudom⟩ := hu
  obtain ⟨htstage, htstop, htat, htdom⟩ := ht
  simp only [State.keep, Prod.mk.injEq] at hkeep
  obtain ⟨hpending, -, -, hfuses, -⟩ := hkeep
  exact ⟨by rw [htstage, hustage, hstage], by rw [htstop, hustop, hstop], by rw [htat, hmono], by rw [htdom, hudom, hustage, hstage], hpending, hfuses⟩

/-! ### Stage 1, SUPERVISOR (R109, R327, R373, R423) -/

/-- The attempt counter, with an unclean end before this start counted. -/
def Boot.foundCount (b : Boot) : BitVec 2 := if b.found = 0xF0 ∨ b.found = 0xF1 then counterUp b.counter else b.counter
/-- The fuse shadow is read and a Moulder is active. -/
def State.shadowed (s : State) (o : StageResult) : State :=
  { s with fuseShadow := s.fuses, spares := { s.spares with moulder := if s.spares.standby then o.moulder else s.spares.moulder } }
/-- The boot record is opened, and the address hash is keyed afresh. -/
def State.recordOpened (v : State) (nv : Nv) : State :=
  let w : State := { v with nv := { nv with clean := false } }
  { w.draw.2 with hashKey := w.draw.1 }
/-- SUPERVISOR's work, before it is known whether the start goes on. -/
def State.supervised (s : State) (o : StageResult) : State := (s.shadowed o).macFromFuses.countFound.recordOpened (s.shadowed o).nv
theorem State.passSupervisor_eq (s : State) (o : StageResult) : s.passSupervisor o
    = if (s.boot.found = 0xF0 ∨ s.boot.found = 0xF1) ∧ ingotThreshold (s.supervised o).boot.straps ≤ (s.supervised o).boot.counter.toNat then
        State.enterIngot { s.supervised o with nv := { (s.supervised o).nv with clean := true } } 0 s.boot.found.toNat false
      else (s.supervised o).nextStage := by
  unfold State.passSupervisor State.supervised State.recordOpened State.shadowed
  rfl

theorem State.macFromFuses_eq (s : State) : ∃ r, s.macFromFuses = s.withRegs r := by
  unfold State.macFromFuses
  split
  · exact ⟨s.regs, rfl⟩
  · exact ⟨_, rfl⟩
theorem State.countFound_eq (s : State) : s.countFound = { s with boot := { s.boot with
    counter := s.boot.foundCount, lastFail := if s.boot.found = 0xF0 ∨ s.boot.found = 0xF1 then s.boot.found else s.boot.lastFail, found := 0 } } := by
  unfold State.countFound Boot.foundCount
  dsimp only
  split <;> rfl
theorem State.supervised_spec (s : State) (o : StageResult) : ∃ r m f, s.supervised o = { s with
    fuseShadow := s.fuses
    spares := { s.spares with moulder := m }
    regs := r
    boot := { s.boot with
      counter := s.boot.foundCount
      lastFail := if s.boot.found = 0xF0 ∨ s.boot.found = 0xF1 then s.boot.found else s.boot.lastFail
      found := 0 }
    nv := { s.nv with clean := false }
    free := f
    hashKey := Config.freeValue s.free } := by
  obtain ⟨r, hmac⟩ := (s.shadowed o).macFromFuses_eq
  rw [State.supervised, hmac, State.countFound_eq]
  exact ⟨r, _, _, rfl⟩

theorem State.pass_supervisor {s : State} {o : StageResult} (h : s.InStage 1)
    (hgo : ¬ ((s.boot.found = 0xF0 ∨ s.boot.found = 0xF1) ∧ ingotThreshold s.boot.straps ≤ s.boot.foundCount.toNat)) :
    s.Advances 1 (s.passSupervisor o) ∧ (s.passSupervisor o).fuseShadow = s.fuses ∧ (s.passSupervisor o).nv.clean = false
      ∧ (s.passSupervisor o).boot.counter = s.boot.foundCount ∧ (s.passSupervisor o).hashKey = Config.freeValue s.free := by
  obtain ⟨r, m, f, hu⟩ := s.supervised_spec o
  have hstage : (s.supervised o).boot.stage = 1 := hu ▸ h.2
  have hpass : s.passSupervisor o = (s.supervised o).staged := by
    rw [s.passSupervisor_eq, if_neg (by rw [hu]; exact hgo)]
    exact State.nextStage_of_plain (by rw [hstage]; decide) (by rw [hstage]; decide) (by rw [hstage]; decide) (by rw [hstage]; decide)
  rw [hpass]
  refine ⟨State.advances_of_staged h ?_ ?_ rfl ?_, ?_⟩
  · rw [hu]
    rfl
  · rw [hu]
    rfl
  · rw [hu]
    rfl
  · rw [hu]
    exact ⟨rfl, rfl, rfl, rfl⟩
theorem State.pass_supervisor_ingot {s : State} {o : StageResult} (hfound : s.boot.found = 0xF0 ∨ s.boot.found = 0xF1)
    (htop : ingotThreshold s.boot.straps ≤ s.boot.foundCount.toNat) :
    ∃ b : Boot, (s.passSupervisor o).InIngot b ∧ b.lastFail = s.boot.found := by
  obtain ⟨r, m, f, hu⟩ := s.supervised_spec o
  rw [s.passSupervisor_eq, if_pos ⟨hfound, by rw [hu]; exact htop⟩]
  refine ⟨_, State.enterIngot_spec _ _ _ _, ?_⟩
  rw [hu]
  exact if_pos hfound

/-! ### Stage 2, IMAGES (R343, R353, R420) -/

/-- The slots that a stage-2 result names are in use. -/
def State.slotted (s : State) (o : StageResult) : State :=
  s.each [1, 2, 3] (fun s k => { s with fw := { s.fw with active := Tbl.put s.fw.active k (StageSlot o k) 0 } })
/-- The slots in use are shown, the sequencer has its store, and images that gave way are counted. -/
def State.imagesIn (u : State) (o : StageResult) (failed : Nat) : State :=
  let v : State := { u with boot := { u.boot with slots := o.slotB, imageFallback := decide (0 < failed) }
                            cmk := { u.cmk with store := storeWords (u.fwImage 2 (u.fwActive 2)).bytes } }
  if 0 < failed then (v.count aFlkCnt 7 0 failed).alert 9 else v
/-- IMAGES' work. -/
def State.imaged (s : State) (o : StageResult) : State :=
  (s.slotted o).imagesIn o ([1, 2, 3].filter (fun k => StageSlot o k != s.fwActive k)).length
/-- The slots in use after stage 2. -/
def slotsPut (o : StageResult) (l : Tbl Nat) : Tbl Nat :=
  Tbl.put (Tbl.put (Tbl.put l 1 (StageSlot o 1) 0) 2 (StageSlot o 2) 0) 3 (StageSlot o 3) 0
theorem State.passImages_eq (s : State) (o : StageResult) : s.passImages o
    = if forcedIngot (s.imaged o).boot.straps then
        State.enterIngot { (s.imaged o).nextStage with nv := { (s.imaged o).nv with clean := true } } 0 0 true
      else (s.imaged o).nextStage := by
  unfold State.passImages State.imaged State.imagesIn State.slotted
  rfl
theorem State.slotted_eq (s : State) (o : StageResult) : s.slotted o = { s with fw := { s.fw with active := slotsPut o s.fw.active } } := rfl
theorem State.imagesIn_spec (u : State) (o : StageResult) (failed : Nat) : ∃ r, ∃ m : Cmk, u.imagesIn o failed
    = { u with regs := r, cmk := m, boot := { u.boot with slots := o.slotB, imageFallback := decide (0 < failed) } } := by
  unfold State.imagesIn
  dsimp only
  split
  · exact ⟨_, _, rfl⟩
  · exact ⟨_, _, rfl⟩
theorem State.imaged_spec (s : State) (o : StageResult) : ∃ r, ∃ m : Cmk, s.imaged o = { s with
    regs := r
    cmk := m
    fw := { s.fw with active := slotsPut o s.fw.active }
    boot := { s.boot with slots := o.slotB, imageFallback := [1, 2, 3].any (fun k => StageSlot o k != s.fwActive k) } } := by
  have hany : decide (0 < ([1, 2, 3].filter (fun k => StageSlot o k != s.fwActive k)).length)
      = [1, 2, 3].any (fun k => StageSlot o k != s.fwActive k) := by
    rw [Bool.eq_iff_iff, decide_eq_true_iff, List.length_pos_iff_exists_mem, List.any_eq_true]
    simp only [List.mem_filter]
  unfold State.imaged
  rw [s.slotted_eq, ← hany]
  exact State.imagesIn_spec _ _ _
theorem slotsPut_get {l : Tbl Nat} (h : Tbl.wf (fun _ => (0 : Nat)) l = true) (o : StageResult) {k : Nat} (hk : k ∈ [1, 2, 3]) :
    Tbl.get (slotsPut o l) k 0 = StageSlot o k := by
  have h1 := Tbl.wf_put _ l 1 (StageSlot o 1) h
  have h2 := Tbl.wf_put _ _ 2 (StageSlot o 2) h1
  unfold slotsPut
  simp only [List.mem_cons, List.not_mem_nil, or_false] at hk
  rcases hk with rfl | rfl | rfl
  · rw [Tbl.get_put_other _ _ _ _ _ _ (by decide), Tbl.get_put_other _ _ _ _ _ _ (by decide)]
    exact Tbl.get_put_same (fun _ => 0) l 1 _ h
  · rw [Tbl.get_put_other _ _ _ _ _ _ (by decide)]
    exact Tbl.get_put_same (fun _ => 0) _ 2 _ h1
  · exact Tbl.get_put_same (fun _ => 0) _ 3 _ h2

theorem State.pass_images {s : State} {o : StageResult} (h : s.InStage 2) (hgo : forcedIngot s.boot.straps = false) :
    s.Advances 2 (s.passImages o) ∧ (s.passImages o).boot.imageFallback = [1, 2, 3].any (fun k => StageSlot o k != s.fwActive k)
      ∧ (Tbl.wf (fun _ => (0 : Nat)) s.fw.active = true → ∀ k ∈ [1, 2, 3], (s.passImages o).fwActive k = StageSlot o k) := by
  obtain ⟨r, m, hu⟩ := s.imaged_spec o
  have hpass : s.passImages o = (s.imaged o).nextStage := by
    rw [s.passImages_eq, if_neg (by rw [hu]; exact Bool.not_eq_true _ ▸ hgo)]
  have hposed := (s.imaged o).poised_nextStage
  have hkeep : (s.passImages o).keep = s.keep := by
    rw [hpass, State.nextStage_keep, hu]
    rfl
  refine ⟨State.advances_of_staged h (by rw [hu]; rfl) (by rw [hu]; rfl) (hpass ▸ hposed.milestone) hkeep, ?_, fun hwf k hk => ?_⟩
  · rw [hpass]
    refine (congrArg (fun v => v.1.imageFallback) hposed.1).trans ?_
    rw [hu]
    rfl
  · rw [hpass]
    refine (congrArg (fun v => Tbl.get v.2.2.2.1.active k 0) hposed.1).trans ?_
    rw [hu]
    exact slotsPut_get hwf o hk
theorem State.pass_images_ingot {s : State} {o : StageResult} (hforced : forcedIngot s.boot.straps = true) :
    ∃ b, (s.passImages o).InIngot b := by
  obtain ⟨r, m, hu⟩ := s.imaged_spec o
  rw [s.passImages_eq, if_pos (by rw [hu]; exact hforced)]
  exact ⟨_, State.enterIngot_spec _ _ _ _⟩

/-! ### Stages 3 to 6 (R257, R260, R419) -/

theorem State.pass_plain {s : State} {n : Nat} (h : s.InStage n) : s.Advances n s.nextStage :=
  State.advances_of_staged h rfl rfl s.poised_nextStage.milestone s.nextStage_keep

/-- The time bases of PD27 as TIMING starts them. -/
def State.timed (s : State) : State := { s with
  clock := { s.clock with cast := 0, castRuns := true, castPhase := 0, sys := 0, sysFrac := 0, sysLow := 0, link := 0, linkFrac := 0 } }
/-- The synchroniser as TIMING starts it. -/
def State.castStarted (s : State) : CastSync :=
  let c : CastSync := { CastSync.init with st := .locked, refinOk := true, pllLock := true }
  if s.castRole = 2 then { c with st := .free } else if s.castRole = 1 then { c with st := .adopting, adoptSince := s.mono } else c
theorem State.passTiming_eq (s : State) : s.passTiming = State.nextStage { s.timed with cast := s.castStarted } := by
  unfold State.passTiming State.castStarted
  dsimp only
  split
  next h =>
    have h2 : s.castRole = 2 := h
    rw [if_pos h2]
    rfl
  next h =>
    have h1 : s.castRole = 1 := h
    rw [if_neg (by omega), if_pos h1]
    rfl
  next h2 h1 =>
    have h2 : ¬ s.castRole = 2 := h2
    have h1 : ¬ s.castRole = 1 := h1
    rw [if_neg h2, if_neg h1]
    rfl
theorem State.pass_timing {s : State} (h : s.InStage 4) : s.Advances 4 s.passTiming ∧ s.passTiming.clock.castRuns = true ∧ s.passTiming.now = 0
    ∧ s.passTiming.clock.sys = 0 ∧ s.passTiming.clock.link = 0
    ∧ s.passTiming.cast.st = (if s.castRole = 2 then .free else if s.castRole = 1 then .adopting else .locked) := by
  obtain ⟨r, hnext⟩ := State.nextStage_of_done (s := { s.timed with cast := s.castStarted }) (.inl h.2)
  obtain ⟨m, hdone⟩ := State.routineDone_eq (State.staged { s.timed with cast := s.castStarted }) r 0
  have hcast : s.castStarted.st = (if s.castRole = 2 then .free else if s.castRole = 1 then .adopting else .locked) := by
    unfold State.castStarted
    dsimp only
    split_ifs <;> rfl
  rw [s.passTiming_eq, hnext, hdone]
  exact ⟨State.advances_of_staged h rfl rfl rfl rfl, rfl, rfl, rfl, rfl, hcast⟩

theorem State.pass_faults {s : State} {n : Nat} (h : s.InStage n) (k : Nat) : s.Advances n (s.startFaults k).nextStage
    ∧ (s.startFaults k).nextStage.boot.blocksFaulted = s.boot.blocksFaulted + k := by
  have hposed := (s.startFaults k).poised_nextStage
  have hbearing := s.bearing_startFaults k
  refine ⟨State.advances_of_staged h (State.milestone_of_bearing hbearing) (State.mono_of_bearing hbearing) hposed.milestone (by simp), ?_⟩
  refine (congrArg (fun v => v.1.blocksFaulted) hposed.1).trans ?_
  obtain ⟨r, b, hfaults, -⟩ := s.startFaults_spec k
  rw [hfaults]
  rfl

/-! ### Stage 7, LOADS (R88, R201, R376, R419, R420) -/

/-- The tests of stage 7: failed blocks are counted, and failed engines and Crucibles give way. -/
def State.tested (s : State) (o : StageResult) : State :=
  ((s.startFaults o.blockFaults).each (o.badEngines.map (fun e => e.val)) (fun u e => u.replaceEngine e)).each
    (o.badCrus.map (fun c => c.val)) (fun u c => u.replaceCru c)
theorem State.bearing_tested (s : State) (o : StageResult) : (s.tested o).bearing = s.bearing :=
  ((State.each_keeps State.bearing _ _ (fun u c => (u.replaceCru_frame c).1) _).trans
    (State.each_keeps State.bearing _ _ (fun u e => u.bearing_replaceEngine e) _)).trans (s.bearing_startFaults _)
theorem State.keepsMap_each_replaceCru (s : State) (l : List Nat) : s.KeepsMap (s.each l (fun u c => u.replaceCru c)) :=
  State.each_inv (fun u => s.KeepsMap u) l _ (fun u c h => h.trans (u.replaceCru_frame c).2) s (fun h => ⟨h, rfl⟩)
theorem State.regs_wf_tested {s : State} (hwf : Tbl.wf resetWord s.regs = true) (o : StageResult) : Tbl.wf resetWord (s.tested o).regs = true :=
  (State.keepsMap_each_replaceCru _ _ (State.each_inv (fun u => Tbl.wf resetWord u.regs = true) _ _ (fun _ e h => State.regs_wf_replaceEngine h e) _
    (s.keepsMap_startFaults _ hwf).1)).1
theorem State.pePhys_tested {s : State} (hwf : Tbl.wf resetWord s.regs = true) {o : StageResult} {e : Fin 128} (hbad : o.badEngines = [e])
    (hfree : s.spareFree (e / 16) = true) : (s.tested o).pePhys e = 17 * (e / 16) + 16 := by
  have hfaults := (s.keepsMap_startFaults o.blockFaults hwf).1
  have hcrus := State.keepsMap_each_replaceCru ((s.startFaults o.blockFaults).replaceEngine e) (o.badCrus.map (fun c => c.val))
    (State.regs_wf_replaceEngine hfaults e)
  have htested : s.tested o = ((s.startFaults o.blockFaults).replaceEngine e).each (o.badCrus.map (fun c => c.val)) (fun u c => u.replaceCru c) := by
    unfold State.tested
    rw [hbad]
    rfl
  rw [htested, State.pePhys_of_peMap hcrus.2 e]
  exact State.pePhys_replaceEngine hfaults e (by rw [State.spareFree_startFaults, hfree])
theorem State.tested_of_good (s : State) {o : StageResult} (he : o.badEngines = []) (hc : o.badCrus = []) :
    s.tested o = s.startFaults o.blockFaults := by
  unfold State.tested
  rw [he, hc]
  rfl

theorem State.pass_loads {s : State} {o : StageResult} (h : s.InStage 7) (hwf : Tbl.wf resetWord s.regs = true) :
    let t := (s.tested o).nextStage.restoreConfig o.badRecords
    s.Advances 7 t ∧ (o.badEngines = [] → o.badCrus = [] → t.boot.blocksFaulted = s.boot.blocksFaulted + o.blockFaults)
      ∧ (∀ e : Fin 128, o.badEngines = [e] → s.spareFree (e / 16) = true → t.pePhys e = 17 * (e / 16) + 16)
      ∧ ∀ x ∈ s.nv.recs, 0x0300 * 65536 ≤ x.1 → x.1 < 0x0304 * 65536 →
        (savedOk (x.1 / 65536) x.2 = false ∨ (x.1 / 65536, x.1 % 65536) ∈ o.badRecords) → t.boot.configDefault = true := by
  intro t
  have hbearing := s.bearing_tested o
  have hmile : (s.tested o).milestone = s.milestone := State.milestone_of_bearing hbearing
  have hstage : (s.tested o).boot.stage = 7 := (congrArg (fun v => v.1) hmile).trans h.2
  have hnext : (s.tested o).nextStage = (s.tested o).staged :=
    State.nextStage_of_plain (by rw [hstage]; decide) (by rw [hstage]; decide) (by rw [hstage]; decide) (by rw [hstage]; decide)
  obtain ⟨hposed, -⟩ : (s.tested o).staged.Restores t := hnext ▸ (s.tested o).nextStage.restores_restoreConfig o.badRecords
  have hkeep : t.keep = s.keep := by simp [t, State.tested]
  refine ⟨State.advances_of_staged h hmile (State.mono_of_bearing hbearing) hposed.milestone hkeep, fun he hc => ?_, fun e he hfree => ?_,
    fun x hx hlo hhi hbad => ?_⟩
  · refine (congrArg (fun v => v.1.blocksFaulted) hposed.1).trans ?_
    obtain ⟨r, b, hfaults, -⟩ := s.startFaults_spec o.blockFaults
    rw [s.tested_of_good he hc, hfaults]
    rfl
  · exact (State.pePhys_of_peMap (hposed.2.2 (State.regs_wf_tested hwf o)).2 e).trans (State.pePhys_tested hwf he hfree)
  · refine State.configDefault_restoreConfig (x := x) ?_ hlo hhi hbad
    rw [hnext]
    have hnv : (s.tested o).nv = s.nv := congrArg (fun v => v.2.2.1) hbearing
    exact hnv ▸ hx

end Sys2Proof.Machine
end

section
/-! SUPPORT. Stage 8 of a start: blocks that failed are counted, and the banks and groups with a saved enable power up (R134, R149, R161, R420). -/

namespace Sys2Proof.Machine

/-! ### What power-ups and their ends leave alone -/

theorem State.poised_setBank (s : State) (b : Nat) (x : Bank) : s.Poised (s.setBank b x) := .of_regs rfl rfl rfl
theorem State.poised_setGrp (s : State) (g : Nat) (x : Group) : s.Poised (s.setGrp g x) := .of_regs rfl rfl rfl
theorem State.poised_setFbch (s : State) (n : Nat) (x : FbChan) : s.Poised (s.setFbch n x) := .of_regs rfl rfl rfl
theorem State.poised_bankUp (s : State) (b : Nat) : s.Poised (s.bankUp b) := by
  unfold State.bankUp
  dsimp only
  split
  · exact (s.poised_setBank b _).trans (State.poised_routineAsk _ _ _)
  · exact s.poised_setBank b _
  · exact .refl s
theorem State.poised_groupUp (s : State) (g : Nat) : s.Poised (s.groupUp g) := by
  unfold State.groupUp
  dsimp only
  split
  · exact (s.poised_setGrp g _).trans (State.poised_routineAsk _ _ _)
  · exact s.poised_setGrp g _
  · exact .refl s
theorem State.poised_powerOutputs (s : State) : s.Poised s.powerOutputs :=
  (s.poised_each _ fun u b => u.poised_bankUp b).trans (State.poised_each _ _ fun u g => .ite (u.poised_groupUp g) (.refl u))

/-! ### The banks of a start -/

/-- Banks are well formed, and no fault demands abort of a routine. -/
def State.Undisturbed (s : State) : Prop := Tbl.wf (fun _ => Bank.init) s.banks = true ∧ s.cmk.abort = false

theorem State.Undisturbed.setBank {s : State} (h : s.Undisturbed) (b : Nat) (x : Bank) : (s.setBank b x).Undisturbed :=
  ⟨State.banks_wf_setBank s b x h.1, h.2⟩
theorem State.Undisturbed.of_asks {s t : State} (h : s.Undisturbed) (ht : s.Asks t) : t.Undisturbed :=
  ⟨ht.2.1 ▸ h.1, ht.2.2 h.2⟩
theorem State.bank_of_banks {s t : State} (h : t.banks = s.banks) (b : Nat) : t.bank b = s.bank b := congrArg (fun l => Tbl.get l b Bank.init) h

/-- A bank asked for is powering up if it was OFF; the other banks stay. -/
theorem State.bankUp_bank {s : State} (h : s.Undisturbed) (b : Nat) : (s.bankUp b).Undisturbed
    ∧ ((s.bank b).st = .off → ((s.bankUp b).bank b).st = .poweringUp)
    ∧ ((s.bank b).st = .poweringUp → ((s.bankUp b).bank b).st = .poweringUp) ∧ ∀ c, c ≠ b → (s.bankUp b).bank c = s.bank c := by
  unfold State.bankUp
  dsimp only
  split
  next hst =>
    have hset := h.setBank b ⟨.poweringUp, s.now, false⟩
    have hasks := State.asks_routineAsk hset.2 (upRoutine b) b
    have hup : ((s.setBank b ⟨.poweringUp, s.now, false⟩).bank b).st = .poweringUp := by rw [State.bank_setBank_same s b _ h.1]
    refine ⟨hset.of_asks hasks, fun _ => ?_, fun hup => ?_, fun c hc => ?_⟩
    · rw [State.bank_of_banks hasks.2.1, hup]
    · rw [hst] at hup
      cases hup
    · rw [State.bank_of_banks hasks.2.1, State.bank_setBank_other s b c _ hc]
  next hst =>
    refine ⟨h.setBank b _, fun hoff => ?_, fun hup => ?_, fun c hc => State.bank_setBank_other s b c _ hc⟩
    · rw [hst] at hoff
      cases hoff
    · rw [hst] at hup
      cases hup
  next hoff _ => exact ⟨h, fun h' => absurd h' hoff, fun hup => hup, fun _ _ => rfl⟩
theorem State.groupUp_banks {s : State} (h : s.Undisturbed) (g : Nat) : (s.groupUp g).Undisturbed ∧ (s.groupUp g).banks = s.banks := by
  unfold State.groupUp
  dsimp only
  split
  · next hst =>
    have hset : State.Undisturbed (s.setGrp g { s.grp g with st := .poweringUp, since := s.now, enPending := false }) := h
    have hasks := State.asks_routineAsk hset.2 0x05 g
    exact ⟨hset.of_asks hasks, hasks.2.1⟩
  · exact ⟨h, rfl⟩
  · exact ⟨h, rfl⟩

/-- Every bank that is OFF powers up. -/
theorem State.powerOutputs_bank {s : State} (h : s.Undisturbed) (b : Fin 6) (hoff : (s.bank b).st = .off) :
    (s.powerOutputs.bank b).st = .poweringUp := by
  have hbanks : ((s.each (List.range 6) (fun u c => u.bankUp c)).bank b).st = .poweringUp
      ∧ (s.each (List.range 6) (fun u c => u.bankUp c)).Undisturbed := by
    refine ⟨?_, State.each_inv State.Undisturbed _ _ (fun u c hu => (State.bankUp_bank hu c).1) s h⟩
    refine State.each_reaches (f := fun (u : State) c => u.bankUp c) (x := b.val)
      (I := fun u => u.Undisturbed ∧ ((u.bank b).st = .off ∨ (u.bank b).st = .poweringUp)) (P := fun u => (u.bank b).st = .poweringUp) ?_ ?_ ?_
      (List.range 6) (List.mem_range.mpr b.isLt) ⟨h, .inl hoff⟩
    · rintro u c ⟨hu, hst⟩
      obtain ⟨hu', hup, hkeep, hother⟩ := State.bankUp_bank hu c
      by_cases hc : b.val = c
      · subst hc
        exact ⟨hu', .inr (hst.elim hup hkeep)⟩
      · exact ⟨hu', by rw [hother b hc]; exact hst⟩
    · rintro u ⟨hu, hst⟩
      obtain ⟨-, hup, hkeep, -⟩ := State.bankUp_bank hu b
      exact hst.elim hup hkeep
    · rintro u c ⟨hu, -⟩ hst
      obtain ⟨-, -, hkeep, hother⟩ := State.bankUp_bank hu c
      by_cases hc : b.val = c
      · subst hc
        exact hkeep hst
      · rw [hother b hc]
        exact hst
  obtain ⟨hst, hu⟩ := hbanks
  have hgroups : ∀ u : State, u.Undisturbed → ∀ g, (if u.bit (aGrpCtrl g) 0 then u.groupUp g else u).Undisturbed
      ∧ (if u.bit (aGrpCtrl g) 0 then u.groupUp g else u).banks = u.banks := fun u hu g => by
    split
    · exact State.groupUp_banks hu g
    · exact ⟨hu, rfl⟩
  have hall := State.each_inv (fun u => u.Undisturbed ∧ u.banks = (s.each (List.range 6) (fun u c => u.bankUp c)).banks) (List.range 16)
    (fun u g => if u.bit (aGrpCtrl g) 0 then u.groupUp g else u) (fun u g hv => ⟨(hgroups u hv.1 g).1, (hgroups u hv.1 g).2.trans hv.2⟩)
    (s.each (List.range 6) (fun u c => u.bankUp c)) ⟨hu, rfl⟩
  exact (congrArg (fun x : Bank => x.st) (State.bank_of_banks hall.2 b)).trans hst

/-! ### A routine that has ended (R358) -/

theorem State.abort_cmkEnd (s : State) (result : Byte) (h : s.cmk.abort = false) : (s.cmkEnd true result).cmk.abort = false := by
  unfold State.cmkEnd
  split
  · exact h
  · rfl
theorem State.abort_routineDone (s : State) (r : Byte) (n : Nat) (h : s.cmk.abort = false) : (s.routineDone r n).cmk.abort = false := by
  unfold State.routineDone
  extract_lets q same asked cmk kept
  split
  · exact h
  · split
    · exact State.abort_cmkEnd kept 0 h
    · exact h
theorem State.Undisturbed.routineDone {s : State} (h : s.Undisturbed) (r : Byte) (n : Nat) :
    (s.routineDone r n).Undisturbed ∧ (s.routineDone r n).banks = s.banks := by
  have habort := s.abort_routineDone r n h.2
  obtain ⟨m, hdone⟩ := s.routineDone_eq r n
  rw [hdone] at habort ⊢
  exact ⟨⟨h.1, habort⟩, rfl⟩
theorem State.Undisturbed.startFaults {s : State} (h : s.Undisturbed) (n : Nat) :
    (s.startFaults n).Undisturbed ∧ (s.startFaults n).banks = s.banks := by
  obtain ⟨r, b, hfaults, -⟩ := s.startFaults_spec n
  rw [hfaults]
  exact ⟨h, rfl⟩

theorem State.pass_outputs {s : State} {n : Nat} (h : s.InStage 8) : s.Advances 8 (s.startFaults n).nextStage.powerOutputs
    ∧ (s.startFaults n).nextStage.powerOutputs.boot.blocksFaulted = s.boot.blocksFaulted + n
    ∧ (s.Undisturbed → ∀ b : Fin 6, (s.bank b).st = .off → ((s.startFaults n).nextStage.powerOutputs.bank b).st = .poweringUp) := by
  obtain ⟨-, hfaults⟩ := State.pass_faults h n
  have hbearing := s.bearing_startFaults n
  have hposed := (s.startFaults n).nextStage.poised_powerOutputs
  have hmile := hposed.milestone.trans (s.startFaults n).poised_nextStage.milestone
  refine ⟨State.advances_of_staged h (State.milestone_of_bearing hbearing) (State.mono_of_bearing hbearing) hmile (by simp),
    (congrArg (fun v => v.1.blocksFaulted) hposed.1).trans hfaults, fun hu b hoff => ?_⟩
  obtain ⟨hu', hbanks⟩ := hu.startFaults n
  have hstage : (s.startFaults n).boot.stage = 8 := (congrArg (fun v => v.1.stage) hbearing).trans h.2
  obtain ⟨r, hnext⟩ := State.nextStage_of_done (.inr hstage)
  have hstaged : (s.startFaults n).staged.Undisturbed := hu'
  obtain ⟨hdone, hbanks'⟩ := hstaged.routineDone r 0
  rw [hnext]
  refine State.powerOutputs_bank hdone b ?_
  rw [State.bank_of_banks (hbanks'.trans hbanks), hoff]

end Sys2Proof.Machine
end

section
/-! SUPPORT. Stage 9 of a start: outputs that are ON or have failed, closures that become run ends, and the release of FAULT_N (R43, R147, R294,
R320, R419, R420, R423, R431). -/

namespace Sys2Proof.Machine

/-! ### Outputs that are ON, or have failed (R420) -/

/-- The banks and the sequencer. -/
def State.bankCmk (s : State) : Tbl Bank × Cmk := (s.banks, s.cmk)
theorem State.bankCmk_each {α : Type} (s : State) (l : List α) {f : State → α → State} (h : ∀ s x, (f s x).bankCmk = s.bankCmk) :
    (s.each l f).bankCmk = s.bankCmk := State.each_keeps State.bankCmk l f h s
theorem State.bankCmk_playCleared (s : State) (t n : Nat) (tick : Tick) : (s.playCleared t n tick).bankCmk = s.bankCmk := by
  unfold State.playCleared
  split <;> rfl
theorem State.bankCmk_muteHits (s : State) (ch : Nat) (tick : Tick) : (s.muteHits ch tick).bankCmk = s.bankCmk := by
  unfold State.muteHits
  dsimp only
  refine s.bankCmk_each _ fun u t => (State.bankCmk_each _ _ fun w q => w.bankCmk_playCleared _ _ _).trans ?_
  split
  · rfl
  · exact u.bankCmk_playCleared _ _ _
theorem State.bankCmk_setTone (s : State) (t : Nat) (x : Tone) : (s.setTone t x).bankCmk = s.bankCmk := rfl
theorem State.bankCmk_judgeMute (s : State) (ch : Nat) (tick : Tick) : (s.judgeMute ch tick).bankCmk = s.bankCmk := by
  unfold State.judgeMute
  dsimp only
  split
  · split
    · rfl
    · exact State.bankCmk_muteHits _ _ _
  · split
    · exact s.bankCmk_each _ fun u t => u.bankCmk_setTone _ _
    · rfl
theorem State.bankCmk_adcOn (s : State) (c : Nat) (t : Tick) :
    (if (s.seedAdc c).bit (aAdcCtrl c) 0 then (s.seedAdc c).setAdcch c (((s.seedAdc c).adcch c).refStart t) else s.seedAdc c).bankCmk = s.bankCmk := by
  split <;> rfl
theorem State.bankCmk_bankOn (s : State) (b : Nat) (t : Tick) :
    (s.bankOn b t).bankCmk = ((s.routineDone (upRoutine b) b).setBank b ⟨.on, t, false⟩).bankCmk := by
  unfold State.bankOn
  dsimp only
  split
  · exact State.bankCmk_each _ _ fun u c => u.bankCmk_adcOn c t
  · exact State.bankCmk_each _ _ fun u ch => (State.bankCmk_judgeMute _ _ _).trans (u.bankCmk_each _ fun w n => w.bankCmk_setTone _ _)

/-- The end of a power-up sets its own bank, and disturbs nothing. -/
theorem State.Undisturbed.ended {s t : State} (h : s.Undisturbed) {r : Byte} {b : Nat} {x : Bank}
    (ht : t.bankCmk = ((s.routineDone r b).setBank b x).bankCmk) : t.Undisturbed ∧ t.bank b = x ∧ ∀ c, c ≠ b → t.bank c = s.bank c := by
  obtain ⟨hdone, hbanks⟩ := h.routineDone r b
  have htbanks : t.banks = ((s.routineDone r b).setBank b x).banks := congrArg (fun v => v.1) ht
  have htcmk : t.cmk = ((s.routineDone r b).setBank b x).cmk := congrArg (fun v => v.2) ht
  have hset := hdone.setBank b x
  refine ⟨⟨htbanks ▸ hset.1, htcmk ▸ hset.2⟩, ?_, fun c hc => ?_⟩
  · rw [State.bank_of_banks htbanks, State.bank_setBank_same _ b x hdone.1]
  · rw [State.bank_of_banks htbanks, State.bank_setBank_other _ b c x hc, State.bank_of_banks hbanks]

/-- One bank's power-up at its end. -/
def State.bankSettled (s : State) (o : StageResult) (b : Nat) : State :=
  if (s.bank b).st = .poweringUp then (if o.badBanks.any (fun x => x.val == b) then s.bankFail b else s.bankOn b s.now) else s
/-- One group's power-up at its end. -/
def State.groupSettled (s : State) (o : StageResult) (g : Nat) : State :=
  if (s.grp g).st = .poweringUp then (if o.badGroups.any (fun x => x.val == g) then s.groupFail g else s.groupOn g) else s
theorem State.outputsOn_eq (s : State) (o : StageResult) : s.outputsOn o
    = (s.each (List.range 6) (fun u b => u.bankSettled o b)).each (List.range 16) (fun u g => u.groupSettled o g) := rfl

/-- What a bank that was powering up is at the end. -/
def settledAs (o : StageResult) (b : Nat) : Power := if o.badBanks.any (fun x => x.val == b) then .off else .on
theorem settledAs_ne (o : StageResult) (b : Nat) : settledAs o b ≠ .poweringUp := by
  unfold settledAs
  split <;> simp
theorem State.bankSettled_spec {s : State} (h : s.Undisturbed) (o : StageResult) (b : Nat) : (s.bankSettled o b).Undisturbed
    ∧ ((s.bank b).st = .poweringUp → ((s.bankSettled o b).bank b).st = settledAs o b)
    ∧ ((s.bank b).st ≠ .poweringUp → (s.bankSettled o b).bank b = s.bank b) ∧ ∀ c, c ≠ b → (s.bankSettled o b).bank c = s.bank c := by
  unfold State.bankSettled
  split
  next hup =>
    unfold settledAs
    split
    · obtain ⟨hu, hsame, hother⟩ := h.ended (t := s.bankFail b) (r := upRoutine b) (b := b) (x := ⟨.off, s.now, false⟩) rfl
      exact ⟨hu, fun _ => by rw [hsame], fun hn => absurd hup hn, hother⟩
    · obtain ⟨hu, hsame, hother⟩ := h.ended (s.bankCmk_bankOn b s.now)
      exact ⟨hu, fun _ => by rw [hsame], fun hn => absurd hup hn, hother⟩
  next hst => exact ⟨h, fun hup => absurd hup hst, fun _ => rfl, fun _ _ => rfl⟩
/-- A group's channels at their clear codes. -/
def State.groupChansClear (s : State) (g : Nat) : State :=
  s.each (groupChans g) (fun u n => (u.setFbch n { u.fbch n with code := u.clrCode n, atClear := true, moves := [] }).holdClear n)
theorem State.bankCmk_setReg (s : State) (a : Nat) (v : W32) : (s.setReg a v).bankCmk = s.bankCmk := rfl
theorem State.bankCmk_holdClear (s : State) (n : Nat) : (s.holdClear n).bankCmk = s.bankCmk := by
  unfold State.holdClear
  split
  · exact s.bankCmk_setReg _ _
  · exact s.bankCmk_setReg _ _
theorem State.bankCmk_groupChansClear (s : State) (g : Nat) : (s.groupChansClear g).bankCmk = s.bankCmk :=
  s.bankCmk_each _ fun _ n => State.bankCmk_holdClear _ n
theorem State.groupSettled_spec {s : State} (h : s.Undisturbed) (o : StageResult) (g : Nat) :
    (s.groupSettled o g).Undisturbed ∧ (s.groupSettled o g).banks = s.banks := by
  unfold State.groupSettled
  split
  · split
    · exact h.routineDone 0x05 g
    · have hchans : (s.groupChansClear g).Undisturbed ∧ (s.groupChansClear g).banks = s.banks := by
        have hview := s.bankCmk_groupChansClear g
        have hbanks : (s.groupChansClear g).banks = s.banks := congrArg (fun v => v.1) hview
        have hcmk : (s.groupChansClear g).cmk = s.cmk := congrArg (fun v => v.2) hview
        exact ⟨⟨hbanks ▸ h.1, hcmk ▸ h.2⟩, hbanks⟩
      obtain ⟨hdone, hbanks⟩ := hchans.1.routineDone 0x05 g
      exact ⟨hdone, hbanks.trans hchans.2⟩
  · exact ⟨h, rfl⟩

/-- Banks that were powering up are ON, or OFF where they failed. -/
theorem State.outputsOn_bank {s : State} (h : s.Undisturbed) (o : StageResult) (b : Fin 6) (hup : (s.bank b).st = .poweringUp) :
    (s.outputsOn o).Undisturbed ∧ ((s.outputsOn o).bank b).st = settledAs o b := by
  have hu := State.each_inv State.Undisturbed (List.range 6) (fun u c => u.bankSettled o c) (fun u c hu => (State.bankSettled_spec hu o c).1) s h
  have hst : ((s.each (List.range 6) (fun u c => u.bankSettled o c)).bank b).st = settledAs o b := by
    refine State.each_reaches (f := fun (u : State) c => u.bankSettled o c) (x := b.val)
      (I := fun u => u.Undisturbed ∧ ((u.bank b).st = .poweringUp ∨ (u.bank b).st = settledAs o b)) (P := fun u => (u.bank b).st = settledAs o b)
      ?_ ?_ ?_ (List.range 6) (List.mem_range.mpr b.isLt) ⟨h, .inl hup⟩
    · rintro u c ⟨hu, hst⟩
      obtain ⟨hu', hend, hkeep, hother⟩ := State.bankSettled_spec hu o c
      by_cases hc : b.val = c
      · subst hc
        exact ⟨hu', .inr (hst.elim hend fun hs => by rw [hkeep (hs ▸ settledAs_ne o b), hs])⟩
      · exact ⟨hu', by rw [hother b hc]; exact hst⟩
    · rintro u ⟨hu, hst⟩
      obtain ⟨-, hend, hkeep, -⟩ := State.bankSettled_spec hu o b
      exact hst.elim hend fun hs => by rw [hkeep (hs ▸ settledAs_ne o b), hs]
    · rintro u c ⟨hu, -⟩ hs
      obtain ⟨-, -, hkeep, hother⟩ := State.bankSettled_spec hu o c
      by_cases hc : b.val = c
      · subst hc
        rw [hkeep (hs ▸ settledAs_ne o b), hs]
      · rw [hother b hc, hs]
  have hall := State.each_inv (fun u => u.Undisturbed ∧ u.banks = (s.each (List.range 6) (fun u c => u.bankSettled o c)).banks) (List.range 16)
    (fun u g => u.groupSettled o g) (fun u g hv => ⟨(State.groupSettled_spec hv.1 o g).1, (State.groupSettled_spec hv.1 o g).2.trans hv.2⟩)
    (s.each (List.range 6) (fun u c => u.bankSettled o c)) ⟨hu, rfl⟩
  rw [s.outputsOn_eq]
  exact ⟨hall.1, (congrArg (fun x : Bank => x.st) (State.bank_of_banks hall.2 b)).trans hst⟩

theorem State.poised_blockFault (s : State) : s.Poised s.blockFault := by
  have halert := State.poised_setBit { s with fault := { s.fault with blocks := BitVec.ofNat 8 (satAdd 8 s.fault.blocks.toNat 1) } } (a := aMldAlert) 4 true
    (by decide)
  exact State.Poised.trans (.of_regs rfl rfl rfl) halert
theorem State.poised_bankSettled (s : State) (o : StageResult) (b : Nat) : s.Poised (s.bankSettled o b) :=
  .ite (.ite (((s.poised_routineDone _ _).trans (State.poised_setBank _ _ _)).trans (State.poised_blockFault _))
    (State.poised_of_settleRest (s.settleRest_bankOn b s.now))) (.refl s)
theorem State.poised_groupSettled (s : State) (o : StageResult) (g : Nat) : s.Poised (s.groupSettled o g) := by
  have hchans : s.Poised (s.groupChansClear g) := s.poised_each _ fun u n => (u.poised_setFbch n _).trans (State.poised_holdClear _ n)
  exact .ite (.ite (((s.poised_routineDone _ _).trans (State.poised_setGrp _ _ _)).trans (State.poised_blockFault _))
    ((hchans.trans (State.poised_routineDone _ _ _)).trans (State.poised_setGrp _ _ _))) (.refl s)
theorem State.poised_outputsOn (s : State) (o : StageResult) : s.Poised (s.outputsOn o) :=
  (s.poised_each _ fun u b => u.poised_bankSettled o b).trans (State.poised_each _ _ fun u g => u.poised_groupSettled o g)

end Sys2Proof.Machine
end

section
/-! SUPPORT. The end of a start (R43, R147, R294, R320, R419, R420, R423, R425, R431). -/

namespace Sys2Proof.Machine

/-! ### Closures that become run ends (R43) -/

/-- What the end record of a closure leaves alone. -/
def State.closeRest (s : State) : Boot × Supply × Nv × FaultPath × Tbl Bank × Cmk := (s.boot, s.supply, s.nv, s.fault, s.banks, s.cmk)
theorem State.closeRest_addResult (s : State) (y : ResRec) : (s.addResult y).closeRest = s.closeRest :=
  (congrArg State.closeRest (s.addResult_spec y).1).trans rfl
theorem State.closeRest_closureEnd (s : State) (c : Closure) : (s.closureEnd c).closeRest = s.closeRest := State.closeRest_addResult _ _
theorem State.resultKeys_closureEnd (s : State) (c : Closure) : ∃ b, (s.closureEnd c).resultKeys = s.resultKeys ++ [(c.run, none, b)] :=
  ⟨_, State.resultKeys_addResult _ _⟩

/-- Every closure has become a run end, and none is left. -/
def State.closuresEnded (s : State) : State := { s.each s.nv.closures (fun u c => u.closureEnd c) with nv := { s.nv with closures := [] } }
theorem State.closuresEnded_spec (s : State) : s.closuresEnded.boot = s.boot ∧ s.closuresEnded.supply = s.supply
    ∧ s.closuresEnded.fault = s.fault ∧ s.closuresEnded.banks = s.banks ∧ s.closuresEnded.cmk = s.cmk := by
  have h := State.each_keeps State.closeRest s.nv.closures (fun u c => u.closureEnd c) (fun u c => u.closeRest_closureEnd c) s
  simp only [State.closeRest, Prod.mk.injEq] at h
  obtain ⟨hboot, hsupply, -, hfault, hbanks, hcmk⟩ := h
  exact ⟨hboot, hsupply, hfault, hbanks, hcmk⟩
theorem State.closuresEnded_results {s : State} {c : Closure} (h : c ∈ s.nv.closures) :
    ∃ q ∈ s.closuresEnded.results, q.run = c.run ∧ q.shot = none := by
  have hkey : ∃ b, (c.run, none, b) ∈ (s.each s.nv.closures (fun u c => u.closureEnd c)).resultKeys := by
    refine State.each_reaches (f := fun (u : State) c => u.closureEnd c) (x := c) (I := fun _ => True)
      (P := fun u => ∃ b, (c.run, none, b) ∈ u.resultKeys) (fun _ _ h => h) (fun u _ => ?_) (fun u d _ hb => ?_) s.nv.closures h trivial
    · obtain ⟨b, hkeys⟩ := u.resultKeys_closureEnd c
      exact ⟨b, by rw [hkeys]; simp⟩
    · obtain ⟨b, hmem⟩ := hb
      obtain ⟨b', hkeys⟩ := u.resultKeys_closureEnd d
      exact ⟨b, by rw [hkeys]; exact List.mem_append_left _ hmem⟩
  obtain ⟨b, hmem⟩ := hkey
  obtain ⟨q, hq, hrun, hshot, -⟩ := State.mem_results_of_key hmem
  exact ⟨q, hq, hrun, hshot⟩

/-! ### The release of FAULT_N (R147, R431) -/

theorem State.captureLost_eq (s : State) : ∃ r l n k, s.captureLost
    = { s with regs := r, sessions := l, sent := n, nv := { s.nv with capLost := k } } := by
  unfold State.captureLost
  split
  · exact ⟨s.regs, s.sessions, s.sent, s.nv.capLost, rfl⟩
  next n _ =>
    obtain ⟨l, m, h⟩ := (s.count aCapCnt 7 0 1).notifyRole_eq .operator 0x05 (leBytes 4 n.toNat)
    dsimp only
    rw [h]
    exact ⟨_, _, _, _, rfl⟩
/-- FAULT_N no longer held by the start. -/
def State.startReleased (s : State) : State := { s with fault := { s.fault with start := false } }
theorem State.poised_withFault (s : State) (r : Option Tick) :
    s.Poised { s with fault := { s.fault with clearTick := none, releaseTick := r } } := .of_regs rfl rfl rfl
theorem State.poised_releaseClear (s : State) (t : Tick) (p : BitVec 16) : s.Poised (s.releaseClear t p) := by
  unfold State.releaseClear
  extract_lets fault freed
  have hfreed : s.Poised freed := .ite (.refl s) (s.poised_withFault _)
  exact (hfreed.trans (freed.poised_each _ fun u ch => u.poised_judgeMute ch t)).trans (State.poised_publishSys _ _ _ _)
theorem State.banks_releaseClear (s : State) (t : Tick) (p : BitVec 16) : (s.releaseClear t p).banks = s.banks := by
  unfold State.releaseClear
  extract_lets fault freed
  have hfreed : freed.banks = s.banks := by
    unfold freed
    split <;> rfl
  have hmutes : (freed.judgeMutes t).banks = freed.banks :=
    congrArg (fun v => v.1) (freed.bankCmk_each _ fun u ch => u.bankCmk_judgeMute ch t)
  obtain ⟨r, l, hpublish, -⟩ := (freed.judgeMutes t).publishSys_spec 244 t p
  rw [hpublish]
  exact hmutes.trans hfreed
theorem State.startRelease_spec (s : State) : s.startReleased.Poised s.startRelease ∧ s.startRelease.banks = s.banks := by
  unfold State.startRelease
  extract_lets fault u
  split
  · exact ⟨.refl _, rfl⟩
  · exact ⟨u.poised_releaseClear _ _, u.banks_releaseClear _ _⟩

/-! ### COMPLETE (R419, R423, R425) -/

/-- The boot record of a start that completes, and what is proven by it. -/
def State.completing (s : State) : State :=
  let u : State := { s with boot := { s.boot with
    stageEnds := s.boot.stageEnds ++ s.boot.stageEnds.getLast?.toList, completeAt := some s.mono, settling := true } }
  { u with fw := { u.fw with proven := [(1, true), (2, true), (3, true)] }
           cmk := { u.cmk with lastTiu := u.mono, lastScrub := u.mono } }
/-- The end of a start, up to the closures. -/
def State.closing (s : State) (o : StageResult) : State := (s.outputsOn o).nextStage.completing.bootClose 0 0 false false
theorem State.complete_eq (s : State) (o : StageResult) : s.complete o
    = ((s.closing o).closuresEnded.routineAsk 0x0A 0).captureLost.startRelease := by
  unfold State.complete
  extract_lets staged boot timed fw cmk done closed each nv ended asked
  have hdone : done = staged.completing := rfl
  have hclosed : closed = s.closing o := congrArg (fun u : State => u.bootClose 0 0 false false) hdone
  have hended : ended = closed.closuresEnded := rfl
  have hasked : asked = (s.closing o).closuresEnded.routineAsk 0x0A 0 :=
    congrArg (fun u : State => u.routineAsk 0x0A 0) (hended.trans (congrArg State.closuresEnded hclosed))
  rw [hasked]

theorem State.completed_spec (v : State) : (v.completing.bootClose 0 0 false false).milestone = v.milestone
    ∧ (v.completing.bootClose 0 0 false false).boot.completeAt = some v.mono ∧ (v.completing.bootClose 0 0 false false).boot.settling = true
    ∧ (v.completing.bootClose 0 0 false false).nv = v.nv ∧ (v.completing.bootClose 0 0 false false).bankCmk = v.completing.bankCmk := by
  obtain ⟨p, l, hclosed⟩ := v.completing.bootClose_eq 0 0 false false
  rw [hclosed]
  exact ⟨rfl, rfl, rfl, rfl, rfl⟩
theorem State.closing_spec {s : State} (h : s.boot.stage = 9) (o : StageResult) : (s.closing o).milestone = s.staged.milestone
    ∧ (s.closing o).boot.completeAt = some s.mono ∧ (s.closing o).boot.settling = true ∧ (s.closing o).nv.closures = s.nv.closures
    ∧ (s.closing o).banks = (s.outputsOn o).banks ∧ (s.closing o).cmk.abort = (s.outputsOn o).cmk.abort := by
  unfold State.closing
  have hposed := s.poised_outputsOn o
  generalize s.outputsOn o = v at *
  have hstage : v.boot.stage = 9 := (congrArg (fun w => w.1.stage) hposed.1).trans h
  have hmono : v.mono = s.mono := congrArg (fun w => w.2.2.2.2.1) hposed.1
  have hstaged : v.staged.milestone = s.staged.milestone :=
    congrArg (fun w => (w.1.stage + 1, w.1.stop, w.2.2.2.2.1, w.2.1.domOn ||| stageDoms w.1.stage)) hposed.1
  have hnv : v.nv = s.nv := congrArg (fun w => w.2.2.1) hposed.1
  have hnext : v.nextStage = v.staged :=
    State.nextStage_of_plain (by rw [hstage]; decide) (by rw [hstage]; decide) (by rw [hstage]; decide) (by rw [hstage]; decide)
  rw [hnext]
  obtain ⟨hmile, hat, hsettling, hnv', hbank⟩ := v.staged.completed_spec
  exact ⟨hmile.trans hstaged, hat.trans (congrArg some hmono), hsettling, congrArg (fun w : Nv => w.closures) (hnv'.trans hnv),
    congrArg (fun w => w.1) hbank, congrArg (fun w => w.2.abort) hbank⟩

theorem State.complete_spec {s : State} (h : s.boot.stage = 9) (o : StageResult) : (s.complete o).milestone = s.staged.milestone
    ∧ (s.complete o).boot.completeAt = some s.mono ∧ (s.complete o).boot.settling = true ∧ (s.complete o).fault.start = false
    ∧ (s.complete o).nv.closures = [] ∧ (∀ c ∈ s.nv.closures, ∃ q ∈ (s.complete o).results, q.run = c.run ∧ q.shot = none)
    ∧ ((s.outputsOn o).cmk.abort = false → (s.complete o).banks = (s.outputsOn o).banks) := by
  obtain ⟨hmile, hat, hsettling, hclosures, hbanks, habort⟩ := State.closing_spec h o
  obtain ⟨hboot', hsupply', -, hbanks', hcmk'⟩ := (s.closing o).closuresEnded_spec
  have hended : (s.closing o).closuresEnded.nv.closures = [] := rfl
  have hresults : ∀ c ∈ s.nv.closures, ∃ q ∈ (s.closing o).closuresEnded.results, q.run = c.run ∧ q.shot = none :=
    fun c hc => State.closuresEnded_results (by rw [hclosures]; exact hc)
  rw [s.complete_eq]
  generalize (s.closing o).closuresEnded = u at *
  have hasked := u.poised_routineAsk 0x0A 0
  have hasks := fun ha : u.cmk.abort = false => State.asks_routineAsk ha 0x0A 0
  generalize u.routineAsk 0x0A 0 = v at *
  obtain ⟨r, l, n, k, hlost⟩ := v.captureLost_eq
  rw [hlost]
  obtain ⟨⟨hposture, hres, -⟩, hbank⟩ := State.startRelease_spec { v with regs := r, sessions := l, sent := n, nv := { v.nv with capLost := k } }
  generalize State.startRelease _ = t at *
  have hboot : t.boot = (s.closing o).boot := (congrArg (fun w => w.1) hposture).trans ((congrArg (fun w => w.1) hasked.1).trans hboot')
  have hsupply : t.supply = (s.closing o).supply := (congrArg (fun w => w.2.1) hposture).trans ((congrArg (fun w => w.2.1) hasked.1).trans hsupply')
  have hnv : t.nv.closures = u.nv.closures := (congrArg (fun w => w.2.2.1.closures) hposture).trans (congrArg (fun w => w.2.2.1.closures) hasked.1)
  have hresult : t.results = u.results := hres.trans hasked.2.1
  refine ⟨?_, by rw [hboot, hat], by rw [hboot, hsettling], congrArg (fun w => w.2.2.2.2.2) hposture, hnv.trans hended, by rw [hresult]; exact hresults,
    fun ha => ?_⟩
  · refine Eq.trans ?_ hmile
    simp only [State.milestone, hboot, hsupply]
  · have habort' : u.cmk.abort = false := by rw [hcmk', habort, ha]
    exact hbank.trans ((hasks habort').2.1.trans (hbanks'.trans hbanks))

end Sys2Proof.Machine
end

section
/-! PROOF. StartsGoThroughTheirStages: each stage by the lemmas of what passes it, and the failed, settled and retried start (R43, R88, R343, R397,
R418-R423, R425, R426). -/

namespace Sys2Proof.Machine

/-! ### What passes a stage -/

/-- What the pass of each stage does. -/
def State.passStage (s : State) (o : StageResult) : Nat → State
  | 1 => if s.essentialFuses then s.passSupervisor o else s
  | 2 => if [1, 2, 3].all (fun k => s.imageReady k (StageSlot o k)) then s.passImages o else s
  | 3 => if 95 ≤ s.supply.riserPct ∧ s.thermal.hottestT < 95 * 128 then s.nextStage else s
  | 4 => s.passTiming
  | 5 => if ((List.range 64).filter (fun k => (s.sensor k).failed)).length ≤ 8 then s.nextStage else s
  | 6 => (s.startFaults o.blockFaults).nextStage
  | 7 => (s.tested o).nextStage.restoreConfig o.badRecords
  | 8 => (s.startFaults o.blockFaults).nextStage.powerOutputs
  | 9 => (s.startFaults o.blockFaults).complete o
  | _ => s

section
variable {s : State} {o : StageResult}

theorem State.stopped_iff (s : State) : (s.boot.stop.isSome ∨ s.boot.ingot ∨ s.supply.unpowered)
    ↔ ¬ (s.boot.stop = none ∧ s.boot.ingot = false ∧ s.supply.unpowered = false) := by
  cases s.boot.stop <;> simp [imp_iff_not_or]
theorem exec_startStagePass {n : Nat} (h : s.InStage n) : exec (.startStagePass o) s = .next (s.passStage o n) := by
  show execStartStagePass o s = _
  unfold execStartStagePass
  rw [if_neg (fun hn => s.stopped_iff.mp hn h.1), ← h.2]
  rfl
theorem exec_startStagePass_stopped (h : ¬ (s.boot.stop = none ∧ s.boot.ingot = false ∧ s.supply.unpowered = false)) :
    exec (.startStagePass o) s = .next s := by
  show execStartStagePass o s = _
  unfold execStartStagePass
  rw [if_pos (s.stopped_iff.mpr h)]
theorem State.passStage_of_none {n : Nat} (h : n = 0 ∨ 10 ≤ n) : s.passStage o n = s := by
  match n, h with
  | 0, _ => rfl
  | n + 10, _ => rfl
theorem exec_startStagePass_waits (h : ¬ (s.boot.stop = none ∧ s.boot.ingot = false ∧ s.supply.unpowered = false) ∨ s.boot.stage = 0
    ∨ 10 ≤ s.boot.stage) : exec (.startStagePass o) s = .next s := by
  by_cases hruns : s.boot.stop = none ∧ s.boot.ingot = false ∧ s.supply.unpowered = false
  · rw [exec_startStagePass ⟨hruns, rfl⟩, State.passStage_of_none (h.resolve_left (not_not_intro hruns))]
  · exact exec_startStagePass_stopped hruns

/-! ### Stage 9 -/

theorem settledAs_iff (o : StageResult) (b : Fin 6) : settledAs o b = if b ∈ o.badBanks then .off else .on := by
  have hmem : (o.badBanks.any (fun x => x.val == b.val) = true) ↔ b ∈ o.badBanks := by
    simp [← Fin.ext_iff]
  unfold settledAs
  simp only [hmem]
theorem State.pass_complete {n : Nat} (h : s.InStage 9) : s.Advances 9 ((s.startFaults n).complete o)
    ∧ ((s.startFaults n).complete o).boot.completeAt = some s.mono ∧ ((s.startFaults n).complete o).boot.settling = true
    ∧ ((s.startFaults n).complete o).fault.start = false ∧ ((s.startFaults n).complete o).nv.closures = []
    ∧ (∀ c ∈ s.nv.closures, ∃ q ∈ ((s.startFaults n).complete o).results, q.run = c.run ∧ q.shot = none)
    ∧ (s.Undisturbed → ∀ b : Fin 6, (s.bank b).st = .poweringUp →
      (((s.startFaults n).complete o).bank b).st = if b ∈ o.badBanks then .off else .on) := by
  have hbearing := s.bearing_startFaults n
  have hstage : (s.startFaults n).boot.stage = 9 := (congrArg (fun v => v.1.stage) hbearing).trans h.2
  have hmono := State.mono_of_bearing hbearing
  have hnv : (s.startFaults n).nv = s.nv := congrArg (fun v => v.2.2.1) hbearing
  obtain ⟨hmile, hat, hsettling, hstart, hclosures, hresults, hbanks⟩ := State.complete_spec hstage o
  refine ⟨State.advances_of_staged h (State.milestone_of_bearing hbearing) hmono hmile (by simp), hmono ▸ hat, hsettling, hstart, hclosures,
    hnv ▸ hresults, fun hu b hup => ?_⟩
  obtain ⟨hu', hsame⟩ := hu.startFaults n
  obtain ⟨hout, hst⟩ := State.outputsOn_bank hu' o b (by rw [State.bank_of_banks hsame, hup])
  rw [State.bank_of_banks (hbanks hout.2), hst, settledAs_iff]

/-! ### The failed, the settled and the retried start (R423) -/

theorem exec_startStageTimeout_of_cause {cause : Byte} (hruns : s.boot.stop = none ∧ s.boot.ingot = false ∧ s.supply.unpowered = false)
    (hcause : (stageCauses s.boot.stage).contains cause = true) : exec (.startStageTimeout cause) s = .next (s.failAttempt cause) := by
  obtain ⟨hstop, hingot, hpower⟩ := hruns
  show execStartStageTimeout cause s = _
  unfold execStartStageTimeout
  rw [if_neg (by simp [hstop, hingot, hpower, List.contains_iff_mem.mp hcause])]
theorem exec_startStageTimeout_of_none {cause : Byte} (h : ¬ (s.boot.stop = none ∧ s.boot.ingot = false ∧ s.supply.unpowered = false)
    ∨ ¬ (stageCauses s.boot.stage).contains cause = true) : exec (.startStageTimeout cause) s = .next s := by
  show execStartStageTimeout cause s = _
  unfold execStartStageTimeout
  rw [if_pos]
  rcases h with h | h
  · rcases s.stopped_iff.mpr h with h | h | h
    · exact .inl h
    · exact .inr (.inl h)
    · exact .inr (.inr (.inl h))
  · exact .inr (.inr (.inr (by simpa using h)))
theorem exec_settlingComplete {t : W64} (hat : s.boot.completeAt = some t) : exec .settlingComplete s
    = .next (if s.boot.stage = 10 ∧ s.boot.settling ∧ 60000000000 ≤ s.since t then
        { s with boot := { s.boot with settling := false, counter := 0 } } else s) := by
  show execSettlingComplete s = _
  unfold execSettlingComplete
  rw [hat]
theorem exec_settlingComplete_of_none (hat : s.boot.completeAt = none) : exec .settlingComplete s = .next s := by
  show execSettlingComplete s = _
  unfold execSettlingComplete
  rw [hat]
theorem exec_retryStart {D : Tick} {t : W64} (hstop : s.boot.stop = some (.failedStart, D, true)) (hat : s.boot.restartAt = some t) :
    exec .retryStart s = .next (if t ≤ s.mono ∧ !s.boot.rstLow then s.startBegin 0x04 else s) := by
  show execRetryStart s = _
  unfold execRetryStart
  rw [hstop, hat]
theorem exec_retryStart_of_none (hstop : s.boot.stop = none) : exec .retryStart s = .next s := by
  show execRetryStart s = _
  unfold execRetryStart
  rw [hstop]

end

/-- Settles O48: each stage by what passes it, FAULT_N and closures by what completes the start, and the failed attempt by the attempts counted. -/
theorem startsGoThroughTheirStages : Obligations.StartsGoThroughTheirStages := by
  unfold Obligations.StartsGoThroughTheirStages
  intro s o cause t0 D b e x c hregs hbanks runs here next waits ingot found cnt top ready faults failed mine up settles retries
  have hnext : ∀ {n : Nat} {P : State → Prop}, here n → s.Advances n (s.passStage o n) → P (s.passStage o n) → next n P := by
    rintro n P hin ⟨hstage, hstop, hat, hdom, hpending, hfuses⟩ hP
    exact ⟨_, exec_startStagePass hin, hstage, hstop, hat, hdom, hpending, hfuses, hP⟩
  have hwaits : ∀ {n : Nat}, here n → s.passStage o n = s → waits := fun hin hs => (exec_startStagePass hin).trans (congrArg _ hs)
  have hingot : ∀ {t : State} {b : Boot}, t.InIngot b → ingot t := fun ⟨hi, hstage, hstop, hdom, hruns, _⟩ => ⟨hi, hstage, hstop, hdom, hruns⟩
  refine ⟨?_, ?_, ?_, ?_, ?_, ?_, ?_, ?_, ?_, ?_, ?_, ?_, ?_, ?_, ?_, ?_, ?_, ?_, ?_, ?_, ?_, ?_, ?_⟩
  · intro hin hfuses hgo
    have hpass : s.passStage o 1 = s.passSupervisor o := if_pos hfuses
    obtain ⟨hadv, hrest⟩ := State.pass_supervisor hin hgo
    exact hnext hin (hpass ▸ hadv) (hpass ▸ hrest)
  · intro hin hfuses hfound htop
    obtain ⟨b, hmode, hfail⟩ := State.pass_supervisor_ingot (o := o) hfound htop
    exact ⟨_, (exec_startStagePass hin).trans (congrArg _ (if_pos hfuses)), hingot hmode, hmode.2.2.2.2.2.1.trans hfail⟩
  · exact fun hin hfuses => hwaits hin (if_neg (by rw [hfuses]; decide))
  · intro hin hready hforced
    have hpass : s.passStage o 2 = s.passImages o := if_pos (List.all_eq_true.mpr hready)
    obtain ⟨hadv, hrest⟩ := State.pass_images (o := o) hin hforced
    exact hnext hin (hpass ▸ hadv) (hpass ▸ hrest)
  · intro hin hready hforced
    obtain ⟨b, hmode⟩ := State.pass_images_ingot (o := o) hforced
    exact ⟨_, (exec_startStagePass hin).trans (congrArg _ (if_pos (List.all_eq_true.mpr hready))), hingot hmode⟩
  · exact fun hin hready => hwaits hin (if_neg (fun h => hready (List.all_eq_true.mp h)))
  · intro hin hriser hcool
    have hpass : s.passStage o 3 = s.nextStage := if_pos ⟨hriser, hcool⟩
    exact hnext hin (hpass ▸ State.pass_plain hin) trivial
  · exact fun hin h => hwaits hin (if_neg (by omega))
  · intro hin
    obtain ⟨hadv, hrest⟩ := State.pass_timing hin
    exact hnext hin hadv hrest
  · intro hin hfew
    have hpass : s.passStage o 5 = s.nextStage := if_pos hfew
    exact hnext hin (hpass ▸ State.pass_plain hin) trivial
  · exact fun hin hmany => hwaits hin (if_neg (not_le.mpr hmany))
  · intro hin
    obtain ⟨hadv, hfaults⟩ := State.pass_faults hin o.blockFaults
    exact hnext hin hadv hfaults
  · intro hin
    obtain ⟨hadv, hgood, hspare, hbad⟩ := State.pass_loads (o := o) hin hregs
    exact hnext hin hadv ⟨hgood, hspare e, hbad x⟩
  · intro hin
    obtain ⟨hadv, hfaults, hup⟩ := State.pass_outputs (n := o.blockFaults) hin
    exact hnext hin hadv ⟨hfaults, fun habort => hup ⟨hbanks, habort⟩ b⟩
  · intro hin
    obtain ⟨hadv, hat, hsettling, hstart, hclosures, hresults, hup⟩ := State.pass_complete (n := o.blockFaults) (o := o) hin
    have hpass : s.passStage o 9 = (s.startFaults o.blockFaults).complete o := rfl
    refine hnext hin (hpass ▸ hadv) ?_
    rw [hpass]
    exact ⟨hat, hsettling, hstart, hclosures, hresults c, fun habort => hup ⟨hbanks, habort⟩ b⟩
  · exact exec_startStagePass_waits
  · intro hruns hmine hbelow
    exact ⟨_, exec_startStageTimeout_of_cause hruns hmine, State.failAttempt_of_below hbelow⟩
  · intro hruns hmine hreached
    have hmode := State.failAttempt_of_reached (cause := cause) hreached
    exact ⟨_, exec_startStageTimeout_of_cause hruns hmine, hingot hmode, hmode.2.2.2.2.2⟩
  · exact exec_startStageTimeout_of_none
  · rintro ⟨hat, hrest⟩
    exact (exec_settlingComplete hat).trans (congrArg _ (if_pos hrest))
  · rintro (hat | ⟨hat, hn⟩)
    · exact exec_settlingComplete_of_none hat
    · exact (exec_settlingComplete hat).trans (congrArg _ (if_neg (fun h => hn ⟨hat, h⟩)))
  · rintro ⟨hstop, hat, hdue, hlow⟩
    obtain ⟨hstage, hcause, hfail, hstarts, hdom⟩ := s.startBegin_spec 0x04
    exact ⟨_, (exec_retryStart hstop hat).trans (congrArg _ (if_pos ⟨hdue, by rw [hlow]; rfl⟩)), hstage, hcause, s.counter_startBegin_retry, hfail,
      hstarts, hdom⟩
  · rintro (hstop | ⟨hstop, hat, hn⟩)
    · exact exec_retryStart_of_none hstop
    · refine (exec_retryStart hstop hat).trans (congrArg _ (if_neg (fun h => hn ⟨hstop, hat, h.1, ?_⟩)))
      simpa using h.2

end Sys2Proof.Machine
end

section
/-! PROOF. What an instruction that stays within its engine does: results, comparisons, tick registers, control and the cursor (R48,
R51-R54, R62). -/

namespace Sys2Proof.Machine

/-! ### An instruction that is executed (R52) -/

/-- An instruction that is executed does what its command says (R52). -/
theorem State.acts_of_executes {s : State} {e : Nat} {code : W64} {k : State → State} {t : State} (hk : k s = t)
    (h : s.executes e code = true) : Host.Outcome.next (s.fetch e code k) = (Host.Outcome.next t : Out) := by
  rw [State.fetch_of_executes h, hk]

/-! ### Results (R51) -/

theorem aluShl_eq (a b : W32) : aluShl a b = BitVec.ofNat 32 (a.toNat * 2 ^ (b.toNat % 32)) := by
  apply BitVec.eq_of_toNat_eq
  rw [aluShl, BitVec.toNat_shiftLeft, BitVec.toNat_ofNat, Nat.shiftLeft_eq]

theorem aluShr_eq (a b : W32) : aluShr a b = BitVec.ofNat 32 (a.toNat / 2 ^ (b.toNat % 32)) := by
  apply BitVec.eq_of_toNat_eq
  rw [aluShr, BitVec.toNat_ushiftRight, BitVec.toNat_ofNat, Nat.shiftRight_eq_div_pow]
  exact (Nat.mod_eq_of_lt ((Nat.div_le_self _ _).trans_lt a.isLt)).symm

theorem aluSra_eq (a b : W32) : aluSra a b = BitVec.ofInt 32 (a.toInt / 2 ^ (b.toNat % 32)) := by
  rw [aluSra, ← BitVec.ofInt_toInt (x := a.sshiftRight (b.toNat % 32)), BitVec.toInt_sshiftRight, Int.shiftRight_eq_div_pow]
  norm_cast

theorem aluMul_eq (a b : W32) : aluMul a b = BitVec.ofNat 32 (a.toNat * b.toNat) :=
  BitVec.eq_of_toNat_eq (by rw [aluMul, BitVec.toNat_mul, BitVec.toNat_ofNat])

theorem aluMin_eq (a b : W32) : aluMin a b = if a.toInt < b.toInt then a else b :=
  if_congr BitVec.slt_iff_toInt_lt rfl rfl

theorem aluMax_eq (a b : W32) : aluMax a b = if a.toInt < b.toInt then b else a :=
  if_congr BitVec.slt_iff_toInt_lt rfl rfl

/-! ### Instructions that change their engine's registers alone (R51, R52) -/

/-- Such an instruction acts on its engine, and the next one follows. -/
theorem State.alu_of_executes {s : State} {e : Nat} {code : W64} {f : Engine → Engine} {g : Engine} (hf : f (s.eng e) = g)
    (h : s.executes e code = true) : Host.Outcome.next (s.alu e code f) = (Host.Outcome.next (s.setEng e g.advance) : Out) :=
  State.acts_of_executes (congrArg (fun g => s.setEng e g.advance) hf) h

/-- An instruction with a result writes it to its destination. -/
theorem State.writesReg_of_executes {s : State} {e rd : Nat} {code : W64} {f : Engine → W32} {x : W32} (hf : f (s.eng e) = x)
    (h : s.executes e code = true) :
    Host.Outcome.next (s.alu e code (fun g => g.setReg rd (f g)))
      = (Host.Outcome.next (s.setEng e ((s.eng e).setReg rd x).advance) : Out) :=
  State.alu_of_executes (congrArg _ hf) h

/-- Settles O1: each instruction writes a result, and each result is the one that R51 states. -/
theorem efauxArithmeticWritesItsResult : Obligations.EfauxArithmeticWritesItsResult := by
  intro s e rd ra rb imm g a b gives
  have writes := @State.writesReg_of_executes s e
  exact ⟨writes rfl, writes rfl, writes rfl, writes rfl, writes rfl, writes (aluShl_eq a b), writes (aluShr_eq a b),
    writes (aluSra_eq a b), writes (aluMul_eq a b), writes (aluMin_eq a b), writes (aluMax_eq a b),
    writes rfl, writes rfl, writes rfl, writes rfl, writes rfl, writes (aluShl_eq a imm), writes (aluShr_eq a imm),
    writes (aluSra_eq a imm), writes (aluMul_eq a imm), writes (aluMin_eq a imm), writes (aluMax_eq a imm)⟩

/-! ### Comparisons, tick registers and GETS (R51, R54, R62) -/

theorem Engine.shotValue_index {g : Engine} {h : W32 × W32 × Tick} (hshot : g.shot = some h) (e : Nat) : g.shotValue e 0 = h.2.1 := by
  simp [Engine.shotValue, hshot]

theorem Engine.shotValue_run {g : Engine} {h : W32 × W32 × Tick} (hshot : g.shot = some h) (e : Nat) : g.shotValue e 3 = h.1 := by
  simp [Engine.shotValue, hshot]

/-- Settles O2: each instruction changes its engine's registers alone, and GETS takes its value from the engine's shot. -/
theorem efauxComparesAndTickRegisters : Obligations.EfauxComparesAndTickRegisters := by
  intro s e ci td ts rd ra rb imm im40 h g a b gives
  have acts := @State.alu_of_executes s e
  exact ⟨acts rfl, acts rfl, acts rfl, acts rfl, acts rfl, acts rfl, acts rfl, acts rfl, acts rfl, acts rfl,
    fun hshot => State.writesReg_of_executes (Engine.shotValue_index hshot e), State.writesReg_of_executes rfl,
    State.writesReg_of_executes rfl, fun hshot => State.writesReg_of_executes (Engine.shotValue_run hshot e)⟩

/-! ### Registers (R44) -/

theorem Engine.reg_setReg_of_wf {g : Engine} (hwf : Tbl.wf (fun _ => (0 : W32)) g.v = true) {r : Nat} (hr : r ≠ 0) (x : W32) :
    (g.setReg r x).reg r = x := by
  rw [Engine.setReg, if_neg hr, Engine.reg, if_neg hr]
  exact Tbl.get_put_same (fun _ => (0 : W32)) g.v r x hwf

/-- A register's write changes the registers alone. -/
theorem Engine.setReg_eq (g : Engine) (r : Nat) (x : W32) : ∃ v, g.setReg r x = { g with v := v } := by
  unfold Engine.setReg
  split
  · exact ⟨g.v, rfl⟩
  · exact ⟨_, rfl⟩

/-- An engine that an exception has stopped reads back as it was written, in any table: it is not what an unlisted engine reads as. -/
theorem State.eng_setEng_halted (s : State) (e : Nat) (g : Engine) (tick : Tick) : (s.setEng e (g.halted tick)).eng e = g.halted tick := by
  have hne : g.halted tick ≠ Engine.init := fun h => EngState.noConfusion (congrArg Engine.st h)
  rw [State.setEng, State.eng, Tbl.put, if_neg hne]
  exact Tbl.get_insert_same _ _ _ _

/-- Settles O6: a register's write by the laws of the table, an exception by what `raiseExc_spec` says that it leaves. -/
theorem efauxRegisterFileAndExceptions : Obligations.EfauxRegisterFileAndExceptions := by
  refine ⟨fun g r q x hwf => ?_, fun s e n tick _ _ hregs => ?_⟩
  · obtain ⟨v, hv⟩ := g.setReg_eq r x
    refine ⟨rfl, rfl, fun hr => Engine.reg_setReg_of_wf hwf hr x, Engine.reg_setReg_other g x, ?_⟩
    rw [hv]
    exact ⟨rfl, rfl, rfl, rfl⟩
  · obtain ⟨r, u, hexc, -, hword, -⟩ := State.raiseExc_spec hregs e n tick
    have heng := s.eng_setEng_halted e (s.eng e) tick
    dsimp only
    rw [hexc]
    exact ⟨hword, congrArg Engine.st heng, congrArg Engine.wait heng, congrArg Engine.held heng, (congrArg Engine.v heng :),
      fun e' he' => s.eng_setEng_other e e' _ he', rfl, rfl, rfl⟩

/-! ### Control (R48, R51-R54) -/

/-- The engine at the place where control goes: the target, or the next instruction (R52). -/
def Engine.goto (g : Engine) (target : Nat) (taken : Bool) : Engine := { g with pc := if taken then target else g.pc + 1 }

/-- A branch on a condition goes where its truth says. -/
theorem Engine.branch_eq (g : Engine) (target : Nat) {p : Prop} [Decidable p] {b : Bool} (h : p ↔ b = true) :
    (if p then { g with pc := target } else g.advance) = g.goto target b := by
  cases b with
  | true => exact if_pos (h.mpr rfl)
  | false => exact if_neg (fun hp => Bool.false_ne_true (h.mp hp))

/-- The cursor moves within the shot's range, or raises CURSOR_RANGE (R48). -/
theorem State.moveCursor_eq (s : State) (e : Nat) (t : Tick) : s.moveCursor e t =
    if (t - (s.eng e).start).toNat < 2 ^ 32 then s.setEng e { s.eng e with tc := t, pc := (s.eng e).pc + 1 }
    else s.raiseExc e 5 s.now :=
  if_congr decide_eq_true_iff rfl rfl

theorem sub_one_ne_zero_iff (a : W32) : a - 1 ≠ 0 ↔ (a != 1) = true := by
  rw [bne_iff_ne, ne_eq, ne_eq, sub_eq_zero]

/-- Settles O3: an instruction of control by the branch that it takes, a move of the cursor by `moveCursor_eq`. -/
theorem efauxControlAndCursor : Obligations.EfauxControlAndCursor := by
  have acts := @State.acts_of_executes
  refine ⟨fun s e ci sel ra imm target => ?_, fun s e ts ra imm => ?_⟩
  · refine ⟨acts rfl, acts rfl, acts rfl, acts rfl, acts rfl, acts ?_, fun hra hwf => acts ?_, acts ?_⟩
    · exact congrArg (s.setEng e) (Engine.branch_eq _ _ beq_iff_eq.symm)
    · refine congrArg (s.setEng e) (Engine.branch_eq _ _ ?_)
      rw [Engine.reg_setReg_of_wf hwf (fun h => hra (BitVec.eq_of_toNat_eq h))]
      exact sub_one_ne_zero_iff _
    · exact congrArg (s.setEng e) (Engine.branch_eq _ _ Iff.rfl)
  · simp only [BitVec.ofNat_toNat]
    exact ⟨acts (s.moveCursor_eq e _), acts (s.moveCursor_eq e _), acts (s.moveCursor_eq e _)⟩

end Sys2Proof.Machine
end

section
/-! SUPPORT. Writing back what an entry reads changes nothing. -/

namespace Sys2Proof

/-- In a canonical table, writing what a key reads changes nothing. -/
theorem Tbl.put_get {α : Type} [DecidableEq α] {d : Nat → α} {l : Tbl α} {lo : Nat} (h : Tbl.wfFrom d lo l = true) (k : Nat) :
    Tbl.put l k (Tbl.get l k (d k)) (d k) = l := by
  induction l generalizing lo with
  | nil => exact if_pos rfl
  | cons x r ih =>
    obtain ⟨k', v⟩ := x
    simp only [Tbl.wfFrom, Bool.and_eq_true, decide_eq_true_eq] at h
    obtain ⟨⟨-, hv⟩, hr⟩ := h
    rcases lt_trichotomy k k' with hlt | rfl | hgt
    · rw [Tbl.get_below d (d k) _ k' k (by simp [Tbl.wfFrom, hv, hr]) hlt, Tbl.put, if_pos rfl, Tbl.drop, if_neg hlt.ne', if_pos hlt]
    · simp [Tbl.get, Tbl.put, Tbl.insert, hv]
    · have htail := ih hr
      simp only [Tbl.get, if_neg hgt.ne]
      simp only [Tbl.put, Tbl.drop, Tbl.insert, if_neg hgt.ne, if_neg hgt.not_gt] at htail ⊢
      rw [← apply_ite (List.cons (k', v)), htail]

end Sys2Proof
end

section
/-! PROOF. How a round reaches its consumer, and what acts at its time: a deferred notification, a timer, the TRIG pins (R61, R82, R89,
R106, R141, R162, R208-R216). -/

namespace Sys2Proof.Machine

/-! ### The events of a round (R208-R210) -/

/-- A round takes the oldest events of its input. -/
theorem filter_takeInput_same (i : TaskInput) (n : Nat) (l : List (TaskInput × Ev)) :
    (takeInput i n l).filter (fun x => x.1 == i) = (l.filter (fun x => x.1 == i)).drop n := by
  induction l generalizing n with
  | nil => simp [takeInput]
  | cons x l ih =>
    cases n with
    | zero => rfl
    | succ n =>
      by_cases hx : x.1 = i
      · simp [takeInput, hx, ih]
      · simp [takeInput, hx, ih]

/-- A round leaves the events of every other input. -/
theorem filter_takeInput_other {i j : TaskInput} (hj : j ≠ i) (n : Nat) (l : List (TaskInput × Ev)) :
    (takeInput i n l).filter (fun x => x.1 == j) = l.filter (fun x => x.1 == j) := by
  induction l generalizing n with
  | nil => rfl
  | cons x l ih =>
    cases n with
    | zero => rfl
    | succ n =>
      by_cases hx : x.1 = i
      · simp [takeInput, hx, ih, hj.symm]
      · simp [takeInput, hx, ih, List.filter_cons]

theorem insertEv_perm (v : Ev) (l : List Ev) : (insertEv v l).Perm (v :: l) := by
  induction l with
  | nil => exact .refl _
  | cons x l ih =>
    unfold insertEv
    split
    · exact .refl _
    · exact (ih.cons x).trans (.swap v x l)

/-- The events presented are those of the round. -/
theorem sortEvs_perm (l : List Ev) : (sortEvs l).Perm l := by
  induction l with
  | nil => exact .refl _
  | cons v l ih => exact (insertEv_perm v (sortEvs l)).trans (ih.cons v)

/-- The state in which a round is presented: its events have left the input. -/
def State.roundTaken (s : State) (i : TaskInput) (n : Nat) : State := { s with waiting := takeInput i n s.waiting }

theorem State.atInput_roundTaken_same (s : State) (i : TaskInput) (n : Nat) : (s.roundTaken i n).atInput i = (s.atInput i).drop n := by
  rw [State.atInput, State.atInput, State.roundTaken, filter_takeInput_same, List.map_drop]

theorem State.atInput_roundTaken_other (s : State) {i j : TaskInput} (hj : j ≠ i) (n : Nat) : (s.roundTaken i n).atInput j = s.atInput j := by
  rw [State.atInput, State.atInput, State.roundTaken, filter_takeInput_other hj]

theorem exec_sprueRound_of_events {s : State} {i : TaskInput} {n : Fin 8} (h : (s.atInput i).take n ≠ []) :
    exec (.sprueRound i n) s = .next ((s.roundTaken i n).present i (sortEvs ((s.atInput i).take n))) := by
  show execSprueRound i n s = _
  simp only [execSprueRound, List.isEmpty_iff, if_neg h]
  rfl

/-- A round of one event is what its consumer does with that event. -/
theorem exec_sprueRound_of_event {s t : State} {i j : TaskInput} {n : Fin 8} {v : Ev} (ht : (s.roundTaken i n).present j [v] = t)
    (hi : i = j) (hl : (s.atInput i).take n = [v]) : exec (.sprueRound i n) s = .next t := by
  subst hi
  rw [exec_sprueRound_of_events (by rw [hl]; exact List.cons_ne_nil _ _), hl, ← ht]
  rfl

/-! ### An engine's latch (R61, R89) -/

theorem State.setEng_eng {s : State} (hwf : Tbl.wf (fun _ => Engine.init) s.engines = true) (e : Nat) : s.setEng e (s.eng e) = s := by
  rw [State.setEng, State.eng, Tbl.put_get (d := fun _ => Engine.init) hwf e]

theorem Engine.wait_deliver (g : Engine) (v : Ev) (joined : Bool) : (g.deliver v joined).wait = g.wait := by
  unfold Engine.deliver
  dsimp only
  split_ifs
  · rfl
  · split
    · rfl
    · rfl

theorem Engine.wake_of_wait_none {g : Engine} (h : g.wait = none) (now : Tick) : g.wake now = g := by
  unfold Engine.wake
  rw [h]

/-- An engine that neither waits nor is swapped latches the event. -/
theorem State.latchRound_of_idle {s : State} {e : Nat} (hwf : Tbl.wf (fun _ => Engine.init) s.engines = true)
    (hswap : (s.eng e).swap = none) (hwait : (s.eng e).wait = none) (v : Ev) :
    s.latchRound e [v] = s.setEng e ((s.eng e).deliver v false) := by
  have hlatch : s.latchEvents e [v] = s.setEng e ((s.eng e).deliver v false) := rfl
  have heng := s.eng_setEng_same e ((s.eng e).deliver v false) hwf
  have hwake : ∀ now, ((s.eng e).deliver v false).wake now = (s.eng e).deliver v false :=
    Engine.wake_of_wait_none ((Engine.wait_deliver _ v false).trans hwait)
  unfold State.latchRound
  simp only [hswap, hlatch, heng, hwake, ite_self]
  exact (congrArg (State.setEng _ e) heng.symm).trans (State.setEng_eng (s.engines_wf_setEng e _ hwf) e)

/-- An engine in a swap has the event held, and counted. -/
theorem State.latchRound_of_swap {s : State} {e : Nat} {w : SwapNow} (hswap : (s.eng e).swap = some w) (l : List Ev) :
    s.latchRound e l = (s.setEng e { s.eng e with swap := some { w with held := w.held ++ l } }).count aSprCntB 15 8 l.length := by
  simp only [State.latchRound, hswap]

/-! ### A player, a group, a relay and a TRIG output (R106, R141, R214, R216) -/

section
variable {s : State} {v : Ev}

/-- The tick of a jump that an event asks a tone's player for (R106). -/
def State.jumpTick (s : State) (t : Nat) (v : Ev) : Tick :=
  Tick.ofStamp s.now v.stamp + BitVec.ofNat 64 (s.fld (aPlyJcfg (toneChan t) (toneIdx t)) 31 16)
/-- The jump target that an event names (R107). -/
def State.jumpTarget (s : State) (t : Nat) (v : Ev) : W32 := s.reg (aPlyJtgt (toneChan t) (toneIdx t) (v.payload.toNat % 4))

theorem State.jumpRequest_of_room {t : Nat} (hvalid : (s.jumpTarget t v).getLsbD 31 = true) (htime : 24 ≤ (s.jumpTick t v - s.now).toInt)
    (hroom : (s.tone t).jumps.length < 8) : s.jumpRequest t v
      = s.setTone t { s.tone t with jumps := (s.tone t).jumps ++ [⟨s.jumpTick t v, (s.jumpTarget t v).setWidth 20⟩] } :=
  (if_pos hvalid).trans ((if_neg htime.not_gt).trans (if_neg hroom.not_ge))

theorem State.jumpRequest_of_invalid {t : Nat} (h : (s.jumpTarget t v).getLsbD 31 = false) : s.jumpRequest t v = s :=
  if_neg (fun h' => Bool.false_ne_true (h.symm.trans h'))

/-- The tick of a strobe that an event asks a group for (R141). -/
def State.strobeTick (s : State) (g : Nat) (v : Ev) : Tick :=
  Tick.ofStamp s.now v.stamp + BitVec.ofNat 64 (s.fld (aGrpStrb g) 31 16)

theorem State.strobeEvent_of_onTime {g : Nat} (h : 24 ≤ (s.strobeTick g v - s.now).toInt) :
    s.strobeEvent g v = s.setGrp g ((s.grp g).request (s.strobeTick g v) none true false) := if_pos h

/-- What an enabled relay puts out for an event (R214). -/
def State.relayed (s : State) (r : Nat) (v : Ev) : Ev :=
  localEv (BitVec.ofNat 8 (fieldOf (s.reg (aSprRlyCfg r)) 15 8)) (v.stamp + BitVec.ofNat 40 (fieldOf (s.reg (aSprRlyDly r)) 15 0))
    (if (s.reg (aSprRlyCfg r)).getLsbD 30 then BitVec.ofNat 16 (fieldOf (s.reg (aSprRlyDly r)) 31 16) else v.payload)
    (v.hop + 1) (BitVec.ofNat 10 (0xB0 + r))

theorem State.relayOut_of_enabled {r : Nat} (h : (s.reg (aSprRlyCfg r)).getLsbD 31 = true) : s.relayOut r v = s.publish (s.relayed r v) :=
  if_pos h

/-- The tick of a pulse that an event asks a TRIG output for (R216). -/
def State.pulseTick (s : State) (k : Nat) (v : Ev) : Tick :=
  Tick.ofStamp s.now v.stamp + BitVec.ofNat 64 (s.fld (aSprTrig k) 23 8)
/-- TRIG output `k` (R216). -/
def State.trigOut (s : State) (k : Nat) : TrigOut := Tbl.get s.pulses k TrigOut.init
def State.setTrigOut (s : State) (k : Nat) (x : TrigOut) : State := { s with pulses := Tbl.put s.pulses k x TrigOut.init }

theorem State.trigRequest_of_onTime {k : Nat} (h : 24 ≤ (s.pulseTick k v - s.now).toInt) :
    s.trigRequest k v = s.setTrigOut k { s.trigOut k with due := (s.trigOut k).due ++ [s.pulseTick k v] } := if_pos h

end

/-! ### A channel's flag (R212) -/

/-- The flag of a channel is set. -/
def State.flagUp (s : State) (ch : Byte) : Bool := s.bit (aSprFlag (ch.toNat / 32)) (ch.toNat % 32)

theorem State.raiseFlag_of_up {s : State} {v : Ev} (h : s.flagUp v.ch = true) : s.raiseFlag v = s := if_pos h

theorem State.flagUp_sendFlag (s : State) (v : Ev) (ch : Byte) : (s.sendFlag v).flagUp ch = s.flagUp ch := by
  obtain ⟨l, n, h⟩ := (s.setFlagNote v.ch.toNat ⟨some s.mono, none⟩).notifyRole_eq (s.chOwner v.ch.toNat) 0x03 (flagData v)
  rw [State.sendFlag, h]
  rfl

/-- An event sets its channel's flag, whatever it has to notify. -/
theorem State.flagUp_raiseFlag {s : State} (hregs : Tbl.wf resetWord s.regs = true) (v : Ev) : (s.raiseFlag v).flagUp v.ch = true := by
  by_cases hup : s.flagUp v.ch = true
  · rw [State.raiseFlag_of_up hup, hup]
  · have hset : (s.setBit (aSprFlag (v.ch.toNat / 32)) (v.ch.toNat % 32) true).flagUp v.ch = true :=
      s.bit_setBit_same _ _ true hregs (by omega)
    rw [State.flagUp] at hup
    unfold State.raiseFlag
    dsimp only
    rw [if_neg hup]
    split
    · split
      · rw [State.flagUp_sendFlag, hset]
      · split
        · rw [State.flagUp_sendFlag, hset]
        · exact hset
    · exact hset

/-- A round of a channel's events leaves its flag set. -/
theorem State.flagUp_each_raiseFlag {s : State} (hregs : Tbl.wf resetWord s.regs = true) {ch : Byte} {l : List Ev} (hne : l ≠ [])
    (hl : ∀ y ∈ l, y.ch = ch) : (s.each l (fun s v => s.raiseFlag v)).flagUp ch = true := by
  cases l with
  | nil => exact absurd rfl hne
  | cons v l =>
    obtain ⟨rfl, hl⟩ := List.forall_mem_cons.mp hl
    refine State.each_inv_mem (fun u => u.flagUp v.ch = true) l (fun s v => s.raiseFlag v) (fun u y hy hu => ?_) (s.raiseFlag v)
      (s.flagUp_raiseFlag hregs v)
    rw [State.raiseFlag_of_up ((hl y hy).symm ▸ hu)]
    exact hu

theorem State.regs_wf_countJoined {s : State} (hregs : Tbl.wf resetWord s.regs = true) (multi : Bool) :
    Tbl.wf resetWord (s.countJoined multi).regs = true := by
  cases multi with
  | false => exact hregs
  | true => exact s.regs_wf_setReg _ _ hregs

/-- A round at a channel's flag input leaves the flag set. -/
theorem sprueRound_sets_flag {s : State} {i : TaskInput} {n : Fin 8} {ch : Byte} (hregs : Tbl.wf resetWord s.regs = true)
    (hi : i = .flag ch) (hne : (s.atInput i).take n ≠ []) (hch : ∀ y ∈ (s.atInput i).take n, y.ch = ch) :
    ∃ t, exec (.sprueRound i n) s = .next t ∧ t.flagUp ch = true := by
  have hperm := sortEvs_perm ((s.atInput i).take n)
  subst hi
  exact ⟨_, exec_sprueRound_of_events hne, State.flagUp_each_raiseFlag
    (State.regs_wf_countJoined (s := s.roundTaken _ n) hregs _) (fun h => hne (List.nil_perm.mp (h ▸ hperm)))
    fun y hy => hch y (hperm.mem_iff.mp hy)⟩

/-! ### A deferred notification (R212) -/

theorem exec_flagNotifyDeferred_of_due {s : State} {ch : Byte} {v : Ev} {w : W64} (hdeferred : (s.flagNote ch.toNat).deferred = some v)
    (hlast : (s.flagNote ch.toNat).last = some w) (hdue : 1000000 ≤ s.since w) :
    exec (.flagNotifyDeferred ch) s = .next (s.sendFlag v) := by
  show execFlagNotifyDeferred ch s = _
  simp only [execFlagNotifyDeferred, hdeferred, hlast, ge_iff_le, if_pos hdue]

/-! ### A timer (R215) -/

/-- The event of a timer with the configuration word `cfg`, stamped at `d` (R215). -/
def timerEv (k : Nat) (cfg : W32) (d : Tick) : Ev :=
  localEv (cfg.setWidth 8) d.stamp (BitVec.ofNat 16 (fieldOf cfg 23 8)) 1 (BitVec.ofNat 10 (0xA0 + k))

/-- The low byte of a word is its field [7:0]. -/
theorem ofNat_fieldOf_low (w : W32) : BitVec.ofNat 8 (fieldOf w 7 0) = w.setWidth 8 := by
  apply BitVec.eq_of_toNat_eq
  simp [fieldOf]

/-- A timer whose event is due: it publishes the event, counts it, and its series goes on by the period. -/
theorem exec_timerPublish_of_due {s : State} {k : Fin 16} {d : Tick} (hnext : (s.timer k).next = some d) (hdue : (d - s.now).toInt ≤ 64) :
    exec (.timerPublish k) s = .next (((s.setTimer k
      ⟨if s.reg (aSprTmrPer k) = 0 then none else some (d + (s.reg (aSprTmrPer k)).setWidth 64)⟩).count (aSprTmrCnt k) 31 0 1).publish
        (timerEv k (s.reg (aSprTmrCfg k)) d)) := by
  show execTimerPublish k s = _
  simp only [execTimerPublish, hnext, if_pos hdue, ofNat_fieldOf_low, timerEv]

/-- An event at hop 1 is shown in its channel's SPR_CH_LAST, and the channel's flag input has it. -/
theorem State.publish_of_hop_one (s : State) {v : Ev} (h : v.hop = 1) : ∃ r l, s.publish v = { s with regs := r, waiting := l }
    ∧ (∀ a, a ≠ aSprChLast v.ch.toNat → Tbl.get r a (resetWord a) = s.reg a) ∧ (TaskInput.flag v.ch, v) ∈ l := by
  unfold State.publish
  rw [h, if_neg (by decide)]
  exact ⟨_, _, rfl, fun a ha => s.reg_setReg_other _ a _ ha, List.mem_append_right _ (List.mem_map_of_mem (mem_inputsOf_flag _ _ _))⟩

theorem satAdd_mod (w a n : Nat) : satAdd w a n % 2 ^ w = satAdd w a n :=
  Nat.mod_eq_of_lt ((Nat.min_le_right _ _).trans_lt (Nat.sub_one_lt (Nat.two_pow_pos w).ne'))

theorem State.fld_count_same {s : State} (hregs : Tbl.wf resetWord s.regs = true) (a : Nat) {hi lo : Nat} (hl : lo ≤ hi) (h31 : hi ≤ 31)
    (n : Nat) : (s.count a hi lo n).fld a hi lo = satAdd (hi - lo + 1) (s.fld a hi lo) n := by
  rw [State.count, s.fld_setFld_same a hi lo _ hregs hl h31, satAdd_mod]

theorem aSprTmrCnt_ne_aSprChLast (k : Nat) (ch : Byte) : aSprTmrCnt k ≠ aSprChLast ch.toNat := by
  unfold aSprTmrCnt aSprChLast
  omega

/-- What a timer leaves when its event is due. -/
theorem timerPublish_goesOn {s : State} {k : Fin 16} {d : Tick} (hregs : Tbl.wf resetWord s.regs = true)
    (htimers : Tbl.wf (fun _ => (⟨none⟩ : TimerRun)) s.timers = true) (hnext : (s.timer k).next = some d)
    (hdue : (d - s.now).toInt ≤ 64) : ∃ t, exec (.timerPublish k) s = .next t
      ∧ (t.timer k).next = (if s.reg (aSprTmrPer k) = 0 then none else some (d + (s.reg (aSprTmrPer k)).setWidth 64))
      ∧ t.fld (aSprTmrCnt k) 31 0 = satAdd 32 (s.fld (aSprTmrCnt k) 31 0) 1
      ∧ (TaskInput.flag ((s.reg (aSprTmrCfg k)).setWidth 8), timerEv k (s.reg (aSprTmrCfg k)) d) ∈ t.waiting
      ∧ t = { s with timers := t.timers, regs := t.regs, waiting := t.waiting } := by
  have hexec := exec_timerPublish_of_due hnext hdue
  generalize (if s.reg (aSprTmrPer k) = 0 then none else some (d + (s.reg (aSprTmrPer k)).setWidth 64)) = next at hexec ⊢
  obtain ⟨r, l, hpub, hother, hmem⟩ := ((s.setTimer k ⟨next⟩).count (aSprTmrCnt k) 31 0 1).publish_of_hop_one
    (v := timerEv k (s.reg (aSprTmrCfg k)) d) rfl
  rw [hpub] at hexec
  refine ⟨_, hexec, ?_, ?_, hmem, rfl⟩
  · exact congrArg TimerRun.next (Tbl.get_put_same (fun _ => (⟨none⟩ : TimerRun)) s.timers k ⟨next⟩ htimers)
  · exact (congrArg (fun w => fieldOf w 31 0) (hother _ (aSprTmrCnt_ne_aSprChLast k _))).trans
      (State.fld_count_same (s := s.setTimer k ⟨next⟩) hregs (aSprTmrCnt k) (by decide) (by decide) 1)

/-! ### The TRIG pins (R216) -/

theorem exec_trigInputEdge_of_selected {s : State} {k : Fin 8} {rising : Bool} (hon : (s.reg (aSprTrig k)).getLsbD 31 = true)
    (hin : (s.reg (aSprTrig k)).getLsbD 30 = false) (hedge : rising = !(s.reg (aSprTrig k)).getLsbD 29) :
    exec (.trigInputEdge k rising) s = .next (s.publish (localEv ((s.reg (aSprTrig k)).setWidth 8) s.now.stamp (BitVec.ofNat 16 k.val) 1
      (BitVec.ofNat 10 (0xF0 + k.val)))) :=
  congrArg _ (if_pos ⟨hon, by rw [hin]; rfl, hedge⟩)

/-- A pulse at `d` merges into the last one: it lies within 16 ticks of it (R216). -/
def TrigOut.near (x : TrigOut) (d : Tick) : Bool :=
  match x.last with
  | none => false
  | some u => decide ((d - u).toInt < 16)

theorem TrigOut.near_eq_true_iff (x : TrigOut) (d : Tick) : x.near d = true ↔ ∃ u, x.last = some u ∧ (d - u).toInt < 16 := by
  unfold TrigOut.near
  cases x.last <;> simp

theorem TrigOut.near_eq_false_iff (x : TrigOut) (d : Tick) :
    x.near d = false ↔ x.last = none ∨ ∃ u, x.last = some u ∧ 16 ≤ (d - u).toInt := by
  unfold TrigOut.near
  cases x.last <;> simp

/-- A pulse at its tick is driven, or merges into the last one. -/
theorem exec_trigOutputPulse_of_due {s : State} {k : Fin 8} {d : Tick} {r : List Tick} (htake : takeTick (s.trigOut k).due = some (d, r))
    (hdue : 0 ≤ (s.now - d).toInt) : exec (.trigOutputPulse k) s = .next (
      if (s.trigOut k).near d then s.setTrigOut k { s.trigOut k with due := r }
      else (s.setTrigOut k { due := r, last := some d }).emit (.pulse k d)) := by
  rw [State.trigOut] at htake
  show execTrigOutputPulse k s = _
  simp only [execTrigOutputPulse, htake, ge_iff_le, if_pos hdue]
  rfl

/-- Settles O19: a round of one event by what its consumer does with that event, a command by the equation of its effective case. -/
theorem sprueEventsReachTheirConsumers : Obligations.SprueEventsReachTheirConsumers := by
  intro s i n ch k g rising v w d r e sw tone c gr rl hregs htimers hpulses hengines l u cfg per tick q p gives x tgt E a at' T rc rd P
  have round := @exec_sprueRound_of_event s
  refine ⟨exec_sprueRound_of_events,
    ⟨s.atInput_roundTaken_same i n, fun j hj => s.atInput_roundTaken_other hj n⟩,
    fun hswap hwait => round (State.latchRound_of_idle (s := s.roundTaken i n) hengines hswap hwait v),
    fun hswap => round (State.latchRound_of_swap (s := s.roundTaken i n) hswap [v]),
    fun hvalid htime hroom => round (State.jumpRequest_of_room hvalid htime hroom),
    fun hinvalid => round (State.jumpRequest_of_invalid hinvalid),
    round rfl,
    fun htime => round (State.strobeEvent_of_onTime htime),
    fun hon => round (State.relayOut_of_enabled hon),
    fun htime => round (State.trigRequest_of_onTime htime),
    round rfl, round rfl, round rfl,
    sprueRound_sets_flag hregs,
    exec_flagNotifyDeferred_of_due,
    timerPublish_goesOn hregs htimers,
    exec_trigInputEdge_of_selected,
    fun htake hdue hfar => ?_, fun htake hdue hnear => ?_⟩
  · rw [exec_trigOutputPulse_of_due htake hdue, ((s.trigOut g).near_eq_false_iff d).mpr hfar]
    rfl
  · rw [exec_trigOutputPulse_of_due htake hdue, ((s.trigOut g).near_eq_true_iff d).mpr hnear]
    rfl

end Sys2Proof.Machine
end

section
/-! SUPPORT. Outcomes that keep what most operations keep: by a command's fetch, a request's answer, a microword's action (R46, R320, R355). -/

namespace Sys2Proof.Machine

/-! ### Outcomes -/

/-- An outcome goes on, if at all, to a state that keeps what most operations keep, the store's form included. -/
def State.Leads (s : State) (o : Out) : Prop := ∀ t, o = .next t → s.Steps t

theorem State.Leads.of_steps {s t : State} (h : s.Steps t) : s.Leads (.next t) := fun _ e => Host.Outcome.next.inj e ▸ h

theorem State.Leads.of_keep {s t : State} (h : t.keep = s.keep) : s.Leads (.next t) := .of_steps (.of_keep h)

/-! ### Answers to requests (R320, R348) -/

/-- An answer carries, if any, a state that keeps what most operations keep. -/
def Answer.Keeps (a : Answer) (s : State) : Prop := a.all (fun t => t.keep = s.keep)

@[simp] theorem Answer.keeps_done (s t : State) (b : List Byte) : (Answer.done t b).Keeps s ↔ t.keep = s.keep := Iff.rfl
@[simp] theorem Answer.keeps_refuse (s : State) (st : Status) (d : Detail) : (Answer.refuse st d).Keeps s := trivial
@[simp] theorem Answer.keeps_failed (s t : State) (st : Status) (d : Detail) : (Answer.failed t st d).Keeps s ↔ t.keep = s.keep := Iff.rfl

theorem Answer.Keeps.trans {a : Answer} {s t : State} (h : a.Keeps t) (e : t.keep = s.keep) : a.Keeps s := by
  cases a with
  | done u b => exact Eq.trans (b := t.keep) h e
  | refuse st d => trivial
  | failed u st d => exact Eq.trans (b := t.keep) h e

theorem State.request_keep {s : State} {sid seq : W32} {ty : Byte} {role : Option Role} {k : Session → State → Answer}
    (h : ∀ x t, (k x t).Keeps t) : (s.request sid seq ty role k).keep = s.keep :=
  State.request_all (fun t => t.keep = s.keep) s sid seq ty role k (restsOnKeep_keep s) rfl (fun x t e => (h x t).trans e)

@[simp] theorem State.regRead_keeps (s : State) (sid : W32) (l : List W32) : (s.regRead sid l).Keeps s :=
  s.regRead_all _ sid l (restsOnKeep_keep s) rfl
@[simp] theorem State.regWriteAll_keeps (s : State) (x : Session) (l : List (Nat × W32)) : (s.regWriteAll x l).Keeps s :=
  s.regWriteAll_all _ x l (restsOnKeep_keep s) rfl
@[simp] theorem State.refusePriv_keeps (s : State) (x : Session) (cls : BitVec 16) (d : List Byte) (st : Status) :
    (s.refusePriv x cls d st).Keeps s := s.refusePriv_all _ x cls d st (restsOnKeep_keep s) rfl
theorem State.privileged_keeps (s : State) (x : Session) (cls : BitVec 16) (l : List (List Byte)) {k : State → Answer}
    (h : ∀ t, (k t).Keeps t) : (s.privileged x cls l k).Keeps s :=
  s.privileged_all _ x cls l k (restsOnKeep_keep s) rfl (fun t e => (h t).trans e)

/-! ### Microwords (R355, R356) -/

theorem State.cmkWord_keep {s : State} {w : MicroWord} {action : Nat} {act : State → CmkCtx → CmkAct}
    (h : ∀ t c, (act t c).all (fun u => u.keep = t.keep)) : (s.cmkWord w action act).keep = s.keep := by
  refine State.cmkWord_all (fun t => t.keep = s.keep) s w action act (restsOnKeep_keep s) rfl (fun t c e => ?_)
  have ht := h t c
  cases hact : act t c with
  | go u c' => rw [hact] at ht; exact Eq.trans (b := t.keep) ht e
  | fail u r => rw [hact] at ht; exact Eq.trans (b := t.keep) ht e

/-- An irreversible action keeps what it keeps in a safe word, and elsewhere it does nothing. -/
theorem irreversible_all {P : State → Prop} {w : MicroWord} {s : State} {c : CmkCtx} {k : State → CmkAct} (hs : P s)
    (h : (k { s with cmk := { s.cmk with journal := [] } }).all P) : (irreversible w s c k).all P := by
  unfold irreversible
  split
  · exact h
  · exact hs

@[simp] theorem CmkAct.all_go (P : State → Prop) (t : State) (c : CmkCtx) : (CmkAct.go t c).all P ↔ P t := Iff.rfl
@[simp] theorem CmkAct.all_fail (P : State → Prop) (t : State) (r : Byte) : (CmkAct.fail t r).all P ↔ P t := Iff.rfl

/-- The Coremaker's arithmetic draws a free word at most. -/
theorem State.cmkAlu_keep {s t : State} {op : Nat} {a b v : W32} (h : s.cmkAlu op a b = some (v, t)) : t.keep = s.keep := by
  unfold State.cmkAlu at h
  dsimp only at h
  (repeat' split at h) <;> simp only [Option.some.injEq, Prod.mk.injEq, reduceCtorEq] at h <;> grind [State.drawWord_keep]

/-! ### Instructions, requests and microwords as outcomes -/

/-- An instruction keeps what its action keeps: its word is fetched first, or an exception is raised (R46, R52). -/
theorem leads_fetch {s : State} {e : Nat} {code : W64} {k : State → State} (h : ∀ t, (k t).keep = t.keep) :
    s.Leads (.next (s.fetch e code k)) := .of_keep (State.fetch_keep _ _ _ _ fun t e => (h t).trans e)

theorem leads_cruFetch {s : State} {c : Nat} {code : W32} {k : State → State} (h : ∀ t, (k t).keep = t.keep) :
    s.Leads (.next (s.cruFetch c code k)) := .of_keep (State.cruFetch_keep _ _ _ _ (h s))

theorem leads_request {s : State} {sid seq : W32} {ty : Byte} {role : Option Role} {k : Session → State → Answer}
    (h : ∀ x t, (k x t).Keeps t) : s.Leads (.next (s.request sid seq ty role k)) := .of_keep (State.request_keep h)

theorem leads_cmkWord {s : State} {w : MicroWord} {action : Nat} {act : State → CmkCtx → CmkAct}
    (h : ∀ t c, (act t c).all (fun u => u.keep = t.keep)) : s.Leads (.next (s.cmkWord w action act)) := .of_keep (State.cmkWord_keep h)

end Sys2Proof.Machine
end

section
/-! SUPPORT. What every command leaves alone: all but three keep the queue, the credentials, the counters and the fuses, and every one
keeps the form of the pattern store (R92). -/

namespace Sys2Proof.Machine

/-! ### Events -/

theorem leads_runLoadComplete (run : W32) (s : State) : s.Leads (exec (.runLoadComplete run) s) := by
  refine .of_keep ?_
  dsimp only
  split
  · rfl
  · split
    · rw [State.settleRun_keep, State.modRun_keep, State.each_keep _ _ _ fun u x => by simp, State.each_keep _ _ _ fun u k => ?_]
      split <;> simp
    · rfl

theorem State.withSwap_keep (s : State) (r : Tbl W32) (g : Tbl Engine) (x : Spares) (l : Log) : (s.withSwap r g x l).keep = s.keep := rfl

theorem State.endSwap_keep (s : State) (e : Nat) (w : Option SwapNow) : (s.endSwap e w).keep = s.keep := by
  cases w with
  | none => rfl
  | some w =>
    rw [State.endSwap, State.logEvent_keep, State.each_keep _ _ _ fun u l => by simp, State.retireEngine_eq, State.withSwap_keep]

theorem State.copyStep_keep (s : State) (c : Nat) (k : CopyStep) : (s.copyStep c k).keep = s.keep := by
  cases k with
  | image b => exact State.cruLoad_keep _ _ _
  | write o v => simp [State.copyStep, apply_ite State.keep]

theorem State.withCruImg_keep (s : State) (l : Tbl (List Byte)) : State.keep { s with cruImg := l } = s.keep := rfl

theorem leads_crucibleSwapComplete (n : Fin 32) (s : State) : s.Leads (exec (.crucibleSwapComplete n) s) := by
  refine .of_keep ?_
  dsimp only
  split
  · rfl
  · split
    · rw [State.logEvent_keep, State.setReg_keep, State.setCru_keep, apply_ite State.keep, State.setCru_keep, ite_self,
        State.each_keep _ _ _ fun u k => u.copyStep_keep _ k, State.withCruImg_keep, State.setCru_keep, State.copyRegs_keep]
    · rfl

theorem leads_captureFifoRecheck (percent elem src : Nat) (s : State) : s.Leads (exec (.captureFifoRecheck percent elem src) s) := by
  refine .of_keep ?_
  dsimp only
  split
  · split
    · split
      · simp
      · split
        · rw [State.capStop_keep, State.capFlag_keep, State.each_keep]
          · simp
          · intro u q
            split <;> simp
        · simp
    · simp
  · rfl

theorem leads_authVerified (hs : W64) (s : State) : s.Leads (exec (.authVerified hs) s) := by
  refine .of_keep ?_
  dsimp only
  (repeat' split) <;> try simp
  exact s.logPriv_keep _ _ _ _ (by assumption)

/-- A request that is refused leaves the state, and one that is taken changes the Coremaker's part alone. -/
theorem State.takenRequest_keep (s : State) (r : Byte) (target : BitVec 24) (f : State → Cmk) :
    State.keep (match s.cmkRequest r target with | none => s | some t => { t with cmk := f t }) = s.keep := by
  split
  · rfl
  · rename_i t ht
    rw [← s.cmkRequest_some t r target ht]
    simp

theorem leads_routinePeriodicRequest (r : BitVec 8) (s : State) : s.Leads (exec (.routinePeriodicRequest r) s) := by
  refine .of_keep ?_
  split
  · rfl
  · split
    · exact s.takenRequest_keep _ _ fun t => { t.cmk with lastTiu := s.mono }
    · split
      · exact s.takenRequest_keep _ _ fun t => { t.cmk with lastScrub := s.mono }
      · split
        · exact s.takenRequest_keep _ _ fun t => { t.cmk with bgNext := (s.cmk.bgNext + 1) % 32 }
        · rfl

theorem State.withCryo_keep (s : State) (c : Cryo) : State.keep { s with cryo := c } = s.keep := by simp

theorem leads_conversionComplete (last : List Int) (fullScale : Bool) (s : State) :
    s.Leads (exec (.conversionComplete last fullScale) s) := by
  refine .of_keep ?_
  split
  · rfl
  · split
    · rfl
    · split
      · rfl
      · rw [State.cryNext_keep]
        simp only [apply_ite State.keep, State.crySet_keep, State.setReg_keep, State.draw_keep, State.withCryo_keep, State.setFld_keep,
          ite_self]

/-! ### Requests -/

theorem leads_runCancel (sid seq run : W32) (s : State) : s.Leads (exec (.runCancel sid seq run) s) := by
  refine leads_request fun x t => ?_
  (repeat' split) <;> simp

theorem leads_cruDragAccess (sid seq : W32) (c : Fin 34) (value : Option W32) (s : State) :
    s.Leads (exec (.cruDragAccess sid seq c value) s) := by
  cases value with
  | none => exact leads_request fun x t => t.regRead_keeps _ _
  | some v => exact .of_keep (s.writeOne_keep _ _ _ _)

theorem leads_laneSlip (sid seq : W32) (p : Fin 8) (l : Fin 9) (aligned : Bool) (s : State) :
    s.Leads (exec (.laneSlip sid seq p l aligned) s) := by
  refine leads_request fun x t => ?_
  have h := t.regWriteAll_keeps x [(aRunLaneCtrl p l, 1)]
  dsimp only
  split
  · rename_i u b hw
    rw [hw] at h
    rw [Answer.keeps_done] at h ⊢
    rw [apply_ite State.keep, State.setBit_keep, ite_self, h]
  · exact h

theorem leads_close (sid seq : W32) (s : State) : s.Leads (exec (.close sid seq) s) := by
  refine .of_keep ?_
  have h : (s.request sid seq 0x04 none fun x s => s.privileged x 0x0006 [[0]] fun s => .done s []).keep = s.keep :=
    State.request_keep fun x t => t.privileged_keeps x _ _ fun u => by simp
  dsimp only
  generalize State.request _ _ _ _ _ _ = u at h
  split
  · exact h
  · split
    · exact h
    · rw [apply_ite State.keep, State.endSession_keep, ite_self, h]

theorem leads_imageInstall (sid seq : W32) (kind : BitVec 8) (len : W32) (sha : BitVec 256) (s : State) :
    s.Leads (exec (.imageInstall sid seq kind len sha) s) := by
  refine leads_request fun x t => ?_
  dsimp only
  (repeat' split) <;> try exact t.refusePriv_keeps _ _ _ _
  · exact ((t.count _ _ _ _).refusePriv_keeps _ _ _ _).trans (t.count_keep _ _ _ _)
  · exact t.privileged_keeps x _ _ fun u => by simp

theorem leads_imageAbandon (sid seq : W32) (kind : BitVec 8) (s : State) : s.Leads (exec (.imageAbandon sid seq kind) s) := by
  refine leads_request fun x t => ?_
  dsimp only
  (repeat' split) <;> try exact t.refusePriv_keeps _ _ _ _
  exact t.privileged_keeps x _ _ fun u => by simp

/-! ### What writes the pattern store (R98, R291) -/

theorem State.Steps.refl (s : State) : s.Steps s := .of_keep rfl

theorem leads_patData (sid seq seg off : W32) (data : List Byte) (s : State) : s.Leads (exec (.patData sid seq seg off data) s) := by
  refine .of_steps (State.request_all s.Steps s sid seq 0x21 _ _ (fun t u e h => h.keep e) (.refl s) fun x t e => ?_)
  have hs : s.Steps t := .of_keep e
  dsimp only
  (repeat' split) <;> try trivial
  exact (hs.trans (t.storeBytes_steps ((t.seg seg.toNat).baseAddr + (t.seg seg.toNat).next) data)).keep (by simp)

theorem leads_captureClose (stored : List (List SrcVal)) (s : State) : s.Leads (exec (.captureClose stored) s) := by
  refine .of_steps ?_
  dsimp only
  (repeat' split) <;> try exact .refl s
  · exact State.Steps.trans (.of_keep (s.capStop_keep _)) (State.capFinish_steps _ stored)
  · exact s.capFinish_steps stored

/-! ### Microwords -/

theorem leads_cmkNone (w : MicroWord) (s : State) : s.Leads (exec (.cmkNone w) s) := by
  refine .of_keep ?_
  dsimp only
  split
  · rfl
  · split
    · exact State.cmkWord_keep fun t c => rfl
    · exact State.cmkWord_keep fun t c => rfl

theorem leads_cmkAlu (w : MicroWord) (s : State) : s.Leads (exec (.cmkAlu w) s) := by
  refine leads_cmkWord fun t c => ?_
  split
  · rfl
  · exact State.cmkAlu_keep (by assumption)

theorem leads_cmkLoad (w : MicroWord) (s : State) : s.Leads (exec (.cmkLoad w) s) := by
  refine leads_cmkWord fun t c => ?_
  split <;> simp

/-! ### What can end with the power off -/

theorem State.withThermal_keep (s : State) (x : Thermal) : State.keep { s with thermal := x } = s.keep := by simp

theorem leads_housekeepingRound (o : RoundObs) (s : State) : s.Leads (exec (.housekeepingRound o) s) := by
  refine .of_steps ?_
  split
  · exact .refl s
  · refine .keep ?_ (State.alerts_keep _)
    refine .keep ?_ (State.holdRound_keep _)
    refine .keep ?_ (State.each_keep _ _ _ fun u c => u.cruHit_keep c)
    refine .keep ?_ (State.needRound_keep _ _)
    refine .trans ?_ (State.railRound_steps _ _ _)
    refine .keep ?_ ((State.idleBanks_keep _).trans (State.withThermal_keep _ _))
    refine .trans (.of_keep ?_) (State.levelStep_steps _)
    simp

theorem leads_thermalRestart (s : State) : s.Leads (exec .thermalRestart s) := by
  refine .of_steps ?_
  split
  · exact .refl s
  · split
    · exact s.startBegin_steps _
    · exact .refl s

theorem leads_brownoutShotLimit (s : State) : s.Leads (exec .brownoutShotLimit s) := by
  refine .of_steps ?_
  split
  · split
    · exact .trans (.of_keep (s.abortShots_keep _ _)) (State.finishStop_steps _ _ _)
    · split
      · exact .refl s
      · exact s.finishStop_steps _ _
  · exact .refl s

theorem leads_brownoutRestart (s : State) : s.Leads (exec .brownoutRestart s) := by
  refine .of_steps ?_
  split
  · split
    · exact s.startBegin_steps _
    · exact .refl s
  · exact .refl s

theorem leads_riserBankSpent (s : State) : s.Leads (exec .riserBankSpent s) := by
  refine .of_steps ?_
  dsimp only
  split
  · exact s.blackout_steps.keep (by simp)
  · exact .refl s

theorem leads_stageIsolate (k : Fin 10) (s : State) : s.Leads (exec (.stageIsolate k) s) := by
  refine .of_steps ?_
  dsimp only
  split
  · generalize hu : State.logEvent _ _ _ _ = u
    have h : s.Steps u := .of_keep (by simp [← hu])
    (repeat' split)
    · exact h
    · exact h.trans u.shutDown_steps
    · exact h.keep u.holdNow_keep
    · exact h
  · exact .refl s

theorem leads_powerOn (straps : BitVec 2) (s : State) : s.Leads (exec (.powerOn straps) s) := by
  refine .of_steps ?_
  dsimp only
  split
  · exact .refl s
  · split
    · exact .of_keep (by simp)
    · refine .trans ?_ (State.startBegin_steps _ _)
      exact .of_keep (by simp)

theorem leads_startStagePass (o : StageResult) (s : State) : s.Leads (exec (.startStagePass o) s) := by
  refine .of_steps ?_
  split
  · exact .refl s
  · split
    · split
      · exact s.passSupervisor_steps o
      · exact .refl s
    · split
      · exact s.passImages_steps o
      · exact .refl s
    all_goals exact .of_keep (by simp [apply_ite State.keep])

theorem leads_startStageTimeout (cause : BitVec 8) (s : State) : s.Leads (exec (.startStageTimeout cause) s) := by
  refine .of_steps ?_
  split
  · exact .refl s
  · exact s.failAttempt_steps cause

theorem leads_retryStart (s : State) : s.Leads (exec .retryStart s) := by
  refine .of_steps ?_
  split
  · split
    · exact s.startBegin_steps _
    · exact .refl s
  · exact .refl s

theorem leads_rstFall (s : State) : s.Leads (exec .rstFall s) := by
  refine .of_steps ?_
  split
  · exact .refl s
  · generalize hu : ({ s with boot := { s.boot with rstLow := true } } : State) = u
    have h : s.Steps u := .of_keep (by simp [← hu])
    dsimp only
    (repeat' split)
    · exact h
    · exact h.trans u.heldByRst_steps
    · exact h.trans u.heldByRst_steps
    · exact h.keep (by simp)
    · exact h.trans u.heldByRst_steps
    · exact h.keep (by simp)

theorem leads_rstRise (straps : BitVec 2) (s : State) : s.Leads (exec (.rstRise straps) s) := by
  refine .of_steps ?_
  split
  · exact .refl s
  · generalize hu : ({ s with boot := { s.boot with rstLow := false, straps := straps } } : State) = u
    have h : s.Steps u := .of_keep (by simp [← hu])
    dsimp only
    split
    · exact h
    · split
      · exact h.trans (u.startBegin_steps _)
      · exact h
      · split
        · exact h
        · exact h.trans (u.startBegin_steps _)
      · exact h.trans (u.startBegin_steps _)
      · exact h

theorem leads_fatalFault (source : BitVec 8) (s : State) : s.Leads (exec (.fatalFault source) s) := by
  refine .of_steps ?_
  split
  · exact s.fatal_steps source
  · exact .refl s

theorem leads_fatalRestart (s : State) : s.Leads (exec .fatalRestart s) := by
  refine .of_steps ?_
  split
  · split
    · exact s.startBegin_steps _
    · exact .refl s
  · exact .refl s

theorem leads_supervisorWatchdog (s : State) : s.Leads (exec .supervisorWatchdog s) := by
  refine .of_steps ?_
  dsimp only
  split
  · exact .refl s
  · have h : s.Steps s.blackout := s.blackout_steps
    split
    · refine .trans ?_ (State.heldByRst_steps _)
      exact h.keep (by simp)
    · refine .trans ?_ (State.startBegin_steps _ _)
      exact h.keep (by simp)

/-! ### Every command -/

/-- The commands that write fuses, credentials or anti-rollback counters (R331, R345, R371). -/
def writesLasting (c : Instr) : Bool :=
  match c with
  | .cmkFuse .. | .nvWrite .. | .imageCommit .. => true
  | _ => false

/-- Every command but those that write fuses, credentials or counters keeps them, the queue and the form of the pattern store. -/
theorem exec_leads {c : Instr} (hc : writesLasting c = false) (s : State) : s.Leads (exec c s) := by
  cases c with
  | cmkFuse | nvWrite | imageCommit => cases hc
  -- instructions: each acts once its word is fetched
  | eNop | eAdd | eSub | eAnd | eOr | eXor | eShl | eShr | eSra | eMul | eMin | eMax | eAddi | eSubi | eAndi | eOri | eXori | eShli
  | eShri | eSrai | eMuli | eMini | eMaxi | eCmpeq | eCmplt | eCmpltu | eCmpeqi | eCmplti | eCmpltui | eGets | eTsave | eTadd
  | eTnow | eTcmp => exact .of_keep (State.alu_keep _ _ _ _)
  | eEnd | eJ | eBc | eDbnz | eBeqi => exact leads_fetch fun t => t.setEng_keep _ _
  | eDelay | eDelayr | eTload => exact leads_fetch fun t => t.moveCursor_keep _ _
  | eSetf | eSetfr | eSetp | eShiftp | eShiftpr | eRstf | ePlay | eFlux | eFluxr | eBias | eBiasr | eStrb =>
    exact leads_fetch fun t => t.enqueue_keep _ _ _ _ _
  | ePub | ePubr => exact leads_fetch fun t => t.enginePublish_keep _ _ _ _
  | eCall | eRet | ePlayr | eAcq | eWaite | eRec =>
    refine leads_fetch fun t => ?_
    dsimp only
    (repeat' split) <;> simp
  | cMac | cTapm | cMsq | cLdx | cStx | cMulx | cClra | cAcx => exact .of_keep (State.cruData_keep _ _ _ _ _)
  | cMacb | cWaitb => exact leads_cruFetch fun t => t.beatOp_keep _ _ fun u e => (u.afterBeat_keep _ _).trans e
  | cNop | cSets | cAdds | cJ | cDbnz | cRep => exact leads_cruFetch fun t => t.setCru_keep _ _
  | cmkNone w => exact leads_cmkNone w s
  | cmkAlu w => exact leads_cmkAlu w s
  | cmkLoad w => exact leads_cmkLoad w s
  | cmkRead => exact leads_cmkWord fun t c => rfl
  | cmkWrite | cmkShadow | cmkSlip => 
    refine leads_cmkWord fun t c => ?_
    dsimp only
    (repeat' split) <;> simp
  | cmkCommit | cmkNvwrite | cmkPublish =>
    refine leads_cmkWord fun t c => irreversible_all rfl ?_
    dsimp only
    (repeat' split) <;> simp
  -- requests of a session
  | resbufHighWaterClear | rfQueueFaultClear | rfCtrlWrite | grpSw | rangeWrite | grpCtrlWrite | refbufEnable | refbufDisable
  | adcRangeWrite | adcTrigEnable | classifierCommitGo | softwarePublish | timerEnable | timerDisable | portEnable
  | portDisable | portRetrain | realign | stepArm | sysOffsetIn | capArm | capSoftwareFire | capAbort | capReleaseWrite
  | tiuStart | tiuAbort | cmkReq | calAccept | calDiscard | fuseProgGo | cryCtrlWrite | cryChannelWrite | cryRoutWrite
  | mldReset => exact .of_keep (State.writeOne_keep _ _ _ _ _)
  | regRead | txqIdRead => exact leads_request fun x t => t.regRead_keeps _ _
  | regWrite => exact leads_request fun x t => t.regWriteAll_keeps _ _
  | cruDragAccess sid seq c value => exact leads_cruDragAccess sid seq c value s
  | laneSlip sid seq p l aligned => exact leads_laneSlip sid seq p l aligned s
  | imageInstall sid seq kind len sha => exact leads_imageInstall sid seq kind len sha s
  | imageAbandon sid seq kind => exact leads_imageAbandon sid seq kind s
  | close sid seq => exact leads_close sid seq s
  | patData sid seq seg off data => exact leads_patData sid seq seg off data s
  | runSubmit | patBegin | patEnd | patRelease | patPin | imgBegin | imgData | imgEnd | logRead | rawTx | runPurge =>
    refine leads_request fun x t => ?_
    dsimp only
    (repeat' split) <;> simp
  | runCancel | resultClaim | patStatus | capRead | capRelease | keepalive | nvRead =>
    refine leads_request fun x t => ?_
    (repeat' split) <;> simp
  -- what can end with the power off
  | housekeepingRound o => exact leads_housekeepingRound o s
  | thermalRestart => exact leads_thermalRestart s
  | brownoutShotLimit => exact leads_brownoutShotLimit s
  | brownoutRestart => exact leads_brownoutRestart s
  | riserBankSpent => exact leads_riserBankSpent s
  | stageIsolate k => exact leads_stageIsolate k s
  | powerOn straps => exact leads_powerOn straps s
  | startStagePass o => exact leads_startStagePass o s
  | startStageTimeout cause => exact leads_startStageTimeout cause s
  | retryStart => exact leads_retryStart s
  | rstFall => exact leads_rstFall s
  | rstRise straps => exact leads_rstRise straps s
  | fatalFault source => exact leads_fatalFault source s
  | fatalRestart => exact leads_fatalRestart s
  | supervisorWatchdog => exact leads_supervisorWatchdog s
  -- the other events
  | captureClose stored => exact leads_captureClose stored s
  | engineSwapComplete e => exact .of_keep (s.endSwap_keep e (s.eng e).swap)
  | crucibleSwapComplete n => exact leads_crucibleSwapComplete n s
  | runLoadComplete run => exact leads_runLoadComplete run s
  | captureFifoRecheck percent elem src => exact leads_captureFifoRecheck percent elem src s
  | authVerified hs => exact leads_authVerified hs s
  | routinePeriodicRequest r => exact leads_routinePeriodicRequest r s
  | conversionComplete last fullScale => exact leads_conversionComplete last fullScale s
  | enqueueAfterFull | itemRelease | shotRecordClose | playBind | commitPoint | segmentPassEnd | jumpRequestDue
  | rangeWindowEnd | windowStartArrival | windowOpen | decisionPublish | waiteTimeout | flagNotifyDeferred | trigOutputPulse
  | bringupStagePass | blockTransmit | ackOverdue | gapTimeout | ptpSync | routineStart | classifierCommitTick | granuleRead =>
    refine .of_keep ?_
    dsimp only
    (repeat' split) <;> simp
  | watchdog | handshakeFault | programMemoryRewrite | programRowRemap | runQueueHead | resourceFault | shotStart | shotEnd
  | engineSwapBegin | uploadIdleTimeout | refillComplete | ncoCheck | sampleQueueFault | settleEnd | waitQuietEnd
  | fsStepSwitchDone | bankShutdownComplete | strobe | edgeEnd | outclrFall | outclrRise | groupPowerUpComplete
  | groupShutdownComplete | windowClose | refbufReady | refbufShutdownComplete | quietTick | rangeSettled | beatWrite
  | crucibleFault | sequencerForcedStop | crucibleSwapBegin | sprueRound | timerPublish | trigInputEdge | autoSlipStep
  | bringupStageTimeout | bringupRestart | enableFrameReceive | fastPathBlockReceive | runnerAckSend | runnerAckReceive
  | lossFrameReceive | elasticBufferFault | measFrameReceive | measUpdate | timeRequestSend | timeRequestReceive
  | timeReplyReceive | castStep | castHoldoverEntry | refinLost | pllUnlock | adoptionWindowEnd | ptpDelayResp | ptpAnnounce
  | announceReceiptTimeout | delayReqSend | taiSecondBoundary | chainForward | captureFire | triggerPointFix | captureGap
  | tiuEdge | tiuMeasurementTimeout | qsfpInsert | arpRequest | neighbourSolicitation | echoRequest | frameDiscard | hello
  | challengeSigned | auth | handshakeTimeout | sealedPacketReceive | ack | nak | attest | bareAckSend | transactionResend
  | sessionIdleTimeout | logEntryCommit | logRateSecondEnd | cmkWaitTimeout | forcedAbort | acceptanceTimeout | calCommitTick
  | excitationReversal | openWireTrip | vrefLow | feedUndervoltage | feedOvervoltage | brownoutDecided | slackServoStep
  | moulderTakeover | dramRowRemap | dramBankRemap | hotCacheLineRetire | moulderUpdateHandover | controlStoreSwitch
  | controlStoreInstallTimeout | flaskPatchSwitch | settlingComplete | laneSignalLost | refinReturn | feedReturn
  | holdLimitExceeded | attestSigned | cmkWaitSatisfied =>
    refine .of_keep ?_
    (repeat' split) <;> simp [apply_ite State.keep]

end Sys2Proof.Machine
end

section
/-! PROOF. The pattern store keeps its canonical form through every step, and what is stored in it is read back (R92). -/

namespace Sys2Proof.Machine

/-! ### Commands that write fuses, credentials or counters -/

/-- The queue and the pattern store are as they were. -/
def State.SameStore (s t : State) : Prop := t.pending = s.pending ∧ t.dram = s.dram

theorem State.SameStore.of_keep {s t : State} (h : t.keep = s.keep) : s.SameStore t := by
  simp only [State.keep, Prod.mk.injEq] at h
  exact ⟨h.1, h.2.2.2.2⟩

theorem State.SameStore.trans {s t u : State} (h : s.SameStore t) (g : t.SameStore u) : s.SameStore u :=
  ⟨g.1.trans h.1, g.2.trans h.2⟩

theorem State.SameStore.keep {s t u : State} (h : s.SameStore t) (e : u.keep = t.keep) : s.SameStore u := h.trans (.of_keep e)

theorem State.restsOnKeep_sameStore (s : State) : RestsOnKeep s.SameStore := fun _ _ e h => h.keep e

theorem sameStore_cmkFuse (w : MicroWord) (o : FuseObs) (s : State) : ∃ t, exec (.cmkFuse w o) s = .next t ∧ s.SameStore t := by
  refine ⟨_, rfl, State.cmkWord_all s.SameStore s w 6 _ s.restsOnKeep_sameStore (.of_keep rfl) fun t c e => ?_⟩
  have h : s.SameStore t := .of_keep e
  refine irreversible_all h ?_
  have hfuse : ∀ (u : State) (r : Nat) (v : W64) (code : Nat) (b : List Byte), s.SameStore u →
      s.SameStore ((u.setFuse r v).logEvent 0x0008 code b) := fun u r v code b hu =>
    State.SameStore.keep (t := u.setFuse r v) (hu.trans ⟨rfl, rfl⟩) (State.logEvent_keep _ _ _ _)
  have hj : s.SameStore { t with cmk := { t.cmk with journal := [] } } := h.keep (by simp)
  dsimp only
  split
  · exact hj
  · split
    · exact hj.keep (by simp)
    · split
      · exact hfuse _ _ _ _ _ hj
      · split
        · exact hfuse _ _ _ _ _ hj
        · exact hfuse _ _ _ _ _ hj

theorem State.writeCred_sameStore {s t : State} (h : s.SameStore t) (x : Session) (cls idx : Nat) (r : List Byte) :
    (t.writeCred x cls idx r).all s.SameStore := by
  unfold State.writeCred
  dsimp only
  split
  · exact t.refusePriv_all _ x _ _ _ s.restsOnKeep_sameStore h
  · refine t.privilegedL_all _ x _ _ s.restsOnKeep_sameStore h fun u e => ?_
    have hu : s.SameStore u := h.keep e
    have hc : s.SameStore { u with creds := Tbl.put u.creds ((credRole cls).code.toNat * 64 + idx) (credOfRec r) Cred.init } :=
      hu.trans ⟨rfl, rfl⟩
    exact hc.keep (by (repeat' split) <;> simp)

theorem sameStore_nvWrite (sid seq : W32) (cls idx : BitVec 16) (r : List Byte) (s : State) :
    ∃ t, exec (.nvWrite sid seq cls idx r) s = .next t ∧ s.SameStore t := by
  refine ⟨_, rfl, State.request_all s.SameStore s sid seq 0x61 _ _ s.restsOnKeep_sameStore (.of_keep rfl) fun x t e => ?_⟩
  have h : s.SameStore t := .of_keep e
  have hrefuse : ∀ n d st, (t.refusePriv x n d st).all s.SameStore := fun n d st => t.refusePriv_all _ x n d st s.restsOnKeep_sameStore h
  have hput : ∀ l k, (∀ u : State, ∃ v, k u = .done v [] ∧ v.keep = u.keep) → (t.privileged x 0x0002 l k).all s.SameStore := by
    refine fun l k hk => t.privileged_all _ x _ l k s.restsOnKeep_sameStore h fun u e => ?_
    obtain ⟨v, hv, hkeep⟩ := hk u
    exact hv ▸ h.keep (hkeep.trans e)
  dsimp only
  split
  · trivial
  · split
    · exact hrefuse _ _ _
    · split
      · exact hrefuse _ _ _
      · split
        · exact State.writeCred_sameStore h x _ _ r
        · split
          · split
            · exact hrefuse _ _ _
            · exact hput _ _ fun u => ⟨_, rfl, by simp⟩
          · split
            · exact hrefuse _ _ _
            · split
              · split
                · exact hput _ _ fun u => ⟨_, rfl, u.nvPut_keep _ _ _⟩
                · exact hrefuse _ _ _
              · split
                · exact hput _ _ fun u => ⟨_, rfl, u.nvPut_keep _ _ _⟩
                · exact hrefuse _ _ _

theorem sameStore_imageCommit (sid seq : W32) (kind : BitVec 8) (s : State) :
    ∃ t, exec (.imageCommit sid seq kind) s = .next t ∧ s.SameStore t := by
  refine ⟨_, rfl, State.request_all s.SameStore s sid seq 0x61 _ _ s.restsOnKeep_sameStore (.of_keep rfl) fun x t e => ?_⟩
  have h : s.SameStore t := .of_keep e
  have hrefuse : ∀ d st, (t.refusePriv x 0x0008 d st).all s.SameStore := fun d st => t.refusePriv_all _ x _ d st s.restsOnKeep_sameStore h
  dsimp only
  split
  · exact hrefuse _ _
  · split
    · exact hrefuse _ _
    · split
      · exact hrefuse _ _
      · exact t.privilegedL_all _ x _ _ s.restsOnKeep_sameStore h fun u e => (h.keep e).trans ⟨rfl, rfl⟩

theorem exec_sameStore {c : Instr} (hc : writesLasting c = true) (s : State) : ∃ t, exec c s = .next t ∧ s.SameStore t := by
  cases c with
  | cmkFuse w o => exact sameStore_cmkFuse w o s
  | nvWrite sid seq cls idx r => exact sameStore_nvWrite sid seq cls idx r s
  | imageCommit sid seq kind => exact sameStore_imageCommit sid seq kind s
  | _ => cases hc

/-! ### The form of the store -/

/-- A command keeps the form of the pattern store. -/
theorem exec_keeps_form {c : Instr} {s t : State} (h : exec c s = .next t) (hwf : Memory.wf s.dram = true) : Memory.wf t.dram = true := by
  cases hc : writesLasting c with
  | false => exact (exec_leads hc s t h).2 hwf
  | true =>
    obtain ⟨u, hu, -, hdram⟩ := exec_sameStore hc s
    obtain rfl : u = t := Host.Outcome.next.inj (hu.symm.trans h)
    exact hdram ▸ hwf

/-- Settles O56: a command keeps the form of the store, and a tick leaves the store as it is. -/
theorem memoryFormIsKept : Obligations.MemoryFormIsKept := by
  intro s t hwf hstep
  cases hp : s.pending with
  | nil =>
    obtain rfl : s.tick = t := Host.Outcome.next.inj ((step_of_empty hp).symm.trans hstep)
    exact (State.Steps.of_keep s.tick_keep).2 hwf
  | cons c rest => exact exec_keeps_form ((step_of_waiting hp).symm.trans hstep) hwf

/-! ### Bytes stored (R92) -/

/-- Settles O59, by the rules of a store: its own bytes read as stored, and the others as before. -/
theorem storedBytesAreReadBack : Obligations.StoredBytesAreReadBack := by
  intro s a l hwf
  refine ⟨?_, fun b hb => s.mem_storeBytes_outside a b l hb, s.dram_wf_storeBytes a l hwf, ?_⟩
  · refine List.ext_getElem (by simp [State.loadBytes]) fun i _ hi => ?_
    simp only [State.loadBytes, List.getElem_map, List.getElem_range]
    rw [s.mem_storeBytes_inside a i l hwf hi, List.getD_eq_getElem _ _ hi]
  · rw [s.storeBytes_eq a l]

end Sys2Proof.Machine
end

section
/-! PROOF. The uploads of the pattern store and the other requests about its segments (R97-R99, R111, R115, R316-R318). -/

namespace Sys2Proof.Machine

/-! ### The store under an upload -/

/-- The pin's refills after an unpin write the hot caches alone. -/
theorem State.each_setHot {α : Type} (l : List α) (f : State → α → State) (hf : ∀ u a, ∃ k h, f u a = u.setHot k h) (s : State) :
    ∃ h, s.each l f = { s with hots := h } := by
  refine State.each_inv (fun u => ∃ h, u = { s with hots := h }) l f ?_ s ⟨s.hots, rfl⟩
  rintro u a ⟨h, rfl⟩
  obtain ⟨k, y, hk⟩ := hf { s with hots := h } a
  exact ⟨_, hk.trans rfl⟩

/-- A segment that holds data is one that no write of the store's table leaves out. -/
theorem State.seg_setSeg_of_ready (s : State) (n : Nat) {g : Seg} (h : g.st = .ready) : (s.setSeg n g).seg n = g := by
  have hg : g ≠ Seg.init := by rintro rfl; exact absurd h (by decide)
  show Tbl.get (Tbl.put s.segs n g Seg.init) n Seg.init = g
  rw [Tbl.put, if_neg hg, Tbl.get_insert_same]

theorem State.count_setSeg (s : State) (n : Nat) (x : Seg) (a hi lo k : Nat) :
    (s.setSeg n x).count a hi lo k = (s.count a hi lo k).setSeg n x := rfl
theorem State.count_eq_withRegs (s : State) (a hi lo n : Nat) : s.count a hi lo n = s.withRegs (s.count a hi lo n).regs := rfl

/-- What a failed upload leaves of its segment: FREE, at its old version and owner (R98). -/
def Seg.failed (g : Seg) (bad : Bool) : Seg :=
  { g with st := .free, version := g.version - 1, owner := g.oldOwner, uploading := false, pinned := false, bad := bad }

/-- A failed upload changes its segment, the check contexts and the counter of refused uploads (R98, R115). -/
theorem State.failUpload_eq (s : State) (n : Nat) (bad : Bool) :
    s.failUpload n bad = { s with segs := (s.setSeg n ((s.seg n).failed bad)).segs, regs := (s.count aMldPatErr 15 0 1).regs,
                                  checks := s.checks.filter (fun c => c.1 != n) } := by
  have h : s.failUpload n bad = { (s.setSeg n ((s.seg n).failed bad)).count aMldPatErr 15 0 1 with
                                  checks := s.checks.filter (fun c => c.1 != n) } := rfl
  rw [h, State.count_setSeg, State.count_eq_withRegs]
  rfl

theorem State.failUpload_dram (s : State) (n : Nat) (bad : Bool) : (s.failUpload n bad).dram = s.dram := by rw [s.failUpload_eq]

theorem State.seg_failUpload {s : State} (n : Nat) (bad : Bool) (hseg : Tbl.wf (fun _ => Seg.init) s.segs = true) :
    (s.failUpload n bad).seg n = (s.seg n).failed bad := by
  rw [s.failUpload_eq]
  exact s.seg_setSeg_same n _ hseg

theorem State.seg_failUpload_other (s : State) {n m : Nat} (bad : Bool) (hm : m ≠ n) : (s.failUpload n bad).seg m = s.seg m := by
  rw [s.failUpload_eq]
  exact s.seg_setSeg_other n m _ hm

theorem State.keepDigest_segs (s : State) (k : KeptDigest) : (s.keepDigest k).segs = s.segs := rfl
theorem State.keepDigest_dram (s : State) (k : KeptDigest) : (s.keepDigest k).dram = s.dram := rfl

/-- A failed check is counted, its digest kept, and the upload fails (R316, R317). -/
def State.failCheck (u : State) (k : KeptDigest) (n : Nat) : State := ((u.count aNetCntA 31 16 1).keepDigest k).failUpload n true

theorem State.failCheck_dram (u : State) (k : KeptDigest) (n : Nat) : (u.failCheck k n).dram = u.dram := by
  rw [State.failCheck, State.failUpload_dram, State.keepDigest_dram, State.count_dram]

theorem State.seg_failCheck {u : State} (k : KeptDigest) (n : Nat) (hseg : Tbl.wf (fun _ => Seg.init) u.segs = true) :
    (u.failCheck k n).seg n = (u.seg n).failed true := by
  have hsegs : ((u.count aNetCntA 31 16 1).keepDigest k).segs = u.segs := by
    rw [State.keepDigest_segs, State.count_segs]
  rw [State.failCheck, State.seg_failUpload n true (by rw [hsegs]; exact hseg), State.seg, hsegs, State.seg]

theorem State.fld_of_regs {s t : State} (h : t.regs = s.regs) (a hi lo : Nat) : t.fld a hi lo = s.fld a hi lo := by
  rw [State.fld, State.reg, h]; rfl

/-! ### The requests -/

/-- A request that is asked for ends in the reply of the answer that its handler computes. -/
theorem State.next_request_of_asks {s u : State} {x : Session} {sid seq : W32} {ty : Byte} {role : Option Role}
    (h : s.asks x sid seq ty role = true) (hu : s.taken x sid = u) {k : Session → State → Answer} {r : Answer} (hk : k x u = r) :
    (.next (s.request sid seq ty role k) : Out) = .next (r.reply u sid seq ty) := by
  rw [State.request_of_asks h, hu, hk]

section Requests
variable {s u : State} {x : Session} {sid seq seg : W32}

/-- The segment that a begun upload fills (R98). -/
def State.begunSeg (u : State) (x : Session) (n : Nat) (desc : BitVec 256) : Seg :=
  { Seg.init with desc := desc, version := (u.seg n).version + 1, st := .filling, owner := x.id, oldOwner := (u.seg n).owner,
                  lastMsg := u.mono, uploading := true, bad := (u.seg n).bad }

theorem exec_patBegin {desc : BitVec 256} (h : s.asks x sid seq 0x20 (some .operator) = true) (hu : s.taken x sid = u)
    (hn : seg.toNat < 2 ^ 20) :
    exec (.patBegin sid seq seg desc) s = .next (match u.beginRefusal seg.toNat (u.begunSeg x seg.toNat desc) with
      | some st => (u.count aMldPatErr 15 0 1).reply sid seq 0x20 st (detailSeg seg).bytes
      | none => State.reply { u.setSeg seg.toNat (u.begunSeg x seg.toNat desc) with
            rates := { u.ratesNow with begins := u.ratesNow.begins + 1 },
            checks := (seg.toNat, ⟨x.profile, BitVec.ofNat 64 (u.profile x.profile).init, 0⟩)
              :: u.checks.filter (fun c => c.1 != seg.toNat) } sid seq 0x20 .ok []) := by
  refine (State.next_request_of_asks h hu ((if_neg (by omega)).trans rfl)).trans ?_
  show Host.Outcome.next (Answer.reply (match u.beginRefusal seg.toNat (u.begunSeg x seg.toNat desc) with
      | some st => _
      | none => _) _ _ _ _) = _
  cases u.beginRefusal seg.toNat (u.begunSeg x seg.toNat desc) <;> rfl

/-- A data message of the upload's owner, at the next offset and inside the segment (R98, R318). -/
theorem exec_patData_accepted {off : W32} {data : List Byte} (h : s.asks x sid seq 0x21 (some .operator) = true) (hu : s.taken x sid = u)
    (hn : seg.toNat < 2 ^ 20) (hup : (u.seg seg.toNat).uploading = true) (hown : (u.seg seg.toNat).owner = x.id)
    (hoff : off.toNat = (u.seg seg.toNat).next) (hend : (u.seg seg.toNat).next + data.length ≤ (u.seg seg.toNat).bytesLen) :
    exec (.patData sid seq seg off data) s = .next (State.reply 
      (((u.storeBytes ((u.seg seg.toNat).baseAddr + (u.seg seg.toNat).next) data).runCheck seg.toNat data).setSeg seg.toNat
        { u.seg seg.toNat with next := (u.seg seg.toNat).next + data.length, lastMsg := u.mono }) sid seq 0x21 .ok []) := by
  refine (State.next_request_of_asks h hu (r := .done _ _) ?_).trans rfl
  dsimp only
  rw [if_neg (by omega), if_neg (by simp [hup, hown]), if_neg (by omega), if_neg (by omega)]
  rw [u.storeBytes_eq]; rfl


theorem exec_patData_misplaced {off : W32} {data : List Byte} (h : s.asks x sid seq 0x21 (some .operator) = true) (hu : s.taken x sid = u)
    (hn : seg.toNat < 2 ^ 20) (hup : (u.seg seg.toNat).uploading = true) (hown : (u.seg seg.toNat).owner = x.id)
    (hoff : off.toNat ≠ (u.seg seg.toNat).next) :
    exec (.patData sid seq seg off data) s
      = .next (u.reply sid seq 0x21 .range (detailNext seg (u.seg seg.toNat).next).bytes) := by
  refine (State.next_request_of_asks h hu (r := .refuse _ _) ?_).trans rfl
  dsimp only
  rw [if_neg (by omega), if_neg (by simp [hup, hown]), if_pos hoff]

theorem exec_patData_unowned {off : W32} {data : List Byte} (h : s.asks x sid seq 0x21 (some .operator) = true) (hu : s.taken x sid = u)
    (hn : seg.toNat < 2 ^ 20) (hmine : ¬ ((u.seg seg.toNat).uploading = true ∧ (u.seg seg.toNat).owner = x.id)) :
    exec (.patData sid seq seg off data) s = .next (u.reply sid seq 0x21 .state (detailSeg seg).bytes) := by
  refine (State.next_request_of_asks h hu (r := .refuse _ _) ?_).trans rfl
  dsimp only
  rw [if_neg (by omega), if_pos (by simpa [or_iff_not_imp_left] using hmine)]

/-- An end of the upload's owner: all data given, the check decides; else the next offset is named (R98, R317). -/
theorem exec_patEnd {check : W64} (h : s.asks x sid seq 0x22 (some .operator) = true) (hu : s.taken x sid = u) (hn : seg.toNat < 2 ^ 20)
    (hup : (u.seg seg.toNat).uploading = true) (hown : (u.seg seg.toNat).owner = x.id) {g : Seg} (hg : u.seg seg.toNat = g)
    {c : CheckCtx} (hc : u.checkCtx seg.toNat = c) {k : KeptDigest}
    (hk : ⟨true, seg, g.version, Config.sha256 (u.loadBytes g.baseAddr g.bytesLen)⟩ = k) :
    exec (.patEnd sid seq seg check) s = .next (
      if g.next < g.bytesLen then u.reply sid seq 0x22 .range (detailNext seg g.next).bytes
      else if (u.profile c.profile).finish c.value.toNat = check.toNat then
        State.reply (let v := u.setSeg seg.toNat { g with st := .ready, uploading := false, pinned := g.pinBit, bad := false }
          let w := { v.dropDigest k with checks := u.checks.filter (fun c => c.1 != seg.toNat) }
          if g.pinBit then w.pinTrim else w) sid seq 0x22 .ok []
      else (u.failCheck k seg.toNat).reply sid seq 0x22 .check (detailSeg seg).bytes) := by
  subst hg hc hk
  refine (State.next_request_of_asks h hu rfl).trans ?_
  dsimp only
  rw [if_neg (by omega), if_neg (by simp [hup, hown])]
  split
  · rfl
  · split <;> rfl

/-- A release: an active segment stands, a READY one becomes FREE (R97, R99). -/
theorem exec_patRelease (h : s.asks x sid seq 0x23 (some .operator) = true) (hu : s.taken x sid = u) (hn : seg.toNat < 2 ^ 20) :
    exec (.patRelease sid seq seg) s = .next (
      if u.segActive (BitVec.ofNat 20 seg.toNat) then u.reply sid seq 0x23 .busy (detailSeg seg).bytes
      else match (u.seg seg.toNat).st with
      | .free => u.reply sid seq 0x23 .ok []
      | .filling => u.reply sid seq 0x23 .state (detailSeg seg).bytes
      | .ready => (u.setSeg seg.toNat { u.seg seg.toNat with st := .free, pinned := false }).reply sid seq 0x23 .ok []) := by
  refine (State.next_request_of_asks h hu rfl).trans ?_
  dsimp only
  rw [if_neg (by omega)]
  split
  · rfl
  · cases (u.seg seg.toNat).st <;> rfl

theorem exec_patPin_pinned (h : s.asks x sid seq 0x24 (some .operator) = true) (hu : s.taken x sid = u) (hn : seg.toNat < 2 ^ 20)
    (hact : u.segActive (BitVec.ofNat 20 seg.toNat) = false) (hst : (u.seg seg.toNat).st = .ready)
    (hfits : u.pinExceeds seg.toNat (u.seg seg.toNat) = false) :
    exec (.patPin sid seq seg 1) s = .next (State.reply
      (u.setSeg seg.toNat { u.seg seg.toNat with pinned := true, desc := (u.seg seg.toNat).desc ||| (1#256 <<< 56) }).pinTrim
      sid seq 0x24 .ok []) := by
  refine (State.next_request_of_asks h hu (r := .done _ _) ?_).trans rfl
  dsimp only
  rw [if_neg (by omega), if_neg (by rw [hst, hact]; decide), if_neg (by decide), if_pos rfl, if_neg (by simp [hfits])]

/-- The blocks of an unpinned segment stay in the caches as ordinary lines, as many as there is room for (R99, R111). -/
def State.keepLines (u : State) (blocks : List Nat) : State :=
  u.each (List.range 8) (fun s k => s.setHot k { s.hot k with
    lines := ((s.hot k).lines ++ blocks.filter (fun b => !s.hotHas k b)).take (s.hotCap k) })

theorem State.keepLines_eq (u : State) (blocks : List Nat) : ∃ hots, u.keepLines blocks = { u with hots := hots } :=
  State.each_setHot _ _ (fun _ k => ⟨k, _, rfl⟩) u

theorem exec_patPin_unpinned (h : s.asks x sid seq 0x24 (some .operator) = true) (hu : s.taken x sid = u) (hn : seg.toNat < 2 ^ 20)
    (hact : u.segActive (BitVec.ofNat 20 seg.toNat) = false) {g w : _} (hg : u.seg seg.toNat = g) (hst : g.st = .ready)
    (hw : u.setSeg seg.toNat { g with pinned := false, desc := g.desc &&& ~~~(1#256 <<< 56) } = w) :
    exec (.patPin sid seq seg 0) s = .next (State.reply (if g.pinned then w.keepLines g.blocks else w) sid seq 0x24 .ok []) := by
  subst hg hw
  refine (State.next_request_of_asks h hu (r := .done _ _) ?_).trans rfl
  dsimp only
  rw [if_neg (by omega), if_neg (by rw [hst, hact]; decide), if_neg (by decide), if_neg (by decide)]
  rfl

theorem exec_patStatus {count : W32} (h : s.asks x sid seq 0x25 none = true) (hu : s.taken x sid = u) (h1 : 1 ≤ count.toNat)
    (h256 : count.toNat ≤ 256) (hend : seg.toNat + count.toNat ≤ 2 ^ 20) :
    exec (.patStatus sid seq seg count) s = .next (u.reply sid seq 0x25 .ok
      ((List.range count.toNat).flatMap (fun i => u.segStatus (seg.toNat + i)))) := by
  refine (State.next_request_of_asks h hu (r := .done _ _) ?_).trans rfl
  rw [if_neg (by omega), if_neg (by omega)]

end Requests

/-- An upload that has had no data for 100 ms fails (R98). -/
theorem exec_uploadIdleTimeout {s : State} {seg : BitVec 20} (hup : (s.seg seg.toNat).uploading = true)
    (hidle : 100000000 ≤ s.since (s.seg seg.toNat).lastMsg) (hseg : Tbl.wf (fun _ => Seg.init) s.segs = true)
    (hregs : Tbl.wf resetWord s.regs = true) :
    let g := s.seg seg.toNat
    ∃ t, exec (.uploadIdleTimeout seg) s = .next t ∧ t.checks = s.checks.filter (fun c => c.1 != seg.toNat)
      ∧ t.seg seg.toNat = { g with st := .free, version := g.version - 1, owner := g.oldOwner, uploading := false, pinned := false,
                                   bad := false }
      ∧ (∀ n, n ≠ seg.toNat → t.seg n = s.seg n) ∧ t.fld aMldPatErr 15 0 = satAdd 16 (s.fld aMldPatErr 15 0) 1
      ∧ t = { s with segs := t.segs, checks := t.checks, regs := t.regs } := by
  refine ⟨s.failUpload seg.toNat false, congrArg Host.Outcome.next (if_pos ⟨hup, hidle⟩), ?_, State.seg_failUpload _ false hseg,
    fun n hn => s.seg_failUpload_other false hn, ?_, ?_⟩
  · rw [s.failUpload_eq]
  · have hcount : (s.failUpload seg.toNat false).regs = (s.count aMldPatErr 15 0 1).regs := by rw [s.failUpload_eq]
    exact (State.fld_of_regs hcount _ _ _).trans (State.fld_count_same hregs aMldPatErr (by decide) (by decide) 1)
  · rw [s.failUpload_eq]

/-- Settles O10: each request is the answer of its handler, and a failed or timed-out upload is `failUpload`. -/
theorem patternUploadsChangeTheirSegment : Obligations.PatternUploadsChangeTheirSegment := by
  refine ⟨?_, ?_⟩
  · intro s x sid seq seg off count desc data check st u n g filling asked answers refused mine good digest
    have hu : s.taken x sid = u := rfl
    refine ⟨fun ⟨h, hn⟩ hb => ?_, fun ⟨h, hn⟩ hb => ?_, fun ⟨h, hn⟩ ⟨hup, hown⟩ hoff hend hwf => ⟨?_, fun i hi => ?_, fun a ha => ?_⟩,
      fun ⟨h, hn⟩ ⟨hup, hown⟩ hoff => ?_, fun ⟨h, hn⟩ hmine => ?_, fun ⟨h, hn⟩ ⟨hup, hown⟩ hall hgood => ?_,
      fun ⟨h, hn⟩ ⟨hup, hown⟩ hall hbad hseg => ⟨?_, ?_, ?_⟩, fun ⟨h, hn⟩ ⟨hup, hown⟩ hsome => ?_, fun ⟨h, hn⟩ hact => ?_,
      fun ⟨h, hn⟩ hact => ?_, fun ⟨h, hn⟩ hact hst hfits => ?_, fun ⟨h, hn⟩ hact hst => ?_,
      fun h h1 h256 hend => ?_⟩
    · exact (exec_patBegin h hu hn).trans (by rw [show u.beginRefusal seg.toNat (u.begunSeg x seg.toNat desc) = none from hb]; rfl)
    · exact (exec_patBegin h hu hn).trans (by rw [show u.beginRefusal seg.toNat (u.begunSeg x seg.toNat desc) = some st from hb])
    · exact exec_patData_accepted h hu hn hup hown hoff hend
    · exact u.mem_storeBytes_inside _ i data hwf hi
    · exact u.mem_storeBytes_outside _ a data ha
    · exact exec_patData_misplaced h hu hn hup hown hoff
    · exact exec_patData_unowned h hu hn hmine
    · exact (exec_patEnd h hu hn hup hown rfl rfl rfl).trans (by rw [if_neg (Nat.not_lt.2 hall), if_pos hgood])
    · exact (exec_patEnd h hu hn hup hown rfl rfl rfl).trans (by rw [if_neg (Nat.not_lt.2 hall), if_neg hbad]; rfl)
    · exact State.seg_failCheck digest n hseg
    · exact State.failCheck_dram u digest n
    · exact (exec_patEnd h hu hn hup hown rfl rfl rfl).trans (by rw [if_pos hsome])
    · have hexec := (exec_patRelease h hu hn).trans (by rw [if_neg (ne_true_of_eq_false hact)])
      cases hst : g.st <;> (rw [show (u.seg seg.toNat).st = _ from hst] at hexec; exact hexec)
    · exact (exec_patRelease h hu hn).trans (by rw [if_pos hact])
    · exact exec_patPin_pinned h hu hn hact hst hfits
    · let w := u.setSeg n { g with pinned := false, desc := g.desc &&& ~~~(1#256 <<< 56) }
      have hw : w.seg n = { g with pinned := false, desc := g.desc &&& ~~~(1#256 <<< 56) } := u.seg_setSeg_of_ready n hst
      have hexec := exec_patPin_unpinned h hu hn hact rfl hst (w := w) rfl
      cases hp : g.pinned with
      | false =>
        rw [if_neg (ne_true_of_eq_false hp)] at hexec
        exact ⟨w, hexec, hw, fun _ => rfl, rfl⟩
      | true =>
        obtain ⟨hots, hk⟩ := w.keepLines_eq g.blocks
        rw [if_pos hp, hk] at hexec
        exact ⟨_, hexec, hw, nofun, rfl⟩
    · exact exec_patStatus h hu h1 h256 hend
  · exact fun s seg hup hidle hseg hregs => exec_uploadIdleTimeout hup hidle hseg hregs

end Sys2Proof.Machine
end

section
/-! SUPPORT. What the pattern players share, each said once: a counter's field, the hot caches, a bind, the judgement of a granule and the
end of a pass (R101, R102, R111, R112, R115). -/

namespace Sys2Proof.Machine

/-! ### Counters -/

theorem State.fld_lt (s : State) (a hi lo : Nat) : s.fld a hi lo < 2 ^ (hi - lo + 1) := Nat.mod_lt _ (Nat.two_pow_pos _)

theorem satAdd_zero {w a : Nat} (h : a < 2 ^ w) : satAdd w a 0 = a := Nat.min_eq_left (Nat.le_sub_one_of_lt h)

theorem State.fld_count_other (s : State) (a b hi lo n hi' lo' : Nat) (hb : b ≠ a) : (s.count a hi lo n).fld b hi' lo' = s.fld b hi' lo' :=
  s.fld_setFld_other a b hi lo _ hi' lo' hb

/-- A count in one field of a register leaves the fields above and below it. -/
theorem State.fld_count_apart {s : State} (hregs : Tbl.wf resetWord s.regs = true) (a n : Nat) {hi lo hi' lo' : Nat} (hl : lo ≤ hi)
    (h31 : hi ≤ 31) (hl' : lo' ≤ hi') (hapart : hi' < lo ∨ hi < lo') : (s.count a hi lo n).fld a hi' lo' = s.fld a hi' lo' := by
  simp only [State.count, State.setFld, State.fld]
  rw [s.reg_setReg_same a _ hregs]
  rcases hapart with hb | ha
  · exact fieldOf_withField_below _ hi lo _ hi' lo' hl h31 hl' hb
  · exact fieldOf_withField_above _ hi lo _ hi' lo' hl h31 ha

/-- A count made if `b` holds changes one field of the register file. -/
theorem State.count_if_spec {s : State} (hregs : Tbl.wf resetWord s.regs = true) (b : Bool) (a : Nat) {hi lo : Nat} (hl : lo ≤ hi)
    (h31 : hi ≤ 31) : ∃ r, (if b then s.count a hi lo 1 else s) = s.withRegs r ∧ Tbl.wf resetWord r = true
      ∧ (s.withRegs r).fld a hi lo = satAdd (hi - lo + 1) (s.fld a hi lo) b.toNat
      ∧ (∀ c, c ≠ a → ∀ m n, (s.withRegs r).fld c m n = s.fld c m n)
      ∧ (∀ m n, n ≤ m → m < lo ∨ hi < n → (s.withRegs r).fld a m n = s.fld a m n) := by
  cases b with
  | false => exact ⟨s.regs, rfl, hregs, (satAdd_zero (s.fld_lt a hi lo)).symm, fun _ _ _ _ => rfl, fun _ _ _ _ => rfl⟩
  | true => exact ⟨_, s.count_eq_withRegs a hi lo 1, s.regs_wf_setFld a hi lo _ hregs, State.fld_count_same hregs a hl h31 1,
      fun c hc m n => s.fld_count_other a c hi lo 1 m n hc, fun m n hn hapart => State.fld_count_apart hregs a 1 hl h31 hn hapart⟩

theorem aPlyUndr_ne_aPlyCnt (i j : Nat) : aPlyUndr i j ≠ aPlyCnt i j := by unfold aPlyUndr aPlyCnt; omega
theorem aPlyCnt_ne_aPlyStat (i j : Nat) : aPlyCnt i j ≠ aPlyStat i j := by unfold aPlyCnt aPlyStat; omega

/-! ### The hot caches (R111) -/

/-- The state with other caches and other records of its runs. -/
def State.withCaches (s : State) (h : Tbl Hot) (l : List Run) (d : List CondDue) : State := { s with hots := h, runs := l, dues := d }

/-- Each block of a list is in a cluster's cache, or asked for. -/
def State.wants (s : State) (k : Nat) (l : List Nat) : Prop := ∀ y ∈ l, s.hotHas k y = true ∨ (s.hot k).req.contains y = true

/-- A condition at a tick is recorded in a run, or waits for its shot. -/
theorem State.condAt_eq (s : State) (e : Nat) (c : Cond) (tick : Tick) : ∃ l d, s.condAt e c tick = s.withCaches s.hots l d := by
  unfold State.condAt
  cases s.shotSure e tick with
  | none => exact ⟨_, _, rfl⟩
  | some h => exact ⟨_, _, rfl⟩

/-- A condition recorded if `b` holds. -/
theorem State.condAt_if_spec (s : State) (b : Bool) (e : Nat) (c : Cond) (tick : Tick) :
    ∃ l d, (if b then s.condAt e c tick else s) = s.withCaches s.hots l d ∧ (b = false → l = s.runs ∧ d = s.dues) := by
  cases b with
  | false => exact ⟨s.runs, s.dues, rfl, fun _ => ⟨rfl, rfl⟩⟩
  | true =>
    obtain ⟨l, d, h⟩ := s.condAt_eq e c tick
    exact ⟨l, d, h, nofun⟩

theorem State.hotTouch_eq (s : State) (k b : Nat) : s.hotTouch k b = s.withCaches (s.hotTouch k b).hots s.runs s.dues := by
  unfold State.hotTouch
  dsimp only
  split <;> rfl

theorem State.hots_wf_hotTouch {s : State} (h : Tbl.wf (fun _ => Hot.init) s.hots = true) (k b : Nat) :
    Tbl.wf (fun _ => Hot.init) (s.hotTouch k b).hots = true := by
  unfold State.hotTouch
  dsimp only
  split
  · exact s.hots_wf_setHot k _ h
  · exact h

/-- A request leaves each of its blocks in the cache or asked for. -/
theorem State.wants_hotRequest {s : State} (h : Tbl.wf (fun _ => Hot.init) s.hots = true) (k : Nat) (l : List Nat) :
    (s.hotRequest k l).wants k l := by
  intro y hy
  have hhot : (s.hotRequest k l).hot k = { s.hot k with
      req := (s.hot k).req ++ l.filter (fun b => !s.hotHas k b && !(s.hot k).req.contains b) } := s.hot_setHot_same k _ h
  have hhas : (s.hotRequest k l).hotHas k y = s.hotHas k y := by
    unfold State.hotHas; rw [hhot]; rfl
  rw [hhas, hhot]
  by_cases hin : s.hotHas k y = true
  · exact .inl hin
  · by_cases hreq : (s.hot k).req.contains y = true <;> simp_all

theorem State.wants_left {s : State} {k : Nat} {a b : List Nat} (h : s.wants k (a ++ b)) : s.wants k a :=
  fun y hy => h y (List.mem_append_left b hy)
theorem State.wants_right {s : State} {k : Nat} {a b : List Nat} (h : s.wants k (a ++ b)) : s.wants k b :=
  fun y hy => h y (List.mem_append_right a hy)

/-! ### A bind (R102, R111) -/

/-- What the player is bound to: data, fill, or nothing. -/
def State.boundTo (s : State) (g : BitVec 20) : Option Bound :=
  match (s.seg g.toNat).st with
  | .free => none
  | .filling => some ⟨g, true⟩
  | .ready => some ⟨g, false⟩

/-- A bind changes the caches and the records of runs alone; what it is bound to follows from the segment's state; it asks for the first
blocks of what it may play. -/
theorem State.bindSeg_spec {s : State} (hhots : Tbl.wf (fun _ => Hot.init) s.hots = true) (t : Nat) (g : BitVec 20) (tick : Tick) :
    ∃ h l d, s.bindSeg t g tick = (s.withCaches h l d, s.boundTo g)
      ∧ ((s.seg g.toNat).bad = false → l = s.runs ∧ d = s.dues)
      ∧ ((s.seg g.toNat).st = .ready → (s.withCaches h l d).wants (toneCluster t) ((s.seg g.toNat).blocks.take 4))
      ∧ ((s.seg g.toNat).st ≠ .free → (s.withCaches h l d).wants (toneCluster t) (s.linkBlocks (s.seg g.toNat))) := by
  obtain ⟨l, d, hrec, hquiet⟩ := s.condAt_if_spec (s.seg g.toNat).bad (toneEng t) .checkFail tick
  have hask := fun a => State.wants_hotRequest (s := s.withCaches s.hots l d) hhots (toneCluster t) a
  unfold State.bindSeg State.boundTo
  dsimp only
  rw [hrec]
  cases (s.seg g.toNat).st with
  | free => exact ⟨s.hots, l, d, rfl, hquiet, nofun, fun h => absurd rfl h⟩
  | filling => exact ⟨_, l, d, rfl, hquiet, nofun, fun _ => State.wants_left (hask _)⟩
  | ready => exact ⟨_, l, d, rfl, hquiet, fun _ => State.wants_left (hask _), fun _ => State.wants_left (State.wants_right (hask _))⟩

/-! ### The judgement of a granule (R111, R112) -/

/-- A granule is judged: damage is counted, a missing one is recorded as fill, and the read of a present one is noted in the cache. -/
def State.judgeGranule (s : State) (tone b : Nat) (damaged missing : Bool) (tick : Tick) : State :=
  let s := if damaged then s.count aMldPatErr 31 16 1 else s
  if missing then s.recordFill tone tick else s.hotTouch (toneCluster tone) b

theorem State.judgeGranule_spec {s : State} (hregs : Tbl.wf resetWord s.regs = true) (hhots : Tbl.wf (fun _ => Hot.init) s.hots = true)
    (tone b : Nat) (damaged missing : Bool) (tick : Tick) :
    ∃ r h l d, s.judgeGranule tone b damaged missing tick = (s.withRegs r).withCaches h l d ∧ Tbl.wf (fun _ => Hot.init) h = true
      ∧ (s.withRegs r).fld aMldPatErr 31 16 = satAdd 16 (s.fld aMldPatErr 31 16) damaged.toNat
      ∧ (missing = false → l = s.runs ∧ d = s.dues) := by
  obtain ⟨r, hr, -, hfld, -, -⟩ := State.count_if_spec hregs damaged aMldPatErr (hi := 31) (lo := 16) (by decide) (by decide)
  unfold State.judgeGranule
  dsimp only
  rw [hr]
  cases missing with
  | true =>
    obtain ⟨l, d, h⟩ := (s.withRegs r).condAt_eq (toneEng tone) .patternUnderrun (tick + 8)
    exact ⟨r, s.hots, l, d, h, hhots, hfld, nofun⟩
  | false =>
    exact ⟨r, _, s.runs, s.dues, (s.withRegs r).hotTouch_eq _ b, State.hots_wf_hotTouch (s := s.withRegs r) hhots _ b, hfld, fun _ => ⟨rfl, rfl⟩⟩

/-! ### The end of a pass (R101, R114) -/

theorem length_leBytes (n v : Nat) : (leBytes n v).length = n := by simp [leBytes]

/-- A content within the limit is one part. -/
theorem cutParts_short {n : Nat} {l : List Byte} (h : l.length ≤ n) (fuel : Nat) : cutParts fuel n l = [l] := by
  cases fuel with
  | zero => rfl
  | succ f => exact if_pos h

/-- A notification of at most 1,276 bytes is one transaction. -/
theorem State.notify_short (s : State) (sid : W32) (kind : Nat) {data : List Byte} (h : data.length ≤ 1276) :
    s.notify sid kind data = s.sendOne sid 0x50 false true false 0 0 (leBytes 2 kind ++ leBytes 2 data.length ++ data) := by
  have hlimit : ∀ port, (leBytes 2 kind ++ leBytes 2 data.length ++ data).length ≤ s.contentLimit port := fun port => by
    rw [List.length_append, List.length_append, length_leBytes, length_leBytes, State.contentLimit]
    split <;> omega
  unfold State.notify State.sendMsg
  cases hs : s.sess? sid with
  | none => rw [State.sendOne, hs]
  | some x => dsimp only; rw [cutParts_short (hlimit x.port)]; rfl

theorem State.sent_sendOne_withRegs (s : State) (r : Tbl W32) (sid : W32) (ty : Byte) (reply note cont : Bool) (ref : W32) (st : Byte)
    (content : List Byte) :
    ((s.withRegs r).sendOne sid ty reply note cont ref st content).sent = (s.sendOne sid ty reply note cont ref st content).sent := by
  unfold State.sendOne
  rw [show (s.withRegs r).sess? sid = s.sess? sid from rfl]
  cases s.sess? sid <;> rfl

/-- The data of the notification that ends a pass before DAC sample `n` (R114, R320). -/
def State.passNote (s : State) (p : Play) (n : Nat) : List Byte :=
  let g := s.seg p.seg.toNat
  leBytes 4 p.seg.toNat ++ leBytes 4 g.version.toNat ++ leBytes 4 (if p.fillPlayed g n = 0 then 0 else 1) ++ leBytes 8 (sampleTick n).toNat

/-- The end of a pass counts its fill, and tells the segment's owner where the segment asks for it. -/
theorem State.passEnd_spec {s : State} (hregs : Tbl.wf resetWord s.regs = true) {t undr : Nat}
    (hundr : aPlyUndr (toneChan t) (toneIdx t) = undr) {p : Play} {g : Seg} (hg : s.seg p.seg.toNat = g) (n : Nat) :
    ∃ r l m, s.passEnd t p n = (s.withRegs r).withSent l m ∧ Tbl.wf resetWord r = true
      ∧ (s.withRegs r).fld undr 31 0 = satAdd 32 (s.fld undr 31 0) (p.fillPlayed g n)
      ∧ (∀ a, a ≠ undr → ∀ hi lo, (s.withRegs r).fld a hi lo = s.fld a hi lo)
      ∧ (g.notifies = true → p.freeFill = false → m = (s.notify g.owner 2 (s.passNote p n)).sent)
      ∧ (g.notifies = false → m = s.sent) := by
  subst hg
  have hlen : (s.passNote p n).length ≤ 1276 := by simp [State.passNote, length_leBytes]
  obtain ⟨c, hc⟩ : ∃ c, s.count undr 31 0 (p.fillPlayed (s.seg p.seg.toNat) n) = c := ⟨_, rfl⟩
  have hregsOnly : c = s.withRegs c.regs := hc ▸ s.count_eq_withRegs undr 31 0 _
  have hwf : Tbl.wf resetWord c.regs = true := hc ▸ s.regs_wf_setFld undr 31 0 _ hregs
  have hfill := State.fld_count_same hregs undr (hi := 31) (lo := 0) (by decide) (by decide) (p.fillPlayed (s.seg p.seg.toNat) n)
  have hother := fun a (ha : a ≠ undr) hi lo => s.fld_count_other undr a 31 0 (p.fillPlayed (s.seg p.seg.toNat) n) hi lo ha
  have hpass : s.passEnd t p n = if (s.seg p.seg.toNat).notifies && !p.freeFill then
      c.notify (s.seg p.seg.toNat).owner 2 (s.passNote p n) else c := by
    rw [← hc, ← hundr]
    rfl
  obtain ⟨l, m, hnote⟩ := c.notify_eq (s.seg p.seg.toNat).owner 2 (s.passNote p n)
  have hm : m = (s.notify (s.seg p.seg.toNat).owner 2 (s.passNote p n)).sent := by
    rw [State.notify_short _ _ _ hlen] at hnote ⊢
    rw [← s.sent_sendOne_withRegs c.regs, ← hregsOnly, hnote]
    rfl
  rw [hc, hregsOnly] at hfill
  simp only [hc] at hother
  rw [hregsOnly] at hother
  rw [hpass]
  cases hn : (s.seg p.seg.toNat).notifies with
  | false => exact ⟨c.regs, s.sessions, s.sent, (if_neg (by simp)).trans hregsOnly, hwf, hfill, hother, nofun, fun _ => rfl⟩
  | true =>
    cases hf : p.freeFill with
    | true => exact ⟨c.regs, s.sessions, s.sent, (if_neg (by simp)).trans hregsOnly, hwf, hfill, hother, fun _ => nofun, nofun⟩
    | false => exact ⟨c.regs, l, m, (if_pos (by simp)).trans (hnote.trans (congrArg (State.withSent · l m) hregsOnly)), hwf, hfill, hother,
        fun _ _ => hm, nofun⟩

end Sys2Proof.Machine
end

section
/-! PROOF. The pattern players: binds, commit points, passes, jumps, granules and refills (R96, R101-R107, R111, R112). -/

namespace Sys2Proof.Machine

/-! ### The choice at a commit point (R102, R103) -/

section Choice
variable {p : Play} {g : Seg}

/-- What follows a segment whose loop does not take it back. -/
def Seg.follows (g : Seg) : Option (BitVec 20) := if g.hasNext then some g.next' else none

theorem Play.choose_jump {target : BitVec 20} (h : p.pending = some (target, false)) :
    p.choose g = ({ p with pending := none, stack := [] }, some target, false, false) := by
  unfold Play.choose
  rw [h]

theorem Play.choose_straight (h : p.pending = none) (hloop : ¬ (g.hasLoop = true ∧ g.loopCount ≠ 0)) :
    (p.choose g).2.1 = g.follows ∧ (p.choose g).1.stack = p.stack := by
  have hl : (g.hasLoop && g.loopCount != 0) = false := by simpa using hloop
  simp only [Play.choose, h, hl]
  simp [Seg.follows]

theorem Play.choose_loop_opened (h : p.pending = none) (hloop : g.hasLoop = true ∧ g.loopCount ≠ 0)
    (hin : p.stack.any (fun y => y.1 == p.seg) = false) (hroom : p.stack.length < 2) :
    (p.choose g).2.1 = some g.loopTo
    ∧ (p.choose g).1.stack = (p.seg, if g.loopCount = 0xFFFF then g.loopCount else g.loopCount - 1) :: p.stack := by
  have hl : (g.hasLoop && g.loopCount != 0) = true := by simpa using hloop
  simp only [Play.choose, h, hl, hin, hroom]
  simp [show ¬ g.loopCount = 0#16 from hloop.2]

theorem Play.choose_loop_again {c : BitVec 16} {r : List (BitVec 20 × BitVec 16)} (h : p.pending = none)
    (hloop : g.hasLoop = true ∧ g.loopCount ≠ 0) (hstack : p.stack = (p.seg, c) :: r) (hc : c ≠ 0) :
    (p.choose g).2.1 = some g.loopTo ∧ (p.choose g).1.stack = (p.seg, if c = 0xFFFF then c else c - 1) :: r := by
  have hl : (g.hasLoop && g.loopCount != 0) = true := by simpa using hloop
  simp only [Play.choose, h, hl, hstack]
  simp [show ¬ c = 0#16 from hc]

theorem Play.choose_loop_over {r : List (BitVec 20 × BitVec 16)} (h : p.pending = none)
    (hloop : g.hasLoop = true ∧ g.loopCount ≠ 0) (hstack : p.stack = (p.seg, 0) :: r) :
    (p.choose g).2.1 = g.follows ∧ (p.choose g).1.stack = r := by
  have hl : (g.hasLoop && g.loopCount != 0) = true := by simpa using hloop
  simp only [Play.choose, h, hl, hstack]
  simp [Seg.follows]
end Choice

/-! ### What each instruction does -/

section Steps
variable {s : State} {tone : Fin 1024} {p : Play}

theorem exec_playBind {rel : Tick} {sub : BitVec 4} {seg : BitVec 20} {amp : BitVec 16} {more : List (Tick × BitVec 4 × BitVec 20 × BitVec 16)}
    (hq : (s.queuedPlays tone).drop (s.tone tone).nextPlays.length = (rel, sub, seg, amp) :: more)
    (hdue : sdiff (rel - 24).stamp s.now.stamp ≤ 0) {u : State} {b : Option Bound} (hb : s.bindSeg tone seg (rel - 24) = (u, b)) :
    exec (.playBind tone) s = .next (u.setTone tone { u.tone tone with nextPlays := (s.tone tone).nextPlays ++
      [⟨seg, amp, rel, sub, 0, true, b.any (fun b => b.fill), b.isNone, false, none, [], none, 0, none, [], none⟩] }) := by
  show execPlayBind tone s = _
  unfold execPlayBind State.bindPlay
  dsimp only
  rw [hq]
  dsimp only
  rw [if_pos hdue, hb]
  cases b <;> rfl

theorem State.setBit_eq_withRegs (s : State) (a n : Nat) (b : Bool) : s.setBit a n b = s.withRegs (s.setBit a n b).regs := rfl

/-- The flags of a choice: an ignored loop is shown, a dropped jump is counted. -/
def State.noteChoice (s : State) (tone : Nat) (nest drop : Bool) : State :=
  let s := if nest then s.setBit (aPlyStat (toneChan tone) (toneIdx tone)) 25 true else s
  if drop then s.count (aPlyCnt (toneChan tone) (toneIdx tone)) 23 16 1 else s

theorem State.noteChoice_spec (hregs : Tbl.wf resetWord s.regs = true) {tone cnt : Nat}
    (hcnt : aPlyCnt (toneChan tone) (toneIdx tone) = cnt) (nest drop : Bool) :
    ∃ r, s.noteChoice tone nest drop = s.withRegs r ∧ (s.withRegs r).fld cnt 23 16 = satAdd 8 (s.fld cnt 23 16) drop.toNat := by
  have hne : cnt ≠ aPlyStat (toneChan tone) (toneIdx tone) := hcnt ▸ aPlyCnt_ne_aPlyStat _ _
  unfold State.noteChoice
  generalize aPlyStat (toneChan tone) (toneIdx tone) = stat at hne ⊢
  rw [hcnt]
  obtain ⟨r, hr, hwf, hsame⟩ : ∃ r, (if nest then s.setBit stat 25 true else s) = s.withRegs r ∧ Tbl.wf resetWord r = true
      ∧ (s.withRegs r).fld cnt 23 16 = s.fld cnt 23 16 := by
    cases nest with
    | false => exact ⟨s.regs, rfl, hregs, rfl⟩
    | true => exact ⟨_, s.setBit_eq_withRegs stat 25 true, s.regs_wf_setBit _ 25 true hregs,
        by rw [← s.setBit_eq_withRegs]; exact s.fld_setFld_other _ _ 25 25 _ 23 16 hne⟩
  obtain ⟨r', hr', -, hcount, -, -⟩ := State.count_if_spec (s := s.withRegs r) hwf drop cnt (hi := 23) (lo := 16) (by decide) (by decide)
  rw [hsame] at hcount
  rw [hr]
  exact ⟨r', hr', hcount⟩

/-- The chosen segment is bound, and the play keeps what it found. -/
def State.bindChoice (s : State) (tone : Nat) (p : Play) (tick : Tick) (next : Option (BitVec 20)) : State :=
  match next with
  | none => s.setTone tone { s.tone tone with play := some { p with chosen := some none } }
  | some n =>
    let b := s.bindSeg tone n tick
    b.1.setTone tone { b.1.tone tone with play := some { p with chosen := some b.2, tailFill := b.2.isNone } }

theorem exec_commitPoint (hplay : (s.tone tone).play = some p) {g : Seg} (hg : s.seg p.seg.toNat = g) (hchosen : p.chosen = none)
    (hnow : reached s.now (p.segStart + g.commitAt) = true)
    (hjumps : ∀ j ∈ (s.tone tone).jumps, p.segStart + g.commitAt ≤ 12 * j.e.toNat) :
    exec (.commitPoint tone) s = .next ((s.noteChoice tone (p.choose g).2.2.1 (p.choose g).2.2.2).bindChoice tone (p.choose g).1
      (sampleTick (p.segStart + g.commitAt)) (p.choose g).2.1) := by
  subst hg
  have hfirst : (s.tone tone).jumps.any (fun j => decide (12 * j.e.toNat < p.segStart + (s.seg p.seg.toNat).commitAt)) = false := by
    simpa using hjumps
  have hexec : exec (.commitPoint tone) s = .next (match (s.tone tone).play with
    | none => s
    | some p => if p.chosen.isNone && reached s.now (p.segStart + (s.seg p.seg.toNat).commitAt)
          && !(s.tone tone).jumps.any (fun j => decide (12 * j.e.toNat < p.segStart + (s.seg p.seg.toNat).commitAt)) then
        (s.noteChoice tone (p.choose (s.seg p.seg.toNat)).2.2.1 (p.choose (s.seg p.seg.toNat)).2.2.2).bindChoice tone
          (p.choose (s.seg p.seg.toNat)).1 (sampleTick (p.segStart + (s.seg p.seg.toNat).commitAt)) (p.choose (s.seg p.seg.toNat)).2.1
      else s) := rfl
  rw [hexec, hplay]
  exact congrArg Host.Outcome.next (if_pos (by rw [hchosen, hnow, hfirst]; rfl))

theorem State.bindChoice_spec {u : State} (hhots : Tbl.wf (fun _ => Hot.init) u.hots = true) (tone : Nat) (p : Play) (tick : Tick)
    (next : Option (BitVec 20)) :
    ∃ h l d f, u.bindChoice tone p tick next = (u.withCaches h l d).setTone tone
        { u.tone tone with play := some { p with chosen := some (next.bind u.boundTo), tailFill := f } }
      ∧ ∀ n, next = some n → f = ((u.seg n.toNat).st == .free)
        ∧ ((u.seg n.toNat).st = .ready → (u.withCaches h l d).wants (toneCluster tone) ((u.seg n.toNat).blocks.take 4)) := by
  cases next with
  | none => exact ⟨u.hots, u.runs, u.dues, p.tailFill, rfl, nofun⟩
  | some n =>
    obtain ⟨h, l, d, hbind, -, hready, -⟩ := State.bindSeg_spec hhots tone n tick
    refine ⟨h, l, d, (u.boundTo n).isNone, ?_, ?_⟩
    · rw [State.bindChoice, hbind]; rfl
    · rintro m ⟨⟩
      refine ⟨?_, hready⟩
      unfold State.boundTo
      cases (u.seg n.toNat).st <;> rfl

/-- The chain of a play ends before DAC sample `n`; fill follows where the segment chosen was FREE. -/
def State.endChain (s : State) (tone : Nat) (p : Play) (x : Tone) (now : Tick) (n : Nat) : State :=
  let s := if p.pending.isSome then s.count (aPlyCnt (toneChan tone) (toneIdx tone)) 23 16 1 else s
  let s := s.setTone tone { s.tone tone with
    play := none, free := p.tailFill, ended := x.noteEnd p n, leaving := x.noteLeave now p n, past := x.past ++ [(p, n)] }
  if p.tailFill then s.recordFill tone (sampleTick n) else s

/-- The play in the segment chosen to follow `g`. -/
def State.movedOn (s : State) (p : Play) (g : Seg) (b : Bound) : Play :=
  { p with seg := b.seg, k := p.k + g.dacLen, first := false, fill := b.fill, chosen := none,
           pending := p.pending.map (fun j => (j.1, false)), granule := if p.pre.isSome then 1 else 0, pre := none,
           gone := if p.pre = some true then [0] else [],
           prev := if g.sameRate (s.seg b.seg.toNat) then some (p.seg, p.fill, p.gone) else none }

/-- The segment chosen follows, from DAC sample `n`. -/
def State.moveOn (s : State) (tone : Nat) (p : Play) (x : Tone) (n : Nat) (g : Seg) (b : Bound) : State :=
  s.setTone tone { s.tone tone with
    play := some (s.movedOn p g b), leaving := x.noteLeave s.now p n, past := x.past ++ [(p, n)] }

/-- What follows a pass that ends before DAC sample `n`: the segment bound at the commit point, or the end of the chain. -/
def State.followPass (s : State) (tone : Nat) (p : Play) (x : Tone) (n : Nat) (g : Seg) (c : Option Bound) : State :=
  match c with
  | none => s.endChain tone p x s.now n
  | some b => s.moveOn tone p x n g b

theorem exec_segmentPassEnd (hplay : (s.tone tone).play = some p) {g : Seg} (hg : s.seg p.seg.toNat = g) {c : Option Bound}
    (hchosen : p.chosen = some c) (hnow : reached s.now (p.segStart + g.dacLen) = true) :
    exec (.segmentPassEnd tone) s = .next ((s.passEnd tone p (p.segStart + g.dacLen)).followPass tone p (s.tone tone)
      (p.segStart + g.dacLen) g c) := by
  subst hg
  have hexec : exec (.segmentPassEnd tone) s = .next (match (s.tone tone).play with
    | none => s
    | some p => match p.chosen with
      | none => s
      | some c => if reached s.now (p.segStart + (s.seg p.seg.toNat).dacLen) then
          (s.passEnd tone p (p.segStart + (s.seg p.seg.toNat).dacLen)).followPass tone p (s.tone tone)
            (p.segStart + (s.seg p.seg.toNat).dacLen) (s.seg p.seg.toNat) c
        else s) := rfl
  rw [hexec, hplay]
  dsimp only
  rw [hchosen]
  exact congrArg Host.Outcome.next (if_pos hnow)

/-- A jump request becomes the pending jump, deferred if it comes within the last 16 pattern samples; it may replace one (R106, R107). -/
def State.takeRequest (s : State) (tone : Nat) (p : Play) (x : Tone) (target : BitVec 20) (late : Bool) : State :=
  let cnt := aPlyCnt (toneChan tone) (toneIdx tone)
  let s := s.setTone tone x
  let s := if p.pending.isSome then s.count cnt 15 8 1 else s
  let s := if late then s.count cnt 7 0 1 else s
  s.setTone tone { s.tone tone with play := some { p with pending := some (target, late) } }

theorem exec_jumpRequestDue_idle {j : JumpReq} {rest : List JumpReq} (hj : takeJump (s.tone tone).jumps = some (j, rest))
    (hdue : sdiff j.e.stamp s.now.stamp ≤ 0) (hplay : (s.tone tone).play = none) :
    exec (.jumpRequestDue tone) s = .next ((s.setTone tone { s.tone tone with jumps := rest }).count
      (aPlyCnt (toneChan tone) (toneIdx tone)) 23 16 1) := by
  show execJumpRequestDue tone s = _
  unfold execJumpRequestDue
  dsimp only
  rw [hj]
  dsimp only
  rw [if_pos hdue, hplay]

theorem exec_jumpRequestDue_walking {j : JumpReq} {rest : List JumpReq} (hj : takeJump (s.tone tone).jumps = some (j, rest))
    (hdue : sdiff j.e.stamp s.now.stamp ≤ 0) (hplay : (s.tone tone).play = some p) {g : Seg} (hg : s.seg p.seg.toNat = g)
    (hfrom : p.segStart ≤ 12 * j.e.toNat) (hto : 12 * j.e.toNat < p.segStart + g.dacLen) :
    exec (.jumpRequestDue tone) s = .next (s.takeRequest tone p { s.tone tone with jumps := rest } j.target
      (decide (g.len - 16 ≤ g.sampleAt (12 * j.e.toNat - p.segStart)))) := by
  subst hg
  have hexec : exec (.jumpRequestDue tone) s = .next (match takeJump (s.tone tone).jumps with
    | none => s
    | some (j, rest) => if sdiff j.e.stamp s.now.stamp ≤ 0 then
        match (s.tone tone).play with
        | none => (s.setTone tone { s.tone tone with jumps := rest }).count (aPlyCnt (toneChan tone) (toneIdx tone)) 23 16 1
        | some p =>
          if p.segStart + (s.seg p.seg.toNat).dacLen ≤ 12 * j.e.toNat ∧ p.chosen ≠ some none then s
          else if 12 * j.e.toNat < p.segStart ∨ p.segStart + (s.seg p.seg.toNat).dacLen ≤ 12 * j.e.toNat then
            (s.setTone tone { s.tone tone with jumps := rest }).count (aPlyCnt (toneChan tone) (toneIdx tone)) 23 16 1
          else s.takeRequest tone p { s.tone tone with jumps := rest } j.target
            (decide ((s.seg p.seg.toNat).len - 16 ≤ (s.seg p.seg.toNat).sampleAt (12 * j.e.toNat - p.segStart)))
      else s) := rfl
  rw [hexec, hj]
  dsimp only
  rw [if_pos hdue, hplay]
  dsimp only
  rw [if_neg (by omega), if_neg (by omega)]

/-- The lines of a cache that a refill leaves: a full cache gives up the least recently used line that no player locks. -/
def State.keptLines (s : State) (k : Nat) : List Nat :=
  if (s.hot k).lines.length < s.hotCap k then (s.hot k).lines
  else match (s.hot k).lines.find? (fun b => !s.hotLocked k b) with
    | none => (s.hot k).lines
    | some v => (s.hot k).lines.filter (fun b => b != v)

theorem exec_refillComplete {k : Fin 8} {block : Nat} (hreq : (s.hot k).req.contains block = true) {lines : List Nat}
    (hlines : s.keptLines k = lines) (hroom : lines.length < s.hotCap k) :
    exec (.refillComplete k block) s = .next (s.setHot k { s.hot k with req := (s.hot k).req.filter (fun b => b != block),
                                                                        lines := lines ++ [block] }) := by
  subst hlines
  have hexec : exec (.refillComplete k block) s = .next (if (s.hot k).req.contains block then
      s.setHot k { s.hot k with req := (s.hot k).req.filter (fun b => b != block),
                                lines := if (s.keptLines k).length < s.hotCap k then s.keptLines k ++ [block] else s.keptLines k }
      else s) := rfl
  rw [hexec, if_pos hreq, if_pos hroom]

/-- A line that a list without repetition holds leaves room for another. -/
theorem length_filter_ne_lt {l : List Nat} (hl : l.Nodup) {v : Nat} (hv : v ∈ l) : (l.filter (fun b => b != v)).length < l.length := by
  rw [← hl.erase_eq_filter, List.length_erase_of_mem hv]
  exact Nat.sub_lt (List.length_pos_of_mem hv) one_pos

/-- A granule is missing where it is fill, not in the cache, or damaged. -/
theorem missing_eq (fill has e : Bool) : (fill || !has || (e && !fill && has)) = (fill || !has || e) := by
  revert fill has e; decide

/-- The play after the judgement of its next granule. -/
def Play.judged (p : Play) (missing : Bool) : Play :=
  { p with granule := p.granule + 1, gone := if missing then p.granule :: p.gone else p.gone }

/-- A granule of the running segment is judged, and the window moves on. -/
def State.readGranule (s : State) (tone : Nat) (p : Play) (g : Seg) (damaged missing : Bool) (tick : Tick) : State :=
  let s := s.judgeGranule tone (g.block p.granule) damaged missing tick
  let s := s.setTone tone { s.tone tone with play := some (p.judged missing) }
  if p.fill then s else s.hotRequest (toneCluster tone) ((p.judged missing).window g)

theorem exec_granuleRead_current {e : Bool} (hplay : (s.tone tone).play = some p) {g : Seg} (hg : s.seg p.seg.toNat = g)
    (hlast : p.granule < g.granules) {n : Nat} (hn : p.segStart + (g.dacAt (32 * p.granule) - 16 * g.rateNum / 2 ^ g.rateShift) = n)
    (hnow : reached s.now n = true) {has : Bool} (hhas : s.hotHas (toneCluster tone) (g.block p.granule) = has) :
    exec (.granuleRead tone e) s = .next (s.readGranule tone p g (e && !p.fill && has) (p.fill || !has || e) (sampleTick n)) := by
  subst hg hn hhas
  show execGranuleRead tone e s = _
  unfold execGranuleRead
  dsimp only
  rw [hplay]
  dsimp only
  rw [if_pos hlast, if_pos hnow, missing_eq]
  rfl

theorem exec_granuleRead_ahead {e : Bool} (hplay : (s.tone tone).play = some p) {g g' : Seg} (hg : s.seg p.seg.toNat = g)
    (hlast : g.granules ≤ p.granule) {b : Bound} (hchosen : p.chosen = some (some b)) (hpre : p.pre = none)
    (hg' : s.seg b.seg.toNat = g') (hrate : g.sameRate g' = true) {n : Nat} (hn : p.segStart + g.commitAt = n)
    (hnow : reached s.now n = true) {has : Bool} (hhas : s.hotHas (toneCluster tone) (g'.block 0) = has) {u : State}
    (hu : s.judgeGranule tone (g'.block 0) (e && !b.fill && has) (b.fill || !has || e) (sampleTick n) = u) :
    exec (.granuleRead tone e) s = .next (u.setTone tone { u.tone tone with
      play := some { p with pre := some (b.fill || !has || e) } }) := by
  subst hg hn hhas hg' hu
  show execGranuleRead tone e s = _
  unfold execGranuleRead
  dsimp only
  rw [hplay]
  dsimp only
  rw [if_neg (Nat.not_lt.2 hlast), hchosen, hpre]
  dsimp only
  rw [missing_eq]
  exact congrArg Host.Outcome.next (if_pos (by rw [hrate, hnow]; rfl))

theorem State.endChain_spec (hregs : Tbl.wf resetWord s.regs = true) {tone cnt undr : Nat}
    (hcnt : aPlyCnt (toneChan tone) (toneIdx tone) = cnt) (hne : undr ≠ cnt) (p : Play) (x : Tone) (now : Tick) (n : Nat) :
    ∃ r l d, s.endChain tone p x now n = ((s.withRegs r).withCaches s.hots l d).setTone tone { s.tone tone with
        play := none, free := p.tailFill, ended := x.noteEnd p n, leaving := x.noteLeave now p n, past := x.past ++ [(p, n)] }
      ∧ (s.withRegs r).fld undr 31 0 = s.fld undr 31 0
      ∧ (s.withRegs r).fld cnt 23 16 = satAdd 8 (s.fld cnt 23 16) p.pending.isSome.toNat
      ∧ (p.tailFill = false → l = s.runs ∧ d = s.dues) := by
  obtain ⟨r, hr, -, hcount, hother, -⟩ := State.count_if_spec hregs p.pending.isSome cnt (hi := 23) (lo := 16) (by decide) (by decide)
  unfold State.endChain
  rw [hcnt, hr]
  obtain ⟨l, d, hrec, hquiet⟩ := ((s.withRegs r).setTone tone { (s.withRegs r).tone tone with
    play := none, free := p.tailFill, ended := x.noteEnd p n, leaving := x.noteLeave now p n, past := x.past ++ [(p, n)] }).condAt_if_spec
    p.tailFill (toneEng tone) .patternUnderrun (sampleTick n + 8)
  exact ⟨r, l, d, hrec.trans rfl, hother _ hne 31 0, hcount, hquiet⟩

theorem State.withRegs_withRegs (s : State) (r r' : Tbl W32) : (s.withRegs r).withRegs r' = s.withRegs r' := rfl

theorem State.setTone_setTone_eq (s : State) (k : Nat) (x z : Tone) (r : Tbl W32) :
    ((s.setTone k x).withRegs r).setTone k z = { s.withRegs r with tones := ((s.setTone k x).setTone k z).tones } := rfl

theorem State.takeRequest_spec (hregs : Tbl.wf resetWord s.regs = true) (htones : Tbl.wf (fun _ => Tone.init) s.tones = true)
    {tone cnt : Nat} (hcnt : aPlyCnt (toneChan tone) (toneIdx tone) = cnt) (p : Play) (x : Tone) (target : BitVec 20) (late : Bool) :
    ∃ r q, s.takeRequest tone p x target late = { s.withRegs r with tones := q }
      ∧ Tbl.get q tone Tone.init = { x with play := some { p with pending := some (target, late) } }
      ∧ (∀ n, n ≠ tone → Tbl.get q n Tone.init = s.tone n)
      ∧ (s.withRegs r).fld cnt 15 8 = satAdd 8 (s.fld cnt 15 8) p.pending.isSome.toNat
      ∧ (s.withRegs r).fld cnt 7 0 = satAdd 8 (s.fld cnt 7 0) late.toNat := by
  obtain ⟨z, hz⟩ : ∃ z, ({ x with play := some { p with pending := some (target, late) } } : Tone) = z := ⟨_, rfl⟩
  obtain ⟨r, hr, hwf, hcount, -, happart⟩ := State.count_if_spec (s := s.setTone tone x) hregs p.pending.isSome cnt
    (hi := 15) (lo := 8) (by decide) (by decide)
  obtain ⟨r', hr', -, hcount', -, happart'⟩ := State.count_if_spec (s := (s.setTone tone x).withRegs r) hwf late cnt
    (hi := 7) (lo := 0) (by decide) (by decide)
  rw [State.withRegs_withRegs] at hr' hcount'
  simp only [State.withRegs_withRegs] at happart'
  have hreads : ∀ q m n, (s.withRegs q).fld cnt m n = ((s.setTone tone x).withRegs q).fld cnt m n := fun _ _ _ => State.fld_of_regs rfl _ _ _
  have hbefore : ∀ m n, (s.setTone tone x).fld cnt m n = s.fld cnt m n := fun _ _ => State.fld_of_regs rfl _ _ _
  refine ⟨r', ((s.setTone tone x).setTone tone z).tones, ?_, ?_, fun n hn => ?_, ?_, ?_⟩
  · have hx : ((s.setTone tone x).withRegs r').tone tone = x := s.tone_setTone_same tone x htones
    unfold State.takeRequest
    dsimp only
    rw [hcnt, hr, hr', hx, hz, State.setTone_setTone_eq]
  · exact (State.tone_setTone_same _ tone z (s.tones_wf_setTone tone x htones)).trans hz.symm
  · exact (State.tone_setTone_other _ tone n z hn).trans (s.tone_setTone_other tone n x hn)
  · rw [hreads, happart' 15 8 (by decide) (.inr (by decide)), hcount, hbefore]
  · rw [hreads, hcount', happart 7 0 (by decide) (.inl (by decide)), hbefore]

theorem State.readGranule_spec (hregs : Tbl.wf resetWord s.regs = true) (hhots : Tbl.wf (fun _ => Hot.init) s.hots = true)
    (tone : Nat) (p : Play) (g : Seg) (damaged missing : Bool) (tick : Tick) :
    ∃ r h l d, s.readGranule tone p g damaged missing tick
        = ((s.withRegs r).withCaches h l d).setTone tone { s.tone tone with play := some (p.judged missing) }
      ∧ (s.withRegs r).fld aMldPatErr 31 16 = satAdd 16 (s.fld aMldPatErr 31 16) damaged.toNat
      ∧ (p.fill = false → (s.withCaches h l d).wants (toneCluster tone) ((p.judged missing).window g))
      ∧ (missing = false → l = s.runs ∧ d = s.dues) := by
  obtain ⟨r, h, l, d, hjudge, hwf, hcount, hquiet⟩ := State.judgeGranule_spec hregs hhots tone (g.block p.granule) damaged missing tick
  unfold State.readGranule
  rw [hjudge]
  cases p.fill with
  | true => exact ⟨r, h, l, d, rfl, hcount, nofun, hquiet⟩
  | false => exact ⟨r, _, l, d, rfl, hcount, fun _ => State.wants_hotRequest (s := s.withCaches h l d) hwf _ _, hquiet⟩

end Steps
end Sys2Proof.Machine
end

section
/-! PROOF. The walk of a player, clause by clause (R96, R101-R104, R106, R107, R111, R112). -/

namespace Sys2Proof.Machine

/-- No other tone differs. -/
def State.sameOthers (s t : State) (tone : Nat) : Prop := ∀ n, n ≠ tone → t.tone n = s.tone n

/-- A write of a tone in a state whose tones are those of `s`. -/
theorem State.setTone_spec {s u : State} (htones : Tbl.wf (fun _ => Tone.init) s.tones = true) (hu : u.tones = s.tones) (tone : Nat) (y : Tone) :
    (u.setTone tone y).tone tone = y ∧ s.sameOthers (u.setTone tone y) tone :=
  ⟨u.tone_setTone_same tone y (hu ▸ htones), fun n hn => (u.tone_setTone_other tone n y hn).trans (by rw [State.tone, hu, State.tone])⟩

theorem State.boundTo_fill (s : State) (g : BitVec 20) : (s.boundTo g).any (fun b => b.fill) = ((s.seg g.toNat).st == .filling) := by
  unfold State.boundTo
  cases (s.seg g.toNat).st <;> rfl
theorem State.boundTo_free (s : State) (g : BitVec 20) : (s.boundTo g).isNone = ((s.seg g.toNat).st == .free) := by
  unfold State.boundTo
  cases (s.seg g.toNat).st <;> rfl

/-- The play that a bind makes of a queued play (R102). -/
def State.firstBind (s : State) (seg : BitVec 20) (amp : BitVec 16) (rel : Tick) (sub : BitVec 4) : Play :=
  ⟨seg, amp, rel, sub, 0, true, (s.seg seg.toNat).st == .filling, (s.seg seg.toNat).st == .free, false, none, [], none, 0, none, [], none⟩

section Walk
variable {s : State} {tone : Fin 1024} {p : Play} (hregs : Tbl.wf resetWord s.regs = true)
  (htones : Tbl.wf (fun _ => Tone.init) s.tones = true) (hhots : Tbl.wf (fun _ => Hot.init) s.hots = true)

include htones hhots in
/-- A play due binds its first segment, 24 ticks before its release (R102, R111). -/
theorem playBind_binds {rel : Tick} {sub : BitVec 4} {seg : BitVec 20} {amp : BitVec 16}
    {more : List (Tick × BitVec 4 × BitVec 20 × BitVec 16)}
    (hq : (s.queuedPlays tone).drop (s.tone tone).nextPlays.length = (rel, sub, seg, amp) :: more)
    (hdue : sdiff (rel - 24).stamp s.now.stamp ≤ 0) {g : Seg} (hg : s.seg seg.toNat = g) :
    ∃ t, exec (.playBind tone) s = .next t ∧ s.sameOthers t tone
      ∧ t.tone tone = { s.tone tone with nextPlays := (s.tone tone).nextPlays ++ [s.firstBind seg amp rel sub] }
      ∧ (g.st = .ready → t.wants (toneCluster tone) (g.blocks.take 4))
      ∧ (g.st ≠ .free → t.wants (toneCluster tone) (s.linkBlocks g))
      ∧ (g.bad = false → t.runs = s.runs ∧ t.dues = s.dues)
      ∧ t = { s with tones := t.tones, hots := t.hots, runs := t.runs, dues := t.dues } := by
  subst hg
  obtain ⟨h, l, d, hbind, hquiet, hready, hlinks⟩ := State.bindSeg_spec hhots tone seg (rel - 24)
  have hexec := exec_playBind hq hdue hbind
  rw [s.boundTo_fill, s.boundTo_free] at hexec
  obtain ⟨hsame, hothers⟩ := State.setTone_spec htones (u := s.withCaches h l d) rfl tone
    { s.tone tone with nextPlays := (s.tone tone).nextPlays ++ [s.firstBind seg amp rel sub] }
  exact ⟨_, hexec, hothers, hsame, hready, hlinks, hquiet, rfl⟩

include hregs htones hhots in
/-- At a commit point the player chooses, and binds what it chose (R102, R103). -/
theorem commitPoint_chooses (hplay : (s.tone tone).play = some p) {g : Seg} (hg : s.seg p.seg.toNat = g) (hchosen : p.chosen = none)
    (hnow : reached s.now (p.segStart + g.commitAt) = true)
    (hjumps : ∀ j ∈ (s.tone tone).jumps, p.segStart + g.commitAt ≤ 12 * j.e.toNat) {cnt : Nat}
    (hcnt : aPlyCnt (toneChan tone) (toneIdx tone) = cnt) :
    ∃ t q, exec (.commitPoint tone) s = .next t ∧ s.sameOthers t tone ∧ t.tone tone = { s.tone tone with play := some q }
      ∧ q = { (p.choose g).1 with chosen := q.chosen, tailFill := q.tailFill }
      ∧ q.chosen = some ((p.choose g).2.1.bind s.boundTo)
      ∧ (∀ seg, (p.choose g).2.1 = some seg → q.tailFill = ((s.seg seg.toNat).st == .free)
        ∧ ((s.seg seg.toNat).st = .ready → t.wants (toneCluster tone) ((s.seg seg.toNat).blocks.take 4)))
      ∧ (s.fld cnt 23 16 < 255 → t.fld cnt 23 16 = s.fld cnt 23 16 + (p.choose g).2.2.2.toNat)
      ∧ t = { s with tones := t.tones, regs := t.regs, hots := t.hots, runs := t.runs, dues := t.dues } := by
  obtain ⟨r, hnote, hcount⟩ := State.noteChoice_spec hregs hcnt (p.choose g).2.2.1 (p.choose g).2.2.2
  obtain ⟨h, l, d, f, hbind, hnext⟩ := State.bindChoice_spec (u := s.withRegs r) hhots tone (p.choose g).1
    (sampleTick (p.segStart + g.commitAt)) (p.choose g).2.1
  have hexec := exec_commitPoint hplay hg hchosen hnow hjumps
  rw [hnote, hbind] at hexec
  obtain ⟨hsame, hothers⟩ := State.setTone_spec htones (u := (s.withRegs r).withCaches h l d) rfl tone
    { s.tone tone with play := some { (p.choose g).1 with chosen := some ((p.choose g).2.1.bind s.boundTo), tailFill := f } }
  refine ⟨_, _, hexec, hothers, hsame, rfl, rfl, hnext, fun hlt => ?_, rfl⟩
  refine (State.fld_of_regs (s := s.withRegs r) rfl _ _ _).trans (hcount.trans ?_)
  exact Nat.min_eq_left (Nat.le_of_lt_succ (Nat.add_lt_add_of_lt_of_le hlt (p.choose g).2.2.2.toNat_le))

/-- What every pass that ends before DAC sample `n` leaves: its fill counted, its notification sent (R101, R114). -/
def State.passed (s t : State) (tone : Nat) (p : Play) (g : Seg) (n : Nat) : Prop :=
  t.fld (aPlyUndr (toneChan tone) (toneIdx tone)) 31 0 = satAdd 32 (s.fld (aPlyUndr (toneChan tone) (toneIdx tone)) 31 0) (p.fillPlayed g n)
    ∧ s.sameOthers t tone
    ∧ (g.notifies = true → p.freeFill = false → t.sent = (s.notify g.owner 2 (leBytes 4 p.seg.toNat ++ leBytes 4 g.version.toNat
        ++ leBytes 4 (if p.fillPlayed g n = 0 then 0 else 1) ++ leBytes 8 (sampleTick n).toNat)).sent)
    ∧ (g.notifies = false → t.sent = s.sent)
    ∧ t = { s with tones := t.tones, regs := t.regs, sessions := t.sessions, sent := t.sent, runs := t.runs, dues := t.dues }

include htones in
theorem State.passed_setTone {undr : Nat} (hundr : aPlyUndr (toneChan tone) (toneIdx tone) = undr) {g : Seg} (hg : s.seg p.seg.toNat = g)
    {n : Nat} {r : Tbl W32} {l : List Session} {m : List Sent}
    (hfill : (s.withRegs r).fld undr 31 0 = satAdd 32 (s.fld undr 31 0) (p.fillPlayed g n))
    (hnotes : g.notifies = true → p.freeFill = false → m = (s.notify g.owner 2 (s.passNote p n)).sent)
    (hquiet : g.notifies = false → m = s.sent) (l' : List Run) (d' : List CondDue) (y : Tone) :
    s.passed ((((s.withRegs r).withSent l m).withCaches s.hots l' d').setTone tone y) tone p g n := by
  subst hg hundr
  exact ⟨(State.fld_of_regs (s := s.withRegs r) rfl _ _ _).trans hfill, (State.setTone_spec htones rfl tone y).2, hnotes, hquiet, rfl⟩

include hregs htones in
/-- A pass ends after its last sample, and with it the chain, where the choice was the end (R96, R101). -/
theorem segmentPassEnd_last (hplay : (s.tone tone).play = some p) {g : Seg} (hg : s.seg p.seg.toNat = g) (hchosen : p.chosen = some none)
    {n : Nat} (hn : p.segStart + g.dacLen = n) (hnow : reached s.now n = true) {cnt : Nat}
    (hcnt : aPlyCnt (toneChan tone) (toneIdx tone) = cnt) :
    ∃ t, exec (.segmentPassEnd tone) s = .next t ∧ s.passed t tone p g n
      ∧ t.tone tone = { s.tone tone with
          play := none, free := p.tailFill, ended := (s.tone tone).noteEnd p n, leaving := (s.tone tone).noteLeave s.now p n,
          past := (s.tone tone).past ++ [(p, n)] }
      ∧ (p.pending.isSome = true → t.fld cnt 23 16 = satAdd 8 (s.fld cnt 23 16) 1)
      ∧ (p.tailFill = false → t.runs = s.runs ∧ t.dues = s.dues) := by
  subst hn
  obtain ⟨undr, hundr⟩ : ∃ a, aPlyUndr (toneChan tone) (toneIdx tone) = a := ⟨_, rfl⟩
  have hne : undr ≠ cnt := hundr ▸ hcnt ▸ aPlyUndr_ne_aPlyCnt _ _
  obtain ⟨r, l, m, hpass, hwf, hfill, hother, hnotes, hquiet⟩ := State.passEnd_spec hregs hundr hg (p.segStart + g.dacLen)
  obtain ⟨r', l', d', hend, hkept, hdrop, hrec⟩ := State.endChain_spec (s := (s.withRegs r).withSent l m) hwf hcnt hne p (s.tone tone) s.now
    (p.segStart + g.dacLen)
  have hexec := exec_segmentPassEnd hplay hg hchosen hnow
  rw [hpass] at hexec
  have hsent : ∀ q a hi lo, (((s.withRegs r).withSent l m).withRegs q).fld a hi lo = (s.withRegs q).fld a hi lo := fun _ _ _ _ =>
    State.fld_of_regs rfl _ _ _
  have hbefore : ∀ a hi lo, ((s.withRegs r).withSent l m).fld a hi lo = (s.withRegs r).fld a hi lo := fun _ _ _ => State.fld_of_regs rfl _ _ _
  rw [hsent, hbefore] at hkept hdrop
  refine ⟨_, hexec.trans (congrArg Host.Outcome.next hend), State.passed_setTone htones hundr hg (hkept.trans hfill) hnotes hquiet l' d' _,
    (State.setTone_spec htones rfl tone _).1, fun hp => ?_, hrec⟩
  rw [hp, hother cnt hne.symm] at hdrop
  exact (State.fld_of_regs (s := s.withRegs r') rfl _ _ _).trans hdrop

include hregs htones in
/-- A pass ends after its last sample, and the segment bound at the commit point follows (R96, R101). -/
theorem segmentPassEnd_next (hplay : (s.tone tone).play = some p) {g : Seg} (hg : s.seg p.seg.toNat = g) {b : Bound}
    (hchosen : p.chosen = some (some b)) {n : Nat} (hn : p.segStart + g.dacLen = n) (hnow : reached s.now n = true) :
    ∃ t, exec (.segmentPassEnd tone) s = .next t ∧ s.passed t tone p g n ∧ t.runs = s.runs ∧ t.dues = s.dues
      ∧ t.tone tone = { s.tone tone with
          play := some (s.movedOn p g b), leaving := (s.tone tone).noteLeave s.now p n, past := (s.tone tone).past ++ [(p, n)] } := by
  subst hn
  obtain ⟨r, l, m, hpass, -, hfill, -, hnotes, hquiet⟩ := State.passEnd_spec hregs rfl hg (p.segStart + g.dacLen)
  have hexec := exec_segmentPassEnd hplay hg hchosen hnow
  rw [hpass] at hexec
  exact ⟨_, hexec, State.passed_setTone htones rfl hg hfill hnotes hquiet s.runs s.dues _, rfl, rfl, (State.setTone_spec htones rfl tone _).1⟩

include hregs htones in
/-- A jump request that falls in the running segment becomes the pending jump (R106, R107). -/
theorem jumpRequestDue_taken {j : JumpReq} {rest : List JumpReq} (hplay : (s.tone tone).play = some p)
    (hj : takeJump (s.tone tone).jumps = some (j, rest)) (hdue : sdiff j.e.stamp s.now.stamp ≤ 0) {g : Seg}
    (hg : s.seg p.seg.toNat = g) (hfrom : p.segStart ≤ 12 * j.e.toNat) (hto : 12 * j.e.toNat < p.segStart + g.dacLen) {cnt : Nat}
    (hcnt : aPlyCnt (toneChan tone) (toneIdx tone) = cnt) {late : Bool}
    (hlate : decide (g.len - 16 ≤ g.sampleAt (12 * j.e.toNat - p.segStart)) = late) :
    ∃ t, exec (.jumpRequestDue tone) s = .next t ∧ s.sameOthers t tone
      ∧ t.tone tone = { s.tone tone with jumps := rest, play := some { p with pending := some (j.target, late) } }
      ∧ t.fld cnt 15 8 = satAdd 8 (s.fld cnt 15 8) p.pending.isSome.toNat ∧ t.fld cnt 7 0 = satAdd 8 (s.fld cnt 7 0) late.toNat
      ∧ t = { s with tones := t.tones, regs := t.regs } := by
  obtain ⟨r, q, htake, hsame, hothers, hreplaced, hdeferred⟩ :=
    State.takeRequest_spec hregs htones hcnt p { s.tone tone with jumps := rest } j.target late
  have hexec := exec_jumpRequestDue_walking hj hdue hplay hg hfrom hto
  rw [hlate, htake] at hexec
  exact ⟨_, hexec, hothers, hsame, (State.fld_of_regs (s := s.withRegs r) rfl _ _ _).trans hreplaced,
    (State.fld_of_regs (s := s.withRegs r) rfl _ _ _).trans hdeferred, rfl⟩

/-- A refill of a full cache takes the place of the least recently used line that no player locks (R111). -/
theorem refillComplete_evicts {k : Fin 8} {block v : Nat} (hreq : (s.hot k).req.contains block = true)
    (hfull : (s.hot k).lines.length = s.hotCap k) (hnodup : (s.hot k).lines.Nodup)
    (hfind : (s.hot k).lines.find? (fun y => !s.hotLocked k y) = some v) :
    exec (.refillComplete k block) s = .next (s.setHot k { s.hot k with req := (s.hot k).req.filter (fun y => y != block),
                                                                        lines := (s.hot k).lines.filter (fun y => y != v) ++ [block] }) := by
  have hkept : s.keptLines k = (s.hot k).lines.filter (fun y => y != v) := by
    rw [State.keptLines, if_neg (by omega), hfind]
  exact exec_refillComplete hreq hkept (hfull ▸ length_filter_ne_lt hnodup (List.mem_of_find?_eq_some hfind))

include hregs htones hhots in
/-- The granule that the resampler needs is judged; one that is not resident is fill (R111, R112). -/
theorem granuleRead_judges {e : Bool} (hplay : (s.tone tone).play = some p) {g : Seg} (hg : s.seg p.seg.toNat = g)
    (hlast : p.granule < g.granules)
    (hnow : reached s.now (p.segStart + (g.dacAt (32 * p.granule) - 16 * g.rateNum / 2 ^ g.rateShift)) = true)
    {has gone : Bool} (hhas : s.hotHas (toneCluster tone) (g.block p.granule) = has) (hgone : (p.fill || !has || e) = gone) :
    ∃ t, exec (.granuleRead tone e) s = .next t ∧ s.sameOthers t tone
      ∧ t.tone tone = { s.tone tone with play := some (p.judged gone) }
      ∧ t.fld aMldPatErr 31 16 = satAdd 16 (s.fld aMldPatErr 31 16) (e && !p.fill && has).toNat
      ∧ (p.fill = false → t.wants (toneCluster tone) ((p.judged gone).window g))
      ∧ (gone = false → t.runs = s.runs ∧ t.dues = s.dues)
      ∧ t = { s with tones := t.tones, regs := t.regs, hots := t.hots, runs := t.runs, dues := t.dues } := by
  obtain ⟨r, h, l, d, hread, hcount, hwants, hquiet⟩ := State.readGranule_spec hregs hhots tone p g (e && !p.fill && has) gone
    (sampleTick (p.segStart + (g.dacAt (32 * p.granule) - 16 * g.rateNum / 2 ^ g.rateShift)))
  have hexec := exec_granuleRead_current (e := e) hplay hg hlast rfl hnow hhas
  rw [hgone, hread] at hexec
  obtain ⟨hsame, hothers⟩ := State.setTone_spec htones (u := (s.withRegs r).withCaches h l d) rfl tone
    { s.tone tone with play := some (p.judged gone) }
  exact ⟨_, hexec, hothers, hsame, (State.fld_of_regs (s := s.withRegs r) rfl _ _ _).trans hcount, hwants, hquiet, rfl⟩

include hregs htones hhots in
/-- At the commit point the first granule of a segment joined at the same rate is judged ahead (R112, R118). -/
theorem granuleRead_judges_ahead {e : Bool} (hplay : (s.tone tone).play = some p) {g g' : Seg} (hg : s.seg p.seg.toNat = g)
    (hlast : g.granules ≤ p.granule) {b : Bound} (hchosen : p.chosen = some (some b)) (hpre : p.pre = none)
    (hg' : s.seg b.seg.toNat = g') (hrate : g.sameRate g' = true) (hnow : reached s.now (p.segStart + g.commitAt) = true) :
    ∃ t, exec (.granuleRead tone e) s = .next t ∧ s.sameOthers t tone
      ∧ t.tone tone = { s.tone tone with
          play := some { p with pre := some (b.fill || !s.hotHas (toneCluster tone) (g'.block 0) || e) } }
      ∧ t = { s with tones := t.tones, regs := t.regs, hots := t.hots, runs := t.runs, dues := t.dues } := by
  obtain ⟨has, hhas⟩ : ∃ has, s.hotHas (toneCluster tone) (g'.block 0) = has := ⟨_, rfl⟩
  obtain ⟨r, h, l, d, hjudge, -, -, -⟩ := State.judgeGranule_spec hregs hhots tone (g'.block 0) (e && !b.fill && has) (b.fill || !has || e)
    (sampleTick (p.segStart + g.commitAt))
  obtain ⟨hsame, hothers⟩ := State.setTone_spec htones (u := (s.withRegs r).withCaches h l d) rfl tone
    { s.tone tone with play := some { p with pre := some (b.fill || !has || e) } }
  rw [hhas]
  exact ⟨_, exec_granuleRead_ahead hplay hg hlast hchosen hpre hg' hrate rfl hnow hhas hjudge, hothers, hsame, rfl⟩

end Walk

/-- Settles O9: each clause is what one instruction of the players does, and the last ones are the cases of `choose`. -/
theorem playersWalkTheirSegments : Obligations.PlayersWalkTheirSegments := by
  refine ⟨?_, ?_⟩
  · intro s tone p k block v rel sub seg amp e more b j rest hregs htones hhots x g cl cnt undr commit endAt counted wanted others passed
    refine ⟨fun hq hdue => playBind_binds htones hhots hq hdue rfl, fun hplay hchosen hnow hjumps => ?_,
      fun hplay hchosen hnow => segmentPassEnd_last hregs htones hplay rfl hchosen rfl hnow rfl, fun hplay hchosen hnow => ?_,
      fun hj hdue hplay => exec_jumpRequestDue_idle hj hdue hplay,
      fun hplay hj hdue hfrom hto => jumpRequestDue_taken hregs htones hplay hj hdue rfl hfrom hto rfl rfl,
      fun hreq hroom => exec_refillComplete hreq (if_pos hroom) hroom, refillComplete_evicts,
      fun hplay hlast hnow => granuleRead_judges hregs htones hhots hplay rfl hlast hnow rfl rfl,
      fun hplay hlast hchosen hpre hrate hnow => granuleRead_judges_ahead hregs htones hhots hplay rfl hlast hchosen hpre rfl hrate hnow⟩
    · obtain ⟨t, q, hexec, hothers, hplays, hq, hbound, hnext, hdrop, hframe⟩ :=
        commitPoint_chooses hregs htones hhots hplay rfl hchosen hnow hjumps rfl
      refine ⟨t, q, hexec, hothers, hplays, hq, hbound.trans ?_, fun h => (hnext seg h).1, fun h => (hnext seg h).2, hdrop, hframe⟩
      cases (p.choose g).2.1 <;> rfl
    · obtain ⟨t, hexec, hpassed, hruns, hdues, hplays⟩ := segmentPassEnd_next hregs htones hplay rfl hchosen rfl hnow
      exact ⟨t, _, hexec, hpassed, hruns, hdues, hplays, rfl, rfl, rfl, rfl, rfl, rfl, rfl, rfl, rfl, rfl, rfl, rfl⟩
  · intro p g target c r loops then'
    exact ⟨fun h => by rw [Play.choose_jump h]; exact ⟨rfl, rfl, rfl⟩, Play.choose_straight, Play.choose_loop_opened,
      Play.choose_loop_again, Play.choose_loop_over⟩

end Sys2Proof.Machine
end
